-- ==== Sys2Proof/Word.lean ====
section
/-! DEFINITION. Words of the host link and of the Pinna cores: the sizes the manual uses, and byte strings in the byte
order of R3 (little-endian integers) and R5 (bit 0 least significant). -/

namespace Sys2Proof

abbrev Byte := BitVec 8
abbrev U16 := BitVec 16
abbrev U32 := BitVec 32
abbrev U64 := BitVec 64
/-- A byte string in ascending address order. -/
abbrev Bytes := List Byte

/-- Bits `[lo + n - 1 : lo]` of a natural number. -/
def bitsOf (x lo n : Nat) : Nat := x / 2 ^ lo % 2 ^ n

/-- One bit of a natural number. -/
def bitOf (x i : Nat) : Bool := x / 2 ^ i % 2 == 1

/-- `n` bytes of an integer, the least significant first (R3). -/
def leBytes : Nat → Nat → Bytes
  | 0, _ => []
  | n + 1, x => BitVec.ofNat 8 x :: leBytes n (x / 256)

/-- The integer a little-endian byte string holds (R3, R884). -/
def leNat : Bytes → Nat
  | [] => 0
  | b :: bs => b.toNat + 256 * leNat bs

/-- `n` bytes of an integer, the most significant first (big-endian fields of credentials and KDF inputs). -/
def beBytes (n x : Nat) : Bytes := (leBytes n x).reverse

/-- The integer a big-endian byte string holds. -/
def beNat (bs : Bytes) : Nat := leNat bs.reverse

/-- Saturating sum of a counter whose largest value is `top`. -/
def satAdd (top a b : Nat) : Nat := min top (a + b)

end Sys2Proof
end

