-- ==== Sys2Proof/Syntax.lean ====
section
/-! DEFINITION. The commands of the block: one constructor of `Instr` per row of the table of operations and events. An XCI
command carries its submission entry (Table 6.2) as `Cmd`; an event carries what the outside world settles about it (which
function, which unit, what a sample read, whether a test passed); a Pinna row carries the unit, the guard and the operand
fields of Table 19.2. -/

namespace Sys2Proof

/-- A PCIe function, 0 to 255 (R176). -/
abbrev FnId := BitVec 8
/-- A queue pair of a function, 0 to 3 (R183). -/
abbrev PairId := BitVec 2

/-- Table 7.1: who submitted a command. `applet u`: the invocation on execution unit `u`. -/
inductive Issuer where
  | host
  | applet (unit : Fin 8)
  deriving DecidableEq, Repr

/-- A submission entry (Table 6.2) after its OPCODE, with the function, pair and issuer it came from. `params` is the
56-byte PARAMS block as one little-endian number: byte `k` is bits `[8k+7:8k]`. -/
structure Cmd where
  fn : FnId
  q : PairId
  issuer : Issuer
  tag : BitVec 16
  /-- byte 4: [0] FENCE, [1] FAIL_STOP, [7:2] reserved -/
  flags : Byte
  /-- byte 5 -/
  format : Byte
  /-- bytes 6 and 7, reserved -/
  rsv : BitVec 16
  params : BitVec 448
  deriving DecidableEq, Repr

/-- The commit group instances of Table 3.5 that have a COMMIT register (CG_WAKECMP is applied by MTS to WAKECTL). -/
inductive CommitGroup where
  | queue (fn : FnId) (q : PairId)
  | imod (fn : FnId)
  | sched
  | tenant (fn : FnId)
  | power
  | hypha
  | alarm (k : Fin 8)
  | gpio
  | turtis (port : Fin 2)
  | cless
  | tamper
  deriving DecidableEq, Repr

/-- A register region: BAR0 of a function (Table 5.1), BAR2 of the PF (Table 5.2), or a function's configuration space (Tables 5.16 and
5.17). -/
inductive Region where
  | fnBar (fn : FnId)
  | glBar
  | config (fn : FnId)
  deriving DecidableEq, Repr

/-- How a DMA read ends (R212). -/
inductive DmaEnd where
  | data | unsupported | completerAbort | poisoned | timeout
  deriving DecidableEq, Repr

/-- An engine unit: Table 7.10, the Pinna execution units, the entropy cores and the Medulla wrap unit. -/
inductive UnitRef where
  | frond (n : Fin 64)
  | calyptra (n : Fin 2)
  | slice (n : Fin 4)
  | pinna (n : Fin 8)
  | entropy
  | wrap
  deriving DecidableEq, Repr

/-- The clock islands, in the order of Table 3.1 (codes of R756). -/
abbrev Island := Fin 19

/-- Where a double-bit fault lies (Table 18.6, R356, R588, R589, R618, R658, R853). -/
inductive EccPlace where
  | sramCode
  | sramJob (fn : FnId) (q : PairId) (tag : BitVec 16)
  | sramReplay (fn : FnId) (q : PairId)
  | medulla (slot : BitVec 12)
  | tcm (unit : Fin 8) (code : Bool) (word : BitVec 16)
  | hold (frond : Fin 64)
  | calyptraMem (unit : Fin 2)
  | scratch (granule : Fin 240)
  | share
  | unowned
  /-- a flash word: kind, index and word offset of R588; `fetch` a Xemberon instruction fetch (R589) -/
  | flash (kind : BitVec 4) (index : Byte) (word : BitVec 32) (fetch : Bool)
  /-- the newest primary record of a Lichen counter (R618) -/
  | counter (c : Fin 512)
  | spore (word : BitVec 10)
  deriving DecidableEq, Repr

/-- The memories with a scrubber (Table 18.5). -/
inductive ScrubMem where
  | sram (bank : Fin 6)
  | medulla
  | tcm (core : Fin 8)
  | hold (frond : Fin 64)
  | calyptra (unit : Fin 2)
  | scratch (bank : Fin 4)
  deriving DecidableEq, Repr

/-- The critical state machines of Table 17.5. -/
inductive Fsm where
  | alarm | zeroiser | lifecycle | debugGate | bankGate | medullaPort | sporeSeq
  | gateFrond (n : Fin 64)
  | gateCalyptra (n : Fin 2)
  deriving DecidableEq, Repr

/-- What the register of a critical state machine holds. -/
structure FsmValue where
  fsm : Fsm
  value : Byte
  deriving DecidableEq, Repr

/-- DRBG instances (Table 12.1) and the invocation instances of R510. -/
inductive Inst where
  | f (n : FnId)
  | i (n : Fin 8)
  | inv (unit : Fin 8)
  deriving DecidableEq, Repr

/-- What a DMA read was for (R197, R212, R257): a job's buffer at a byte offset, or the submission queue of a pair. -/
inductive DmaUse where
  | job (q : PairId) (tag : BitVec 16) (offset : BitVec 32)
  | sq (q : PairId)
  deriving DecidableEq, Repr

/-- What a failed host write was writing (R257, R307, R886, R887). -/
inductive WriteUse where
  | output (q : PairId) (tag : BitVec 16)
  | queue (q : PairId)
  /-- a write of no command: an MSI-X message -/
  | message
  deriving DecidableEq, Repr

/-- A write that failed: what it was writing, its address and its length in bytes (R887). -/
structure FailedWrite where
  use : WriteUse
  addr : U64
  len : BitVec 32
  deriving DecidableEq, Repr

/-- The wake sources of HIBERNATE (R55). -/
inductive HibWake where
  | resetN | perst
  | gpio (n : Fin 8)
  deriving DecidableEq, Repr

/-- Phase faults of Table 2.12, coded as PHASE_LOST detail [7:4]. -/
inductive PhaseCause where
  | openPhase | sense | limit | hot
  deriving DecidableEq, Repr

/-- A transfer over Rachis (Table 3.2) without its CRC: the fields of bits [287:0]. The manual gives no codes of KIND. -/
structure RachisWord where
  payload : BitVec 256
  dest : Byte
  src : Byte
  kind : BitVec 4
  seq : BitVec 12
  deriving DecidableEq, Repr

/-- A write of GO, and whether it comes in the clock cycle in which the group's BUSY clears (R106). -/
structure GoWrite where
  group : CommitGroup
  clearing : Bool
  deriving DecidableEq, Repr

/-- The data of a register write, and whether it comes in the clock cycle in which BUSY of its group clears (R106). -/
structure WriteData where
  value : U32
  clearing : Bool
  deriving DecidableEq, Repr

/-- A beat of Vein: 64 data bits and a parity bit for each byte. -/
structure VeinBeat where
  data : BitVec 64
  parity : BitVec 8
  deriving DecidableEq, Repr

/-- What the boot finds that the spec leaves to the outside: the PUF helper data (R336), whether the phase test and
the known-answer sets pass, and whether the OTP row reads with clean ECC (R347). -/
structure BootEnv where
  /-- the PUF helper data as ROM reads them (R336) -/
  helper : Bytes
  otpEccOk : Bool
  phases : BitVec 4
  frondsPass : BitVec 64
  calyptraPass : BitVec 2
  slicesPass : BitVec 4
  coresPass : BitVec 8
  entropyPass : BitVec 4
  drbgPass : Bool
  wrapPass : Bool
  /-- the contactless front end (R660): 0 good, 1 its check failed, 2 its field stays below 1.5 A/m; the field measured, 0.01 A/m -/
  reader : BitVec 2
  readerField : BitVec 16
  deriving DecidableEq, Repr

/-- What the zeroiser meets (R762 to R764): failed row-OR verifies, and failed read-backs of the erased seed. -/
structure ZeroEnv where
  clears : Fin 4
  seeds : Fin 4
  deriving DecidableEq, Repr

/-- A command APDU of tag mode (Table 15.7). -/
structure Apdu where
  cla : Byte
  ins : Byte
  p1 : Byte
  p2 : Byte
  data : Bytes
  /-- Le as sent, absent where the APDU carries none -/
  le : Option (BitVec 16)
  deriving DecidableEq, Repr

/-- A Turtis frame as a port hears it (Table 16.1), with the offset of its start from the nominal slot start in 100 ns
units (Table 16.4), the slot it was heard in and the medium access facts. -/
structure Frame where
  port : Fin 2
  dst : Byte
  src : Byte
  flags : Byte
  seq : BitVec 16
  payload : Bytes
  mac : Bytes
  crc : BitVec 32
  slot : Fin 16
  offset : Int
  deriving DecidableEq, Repr

/-- Why a port discards a frame (R664, Table 16.13). -/
inductive Discard where
  | crc
  | stranger (src : Byte)
  | mac (src : Byte)
  | pid
  | slotWindow (src : Byte) (offset : Int)
  | collision
  | lineBusy
  deriving DecidableEq, Repr

/-- What a card or the field did while the reader waited (R633, R634, R636, R655). -/
inductive CardReply where
  /-- a card was activated: type B?, cascade level, layer 4, collision seen, rate, UID or PUPI, SAK or protocol info, and ATS
  or ATQB bytes -/
  | activated (typeB : Bool) (cascade : BitVec 2) (layer4 : Bool) (collision : Bool) (rate : BitVec 2) (uid : Bytes)
      (sak : BitVec 32) (ats : Bytes)
  /-- a response APDU, SW last -/
  | response (bytes : Bytes)
  | invalidBlock
  | malformedAts
  deriving DecidableEq, Repr

/-- Guard predicate of a Pinna instruction: GN and GP of Table 19.2. -/
structure Guard where
  neg : Bool
  p : BitVec 3
  deriving DecidableEq, Repr

/-- A general register field. -/
abbrev GReg := BitVec 5
/-- A predicate register field. -/
abbrev PReg := BitVec 3
/-- A special register field. -/
abbrev SReg := BitVec 4

/-- One constructor per row of the table of operations and events: the Pinna rows, then the table's order. -/
inductive Instr where
  | add (u : Fin 8) (gd : Guard) (rd ra rb : GReg)
  | sub (u : Fin 8) (gd : Guard) (rd ra rb : GReg)
  | andR (u : Fin 8) (gd : Guard) (rd ra rb : GReg)
  | orR (u : Fin 8) (gd : Guard) (rd ra rb : GReg)
  | xorR (u : Fin 8) (gd : Guard) (rd ra rb : GReg)
  | andn (u : Fin 8) (gd : Guard) (rd ra rb : GReg)
  | sll (u : Fin 8) (gd : Guard) (rd ra rb : GReg)
  | srl (u : Fin 8) (gd : Guard) (rd ra rb : GReg)
  | sra (u : Fin 8) (gd : Guard) (rd ra rb : GReg)
  | ror (u : Fin 8) (gd : Guard) (rd ra rb : GReg)
  | slli (u : Fin 8) (gd : Guard) (rd ra : GReg) (sh : BitVec 5)
  | srli (u : Fin 8) (gd : Guard) (rd ra : GReg) (sh : BitVec 5)
  | srai (u : Fin 8) (gd : Guard) (rd ra : GReg) (sh : BitVec 5)
  | rori (u : Fin 8) (gd : Guard) (rd ra : GReg) (sh : BitVec 5)
  | minS (u : Fin 8) (gd : Guard) (rd ra rb : GReg)
  | maxS (u : Fin 8) (gd : Guard) (rd ra rb : GReg)
  | minu (u : Fin 8) (gd : Guard) (rd ra rb : GReg)
  | maxu (u : Fin 8) (gd : Guard) (rd ra rb : GReg)
  | clz (u : Fin 8) (gd : Guard) (rd ra : GReg)
  | popc (u : Fin 8) (gd : Guard) (rd ra : GReg)
  | perm (u : Fin 8) (gd : Guard) (rd ra rb : GReg)
  | mul (u : Fin 8) (gd : Guard) (rd ra rb : GReg)
  | mulh (u : Fin 8) (gd : Guard) (rd ra rb : GReg)
  | mulhu (u : Fin 8) (gd : Guard) (rd ra rb : GReg)
  | mulhsu (u : Fin 8) (gd : Guard) (rd ra rb : GReg)
  | divS (u : Fin 8) (gd : Guard) (rd ra rb : GReg)
  | divu (u : Fin 8) (gd : Guard) (rd ra rb : GReg)
  | remS (u : Fin 8) (gd : Guard) (rd ra rb : GReg)
  | remu (u : Fin 8) (gd : Guard) (rd ra rb : GReg)
  | addi (u : Fin 8) (gd : Guard) (rd ra : GReg) (imm : BitVec 12)
  | andi (u : Fin 8) (gd : Guard) (rd ra : GReg) (imm : BitVec 12)
  | ori (u : Fin 8) (gd : Guard) (rd ra : GReg) (imm : BitVec 12)
  | xori (u : Fin 8) (gd : Guard) (rd ra : GReg) (imm : BitVec 12)
  | movi (u : Fin 8) (gd : Guard) (rd : GReg) (imm : BitVec 16)
  | movhi (u : Fin 8) (gd : Guard) (rd : GReg) (imm : BitVec 16)
  | bfx (u : Fin 8) (gd : Guard) (rd ra : GReg) (pos wm1 : BitVec 5)
  | bfxs (u : Fin 8) (gd : Guard) (rd ra : GReg) (pos wm1 : BitVec 5)
  | bfi (u : Fin 8) (gd : Guard) (rd ra : GReg) (pos wm1 : BitVec 5)
  | cmp (u : Fin 8) (gd : Guard) (pd : PReg) (ra rb : GReg) (cond : BitVec 3)
  | cmpi (u : Fin 8) (gd : Guard) (pd : PReg) (ra : GReg) (cond : BitVec 3) (imm : BitVec 9)
  | pand (u : Fin 8) (gd : Guard) (pd pa pb : PReg)
  | por (u : Fin 8) (gd : Guard) (pd pa pb : PReg)
  | pxor (u : Fin 8) (gd : Guard) (pd pa pb : PReg)
  | pandn (u : Fin 8) (gd : Guard) (pd pa pb : PReg)
  | pnot (u : Fin 8) (gd : Guard) (pd pa : PReg)
  | prd (u : Fin 8) (gd : Guard) (rd : GReg)
  | pwr (u : Fin 8) (gd : Guard) (ra : GReg)
  | ldw (u : Fin 8) (gd : Guard) (rd ra : GReg) (imm : BitVec 12)
  | ldh (u : Fin 8) (gd : Guard) (rd ra : GReg) (imm : BitVec 12)
  | ldhs (u : Fin 8) (gd : Guard) (rd ra : GReg) (imm : BitVec 12)
  | ldb (u : Fin 8) (gd : Guard) (rd ra : GReg) (imm : BitVec 12)
  | ldbs (u : Fin 8) (gd : Guard) (rd ra : GReg) (imm : BitVec 12)
  | stw (u : Fin 8) (gd : Guard) (rd ra : GReg) (imm : BitVec 12)
  | sth (u : Fin 8) (gd : Guard) (rd ra : GReg) (imm : BitVec 12)
  | stb (u : Fin 8) (gd : Guard) (rd ra : GReg) (imm : BitVec 12)
  | br (u : Fin 8) (gd : Guard) (imm : BitVec 22)
  | call (u : Fin 8) (gd : Guard) (imm : BitVec 22)
  | jr (u : Fin 8) (gd : Guard) (ra : GReg)
  | jalr (u : Fin 8) (gd : Guard) (rd ra : GReg)
  | mfs (u : Fin 8) (gd : Guard) (rd : GReg) (sa : SReg)
  | mts (u : Fin 8) (gd : Guard) (sd : SReg) (ra : GReg)
  | sleep (u : Fin 8) (gd : Guard)
  | invalidEncoding (unit : Fin 8) (word : U32)
  | sysExit (u : Fin 8) (gd : Guard)
  | sysAbort (u : Fin 8) (gd : Guard)
  | sysCommand (u : Fin 8) (gd : Guard)
  | copyIn (u : Fin 8) (gd : Guard)
  | sysRaise (u : Fin 8) (gd : Guard)
  | sysInfo (u : Fin 8) (gd : Guard)
  | sysInvalid (unit : Fin 8) (gd : Guard) (service : BitVec 16)
  | nop (c : Cmd)
  | getInfo (c : Cmd)
  | getLimits (c : Cmd)
  | deviceReset (c : Cmd)
  | recoveryRequest (c : Cmd)
  | debugArm (c : Cmd)
  | provision (c : Cmd)
  | retire (c : Cmd)
  | optionRead (c : Cmd)
  | optionWrite (c : Cmd)
  | configSet (c : Cmd)
  | configGet (c : Cmd)
  | raiseEvent (c : Cmd)
  | tenantCreate (c : Cmd)
  | tenantRelease (c : Cmd)
  | tenantSet (c : Cmd)
  | tenantStatus (c : Cmd)
  | tenantList (c : Cmd)
  | keyGenerate (c : Cmd)
  | keyImport (c : Cmd)
  | keyDerive (c : Cmd)
  | keyDelete (c : Cmd)
  | keyInfo (c : Cmd)
  | keyPersist (c : Cmd)
  | keyExportWrapped (c : Cmd)
  | cipher (c : Cmd)
  | aeadEncrypt (c : Cmd)
  | aeadDecrypt (c : Cmd)
  | mac (c : Cmd)
  | contextSave (c : Cmd)
  | contextRestore (c : Cmd)
  | rsaPrivate (c : Cmd)
  | rsaPublic (c : Cmd)
  | ecdsaSign (c : Cmd)
  | ecdsaVerify (c : Cmd)
  | eddsaSign (c : Cmd)
  | eddsaVerify (c : Cmd)
  | ecdh (c : Cmd)
  | pkKeygen (c : Cmd)
  | mlKemEncaps (c : Cmd)
  | mlKemDecaps (c : Cmd)
  | mlDsaSign (c : Cmd)
  | mlDsaVerify (c : Cmd)
  | sorusKernel (c : Cmd)
  | sorusKeyswitch (c : Cmd)
  | sorusRefresh (c : Cmd)
  | sorusEncrypt (c : Cmd)
  | shareOpen (c : Cmd)
  | shareInput (c : Cmd)
  | shareCompute (c : Cmd)
  | shareReveal (c : Cmd)
  | shareClose (c : Cmd)
  | random (c : Cmd)
  | reseed (c : Cmd)
  | entropyStatus (c : Cmd)
  | rawMode (c : Cmd)
  | rawRead (c : Cmd)
  | counterAlloc (c : Cmd)
  | counterRead (c : Cmd)
  | counterIncrement (c : Cmd)
  | counterList (c : Cmd)
  | timeRead (c : Cmd)
  | anchorRecord (c : Cmd)
  | logInfo (c : Cmd)
  | logRead (c : Cmd)
  | logExport (c : Cmd)
  | logExtend (c : Cmd)
  | logNote (c : Cmd)
  | poolStatus (c : Cmd)
  | unitOut (c : Cmd)
  | unitReturn (c : Cmd)
  | powerSet (c : Cmd)
  | powerStatus (c : Cmd)
  | domainSet (c : Cmd)
  | schedSet (c : Cmd)
  | hibernate (c : Cmd)
  | updateStart (c : Cmd)
  | updateStatus (c : Cmd)
  | chainStatus (c : Cmd)
  | rosterSet (c : Cmd)
  | flashWear (c : Cmd)
  | wornOverride (c : Cmd)
  | readerPoll (c : Cmd)
  | readerExchange (c : Cmd)
  | readerFieldOff (c : Cmd)
  | badgeVerify (c : Cmd)
  | visitRead (c : Cmd)
  | appletInstall (c : Cmd)
  | appletRemove (c : Cmd)
  | appletInvoke (c : Cmd)
  | appletList (c : Cmd)
  | pinnaMode (c : Cmd)
  | healthStatus (c : Cmd)
  | selfTest (c : Cmd)
  | istControl (c : Cmd)
  | sqTailDoorbell (fn : FnId) (q : PairId) (v : U32)
  | cqHeadDoorbell (fn : FnId) (q : PairId) (v : U32)
  | commandFetch (fn : FnId) (q : PairId)
  | quarantineEnd (fn : FnId)
  | violationWindowRoll
  | coalesceTimeout (fn : FnId) (q : PairId)
  | commitGo (w : GoWrite)
  | registerWrite (r : Region) (off : BitVec 20) (v : WriteData)
  | rcFieldRead (r : Region) (off : BitVec 20) (arriving : Byte)
  | setaLoRead (reader : Sum FnId (Fin 8)) (disagrees : Bool)
  | rngdataRead (unit : Fin 8)
  | rngdataRefill (unit : Fin 8)
  | flrInitiate (fn : FnId)
  | busMasterEnable (fn : FnId) (on : Bool)
  | dmaReadCompletion (fn : FnId) (use : DmaUse) (addr : U64) (result : DmaEnd) (data : Bytes)
  | hostWriteFailure (fn : FnId) (w : FailedWrite)
  | linkLoss
  | perstAssert
  | resetNAssert
  | watchdogExpiry
  | lockstepMismatch
  | sentinelPowerUp
  | vinResumePowerUp
  | powerUpDebounceDone (phases : BitVec 4)
  | romBoot (env : BootEnv)
  | pllLock (island : Island)
  | rcvClaim
  | rcvChunkGo
  | rcvVerify
  | rcvAck
  | claimWaitExpiry
  | turtisGiveupExpiry
  | debugExpiry
  | hibernateWake (src : HibWake)
  | epochBoundary
  | dozeEntry
  | setaAlarm (k : Fin 8)
  | setaHigh
  | hyphaEvent (events : List (BitVec 7 × Bool))
  | hyphaPendingFire (task : Fin 96)
  | gpioEdge (pin : Fin 8) (level : Bool)
  | feedWarn (belowDip : Bool)
  | dipRideThrough
  | feedLossQualify
  | feedDip
  | vinStop (vbak : Bool)
  | phaseLost (phase : Fin 4) (cause : PhaseCause)
  | vcoreLow (mv : BitVec 16) (recovered : Bool)
  | vcoreLowTimeout
  | vcoreHigh (mv : BitVec 16)
  | rhzClock
  | thermalSample (sensor : Fin 8) (temp : BitVec 16)
  | thermalAllowanceStep
  | rachisTransfer (sent : RachisWord) (island : Island) (first : BitVec 320) (again : List (BitVec 320))
  | islandClockLoss (island : Island)
  | islandRelock (island : Island) (ok : Bool)
  | refLost (lost : Bool)
  | hyphaFault (value : Byte)
  | preemptionPoint (u : UnitRef)
  | veinLoad (payload : List VeinBeat) (check : VeinBeat)
  | segmentTagReserve (fn : FnId) (q : PairId) (tag : BitVec 16)
  | frondJobDone (frond : Fin 64)
  | twinMismatch (frond : Fin 64) (unit : BitVec 16) (firstPass secondPass : Bool)
  | frondFailed (frond : Fin 64) (cause : Fin 8)
  | frondBorrow (slice : Fin 4)
  | kskChunk (slice : Fin 4)
  | scratchReserve (fn : FnId) (q : PairId) (tag : BitVec 16)
  | sorusJobDone (slice : Fin 4) (residueOk : Bool) (pass : Bool)
  | calyptraJobDone (unit : Fin 2) (checkOk : Bool) (pass : Bool)
  | forcedTest (u : UnitRef)
  | testDone (u : UnitRef) (pass : Bool)
  | eccDoubleBit (place : EccPlace)
  | scrubPass (mem : ScrubMem) (corrected : BitVec 16)
  | patrolRead (corrected : BitVec 16)
  | pairMismatch (pair : Fin 4)
  | entropyBlock (src : Fin 4)
  | entropyHealth (src : Fin 4) (adaptive : Bool)
  | reseedDue (inst : Inst)
  | flashOperationDone (index : Nat) (ok : Bool)
  | eraseStarved (index : Nat)
  | keyRegionCompaction
  | configHalfSwitch
  | counterRelocation
  | otpProgramStart
  | tamperAlarm (src : Fin 13) (z : ZeroEnv)
  | shieldForcedCheck (reported : Bool) (z : ZeroEnv)
  | tamperEscalate (src : Fin 13) (z : ZeroEnv)
  | tamperEnd
  | fsmInvalid (x : FsmValue) (z : ZeroEnv)
  | sporeRingMirror
  | sporeWordWrite (word : BitVec 10) (v : U64)
  | challengePoolRefill
  | tagFieldOn (hei : Fin 4)
  | tagActivation
  | selectApdu (a : Apdu)
  | getChallenge (a : Apdu)
  | authenticate (a : Apdu)
  | readLogHead (a : Apdu)
  | readCounters (a : Apdu)
  | readVisits (a : Apdu)
  | writeVisit (a : Apdu)
  | tagSessionEnd (fieldLost : Bool)
  | readerFrameTimeout
  | cardWtxRequest (wtxm : BitVec 6)
  | slotStart (port : Fin 2) (echoOk : Bool)
  | retryTimerExpiry (port : Fin 2) (addr : Byte)
  | beacon (f : Frame)
  | hello (f : Frame)
  | turtisClaim (f : Frame)
  | grantReq (f : Frame)
  | offer (f : Frame)
  | acceptFrame (f : Frame)
  | turtisData (f : Frame)
  | turtisAck (f : Frame)
  | pullReq (f : Frame)
  | turtisEnd (f : Frame)
  | crozierHandover
  | invocationDispatch
  | quantumBoundary
  | invocationResume (unit : Fin 8)
  | budgetExpiry (unit : Fin 8)
  | wakecmpMatch (unit : Fin 8)
  | wakeTask (core : Fin 8)
  | perstDeassert
  | phyRailsGood (good : Bool)
  | linkUp (degraded : Bool)
  | vfEnable (on : Bool) (numVfs : FnId) (ari : Bool)
  | sentinelPowerLoss
  | debounceStop
  | sourceInactive (src : Fin 13)
  | startUpTestDone (src : Fin 4) (pass : Bool)
  | cardFrame (reply : CardReply)
  | pollTimeout
  | discardedFrame (port : Fin 2) (why : Discard)
  | unsupportedApdu (a : Apdu)
  | vinInRangeChange (inRange : Bool)
  deriving DecidableEq, Repr

end Sys2Proof
end

