-- ==== Sys2Proof/Decode.lean ====
section
/-! DEFINITION. The commands a word spells by the table's bits: no row of the table gives bits, so no word spells one. -/

namespace Sys2Proof

/-- The table of operations and events gives none of its rows bits: no word spells a command. -/
def decodeTableWord (_nbits _w : Nat) : Option Instr := none

end Sys2Proof
end

