-- ==== Sys2Proof/WellFormed.lean ====
section
/-! DEFINITION. Which commands are well formed: what the operand types alone do not say. Submission entries as Table 6.2 and R240
allow, APDU data and frame payloads within their lengths, at most one report of each Hypha source in a cycle, and the Pinna
encodings R806 and R807 call valid. -/

namespace Sys2Proof

/-- Check 2 of Table 7.3 but for the PARAMS layout: FORMAT 0x01, reserved bits zero, FAIL_STOP only with FENCE. -/
def Cmd.wellFormed (c : Cmd) : Bool := c.format == 1 && c.rsv == 0 && decide (c.flags.toNat < 4) && c.flags != 2

/-- Table 15.7: a command APDU of short length, or the longest AUTHENTICATE of R645. -/
def Apdu.wellFormed (a : Apdu) : Bool := decide (a.data.length ≤ 360)

/-- Table 16.1: at most 256 payload bytes, a MAC of 8 bytes. -/
def Frame.wellFormed (f : Frame) : Bool := decide (f.payload.length ≤ 256) && f.mac.length == 8

/-- A Hypha source reports at most once in a cycle (R113). -/
def reportsOnce (es : List (BitVec 7 × Bool)) : Bool := decide (es.map (·.1)).Nodup

/-- What a command must satisfy beyond its operand types. -/
def wellFormed : Instr → Bool
  | .nop c | .getInfo c | .getLimits c | .deviceReset c | .recoveryRequest c | .debugArm c | .provision c | .retire c
  | .optionRead c | .optionWrite c | .configSet c | .configGet c | .raiseEvent c | .tenantCreate c | .tenantRelease c
  | .tenantSet c | .tenantStatus c | .tenantList c | .keyGenerate c | .keyImport c | .keyDerive c | .keyDelete c | .keyInfo c
  | .keyPersist c | .keyExportWrapped c | .cipher c | .aeadEncrypt c | .aeadDecrypt c | .mac c | .contextSave c
  | .contextRestore c | .rsaPrivate c | .rsaPublic c | .ecdsaSign c | .ecdsaVerify c | .eddsaSign c | .eddsaVerify c | .ecdh c
  | .pkKeygen c | .mlKemEncaps c | .mlKemDecaps c | .mlDsaSign c | .mlDsaVerify c | .sorusKernel c | .sorusKeyswitch c
  | .sorusRefresh c | .sorusEncrypt c | .shareOpen c | .shareInput c | .shareCompute c | .shareReveal c | .shareClose c
  | .random c | .reseed c | .entropyStatus c | .rawMode c | .rawRead c | .counterAlloc c | .counterRead c | .counterIncrement c
  | .counterList c | .timeRead c | .anchorRecord c | .logInfo c | .logRead c | .logExport c | .logExtend c | .logNote c
  | .poolStatus c | .unitOut c | .unitReturn c | .powerSet c | .powerStatus c | .domainSet c | .schedSet c | .hibernate c
  | .updateStart c | .updateStatus c | .chainStatus c | .rosterSet c | .flashWear c | .wornOverride c | .readerPoll c
  | .readerExchange c | .readerFieldOff c | .badgeVerify c | .visitRead c | .appletInstall c | .appletRemove c | .appletInvoke c
  | .appletList c | .pinnaMode c | .healthStatus c | .selfTest c | .istControl c => c.wellFormed
  | .hyphaEvent es => reportsOnce es
  | .selectApdu a | .getChallenge a | .authenticate a | .readLogHead a | .readCounters a | .readVisits a | .writeVisit a
  | .unsupportedApdu a => a.wellFormed
  | .beacon f | .hello f | .turtisClaim f | .grantReq f | .offer f | .acceptFrame f | .turtisData f | .turtisAck f | .pullReq f
  | .turtisEnd f => f.wellFormed
  | .perm _ _ _ ra _ => ra.toNat % 2 == 0
  | .bfx _ _ _ _ pos wm1 | .bfxs _ _ _ _ pos wm1 | .bfi _ _ _ _ pos wm1 => decide (pos.toNat + wm1.toNat < 32)
  | .mfs _ _ _ sa => decide (sa.toNat < 10)
  | .mts _ _ sd _ => [4, 5, 6, 7].contains sd.toNat
  | .sysInvalid _ _ service => decide (6 ≤ service.toNat)
  | _ => true

end Sys2Proof
end

