-- ==== Sys2Proof/Machine/PinnaCode.lean ====
section
/-! DEFINITION. The Pinna encoding (Tables 19.2 to 19.4, R806): the word of a Pinna instruction, and the instruction a word stands
for on a unit; every other word is an invalid encoding. -/

namespace Sys2Proof.Machine

/-- GN, GP and MAJOR in place. -/
def pinnaHead (gd : Guard) (major : Nat) : Nat := (if gd.neg then 2 ^ 31 else 0) + gd.p.toNat * 2 ^ 28 + major * 2 ^ 22
/-- RD, RA, RB and FN in place. -/
def pinnaForm (gd : Guard) (major rd ra rb fn : Nat) : Nat :=
  pinnaHead gd major + rd * 2 ^ 17 + ra * 2 ^ 12 + rb * 2 ^ 7 + fn

/-- The word of a Pinna instruction (Tables 19.3 and 19.4); none for every other row. -/
def encodePinna : Instr → Option Nat
  | .add _ gd rd ra rb => some (pinnaForm gd 0x00 rd.toNat ra.toNat rb.toNat 0x00)
  | .sub _ gd rd ra rb => some (pinnaForm gd 0x00 rd.toNat ra.toNat rb.toNat 0x01)
  | .andR _ gd rd ra rb => some (pinnaForm gd 0x00 rd.toNat ra.toNat rb.toNat 0x02)
  | .orR _ gd rd ra rb => some (pinnaForm gd 0x00 rd.toNat ra.toNat rb.toNat 0x03)
  | .xorR _ gd rd ra rb => some (pinnaForm gd 0x00 rd.toNat ra.toNat rb.toNat 0x04)
  | .andn _ gd rd ra rb => some (pinnaForm gd 0x00 rd.toNat ra.toNat rb.toNat 0x05)
  | .sll _ gd rd ra rb => some (pinnaForm gd 0x00 rd.toNat ra.toNat rb.toNat 0x06)
  | .srl _ gd rd ra rb => some (pinnaForm gd 0x00 rd.toNat ra.toNat rb.toNat 0x07)
  | .sra _ gd rd ra rb => some (pinnaForm gd 0x00 rd.toNat ra.toNat rb.toNat 0x08)
  | .ror _ gd rd ra rb => some (pinnaForm gd 0x00 rd.toNat ra.toNat rb.toNat 0x09)
  | .slli _ gd rd ra sh => some (pinnaForm gd 0x00 rd.toNat ra.toNat sh.toNat 0x0A)
  | .srli _ gd rd ra sh => some (pinnaForm gd 0x00 rd.toNat ra.toNat sh.toNat 0x0B)
  | .srai _ gd rd ra sh => some (pinnaForm gd 0x00 rd.toNat ra.toNat sh.toNat 0x0C)
  | .rori _ gd rd ra sh => some (pinnaForm gd 0x00 rd.toNat ra.toNat sh.toNat 0x0D)
  | .minS _ gd rd ra rb => some (pinnaForm gd 0x00 rd.toNat ra.toNat rb.toNat 0x0E)
  | .maxS _ gd rd ra rb => some (pinnaForm gd 0x00 rd.toNat ra.toNat rb.toNat 0x0F)
  | .minu _ gd rd ra rb => some (pinnaForm gd 0x00 rd.toNat ra.toNat rb.toNat 0x10)
  | .maxu _ gd rd ra rb => some (pinnaForm gd 0x00 rd.toNat ra.toNat rb.toNat 0x11)
  | .clz _ gd rd ra => some (pinnaForm gd 0x00 rd.toNat ra.toNat 0 0x12)
  | .popc _ gd rd ra => some (pinnaForm gd 0x00 rd.toNat ra.toNat 0 0x13)
  | .perm _ gd rd ra rb => some (pinnaForm gd 0x00 rd.toNat ra.toNat rb.toNat 0x14)
  | .mul _ gd rd ra rb => some (pinnaForm gd 0x00 rd.toNat ra.toNat rb.toNat 0x18)
  | .mulh _ gd rd ra rb => some (pinnaForm gd 0x00 rd.toNat ra.toNat rb.toNat 0x19)
  | .mulhu _ gd rd ra rb => some (pinnaForm gd 0x00 rd.toNat ra.toNat rb.toNat 0x1A)
  | .mulhsu _ gd rd ra rb => some (pinnaForm gd 0x00 rd.toNat ra.toNat rb.toNat 0x1B)
  | .divS _ gd rd ra rb => some (pinnaForm gd 0x00 rd.toNat ra.toNat rb.toNat 0x1C)
  | .divu _ gd rd ra rb => some (pinnaForm gd 0x00 rd.toNat ra.toNat rb.toNat 0x1D)
  | .remS _ gd rd ra rb => some (pinnaForm gd 0x00 rd.toNat ra.toNat rb.toNat 0x1E)
  | .remu _ gd rd ra rb => some (pinnaForm gd 0x00 rd.toNat ra.toNat rb.toNat 0x1F)
  | .addi _ gd rd ra imm => some (pinnaForm gd 0x01 rd.toNat ra.toNat 0 imm.toNat)
  | .andi _ gd rd ra imm => some (pinnaForm gd 0x02 rd.toNat ra.toNat 0 imm.toNat)
  | .ori _ gd rd ra imm => some (pinnaForm gd 0x03 rd.toNat ra.toNat 0 imm.toNat)
  | .xori _ gd rd ra imm => some (pinnaForm gd 0x04 rd.toNat ra.toNat 0 imm.toNat)
  | .movi _ gd rd imm => some (pinnaForm gd 0x06 rd.toNat 0 0 imm.toNat)
  | .movhi _ gd rd imm => some (pinnaForm gd 0x07 rd.toNat 0 0 imm.toNat)
  | .bfx _ gd rd ra pos wm1 => some (pinnaForm gd 0x08 rd.toNat ra.toNat pos.toNat (4 * wm1.toNat))
  | .bfxs _ gd rd ra pos wm1 => some (pinnaForm gd 0x08 rd.toNat ra.toNat pos.toNat (4 * wm1.toNat + 1))
  | .bfi _ gd rd ra pos wm1 => some (pinnaForm gd 0x08 rd.toNat ra.toNat pos.toNat (4 * wm1.toNat + 2))
  | .cmp _ gd pd ra rb cond => some (pinnaForm gd 0x0A pd.toNat ra.toNat rb.toNat cond.toNat)
  | .cmpi _ gd pd ra cond imm => some (pinnaForm gd 0x0B pd.toNat ra.toNat 0 (cond.toNat * 2 ^ 9 + imm.toNat))
  | .pand _ gd pd pa pb => some (pinnaForm gd 0x0C pd.toNat pa.toNat pb.toNat 0)
  | .por _ gd pd pa pb => some (pinnaForm gd 0x0C pd.toNat pa.toNat pb.toNat 1)
  | .pxor _ gd pd pa pb => some (pinnaForm gd 0x0C pd.toNat pa.toNat pb.toNat 2)
  | .pandn _ gd pd pa pb => some (pinnaForm gd 0x0C pd.toNat pa.toNat pb.toNat 3)
  | .pnot _ gd pd pa => some (pinnaForm gd 0x0C pd.toNat pa.toNat 0 4)
  | .prd _ gd rd => some (pinnaForm gd 0x0C rd.toNat 0 0 5)
  | .pwr _ gd ra => some (pinnaForm gd 0x0C 0 ra.toNat 0 6)
  | .ldw _ gd rd ra imm => some (pinnaForm gd 0x10 rd.toNat ra.toNat 0 imm.toNat)
  | .ldh _ gd rd ra imm => some (pinnaForm gd 0x11 rd.toNat ra.toNat 0 imm.toNat)
  | .ldhs _ gd rd ra imm => some (pinnaForm gd 0x12 rd.toNat ra.toNat 0 imm.toNat)
  | .ldb _ gd rd ra imm => some (pinnaForm gd 0x13 rd.toNat ra.toNat 0 imm.toNat)
  | .ldbs _ gd rd ra imm => some (pinnaForm gd 0x14 rd.toNat ra.toNat 0 imm.toNat)
  | .stw _ gd rd ra imm => some (pinnaForm gd 0x15 rd.toNat ra.toNat 0 imm.toNat)
  | .sth _ gd rd ra imm => some (pinnaForm gd 0x16 rd.toNat ra.toNat 0 imm.toNat)
  | .stb _ gd rd ra imm => some (pinnaForm gd 0x17 rd.toNat ra.toNat 0 imm.toNat)
  | .br _ gd imm => some (pinnaHead gd 0x20 + imm.toNat)
  | .call _ gd imm => some (pinnaHead gd 0x21 + imm.toNat)
  | .jr _ gd ra => some (pinnaForm gd 0x22 0 ra.toNat 0 0)
  | .jalr _ gd rd ra => some (pinnaForm gd 0x22 rd.toNat ra.toNat 0 1)
  | .mfs _ gd rd sa => some (pinnaForm gd 0x30 rd.toNat sa.toNat 0 0)
  | .mts _ gd sd ra => some (pinnaForm gd 0x30 sd.toNat ra.toNat 0 1)
  | .sleep _ gd => some (pinnaHead gd 0x3D)
  | .sysExit _ gd => some (pinnaHead gd 0x3E)
  | .sysAbort _ gd => some (pinnaHead gd 0x3E + 1)
  | .sysCommand _ gd => some (pinnaHead gd 0x3E + 2)
  | .copyIn _ gd => some (pinnaHead gd 0x3E + 3)
  | .sysRaise _ gd => some (pinnaHead gd 0x3E + 4)
  | .sysInfo _ gd => some (pinnaHead gd 0x3E + 5)
  | .sysInvalid _ gd service => some (pinnaHead gd 0x3E + service.toNat)
  | _ => none

/-- The fields of a word (Table 19.2). -/
structure PinnaFields where
  gd : Guard
  rd : BitVec 5
  ra : BitVec 5
  rb : BitVec 5
  fn : Nat
  imm : BitVec 12
  deriving DecidableEq, Repr

def pinnaFields (w : Nat) : PinnaFields :=
  { gd := ⟨bitOf w 31, BitVec.ofNat 3 (w / 2 ^ 28)⟩, rd := BitVec.ofNat 5 (w / 2 ^ 17), ra := BitVec.ofNat 5 (w / 2 ^ 12),
    rb := BitVec.ofNat 5 (w / 2 ^ 7), fn := w % 2 ^ 7, imm := BitVec.ofNat 12 w }

/-- A field coded as a predicate or a special register. -/
def asP (x : BitVec 5) : PReg := x.setWidth 3
def asS (x : BitVec 5) : SReg := x.setWidth 4

/-- Table 19.4. -/
def decodeRegForm (u : Fin 8) (f : PinnaFields) : Option Instr :=
  match f.fn with
  | 0x00 => some (.add u f.gd f.rd f.ra f.rb)
  | 0x01 => some (.sub u f.gd f.rd f.ra f.rb)
  | 0x02 => some (.andR u f.gd f.rd f.ra f.rb)
  | 0x03 => some (.orR u f.gd f.rd f.ra f.rb)
  | 0x04 => some (.xorR u f.gd f.rd f.ra f.rb)
  | 0x05 => some (.andn u f.gd f.rd f.ra f.rb)
  | 0x06 => some (.sll u f.gd f.rd f.ra f.rb)
  | 0x07 => some (.srl u f.gd f.rd f.ra f.rb)
  | 0x08 => some (.sra u f.gd f.rd f.ra f.rb)
  | 0x09 => some (.ror u f.gd f.rd f.ra f.rb)
  | 0x0A => some (.slli u f.gd f.rd f.ra f.rb)
  | 0x0B => some (.srli u f.gd f.rd f.ra f.rb)
  | 0x0C => some (.srai u f.gd f.rd f.ra f.rb)
  | 0x0D => some (.rori u f.gd f.rd f.ra f.rb)
  | 0x0E => some (.minS u f.gd f.rd f.ra f.rb)
  | 0x0F => some (.maxS u f.gd f.rd f.ra f.rb)
  | 0x10 => some (.minu u f.gd f.rd f.ra f.rb)
  | 0x11 => some (.maxu u f.gd f.rd f.ra f.rb)
  | 0x12 => if f.rb = 0 then some (.clz u f.gd f.rd f.ra) else none
  | 0x13 => if f.rb = 0 then some (.popc u f.gd f.rd f.ra) else none
  | 0x14 => if f.ra.getLsbD 0 then none else some (.perm u f.gd f.rd f.ra f.rb)
  | 0x18 => some (.mul u f.gd f.rd f.ra f.rb)
  | 0x19 => some (.mulh u f.gd f.rd f.ra f.rb)
  | 0x1A => some (.mulhu u f.gd f.rd f.ra f.rb)
  | 0x1B => some (.mulhsu u f.gd f.rd f.ra f.rb)
  | 0x1C => some (.divS u f.gd f.rd f.ra f.rb)
  | 0x1D => some (.divu u f.gd f.rd f.ra f.rb)
  | 0x1E => some (.remS u f.gd f.rd f.ra f.rb)
  | 0x1F => some (.remu u f.gd f.rd f.ra f.rb)
  | _ => none

/-- Bit-field form (MAJOR 0x08): FN [1:0] and FN [6:2] = WIDTH - 1. -/
def decodeBitField (u : Fin 8) (f : PinnaFields) : Option Instr :=
  let wm1 : BitVec 5 := BitVec.ofNat 5 (f.fn / 4)
  if f.rb.toNat + wm1.toNat + 1 > 32 then none
  else match f.fn % 4 with
    | 0 => some (.bfx u f.gd f.rd f.ra f.rb wm1)
    | 1 => some (.bfxs u f.gd f.rd f.ra f.rb wm1)
    | 2 => some (.bfi u f.gd f.rd f.ra f.rb wm1)
    | _ => none

/-- Predicate form (MAJOR 0x0C). -/
def decodePred (u : Fin 8) (f : PinnaFields) : Option Instr :=
  let d8 := f.rd.toNat < 8
  let a8 := f.ra.toNat < 8
  let b8 := f.rb.toNat < 8
  match f.fn with
  | 0 => if d8 ∧ a8 ∧ b8 then some (.pand u f.gd (asP f.rd) (asP f.ra) (asP f.rb)) else none
  | 1 => if d8 ∧ a8 ∧ b8 then some (.por u f.gd (asP f.rd) (asP f.ra) (asP f.rb)) else none
  | 2 => if d8 ∧ a8 ∧ b8 then some (.pxor u f.gd (asP f.rd) (asP f.ra) (asP f.rb)) else none
  | 3 => if d8 ∧ a8 ∧ b8 then some (.pandn u f.gd (asP f.rd) (asP f.ra) (asP f.rb)) else none
  | 4 => if d8 ∧ a8 ∧ f.rb = 0 then some (.pnot u f.gd (asP f.rd) (asP f.ra)) else none
  | 5 => if f.ra = 0 ∧ f.rb = 0 then some (.prd u f.gd f.rd) else none
  | 6 => if f.rd = 0 ∧ f.rb = 0 then some (.pwr u f.gd f.ra) else none
  | _ => none

/-- Special form (MAJOR 0x30, Table 19.8). -/
def decodeSpecial (u : Fin 8) (f : PinnaFields) : Option Instr :=
  if f.rb ≠ 0 then none
  else match f.fn with
    | 0 => if f.ra.toNat < 10 then some (.mfs u f.gd f.rd (asS f.ra)) else none
    | 1 => if 4 ≤ f.rd.toNat ∧ f.rd.toNat < 8 then some (.mts u f.gd (asS f.rd) f.ra) else none
    | _ => none

/-- System form (MAJOR 0x3E, Table 19.9). -/
def decodeSys (u : Fin 8) (gd : Guard) (low : Nat) : Option Instr :=
  if low ≥ 2 ^ 16 then none
  else match low with
    | 0 => some (.sysExit u gd)
    | 1 => some (.sysAbort u gd)
    | 2 => some (.sysCommand u gd)
    | 3 => some (.copyIn u gd)
    | 4 => some (.sysRaise u gd)
    | 5 => some (.sysInfo u gd)
    | k => some (.sysInvalid u gd (BitVec.ofNat 16 k))

/-- The instruction a word stands for on a unit (Table 19.3); none for an invalid encoding (R806). -/
def decodePinna (u : Fin 8) (w : Nat) : Option Instr :=
  let f := pinnaFields w
  match w / 2 ^ 22 % 2 ^ 6 with
  | 0x00 => decodeRegForm u f
  | 0x01 => some (.addi u f.gd f.rd f.ra f.imm)
  | 0x02 => some (.andi u f.gd f.rd f.ra f.imm)
  | 0x03 => some (.ori u f.gd f.rd f.ra f.imm)
  | 0x04 => some (.xori u f.gd f.rd f.ra f.imm)
  | 0x06 => if bitOf w 16 then none else some (.movi u f.gd f.rd (BitVec.ofNat 16 w))
  | 0x07 => if bitOf w 16 then none else some (.movhi u f.gd f.rd (BitVec.ofNat 16 w))
  | 0x08 => decodeBitField u f
  | 0x0A => if f.rd.toNat < 8 ∧ f.fn < 8 then some (.cmp u f.gd (asP f.rd) f.ra f.rb (BitVec.ofNat 3 f.fn)) else none
  | 0x0B => if f.rd.toNat < 8 then some (.cmpi u f.gd (asP f.rd) f.ra (BitVec.ofNat 3 (w / 2 ^ 9)) (BitVec.ofNat 9 w)) else none
  | 0x0C => decodePred u f
  | 0x10 => some (.ldw u f.gd f.rd f.ra f.imm)
  | 0x11 => some (.ldh u f.gd f.rd f.ra f.imm)
  | 0x12 => some (.ldhs u f.gd f.rd f.ra f.imm)
  | 0x13 => some (.ldb u f.gd f.rd f.ra f.imm)
  | 0x14 => some (.ldbs u f.gd f.rd f.ra f.imm)
  | 0x15 => some (.stw u f.gd f.rd f.ra f.imm)
  | 0x16 => some (.sth u f.gd f.rd f.ra f.imm)
  | 0x17 => some (.stb u f.gd f.rd f.ra f.imm)
  | 0x20 => some (.br u f.gd (BitVec.ofNat 22 w))
  | 0x21 => some (.call u f.gd (BitVec.ofNat 22 w))
  | 0x22 =>
    if f.rb ≠ 0 then none
    else if f.fn = 0 then (if f.rd = 0 then some (.jr u f.gd f.ra) else none)
    else if f.fn = 1 then some (.jalr u f.gd f.rd f.ra) else none
  | 0x30 => decodeSpecial u f
  | 0x3D => if w % 2 ^ 22 = 0 then some (.sleep u f.gd) else none
  | 0x3E => decodeSys u f.gd (w % 2 ^ 22)
  | _ => none

end Sys2Proof.Machine
end

