-- ==== Sys2Proof/Config.lean ====
section
/-! DEFINITION. What the manual leaves to outside standards, to each part or to the moment: opaque constants with no body
(log entries 1 and 2). Each cryptographic primitive named by an outside standard (AES modes, SHA-2, SHA-3, CMAC, KWP, CTR_DRBG,
ECDSA, RSA, EdDSA, ECDH, ML-KEM, ML-DSA) is a function of its inputs that no proof can see into; the manual's own constructions
around them (what is fed in, how long the result is, where it goes) are written out in the files that use them. -/

namespace Sys2Proof.Config

/-- A byte string of fixed length given by a byte function. -/
def bytes (n : Nat) (f : Nat → Byte) : Bytes := (List.range n).map f

/-- AES-256-CMAC (SP 800-38B): key, message, tag byte. -/
opaque cmacByte : Bytes → Bytes → Nat → Byte
/-- SHA-384, one byte of the digest. -/
opaque sha384Byte : Bytes → Nat → Byte
/-- The wrapping function W of AES-256-KWP (SP 800-38F) under a key on strings of `n` bits: a permutation of them. -/
opaque kwpCipher : Bytes → (n : Nat) → Equiv.Perm (BitVec n)
/-- CTR_DRBG (SP 800-90A): the working state after instantiation from entropy input, nonce and personalisation string. -/
opaque drbgInstantiate : Bytes → Bytes → Bytes → Nat → Byte
/-- CTR_DRBG reseed: state, entropy input, additional input. -/
opaque drbgReseed : Bytes → Bytes → Bytes → Nat → Byte
/-- CTR_DRBG generate: state, additional input, output byte. -/
opaque drbgOutput : Bytes → Bytes → Nat → Byte
/-- CTR_DRBG generate: the state afterwards. -/
opaque drbgNext : Bytes → Bytes → Nat → Byte
/-- Full-entropy blocks of the noise sources, numbered as they are taken (R500): a free value. -/
opaque entropyByte : Nat → Nat → Byte
/-- The fixed key of the conditioning function (R500), which the manual does not give. -/
opaque conditioningKey : Nat → Byte
/-- Raw bits of a noise source, numbered as they are read (R521): a free value. -/
opaque rawByte : Nat → Nat → Byte
/-- The SRAM-PUF key of the part (R336). -/
opaque pufByte : Nat → Byte
/-- ECDSA with the hash of the curve (P-256 with SHA-256, P-384 with SHA-384): curve bits, public key, message, signature. -/
opaque ecdsaVerify : Nat → Bytes → Bytes → Bytes → Bool
/-- ECDSA signature byte: curve bits, private key, additional draw, message. -/
opaque ecdsaSignByte : Nat → Bytes → Bytes → Bytes → Nat → Byte
/-- The public key of a private scalar: algorithm code of Table 10.1, key, one byte. -/
opaque publicKeyByte : Nat → Bytes → Nat → Byte
/-- ML-DSA-65 verification of an image (R144): public key, message, signature. -/
opaque mlDsaVerify : Bytes → Bytes → Bytes → Bool
/-- A frond cipher pass (Table 9.1): mode, decrypt, [key, IV, additional data, input, chaining state], output byte. -/
opaque cipherByte : Nat → Bool → List Bytes → Nat → Byte
/-- The tag or MAC of a frond pass: mode, [key, IV, additional data, data, chaining state], tag byte. -/
opaque tagByte : Nat → List Bytes → Nat → Byte
/-- The chaining fields (bytes 32 to 111 of Table 9.7) a record holds after a piece: mode, decrypt, inputs as `cipherByte`. -/
opaque contextByte : Nat → Bool → List Bytes → Nat → Byte
/-- A Calyptra result (Table 10.1): opcode, algorithm, scheme, private key, draws, inputs, output byte. -/
opaque pkByte : Nat → Nat → Nat → Bytes → Bytes → List Bytes → Nat → Byte
/-- How many bytes an operation without a fixed output length gives (OAEP decryption). -/
opaque pkLength : Nat → Nat → Nat → Bytes → Bytes → List Bytes → Nat
/-- Whether a public-key verification accepts: opcode, algorithm, scheme, inputs. -/
opaque pkVerify : Nat → Nat → Nat → List Bytes → Bool
/-- Range and point checks of Table 10.8: the status the operands earn (0 when they pass). -/
opaque pkOperandStatus : Nat → Nat → Nat → Bytes → List Bytes → Nat
/-- The second output of a key agreement or encapsulation, the secret: opcode, algorithm, key, draws, inputs, byte. -/
opaque pkSecretByte : Nat → Nat → Bytes → Bytes → List Bytes → Nat → Byte
/-- The replay digest and check word (PRIVATE of Table 6.4): replay key, entry, completion, byte. -/
opaque replayPrivateByte : Bytes → Bytes → Bytes → Nat → Byte
/-- The UID or PUPI of tag mode (Table 15.10), drawn per field-on: a free value. -/
opaque tagUidByte : Nat → Nat → Byte
/-- The four route bytes that Xemberon gives a task T00 to T47 (R113), which the manual does not state. -/
opaque xemberonRoute : Nat → U32
/-- A value the manual leaves open, numbered as it is taken. -/
opaque freeValue : Nat → U64

def cmac (k m : Bytes) : Bytes := bytes 16 (cmacByte k m)
def sha384 (m : Bytes) : Bytes := bytes 48 (sha384Byte m)
/-- What KWP encrypts (SP 800-38F): the constant, the length in bytes, the plaintext, and zeros to whole semiblocks. -/
def kwpPadded (p : Bytes) : Bytes := [0xA6, 0x59, 0x59, 0xA6] ++ beBytes 4 p.length ++ p ++ List.replicate ((8 - p.length % 8) % 8) 0
/-- KWP output: the padded plaintext and one semiblock. -/
def kwpWrap (k p : Bytes) : Bytes :=
  let n := (kwpPadded p).length
  beBytes n (kwpCipher k (8 * n) (BitVec.ofNat (8 * n) (beNat (kwpPadded p)))).toNat
/-- The plaintext of a KWP output; absent where the result is not a padded plaintext. -/
def kwpUnwrap (k w : Bytes) : Option Bytes :=
  let s := beBytes w.length ((kwpCipher k (8 * w.length)).symm (BitVec.ofNat (8 * w.length) (beNat w))).toNat
  let p := (s.drop 8).take (beNat ((s.drop 4).take 4))
  if s == kwpPadded p then some p else none
def drbgNew (e n p : Bytes) : Bytes := bytes 48 (drbgInstantiate e n p)
def drbgReseeded (s e a : Bytes) : Bytes := bytes 48 (drbgReseed s e a)
def drbgOut (s a : Bytes) (n : Nat) : Bytes := bytes n (drbgOutput s a)
def drbgStep (s a : Bytes) : Bytes := bytes 48 (drbgNext s a)
def entropyBlock (k : Nat) : Bytes := bytes 16 (entropyByte k)
def pufKey : Bytes := bytes 32 pufByte
def ecdsaSign (c : Nat) (k d m : Bytes) : Bytes := bytes (c / 4) (ecdsaSignByte c k d m)
def publicKey (alg : Nat) (n : Nat) (k : Bytes) : Bytes := bytes n (publicKeyByte alg k)

end Sys2Proof.Config
end

