-- ==== Sys2Proof/Machine/SMap.lean ====
section
/-! DEFINITION. Sparse maps keyed by a natural number, in ONE canonical form: keys strictly rising and no entry equal to
what an unlisted key reads as. Register files, slots, units, counters, flash words and memories are all held this way, so
that equal contents are equal data. -/

namespace Sys2Proof

/-- A sparse map: the value of every listed key; any other key reads as the map's default. -/
abbrev SMap (α : Type) := List (Nat × α)

namespace SMap

variable {α : Type}

/-- The value at a key, `d` where the key is not listed. -/
def get (d : α) : SMap α → Nat → α
  | [], _ => d
  | (j, v) :: r, k => if j = k then v else get d r k

/-- Put a value at a key, keeping the keys in order. -/
def put (k : Nat) (v : α) : SMap α → SMap α
  | [] => [(k, v)]
  | (j, w) :: r => if k < j then (k, v) :: (j, w) :: r else if j = k then (k, v) :: r else (j, w) :: put k v r

/-- Take a key out. -/
def del (k : Nat) (m : SMap α) : SMap α := m.filter (fun p => p.1 != k)

/-- Write a value: a value equal to the default takes the entry out, so the form stays canonical. -/
def set [DecidableEq α] (d : α) (m : SMap α) (k : Nat) (v : α) : SMap α := if v = d then del k m else put k v m

/-- Change the value at a key. -/
def mod [DecidableEq α] (d : α) (m : SMap α) (k : Nat) (f : α → α) : SMap α := set d m k (f (get d m k))

/-- Keys strictly rising, all above `lo`, and no entry equal to the default. -/
def wfFrom [DecidableEq α] (d : α) : Option Nat → SMap α → Bool
  | _, [] => true
  | lo, (k, v) :: r => (match lo with | none => true | some b => decide (b < k)) && (v != d) && wfFrom d (some k) r

/-- The canonical form. -/
def wf [DecidableEq α] (d : α) (m : SMap α) : Bool := wfFrom d none m

/-- Change the value of every key of a list. -/
def modAll [DecidableEq α] (d : α) (m : SMap α) (ks : List Nat) (f : Nat → α → α) : SMap α :=
  ks.foldl (fun acc k => mod d acc k (f k)) m

/-- Change every listed value; one that becomes the default is taken out. -/
def mapV [DecidableEq α] (d : α) (f : Nat → α → α) (m : SMap α) : SMap α := (m.map (fun e => (e.1, f e.1 e.2))).filter (fun e => e.2 != d)

/-- The keys whose value passes a test (the default excluded). -/
def keysWhere (m : SMap α) (p : Nat → α → Bool) : List Nat := (m.filter (fun e => p e.1 e.2)).map (·.1)

end SMap

/-- A byte memory: an SMap of bytes; `d` is what an unlisted byte reads as. -/
abbrev Memory := SMap Byte

namespace Memory

/-- `n` bytes from an address. -/
def read (d : Byte) (m : Memory) (a n : Nat) : Bytes := (List.range n).map (fun i => SMap.get d m (a + i))

/-- Write a byte string from an address. -/
def write (d : Byte) (m : Memory) (a : Nat) : Bytes → Memory
  | [] => m
  | b :: bs => write d (SMap.set d m a b) (a + 1) bs

/-- The canonical form of a byte memory whose unlisted bytes read as `d`. -/
def wf (d : Byte) (m : Memory) : Bool := SMap.wf d m

end Memory

end Sys2Proof
end

