-- ==== Sys2Proof/Machine/State.lean ====
section
/-! DEFINITION. The state of the block: every register, queue, unit, memory and latch the manual gives the device, as plain
data in groups, one group per chapter; and the queue of commands that wait. Every field's default is its value at
`State.reset`: a fresh Sentinel power-up (Table 4.1 row 0) of a part as it leaves the wafer (log entry 3). -/

namespace Sys2Proof.Machine

/-- Why a step stops. -/
inductive Fault where
  /-- A Pinna row names execution unit 4 to 7 while the device is in paired mode, which has units U0 to U3 only (R799); raised
  by every Pinna row. Safe: no instruction issues on a unit that does not exist. -/
  | noSuchUnit (unit : Nat)
  deriving DecidableEq, Repr

/-- Why the model gives a command no meaning. -/
inductive Refusal where
  /-- Raised by a dispatch arm that has no meaning yet. Safe. -/
  | notModelled (mnemonic : String)
  deriving DecidableEq, Repr

/-- Table 4.6. -/
inductive BootState where
  | resetting | romChecks | verifying | starting | ready | updating | tampered | powerFault | otpFault | keyFault
  | epochSpent | recoveryWait | recoveryLoading | recoveryVerifying | blank | retired
  deriving DecidableEq, Repr

/-- The reset kinds: the columns of Table 4.2 but the last. -/
inductive ResetKind where
  | fresh | powerOn | pcieIncluded | pcieKept
  deriving DecidableEq, Repr

/-- Table 2.4. -/
inductive PowerState where
  | active | trim | doze | hibernate | off
  deriving DecidableEq, Repr

/-- Table 2.1. -/
inductive OpPoint where
  | full | safe | doze
  deriving DecidableEq, Repr

/-- Table 7.10 state codes 0 to 5. -/
inductive PoolState where
  | inService | testing | failed | out | shed | borrowed
  deriving DecidableEq, Repr

/-- Why a unit is TESTING: what its passing test leads to (Table 9.9). -/
inductive TestCause where
  | slot | join | mismatch | selfTest | returning
  deriving DecidableEq, Repr

/-- Chapters 4 and 5: boot, recovery and the link. -/
structure Boot where
  state : BootState := .resetting
  cause : Byte := 0
  optDefault : Bool := false
  sentinelFresh : Bool := true
  lastReset : BitVec 4 := 0
  tries : Nat := 0
  /-- a boot has begun, at step 0 of a device reset or at the end of Table 2.13, and has not reached READY (R175) -/
  attempt : Bool := false
  /-- recovery has verified a new image, which ROM boots next (R157) -/
  verified : Bool := false
  /-- where a start stands: 0 nothing is due, 1 in the debounce of Table 2.13, 2 at the end of its steps 2 to 4, 3 at the ROM start of a
  device reset -/
  powerUp : Nat := 1
  /-- held in reset after REGULATOR_FAILED (Table 2.12) -/
  heldInReset : Bool := false
  recoveryRequest : Bool := false
  debug : Bool := false
  debugScope : BitVec 4 := 0
  debugUntil : Nat := 0
  armedToken : Option Bytes := none
  /-- the option-area words in force, 0 to 126 (Table 4.4) -/
  opt : SMap U64 := []
  /-- version and SVN of the running image (Table 13.5) -/
  svn : U32 := 0
  version : U32 := 0
  /-- GL_RCV_CTRL and GL_RCV_CRC (Table 4.9) -/
  rcvClaim : Bool := false
  rcvBusy : Bool := false
  rcvOverrun : Bool := false
  rcvChunk : BitVec 6 := 0
  rcvTurtis : Bool := false
  rcvResult : Byte := 0
  rcvNext : BitVec 6 := 0
  /-- chunk 59 has been programmed: VERIFY may follow (R157) -/
  rcvLoaded : Bool := false
  rcvCrc : U32 := 0
  /-- the PCIe path alone is left (R161) -/
  rcvPcieOnly : Bool := false
  /-- the 64 KiB recovery window, byte by byte (unlisted bytes read 0) -/
  rcvWindow : Memory := []
  deriving DecidableEq, Repr

/-- Chapter 5: PCI Express. -/
structure Link where
  perst : Bool := true
  phyGood : Bool := false
  up : Bool := false
  degraded : Bool := false
  vfEnable : Bool := false
  numVfs : FnId := 0
  ari : Bool := false
  /-- AER uncorrectable error status per function (R215) -/
  aer : SMap U32 := []
  /-- the PF's detail of the link event: LINK_DEGRADED (R210) -/
  eventDetail : Bool := false
  /-- address bits of the PF's BAR0 (key 0) and BAR2 (key 1) and of the VFs' BAR0 (key 2), and the writable words of configuration space, keyed function * 4096 +
  offset (Tables 5.16 and 5.17) -/
  bars : SMap U64 := []
  config : SMap U32 := []
  /-- doorbells counted (Table 5.18) -/
  rings : Nat := 0
  /-- output that waits for Bus Master Enable: function, address, bytes (R211) -/
  held : List (FnId × Nat × Bytes) := []
  /-- what the last host or applet register read row returned -/
  readData : U32 := 0
  /-- host memory as the device sees it over DMA, keyed function * 2^64 + address (unlisted bytes read 0, log entry 5) -/
  hostMem : Memory := []
  /-- MSI-X pending bits, keyed function * 64 + vector (Table 5.1, 0x3000) -/
  pba : SMap Bool := []
  deriving DecidableEq, Repr

/-- Chapter 2: feed, regulator, domains. -/
structure Power where
  state : PowerState := .active
  /-- the state DOZE returns to (R51) -/
  dozeFrom : PowerState := .active
  op : OpPoint := .safe
  /-- the point whose clock values are in force (R46, R47) -/
  clk : OpPoint := .safe
  vcore : Nat := 0
  /-- a voltage transition under way and its target (R45), the VCORE code and the Seta value at which it started, and one aborted (R85,
  R86) -/
  target : Option OpPoint := none
  moveFrom : Nat := 0
  moveAt : Nat := 0
  aborted : Bool := false
  /-- a wake from DOZE whose domains the next epoch boundary switches on (R48, R51) -/
  waking : Bool := false
  /-- powered domains PD00 to PD49: bit n (Table 2.3); those in RET -/
  domains : BitVec 50 := 0
  retained : BitVec 50 := 0
  /-- domains the custodian keeps off (R297), and the set waiting for the next epoch boundary -/
  offMask : U64 := 0
  offNext : Option U64 := none
  /-- domains DOZE, SAFE_HOLD or last gasp switched off, which its end switches on again -/
  dozeDomains : BitVec 50 := 0
  phaseOk : BitVec 4 := 0xF
  phasesLost : Nat := 0
  /-- phases lost before Xemberon could log them, with the cause that Rhizoid declared (Table 2.12) -/
  phaseNotes : List (Nat × Nat) := []
  feedWarn : Bool := false
  vcoreAtWarn : Nat := 0
  warnAt : Nat := 0
  qualified : Bool := false
  quiesced : Bool := false
  /-- the row of Table 4.1 of a reset by RESET_N, PERST# or link loss that came during last gasp and waits for its end (R880); 0 none -/
  heldReset : Nat := 0
  abortedAtWarn : Bool := false
  dipCount : Byte := 0
  dipsSince : Nat := 0
  lastFeedDip : Option Nat := none
  /-- cause of a SAFE_HOLD in force: 1 phases, 2 temperature (R70) -/
  safeHold : Option Nat := none
  allowance : Nat := 16
  hot : Bool := false
  sorusStopped : Bool := false
  /-- a lost phase stops Sorus at its macro-steps until the next epoch boundary (Table 2.12, R492) -/
  sorusHold : Bool := false
  temps : SMap Int := []
  backupClock : Bool := false
  /-- the switch to the backup oscillator has not been logged yet -/
  clockNote : Bool := false
  vcoreLow : Bool := false
  vinInRange : Bool := false
  vbak : Bool := false
  /-- VIN has fallen below VIN_STOP and has not passed VIN_RESUME since -/
  vinStopped : Bool := false
  /-- the Sentinel is powered, and with it the Spore island (R622) -/
  sentinel : Bool := true
  /-- Seta when the last job ended (R50) -/
  idleSince : Nat := 0
  deriving DecidableEq, Repr

/-- Table 3.9. -/
structure Task where
  merged : Nat := 0
  pending : Bool := false
  running : Bool := false
  fired : BitVec 16 := 0
  deriving DecidableEq, Repr

/-- A capture register (R127). -/
structure Capture where
  epoch : U32 := 0
  seta : Nat := 0
  deriving DecidableEq, Repr

/-- KIND of a NAK on Rachis (R97, Table 3.14). -/
inductive NakKind where
  | islandOff | crc
  deriving DecidableEq, Repr

/-- Chapter 3: clocks, Rachis, Hypha, time. -/
structure Clocks where
  seta : Nat := 0
  /-- Seta bits [63:56] last logged (R131) -/
  setaTop : Nat := 0
  /-- the frond time base: cycles of the frond clock since the Stipe boot (R360) -/
  frondTime : U64 := 0
  locked : BitVec 19 := 0
  /-- islands whose units are retired until the next boot, and islands that have no clock (Table 3.14) -/
  isolated : BitVec 19 := 0
  lost : BitVec 19 := 0
  /-- Seta up to which the instants of alarm `k` have been taken -/
  alarmMark : SMap Nat := []
  /-- Seta of the last epoch boundary, violation interval and quantum boundary taken -/
  epochAt : Nat := 0
  rollAt : Nat := 0
  quantumAt : Nat := 0
  relockTries : SMap Nat := []
  refLostAt : Option Nat := none
  /-- links on their second path: source * 256 + destination -/
  faulty : List Nat := []
  retransmissions : Nat := 0
  /-- next SEQ of a source and destination, keyed as `faulty` (Table 3.2); what the last transfer delivered; the NAK that last answered one -/
  rachisSeq : SMap Nat := []
  delivered : Option RachisWord := none
  nak : Option NakKind := none
  /-- routes of tasks T00 to T47, which Xemberon sets and the manual does not give -/
  xemRoutes : SMap U32 := []
  tasks : SMap Task := []
  captures : SMap Capture := []
  /-- sources whose previous toggle is not acknowledged are given by the event itself; GPIO levels as last seen -/
  gpioIn : Byte := 0
  gpioOut : Byte := 0
  deriving DecidableEq, Repr

/-- Table 3.4. -/
structure CommitReg where
  busy : Bool := false
  overrun : Bool := false
  rejected : Bool := false
  dropped : Bool := false
  reason : Byte := 0
  applied : BitVec 16 := 0
  /-- Seta of the cycle in which BUSY last cleared (R106) -/
  clearedAt : Option Nat := none
  deriving DecidableEq, Repr

/-- The register files: values of RW fields by region and offset, each held as its difference from the value an untouched
register has. Keys: `gl off = off`, `fn f off = 2^20 * (f + 1) + off`. -/
structure Regs where
  active : SMap U32 := []
  stage : SMap U32 := []
  commit : SMap CommitReg := []
  /-- W1C event registers: GL_PWR_EVENTS, GL_POOL_EVENTS and FN_EVENTS, keyed as above -/
  events : SMap U32 := []
  deriving DecidableEq, Repr

/-- A function and its tenant. -/
structure Fn where
  assigned : Bool := false
  enabled : Bool := false
  busMaster : Bool := false
  resetting : Bool := false
  generation : BitVec 16 := 0
  counterCap : Nat := 0
  appletCap : Nat := 0
  /-- key-slot allotment of a tenant (R312); the custodian's is fixed (Table 8.1) -/
  slots : List Nat := []
  label : Bytes := []
  /-- GL_TEN_CFG of the tenant record (R283), WEIGHT 16 and MAX 64 by default -/
  tenRecord : U32 := 0x400010
  /-- violations of the current and the previous nine 100 ms intervals, newest first (R254) -/
  violations : List Nat := []
  quarantined : Bool := false
  quarantineRuns : Nat := 0
  quarUntil : Nat := 0
  flrs : BitVec 16 := 0
  ctxKey : Bytes := []
  setaHi : U32 := 0
  /-- URGENT frond time of the last 100 epochs, ns, newest first (R200) -/
  urgentHist : List Nat := []
  urgentCapped : Bool := false
  /-- deficits, keyed kind * 4 + class: kind 0 fronds (frond-ns), 1 Calyptra units, 2 slices, 3 Pinna units (R202) -/
  deficits : SMap Int := []
  deriving DecidableEq, Repr

/-- A completion before it is laid out (Table 6.3). -/
structure Reply where
  status : Nat := 0
  detail : Nat := 0
  res0 : Nat := 0
  res1 : Nat := 0
  res2 : Nat := 0
  res3 : Nat := 0
  deriving DecidableEq, Repr

/-- A replay record as the device wrote it (Table 6.4): the entry it answers and the 64 bytes in host memory. -/
structure ReplayRec where
  op : Nat
  cmd : Cmd
  place : Nat
  record : Bytes
  deriving DecidableEq, Repr

/-- A queue pair (chapter 6). -/
structure Pair where
  active : Bool := false
  conflict : Bool := false
  /-- disabled but with commands still to post (R220); and to be enabled again with new values (R222) -/
  draining : Bool := false
  reopen : Bool := false
  sqBase : Nat := 0
  cqBase : Nat := 0
  depth : Nat := 0
  cls : Nat := 0
  vector : Nat := 0
  sqHead : Nat := 0
  sqTail : Nat := 0
  cqHead : Nat := 0
  cqTail : Nat := 0
  phase : Bool := true
  window : List ReplayRec := []
  nextRec : Nat := 0
  /-- entries that each doorbell announced and that wait for the fetch: how many, and the doorbell's number (Table 5.18) -/
  rings : List (Nat × Nat) := []
  /-- queue memory cannot be written: completions of the pair are lost (R257) -/
  lost : Bool := false
  unsignalled : Nat := 0
  oldest : Nat := 0
  /-- a status other than SUCCESS was posted since the previous fenced command (R239) -/
  failed : Bool := false
  /-- doorbells recorded while the device was quiesced or in DOZE (R80) -/
  doorbell : Bool := false
  deriving DecidableEq, Repr

/-- How far a fetched command is: fetched and not started; waiting for a unit, tags, scratch, the reader or an event; on a
unit; preempted on it; waiting for its flash operations; at the reader; in a test; ended, its completion held by Bus Master Enable
(R211). -/
inductive Stage where
  | fetched
  | waiting
  | running (u : UnitRef)
  | preempted (u : UnitRef)
  | flash
  | reader
  | testing
  | done
  deriving DecidableEq, Repr

/-- A lattice step of an ML-KEM or ML-DSA job (R432): none is asked for, one waits for a slice's macro-step boundary, one runs on a
slice. -/
inductive LatticeStep where
  | idle | due
  | on (n : Fin 4)
  deriving DecidableEq, Repr

/-- A command in flight (fetched, no completion posted). -/
structure Job where
  op : Nat
  cmd : Cmd
  stage : Stage := .fetched
  /-- it has started: an engine command when it is dispatched (R236, R237) -/
  begun : Bool := false
  /-- the number of the doorbell that announced it (Table 5.18) -/
  rung : Nat := 0
  fenceWaited : Bool := false
  rerun : Bool := false
  /-- bytes that it draws when it starts, and the draws taken (R237, R399, R430) -/
  drawNeed : Nat := 0
  draws : Bytes := []
  /-- descriptors read when it started: address and bytes (R225) -/
  descs : List (Nat × Bytes) := []
  lattice : LatticeStep := .idle
  /-- frond time: Seta up to which it is charged, while fronds are held; what the present run and its finished key-switch steps were
  charged, in frond-ns (R200, R202, R400) -/
  paidTo : Option Nat := none
  spent : Int := 0
  stepSpent : Int := 0
  /-- the second frond of a twin job (R390), and pairs that have mismatched (R395) -/
  twin : Option (Fin 64) := none
  pairs : Nat := 0
  /-- the units' copies of its key, as they arrived over Vein (R331, R333), and the attempts to each unit that failed (R353); by unit -/
  copies : List (Nat × Bytes) := []
  veinFails : SMap Nat := []
  /-- the slot taken for the key it makes (R314, Table 8.12), none where the slot it names holds a secret to be compared (R427); and the place of
  the key record it writes -/
  fills : Option (Option Nat) := none
  place : Option Nat := none
  tags : Nat := 0
  /-- segment tags of pass one and its verdict on the message tag (R376, R377) -/
  segs : List Bytes := []
  passOne : Option Bool := none
  granules : List Nat := []
  reserved : Bool := false
  borrowed : Option (Fin 64) := none
  /-- key chunks verified, and how many the job has in all (R464, R472) -/
  chunks : Nat := 0
  need : Nat := 0
  /-- when the command started, and when the command was fetched, in Seta ticks -/
  startedAt : Nat := 0
  fetchedAt : Nat := 0
  /-- what it answers, held while last gasp keeps it from being posted (Table 14.7, R234) -/
  outcome : Option Reply := none
  /-- the value the command works on: a slot, a counter, an applet, a mask of units still to answer -/
  aux : Nat := 0
  aux2 : Nat := 0
  deriving DecidableEq, Repr

/-- A unit of an engine. -/
structure UnitSt where
  st : PoolState := .testing
  why : TestCause := .join
  /-- the join test has passed; the unit joins at the next epoch boundary -/
  passed : Bool := false
  lastTest : Nat := 0
  forced : Bool := false
  failCause : Nat := 0
  joinedAt : Nat := 0
  deriving DecidableEq, Repr

/-- A key slot (Table 8.3). -/
structure Slot where
  attr : U64 := 0
  key : Bytes := []
  deriving DecidableEq, Repr

/-- A persistent record (Table 8.8). -/
structure KeyRec where
  slot : Nat := 0
  owner : Nat := 0
  gen : BitVec 16 := 0
  /-- words 1 to 11 -/
  wrapped : Bytes := []
  /-- the seed whose KEK wrapped it: under another it does not unwrap (log entry 6) -/
  seed : List U64 := []
  committed : Bool := false
  tombstone : Bool := false
  headerOk : Bool := true
  damaged : Bool := false
  deriving DecidableEq, Repr

/-- Chapter 8. -/
structure Medulla where
  slots : SMap Slot := []
  kek : Option Bytes := none
  kekBlocked : Bool := false
  records : SMap KeyRec := []
  unloadable : List Nat := []
  wrapFailed : Bool := false
  /-- every persistent key unusable until the next boot (R891) -/
  unusable : Bool := false
  arrayOff : Bool := false
  /-- the sector of the key-record region being compacted, 0 to 35 (R340) -/
  compacting : Option Nat := none
  /-- Vein: the requester whose turn is first (R332), and the next load's sequence number (R330) -/
  veinTurn : Nat := 0
  veinSeq : U32 := 0
  deriving DecidableEq, Repr

/-- A noise source. -/
structure Source where
  inService : Bool := false
  retired : Bool := false
  /-- Seta of its health failures within the last second (R528) -/
  failures : List Nat := []
  /-- the health test whose failure the start-up test now running answers, 0 at the boot (R527) -/
  failing : Nat := 0
  deriving DecidableEq, Repr

/-- A DRBG instance. -/
structure Drbg where
  live : Bool := false
  st : Bytes := []
  requests : Nat := 0
  lastReseed : Nat := 0
  reseeds : Nat := 0
  blocked : Bool := false
  produced : Nat := 0
  deriving DecidableEq, Repr

/-- Chapter 12. -/
structure Entropy where
  sources : SMap Source := []
  insts : SMap Drbg := []
  /-- full-entropy blocks and raw bytes taken so far: the indices of the free values -/
  taken : Nat := 0
  rawTaken : Nat := 0
  next : Nat := 0
  badBlock : BitVec 4 := 0
  rawMode : Bool := false
  pattern : Option Bytes := none
  coreFailed : Bool := false
  healthFailures : Nat := 0
  repFails : Nat := 0
  adaptFails : Nat := 0
  deriving DecidableEq, Repr

/-- Flash units: kind and index of Table 13.3 (0 bank A block, 1 bank B block, 2 data sector, 3 option copy, 4 journal). -/
structure FlashUnit where
  kind : Nat
  index : Nat
  deriving DecidableEq, Repr

/-- What an open flash operation is for. -/
inductive FlashUse where
  | command (c : Cmd)
  | keyRegion (sector : Nat)
  | configHalf (sector : Nat)
  | relocation (sector : Nat)
  | appletErase (block : Nat)
  | crozierErase (block : Nat)
  | crozierPage (chunk : Nat)
  deriving DecidableEq, Repr

/-- A program or erase requested: open once it has begun (R547, R549). -/
structure FlashOp where
  unit : FlashUnit
  erase : Bool
  use : FlashUse
  begun : Bool := true
  fails : Nat := 0
  startedAt : Nat := 0
  starved : Bool := false
  /-- an erase that stands suspended for a program of its array, and its suspends so far (R543, R545) -/
  suspended : Bool := false
  suspends : Nat := 0
  deriving DecidableEq, Repr

/-- Chapter 13. -/
structure Flash where
  /-- journal words, keyed sector * 512 + word; an unlisted word is erased -/
  journal : SMap U64 := []
  /-- folded erase counts, WORN marks, overrides: keyed kind * 256 + index -/
  wear : SMap Nat := []
  wornBad : SMap Bool := []
  override : SMap Bool := []
  replaced : SMap Nat := []
  spares : List Nat := [250, 251, 252, 253, 254, 255]
  /-- log extension steps in use (R754) -/
  extensions : Nat := 0
  ops : List FlashOp := []
  /-- option copies, keyed copy * 128 + word; an unlisted word is erased -/
  option : SMap U64 := []
  /-- OTP words; an unlisted word is unprogrammed (R533) -/
  otp : SMap U64 := []
  otpBad : List Nat := []
  bankA : Memory := []
  crozierTorn : Bool := false
  crozierLock : Bool := false
  configActive : Nat := 0
  configUsed : Nat := 0
  configCopying : Bool := false
  otpPending : Option Nat := none
  deriving DecidableEq, Repr

/-- A primary block (Table 14.2): its VALUE and SEAL words and how many unary cells count as used. -/
structure Block where
  value : U64 := 0xFFFFFFFFFFFFFFFF
  sealWord : U64 := 0xFFFFFFFFFFFFFFFF
  used : Nat := 0
  damaged : Bool := false
  /-- cells that count as used for a double-bit error alone (R620) -/
  badCells : List Nat := []
  deriving DecidableEq, Repr

/-- Chapter 14. -/
structure Counters where
  blocks : SMap Block := []
  /-- backup slots, keyed (sector - 126) * 25 + slot -/
  backups : SMap Block := []
  /-- owning function plus one; 0 free -/
  owner : SMap Nat := []
  /-- the value a released or never sealed counter keeps, and final values of lost counters (R619) -/
  lost : SMap Nat := []
  spentLogged : List Nat := []
  /-- counters whose backup waits for a slot (R888) -/
  owed : List Nat := []
  /-- sectors, relative to 126, that the region has lost (R579) -/
  lostSectors : List Nat := []
  deriving DecidableEq, Repr

/-- A log entry (Table 17.9) but for SEQ and CHAIN, which it takes when it is placed. -/
structure Note where
  epoch : U32
  seta : Nat
  kind : Nat
  type : Nat
  source : Nat
  detail : Nat
  deriving DecidableEq, Repr

/-- A log slot that has a programmed word. -/
inductive LogSlot where
  | erased
  | entry (seq : U32) (note : Note) (chain : Bytes)
  | torn
  | damaged (seq : U32) (chain : Bytes)
  deriving DecidableEq, Repr

/-- The evidence log. -/
structure Log where
  slots : SMap LogSlot := []
  next : Nat := 0
  seq : U32 := 0
  chain : Bytes := []
  /-- slot 1 exists (R153, R731) -/
  chained : Bool := false
  /-- it cannot be derived at all (R766) -/
  noChain : Bool := false
  staged : List Note := []
  /-- entries held during last gasp (R894) -/
  gasping : Bool := false
  held : List Note := []
  /-- entries that a reset leaves for ROM to make at the next boot (Table 2.12, Table 3.14, Table 17.16) -/
  reports : List Note := []
  /-- boot epoch [31:0] and sequence number [63:32] of the last entry before the Sentinel lost its power (R138) -/
  lossMark : U64 := 0
  nearFull : Bool := false
  fullRaised : Bool := false
  tornSeen : List Nat := []
  /-- the newest entry is still being programmed, and how often a word of it has failed verification (R765) -/
  writing : Option Nat := none
  /-- sequence numbers appended and not yet mirrored (R627) -/
  toMirror : List Nat := []
  deriving DecidableEq, Repr

/-- The Spore island: store words (unlisted words read 0), words that fail ECC, and a forced sequencer. -/
structure Spore where
  words : SMap U64 := []
  bad : List Nat := []
  deriving DecidableEq, Repr

/-- Reader mode. -/
structure Reader where
  fieldOn : Bool := false
  offUntil : Nat := 0
  card : Bool := false
  layer4 : Bool := false
  retries : Nat := 0
  badBlocks : Bool := false
  wtx : Nat := 0
  /-- found at PD47 power-up (R660): 1 front-end check failed, 2 field below 1.5 A/m -/
  fault : Nat := 0
  /-- Badge exchange: 1 AID selected awaited, 2 response awaited; and the challenge sent -/
  badgeStep : Nat := 0
  challenge : Bytes := []
  deriving DecidableEq, Repr

/-- Tag mode. -/
structure Tag where
  field : Bool := false
  hei : Nat := 0
  fieldOns : Nat := 0
  opened : Bool := false
  selected : Bool := false
  scope : Option Byte := none
  techId : U32 := 0
  credDigest : Bytes := []
  challenge : Option (Nat × Bytes) := none
  usedChallenge : Nat := 0
  fails : Nat := 0
  visitDone : Bool := false
  actions : Nat := 0
  entriesRead : Nat := 0
  /-- what the last APDU was answered (data then SW) -/
  answer : Bytes := []
  deriving DecidableEq, Repr

/-- A roster entry (Table 16.5). -/
structure RosterEntry where
  address : Byte
  busTa : Byte
  busTb : Byte
  bridge : Bool
  identity : Bytes
  deriving DecidableEq, Repr

/-- A neighbour on a port. -/
structure Nbr where
  known : Bool := false
  nonce : Bytes := []
  /-- consecutive empty slots of its own (R687), and the superframe it was last heard in, plus one -/
  empty : Nat := 0
  heardAt : Nat := 0
  lost : Bool := false
  gone : Bool := false
  /-- it has opened a new link session, and the HIGH_WATER it reports is awaited for its log entry (R688, R689) -/
  returning : Bool := false
  /-- superframes of its intrusions, newest first, and that of its last TRIM, plus one (R679, R680) -/
  intrusions : List Nat := []
  trimmedAt : Nat := 0
  /-- intrusions seen since the last report (R678), and the offset last measured -/
  seen : Nat := 0
  offset : Int := 0
  mismatch : Bool := false
  deriving DecidableEq, Repr

/-- What a port feeds to its bus (R696 to R703). -/
structure Feed where
  on : Bool := false
  /-- an answer to a PULL_REQ (R707) -/
  pull : Bool := false
  offered : Bool := false
  next : Nat := 0
  resend : List Nat := []
  /-- chunk being sent whose second half follows -/
  half : Option Nat := none
  /-- superframe in which a chunk not yet acknowledged was sent -/
  sentAt : SMap Nat := []
  deriving DecidableEq, Repr

/-- A Turtis port. -/
structure Port where
  running : Bool := false
  word : U64 := 0
  /-- superframes still to listen (R716) -/
  listen : Nat := 0
  synced : Bool := false
  /-- consecutive beacons heard, and missed -/
  beacons : Nat := 0
  missed : Nat := 0
  slot : Nat := 15
  sfn : U32 := 0
  master : Byte := 0xFF
  /-- the node the next beacon names as master (R668) -/
  heir : Option Byte := none
  layoutUpdate : Bool := false
  grant : Byte := 0xFF
  grantQueue : List Byte := []
  /-- link nonce; empty until it is drawn (R686), and the chain key of the superframe -/
  nonce : Bytes := []
  key : Bytes := []
  nbrs : SMap Nbr := []
  /-- the owner of the present slot was heard in it -/
  heard : Bool := false
  seq : BitVec 16 := 0
  trims : List (Byte × Int) := []
  mutes : List (Byte × Nat) := []
  mutedFor : Nat := 0
  shift : Int := 0
  edge : Nat := 0
  intrusionCount : Nat := 0
  crcErrors : Nat := 0
  macFails : Nat := 0
  badPids : Nat := 0
  strangers : Nat := 0
  strangersSince : Nat := 0
  strangerAt : Option Nat := none
  collisions : Nat := 0
  busy : Nat := 0
  busyMark : Bool := false
  busFault : Bool := false
  /-- the frame sent in the present slot: PID, FLAGS, SEQ, destination, payload (the MAC and CRC are functions of it) -/
  sent : Option (Nat × Nat × Nat × Byte × Bytes) := none
  hello : Bool := false
  claimDue : Bool := false
  /-- frames that wait for an owned slot: PID, destination, payload -/
  toSend : List (Nat × Byte × Bytes) := []
  feed : Feed := {}
  deriving DecidableEq, Repr

/-- A receiver of an update session. -/
structure Receiver where
  highWater : Nat := 0
  /-- 0 in progress, 1 complete, 2 declined, 3 gone, 4 offered and not answered -/
  status : Nat := 4
  deriving DecidableEq, Repr

/-- The update progress record of the configuration region (R694), with the HIGH_WATER that ROM resumes from (R708). -/
structure Progress where
  session : U64
  svn : U32
  version : U32
  size : Nat
  chunks : Nat
  digest : Bytes
  highWater : Nat
  deriving DecidableEq, Repr

/-- The update session and the roster (chapter 16). -/
structure Update where
  /-- Table 16.8: 0 IDLE, 1 HANDOVER, 2 WRITING, 3 FEEDING, 4 FAILED -/
  state : Nat := 0
  cause : Nat := 0
  session : U64 := 0
  svn : U32 := 0
  version : U32 := 0
  size : Nat := 0
  chunks : Nat := 0
  digest : Bytes := []
  highWater : Nat := 0
  /-- halves held of chunks not yet programmed: bit 0 and bit 1; and their bytes, keyed chunk * 512 + offset -/
  held : SMap Nat := []
  chunkData : Memory := []
  isLocal : Bool := false
  relay : Bool := false
  pkg : Nat := 0
  /-- UPDATE_START commands accepted in this boot -/
  starts : Nat := 0
  /-- receivers, keyed port * 256 + address -/
  receivers : SMap Receiver := []
  /-- statuses for the next ACK (R701): chunk, status -/
  acks : List (Nat × Nat) := []
  /-- bank A blocks erased in this session (R695) -/
  erased : List Nat := []
  handoverAt : Nat := 0
  /-- an OFFER was accepted and its ACCEPT waits for the first erases -/
  acceptDue : Bool := false
  /-- Crozier runs; ROM pulls (R708); addresses whose SVN is below the floor (R159) -/
  crozier : Bool := false
  pulling : Bool := false
  skip : List Byte := []
  source : Byte := 0xFF
  srcPort : Fin 2 := 0
  /-- update progress record (R694) -/
  progress : Option Progress := none
  roster : List RosterEntry := []
  rosterGen : U32 := 0
  rosterNext : Option (List RosterEntry × U32) := none
  deriving DecidableEq, Repr

/-- Chapter 17: alarms. -/
structure Tamper where
  latch : U64 := 0
  notices : BitVec 26 := 0
  live : BitVec 13 := 0
  liveSince : SMap Nat := []
  quietSince : SMap Nat := []
  suspended : BitVec 13 := 0
  escalated : BitVec 13 := 0
  /-- the net whose sample is forced next (R721), the seeds of the four streams (R722) and of the four loops -/
  net : Nat := 0
  lfsr : SMap (BitVec 31) := []
  loops : SMap (BitVec 31) := []
  /-- Seta ticks with VIN in range and on VBAK alone, and both as they stood at the last seeding of the streams (R718, R722) -/
  vinTicks : Nat := 0
  vbakTicks : Nat := 0
  seededAt : Nat × Nat := (0, 0)
  forced : List Fsm := []
  /-- a level-4 OTP program that waits for power (R732) -/
  retirePending : Bool := false
  deriving DecidableEq, Repr

/-- An invocation (R804, R841). -/
structure Inv where
  fn : FnId
  q : PairId
  tag : BitVec 16
  applet : Nat
  cls : Nat
  inAddr : Nat
  inLen : Nat
  outAddr : Nat
  outLen : Nat
  quanta : Nat
  codeLen : Nat
  dataLen : Nat
  stackLen : Nat
  /-- ticks the invocation has held its unit before the present hold, and when that began -/
  usedTicks : Nat := 0
  since : Nat := 0
  deriving DecidableEq, Repr

/-- An execution unit (Table 19.1, Table 19.8). -/
structure Pinna where
  inv : Option Inv := none
  g : SMap U32 := []
  /-- p1 to p7 in bits 1 to 7; bit 0 is not used -/
  p : Byte := 0
  pc : U32 := 0
  cycle : U32 := 0
  setaHi : U32 := 0
  rng : List U32 := []
  rngErr : Bool := false
  cmpLo : U32 := 0
  cmpHi : U32 := 0
  en : Bool := false
  cmpLoStage : U32 := 0
  cmpHiStage : U32 := 0
  enStage : Bool := false
  overrun : Bool := false
  /-- CYCLE and Seta of the cycle in which CG_WAKECMP is applied and BUSY clears (R106) -/
  goAt : Option (U32 × Nat) := none
  matched : Bool := false
  wokeTask : Bool := false
  wakePending : Bool := false
  view : Bool := false
  sysStatus : BitVec 16 := 0
  sysRerun : Bool := false
  asleep : Bool := false
  blocked : Bool := false
  suspendDue : Bool := false
  itcm : Memory := []
  dtcm : Memory := []
  /-- image the ITCM holds: applet and version -/
  image : Option (Nat × U32) := none
  /-- the invocation's DRBG instance while it is suspended -/
  drbg : Drbg := {}
  deriving DecidableEq, Repr

/-- An installed applet (Table 19.11). -/
structure Applet where
  installed : Bool := false
  owner : FnId := 0
  version : U32 := 0
  codeLen : Nat := 0
  dataLen : Nat := 0
  bssLen : Nat := 0
  stackLen : Nat := 0
  entry : Nat := 0
  name : Bytes := []
  pages : Nat := 0
  code : Bytes := []
  data : Bytes := []
  removing : Bool := false
  deriving DecidableEq, Repr

/-- Chapter 19. -/
structure Pinnas where
  split : Bool := false
  units : SMap Pinna := []
  /-- suspended invocations by unit, oldest first (R844, R845) -/
  saved : List (Nat × Pinna) := []
  applets : SMap Applet := []
  cache : List Nat := []
  /-- pages of bank B blocks 4 to 31, keyed block * 256 + page: 0 erased, applet plus one for a live page, 255 dead (R561 to R564) -/
  store : SMap Nat := []
  /-- the compaction block (R563) -/
  spareBlock : Nat := 31
  deriving DecidableEq, Repr

/-- Chapter 11: the share session. -/
structure Share where
  isOpen : Bool := false
  session : Nat := 0
  opened : Nat := 0
  parties : List FnId := []
  vlen : Nat := 0
  prog : List U64 := []
  digest : Bytes := []
  seed : Bytes := []
  regs : SMap (List U64) := []
  filled : List Nat := []
  computed : Bool := false
  endCause : Nat := 0
  memFault : Bool := false
  closing : Bool := false
  deriving DecidableEq, Repr

/-- Chapters 9 to 11: engines. -/
structure Engines where
  units : SMap UnitSt := []
  /-- how far a class has been served, over its weight (R202), and the function last served in it plus one, keyed kind * 4 + class -/
  classPass : SMap Nat := []
  lastServed : SMap Nat := []
  /-- fronds in service are below the sum of minima (R213) -/
  scaled : Bool := false
  /-- granules of general scratch that are withdrawn, and faulted once in this boot -/
  scratchGone : List Nat := []
  scratchHit : List Nat := []
  share : Share := {}
  deriving DecidableEq, Repr

/-- Chapter 18. -/
structure Health where
  istDisabled : Bool := false
  scrubPasses : Nat := 0
  corrections : Nat := 0
  doubles : Nat := 0
  crossed : Nat := 0
  lastPatrol : Nat := 0
  deriving DecidableEq, Repr

/-- The state of the block. -/
structure State where
  boot : Boot := {}
  link : Link := {}
  power : Power := {}
  clocks : Clocks := {}
  regs : Regs := {}
  fns : SMap Fn := []
  pairs : SMap Pair := []
  jobs : List Job := []
  engines : Engines := {}
  medulla : Medulla := {}
  entropy : Entropy := {}
  flash : Flash := {}
  counters : Counters := {}
  log : Log := {}
  spore : Spore := {}
  reader : Reader := {}
  tag : Tag := {}
  ports : SMap Port := []
  update : Update := {}
  tamper : Tamper := {}
  pinnas : Pinnas := {}
  health : Health := {}
  /-- the model's own field: how many free values have been taken (log entry 2) -/
  free : Nat := 0
  /-- the commands that wait, first in first out -/
  pending : List Instr := []
  deriving DecidableEq, Repr

/-- The machine right after a fresh Sentinel power-up (Table 4.1 row 0): the field defaults above. -/
def State.reset : State := {}

end Sys2Proof.Machine
end

