-- ==== Sys2Proof/Machine/Access.lean ====
section
/-! DEFINITION. Named updates of the state, one per group, and of the maps of functions, pairs, units, ports and jobs: every
operation changes the state through these. -/

namespace Sys2Proof.Machine

/-- Change the boot group. -/
def State.onBoot (s : State) (h : Boot → Boot) : State := { s with boot := h s.boot }
/-- Change the link group. -/
def State.onLink (s : State) (h : Link → Link) : State := { s with link := h s.link }
/-- Change the power group. -/
def State.onPower (s : State) (h : Power → Power) : State := { s with power := h s.power }
/-- Change the clocks group. -/
def State.onClocks (s : State) (h : Clocks → Clocks) : State := { s with clocks := h s.clocks }
/-- Change the regs group. -/
def State.onRegs (s : State) (h : Regs → Regs) : State := { s with regs := h s.regs }
/-- Change the engines group. -/
def State.onEngines (s : State) (h : Engines → Engines) : State := { s with engines := h s.engines }
/-- Change the medulla group. -/
def State.onMedulla (s : State) (h : Medulla → Medulla) : State := { s with medulla := h s.medulla }
/-- Change the entropy group. -/
def State.onEntropy (s : State) (h : Entropy → Entropy) : State := { s with entropy := h s.entropy }
/-- Change the flash group. -/
def State.onFlash (s : State) (h : Flash → Flash) : State := { s with flash := h s.flash }
/-- Change the counters group. -/
def State.onCounters (s : State) (h : Counters → Counters) : State := { s with counters := h s.counters }
/-- Change the log group. -/
def State.onLog (s : State) (h : Log → Log) : State := { s with log := h s.log }
/-- Change the spore group. -/
def State.onSpore (s : State) (h : Spore → Spore) : State := { s with spore := h s.spore }
/-- Change the reader group. -/
def State.onReader (s : State) (h : Reader → Reader) : State := { s with reader := h s.reader }
/-- Change the tag group. -/
def State.onTag (s : State) (h : Tag → Tag) : State := { s with tag := h s.tag }
/-- Change the update group. -/
def State.onUpdate (s : State) (h : Update → Update) : State := { s with update := h s.update }
/-- Change the tamper group. -/
def State.onTamper (s : State) (h : Tamper → Tamper) : State := { s with tamper := h s.tamper }
/-- Change the pinnas group. -/
def State.onPinnas (s : State) (h : Pinnas → Pinnas) : State := { s with pinnas := h s.pinnas }
/-- Change the health group. -/
def State.onHealth (s : State) (h : Health → Health) : State := { s with health := h s.health }

/-- Change the list of commands in flight. -/
def State.onJobs (s : State) (h : List Job → List Job) : State := { s with jobs := h s.jobs }
/-- Change the functions. -/
def State.onFns (s : State) (h : SMap Fn → SMap Fn) : State := { s with fns := h s.fns }
/-- Change the queue pairs. -/
def State.onPairs (s : State) (h : SMap Pair → SMap Pair) : State := { s with pairs := h s.pairs }
/-- Change the Turtis ports. -/
def State.onPorts (s : State) (h : SMap Port → SMap Port) : State := { s with ports := h s.ports }
/-- Change the count of free values taken. -/
def State.onFree (s : State) (h : Nat → Nat) : State := { s with free := h s.free }

/-- A function. -/
def fnOf (s : State) (f : FnId) : Fn := SMap.get {} s.fns f.toNat
/-- Change a function. -/
def onFn (s : State) (f : FnId) (h : Fn → Fn) : State := s.onFns (fun m => SMap.mod {} m f.toNat h)
/-- Key of a queue pair. -/
def pairKey (f : FnId) (q : PairId) : Nat := 4 * f.toNat + q.toNat
/-- A queue pair. -/
def pairOf (s : State) (f : FnId) (q : PairId) : Pair := SMap.get {} s.pairs (pairKey f q)
/-- Change a queue pair. -/
def onPair (s : State) (f : FnId) (q : PairId) (h : Pair → Pair) : State :=
  s.onPairs (fun m => SMap.mod {} m (pairKey f q) h)
/-- A Turtis port. -/
def portOf (s : State) (p : Fin 2) : Port := SMap.get {} s.ports p.val
/-- Change a Turtis port. -/
def onPort (s : State) (p : Fin 2) (h : Port → Port) : State := s.onPorts (fun m => SMap.mod {} m p.val h)
/-- A port that starts anew: what is kept over a boot stays, which are the counters of CHAIN_STATUS, the STRANGER minute and the roster mismatches
already logged (R684, R685, R710, R716). -/
def restartPort (x : Port) : Port :=
  { running := x.running, word := x.word, key := x.key, listen := 8, edge := x.edge, intrusionCount := x.intrusionCount, crcErrors := x.crcErrors,
    macFails := x.macFails, badPids := x.badPids, strangers := x.strangers, strangersSince := x.strangersSince, strangerAt := x.strangerAt,
    collisions := x.collisions, nbrs := (x.nbrs.filter (fun e => e.2.mismatch)).map (fun e => (e.1, { mismatch := true })) }

/-- Key of an instance: F0 to F255, I0 to I7, and the invocation instances. -/
def instKey : Inst → Nat
  | .f n => n.toNat
  | .i n => 256 + n.val
  | .inv u => 264 + u.val

/-- Key of a unit: fronds 0 to 63, Calyptra 64 and 65, slices 66 to 69, Pinna cores 70 to 77, entropy 78, wrap unit 79. -/
def unitKey : UnitRef → Nat
  | .frond n => n.val
  | .calyptra n => 64 + n.val
  | .slice n => 66 + n.val
  | .pinna n => 70 + n.val
  | .entropy => 78
  | .wrap => 79
/-- A unit of an engine. -/
def unitOf (s : State) (u : UnitRef) : UnitSt := SMap.get {} s.engines.units (unitKey u)
/-- Change a unit. -/
def onUnit (s : State) (u : UnitRef) (h : UnitSt → UnitSt) : State :=
  s.onEngines (fun e => { e with units := SMap.mod {} e.units (unitKey u) h })

/-- A Pinna execution unit. -/
def pinnaOf (s : State) (u : Fin 8) : Pinna := SMap.get {} s.pinnas.units u.val
/-- Change the Pinna execution unit of a number. -/
def onPinnaNat (s : State) (u : Nat) (h : Pinna → Pinna) : State :=
  s.onPinnas (fun p => { p with units := SMap.mod {} p.units u h })
/-- Change a Pinna execution unit. -/
def onPinna (s : State) (u : Fin 8) (h : Pinna → Pinna) : State := onPinnaNat s u.val h

/-- Whether a job is the command of a function, pair, tag and issuer. -/
def Job.isFor (j : Job) (c : Cmd) : Bool := j.cmd.fn == c.fn && j.cmd.q == c.q && j.cmd.tag == c.tag && j.cmd.issuer == c.issuer
/-- The command in flight with an entry's function, pair, tag and issuer. -/
def jobOf (s : State) (c : Cmd) : Option Job := s.jobs.find? (·.isFor c)
/-- Change that command. -/
def onJob (s : State) (c : Cmd) (h : Job → Job) : State := s.onJobs (·.map (fun j => if j.isFor c then h j else j))
/-- Take it out of flight. -/
def dropJob (s : State) (c : Cmd) : State := s.onJobs (·.filter (fun j => !j.isFor c))
/-- The job running on a unit. -/
def jobOn (s : State) (u : UnitRef) : Option Job := s.jobs.find? (fun j => j.stage == .running u)

/-- The word of the Spore store (Table 15.1). -/
def sporeWord (s : State) (w : Nat) : U64 := SMap.get 0 s.spore.words w
/-- Write a word of the Spore store: a whole write clears an ECC fault of the word (R628). -/
def setSpore (s : State) (w : Nat) (v : U64) : State :=
  s.onSpore (fun p => { p with words := SMap.set 0 p.words w v, bad := p.bad.filter (· != w) })

/-- Host memory of a function: an address key. -/
def hostKey (f : FnId) (a : Nat) : Nat := f.toNat * 2 ^ 64 + a % 2 ^ 64
/-- How many of `n` bytes at an address lie below 2^64; the rest go on at address 0 of the same function (log entry 80). -/
def belowTop (a n : Nat) : Nat := min n (2 ^ 64 - a % 2 ^ 64)
/-- `n` bytes of a function's host memory (R177: only with its own Requester ID). -/
def hostRead (s : State) (f : FnId) (a n : Nat) : Bytes :=
  Memory.read 0 s.link.hostMem (hostKey f a) (belowTop a n) ++ Memory.read 0 s.link.hostMem (hostKey f 0) (n - belowTop a n)
/-- A posted write to a function's host memory (R886). -/
def hostWrite (s : State) (f : FnId) (a : Nat) (bs : Bytes) : State :=
  let k := belowTop a bs.length
  s.onLink (fun l => { l with hostMem := Memory.write 0 (Memory.write 0 l.hostMem (hostKey f a) (bs.take k)) (hostKey f 0) (bs.drop k) })

/-- Take the next free value (log entry 2). -/
def takeFree (s : State) : U64 × State := (Config.freeValue s.free, s.onFree (· + 1))

end Sys2Proof.Machine
end

