-- ==== Sys2Proof/Machine/Lichen.lean ====
section
/-! DEFINITION. How a Lichen counter's value is held and recovered (Tables 14.2 and 14.3, R594 to R599, R613, R619, R621). -/

namespace Sys2Proof.Machine

/-- Table 14.3: the VALUE word. -/
def valueWord (base counter : Nat) (copy : Bool) (block : Nat) : U64 :=
  BitVec.ofNat 64 (base % 2 ^ 32 + counter * 2 ^ 32 + (if copy then 2 ^ 41 else 0) + block * 2 ^ 42 + 0x4C1 * 2 ^ 52)

/-- R594: the VALUE word carries the MAGIC and the SEAL word is its complement. -/
def sealed (b : Block) : Bool := b.value.toNat / 2 ^ 52 == 0x4C1 && b.sealWord == ~~~b.value && !b.damaged

def recBase (b : Block) : Nat := bitsOf b.value.toNat 0 32
def recCounter (b : Block) : Nat := bitsOf b.value.toNat 32 9
def recBlock (b : Block) : Nat := bitsOf b.value.toNat 42 10

/-- Sealed records of a counter, primaries with their block index, then backups. -/
def primaries (k : Counters) (c : Nat) : List (Nat × Block) := k.blocks.filter (fun e => sealed e.2 && recCounter e.2 == c)
def backupsOf (k : Counters) (c : Nat) : List (Nat × Block) := k.backups.filter (fun e => sealed e.2 && recCounter e.2 == c)

def topBase (l : List (Nat × Block)) : Option Nat :=
  l.foldl (fun m e => match m with | none => some (recBase e.2) | some b => some (max b (recBase e.2))) none

/-- R597: the larger of the highest sealed primary and backup BASE. -/
def baseOf (k : Counters) (c : Nat) : Option Nat := topBase (primaries k c ++ backupsOf k c)

/-- R597: blocks named by the sealed records of BASE `b`. -/
def blocksAt (k : Counters) (c b : Nat) : List Nat :=
  ((primaries k c ++ backupsOf k c).filter (fun e => recBase e.2 == b)).map (fun e => recBlock e.2)

def usedCells (k : Counters) (blk : Nat) : Nat := (SMap.get {} k.blocks blk).used

def usedAt (k : Counters) (c b : Nat) : Nat := (blocksAt k c b).foldl (fun m i => max m (usedCells k i)) 0

/-- R597: the block increments continue in: the one with the most used cells, on a tie the one the backup names, else the
lowest. -/
def currentBlock (k : Counters) (c b : Nat) : Nat :=
  let u := usedAt k c b
  let best := (blocksAt k c b).filter (fun i => usedCells k i == u)
  match (backupsOf k c).find? (fun e => recBase e.2 == b && best.contains (recBlock e.2)) with
  | some e => recBlock e.2
  | none => best.foldl min 867

/-- The value of a counter (R597), its final value when it is lost (R619), the value kept where no record exists (R593). -/
def counterValue (k : Counters) (c : Nat) : Nat :=
  match SMap.get 0 k.lost c with
  | 0 => match baseOf k c with | none => 0 | some b => b + usedAt k c b
  | v + 1 => v

/-- R613: the value at which the endurance budget is used up. -/
def budgetEnd : Nat := 0x03D2D2D3

def counterSpent (k : Counters) (c : Nat) : Bool := SMap.get 0 k.lost c != 0 || counterValue k c ≥ budgetEnd

/-- Sector of a block and of a backup slot, relative to 126. -/
def blockSector (i : Nat) : Nat := i / 7
def backupSector (i : Nat) : Nat := i / 25

def blockErased (k : Counters) (i : Nat) : Bool := SMap.get {} k.blocks i == {}
def backupErased (k : Counters) (i : Nat) : Bool := SMap.get {} k.backups i == {}
/-- A wholly erased sector that the region has not lost (R579). -/
def sectorErased (k : Counters) (x : Nat) : Bool :=
  !k.lostSectors.contains x && k.blocks.all (fun e => blockSector e.1 != x) && k.backups.all (fun e => backupSector e.1 != x)

/-- A sector that holds a programmed block or backup slot and takes new records (R578). -/
def sectorInUse (k : Counters) (x : Nat) : Bool := !k.lostSectors.contains x && !sectorErased k x
/-- R599: the lowest erased block in a sector already in use, else the lowest block of the lowest wholly erased sector. -/
def takeBlock (k : Counters) : Option Nat :=
  match (List.range 868).find? (fun i => blockErased k i && sectorInUse k (blockSector i)) with
  | some i => some i
  | none => (List.range 124).find? (sectorErased k) |>.map (· * 7)

/-- R599, R596: the backup slot by the same rule in sectors other than the block's. -/
def takeBackup (k : Counters) (blk : Nat) : Option Nat :=
  match (List.range 3100).find?
      (fun i => backupErased k i && backupSector i != blockSector blk && sectorInUse k (backupSector i)) with
  | some i => some i
  | none => (List.range 124).find? (fun x => sectorErased k x && x != blockSector blk) |>.map (· * 25)

/-- Erased blocks that the region still has (R579). -/
def erasedBlocks (k : Counters) : Nat :=
  868 - 7 * k.lostSectors.length - (k.blocks.filter (fun e => !k.lostSectors.contains (blockSector e.1))).length

/-- R602: counters other than 0 and 1 leave two erased blocks. -/
def blockAvailable (k : Counters) (c : Nat) : Bool := erasedBlocks k > (if c < 2 then 0 else 2)

/-- Write a new sealed pair of records with a BASE (R599). -/
def writeRecords (k : Counters) (c base : Nat) : Option Counters :=
  if !blockAvailable k c then none
  else match takeBlock k with
    | none => none
    | some b => match takeBackup k b with
      | none => none
      | some t =>
        let v := valueWord base c false b
        let w := valueWord base c true b
        some { k with
          blocks := SMap.set {} k.blocks b { value := v, sealWord := ~~~v },
          backups := SMap.set {} k.backups t { value := w, sealWord := ~~~w } }

/-- The first half of a roll-forward: the sealed primary, where a block and a backup slot for it can be had. -/
def writePrimary (k : Counters) (c base : Nat) : Option (Counters × Nat) :=
  if !blockAvailable k c then none
  else match takeBlock k with
    | none => none
    | some b =>
      if (takeBackup k b).isNone then none
      else some ({ k with blocks := SMap.set {} k.blocks b { value := valueWord base c false b, sealWord := ~~~(valueWord base c false b) } }, b)
/-- The second half: the sealed backup of a primary block, in the next erased slot. -/
def writeBackup (k : Counters) (c base blk : Nat) : Option Counters :=
  (takeBackup k blk).map (fun t =>
    { k with backups := SMap.set {} k.backups t { value := valueWord base c true blk, sealWord := ~~~(valueWord base c true blk) } })
/-- R888: the backup slot that failed holds no sealed record. -/
def spoilBackup (k : Counters) (blk : Nat) : Counters :=
  match takeBackup k blk with
  | none => k
  | some t => { k with backups := SMap.set {} k.backups t { damaged := true } }

/-! ### Relocation (R601) -/

/-- A record gives its counter's B. -/
def liveRecord (k : Counters) (b : Block) : Bool := sealed b && baseOf k (recCounter b) == some (recBase b)
/-- Counters with a live record in a sector. -/
def liveIn (k : Counters) (x : Nat) : List Nat :=
  (((k.blocks.filter (fun e => blockSector e.1 == x && liveRecord k e.2)) ++
    (k.backups.filter (fun e => backupSector e.1 == x && liveRecord k e.2))).map (fun e => recCounter e.2)).eraseDups
def liveCount (k : Counters) (x : Nat) : Nat :=
  (k.blocks.filter (fun e => blockSector e.1 == x && liveRecord k e.2)).length + (k.backups.filter (fun e => backupSector e.1 == x && liveRecord k e.2)).length
def deadAt (k : Counters) (x : Nat) : Bool :=
  k.blocks.any (fun e => blockSector e.1 == x && !liveRecord k e.2) || k.backups.any (fun e => backupSector e.1 == x && !liveRecord k e.2)
def erasedSectors (k : Counters) : Nat := ((List.range 124).filter (sectorErased k)).length
/-- The sector with a dead record and the fewest live ones, the lowest on a tie. -/
def relocationVictim (k : Counters) : Option Nat :=
  ((List.range 124).filter (deadAt k)).foldl (fun m x => match m with
    | none => some x
    | some y => if liveCount k x < liveCount k y then some x else some y) none
/-- The free places of a sector that is to be erased take no record. -/
def closeSector (k : Counters) (x : Nat) : Counters :=
  let b := (List.range 7).foldl (fun m i => if SMap.get {} m (7 * x + i) == {} then SMap.set {} m (7 * x + i) { damaged := true } else m) k.blocks
  let t := (List.range 25).foldl (fun m i => if SMap.get {} m (25 * x + i) == {} then SMap.set {} m (25 * x + i) { damaged := true } else m) k.backups
  { k with blocks := b, backups := t }
/-- Every live record of a sector written anew with its counter's value, in other sectors. -/
def relocate (k : Counters) (x : Nat) : Counters :=
  (liveIn k x).foldl (fun a c => (writeRecords a c (counterValue a c)).getD a) (closeSector k x)
/-- The sector is erased. -/
def eraseSector (k : Counters) (x : Nat) : Counters :=
  { k with blocks := k.blocks.filter (fun e => blockSector e.1 != x), backups := k.backups.filter (fun e => backupSector e.1 != x) }

/-- One increment (R598, R599): the cell of the current block, or a roll-forward. -/
def incrementCounter (k : Counters) (c : Nat) : Option Counters :=
  match baseOf k c with
  | none => writeRecords k c (counterValue k c + 1)
  | some b =>
    let u := usedAt k c b
    if u < 64 then
      let i := currentBlock k c b
      some { k with blocks := SMap.mod {} k.blocks i (fun x => { x with used := x.used + 1 }) }
    else writeRecords k c (b + 65)

/-- Whether an increment of `c` is a roll-forward (R599). -/
def rollsForward (k : Counters) (c : Nat) : Bool :=
  match baseOf k c with | none => true | some b => usedAt k c b ≥ 64

end Sys2Proof.Machine
end

