-- ==== Sys2Proof/Machine/LogCodes.lean ====
section
/-! DEFINITION. The type codes and the SOURCE codes of the evidence log (Tables 17.10 and 17.11). -/

namespace Sys2Proof.Machine

def Entry.boot : Nat := 0x0001
def Entry.unwatched : Nat := 0x0002
def Entry.setaHigh : Nat := 0x0003
def Entry.anchor : Nat := 0x0004
def Entry.note : Nat := 0x0005
def Entry.eventNote : Nat := 0x0006
def Entry.logExtended : Nat := 0x0007
def Entry.logExported : Nat := 0x0008
def Entry.logTorn : Nat := 0x0009
def Entry.logNearFull : Nat := 0x000A
def Entry.tamperNotice : Nat := 0x000B
def Entry.feedLost : Nat := 0x0101
def Entry.feedDip : Nat := 0x0102
def Entry.phaseLost : Nat := 0x0103
def Entry.regulatorFailed : Nat := 0x0104
def Entry.vcoreLow : Nat := 0x0105
def Entry.vcoreHigh : Nat := 0x0106
def Entry.rhzClock : Nat := 0x0107
def Entry.safeHold : Nat := 0x0108
def Entry.thermal : Nat := 0x0109
def Entry.rachisFault : Nat := 0x0201
def Entry.islandClock : Nat := 0x0202
def Entry.islandClockFail : Nat := 0x0203
def Entry.refLost : Nat := 0x0204
def Entry.setaFault : Nat := 0x0205
def Entry.hyphaFault : Nat := 0x0206
def Entry.frondFailed : Nat := 0x0301
def Entry.twinMismatch : Nat := 0x0302
def Entry.unitFailed : Nat := 0x0303
def Entry.scratchWithdrawn : Nat := 0x0304
def Entry.shareSession : Nat := 0x0305
def Entry.entropyHealth : Nat := 0x0306
def Entry.keyLost : Nat := 0x0401
def Entry.keyRecordBad : Nat := 0x0402
def Entry.seedRenewed : Nat := 0x0403
def Entry.tenantCreate : Nat := 0x0501
def Entry.tenantRelease : Nat := 0x0502
def Entry.quarantine : Nat := 0x0503
def Entry.eraseTorn : Nat := 0x0601
def Entry.eraseStarved : Nat := 0x0602
def Entry.journalLost : Nat := 0x0603
def Entry.flashEcc : Nat := 0x0604
def Entry.wornOverride : Nat := 0x0605
def Entry.counterSpent : Nat := 0x0606
def Entry.counterRepaired : Nat := 0x0607
def Entry.counterLost : Nat := 0x0608
def Entry.badgeOk : Nat := 0x0701
def Entry.badgeRefused : Nat := 0x0702
def Entry.visit : Nat := 0x0703
def Entry.sporeEcc : Nat := 0x0704
def Entry.readerFault : Nat := 0x0705
def Entry.turtisTrim : Nat := 0x0801
def Entry.turtisMute : Nat := 0x0802
def Entry.stranger : Nat := 0x0803
def Entry.rosterMismatch : Nat := 0x0804
def Entry.neighbourLost : Nat := 0x0805
def Entry.neighbourReturned : Nat := 0x0806
def Entry.neighbourGone : Nat := 0x0807
def Entry.busFault : Nat := 0x0808
def Entry.updateDeclined : Nat := 0x0809
def Entry.updateWritten : Nat := 0x080A
def Entry.updateFailed : Nat := 0x080B
def Entry.tamper : Nat := 0x0F01
def Entry.tamperBoot : Nat := 0x0F02
def Entry.tamperAck : Nat := 0x0F03
def Entry.zeroise : Nat := 0x0F04
def Entry.zeroiseFailed : Nat := 0x0F05
def Entry.tamperEscalate : Nat := 0x0F06
def Entry.tamperEnd : Nat := 0x0F07
def Entry.policyChanged : Nat := 0x0F08
def Entry.lifecycle : Nat := 0x0F09
def Entry.debugEnter : Nat := 0x0F0A

/-- SOURCE of Xemberon, ROM, Crozier, the Sentinel and the Spore island. -/
def Src.xemberon : Nat := 0x0000
def Src.rom : Nat := 0x0100
def Src.crozier : Nat := 0x0200
def Src.sentinel : Nat := 0x0300
def Src.sporeIsland : Nat := 0x0400
/-- Host software of a function. -/
def Src.host (f : FnId) : Nat := 0x0500 + f.toNat
def Src.frond (n : Nat) : Nat := 0x1000 + n
def Src.calyptra (n : Nat) : Nat := 0x1100 + n
def Src.slice (n : Nat) : Nat := 0x1200 + n
def Src.phase (n : Nat) : Nat := 0x1300 + n
def Src.port (n : Nat) : Nat := 0x1400 + n
def Src.entropy (n : Nat) : Nat := 0x1500 + n
def Src.tamper (n : Nat) : Nat := 0x1600 + n
def Src.task (n : Nat) : Nat := 0x1700 + n

end Sys2Proof.Machine
end

