-- ==== Sys2Proof/Machine/Ops.lean ====
section
/-! DEFINITION. The shared operations of the steps: register keys and fields, the lifecycle, interrupts, the Hypha fabric, the
evidence log, and the posting of a completion. -/

namespace Sys2Proof.Machine

/-! ### Registers -/

/-- Key of a register of BAR2 of the PF (Table 5.2). -/
def glKey (off : Nat) : Nat := off
/-- Key of a register of BAR0 of a function (Table 5.1). -/
def fnKey (f : FnId) (off : Nat) : Nat := 2 ^ 20 * (f.toNat + 1) + off
def regionKey : Region → Nat → Nat
  | .glBar, off => glKey off
  | .fnBar f, off => fnKey f off
  | .config f, off => 2 ^ 30 + 4096 * f.toNat + off
/-- The value of an untouched register: GL_TEN_CFG has Table 5.11's defaults, WEIGHT 16, MIN 0, MAX 64, URGENT_CAP 0. -/
def regDefault (k : Nat) : U32 := if 0x2000 ≤ k && k < 0x3000 && k % 16 == 0 then 0x400010 else 0
/-- Active value of a register. -/
def reg (s : State) (k : Nat) : Nat := (SMap.get 0 s.regs.active k ^^^ regDefault k).toNat
/-- Staged value of a commit-group register. -/
def staged (s : State) (k : Nat) : Nat := (SMap.get 0 s.regs.stage k ^^^ regDefault k).toNat
def setReg (s : State) (k v : Nat) : State :=
  s.onRegs (fun r => { r with active := SMap.set 0 r.active k (BitVec.ofNat 32 v ^^^ regDefault k) })
def setStage (s : State) (k v : Nat) : State :=
  s.onRegs (fun r => { r with stage := SMap.set 0 r.stage k (BitVec.ofNat 32 v ^^^ regDefault k) })
def commitReg (s : State) (k : Nat) : CommitReg := SMap.get {} s.regs.commit k
def onCommit (s : State) (k : Nat) (h : CommitReg → CommitReg) : State :=
  s.onRegs (fun r => { r with commit := SMap.mod {} r.commit k h })

/-- Scheduling class weights and default cap in force (Table 5.8, Table 4.4 word 11). -/
def schedCfg (s : State) : Nat := reg s (glKey 0x40)
/-- GL_TEN_CFG of a function (Table 5.11). -/
def tenCfg (s : State) (f : FnId) : Nat := reg s (glKey (0x2000 + 0x10 * f.toNat))

/-! ### Lifecycle and mode -/

/-- OTP word. -/
def otp (s : State) (w : Nat) : U64 := SMap.get 0 s.flash.otp w

/-- R346, R892: 0 BLANK, 1 FACTORY, 2 FIELD, 3 RETIRED; the lifecycle decode forced to its safe state reads FIELD. -/
def lifecycle (s : State) : Nat :=
  if s.tamper.forced.contains .lifecycle then 2
  else if otp s 32 != 0 then 3 else if otp s 31 != 0 then 2 else if otp s 30 != 0 then 1 else 0

/-- Table 4.6. -/
def BootState.code : BootState → Nat
  | .resetting => 0x00 | .romChecks => 0x01 | .verifying => 0x02 | .starting => 0x03 | .ready => 0x04 | .updating => 0x05
  | .tampered => 0x10 | .powerFault => 0x11 | .otpFault => 0x12 | .keyFault => 0x13 | .epochSpent => 0x14
  | .recoveryWait => 0x20 | .recoveryLoading => 0x21 | .recoveryVerifying => 0x22 | .blank => 0x30 | .retired => 0x31

/-- Xemberon runs and serves commands: READY, Crozier at work, or EPOCH_SPENT (Table 7.4). -/
def running (s : State) : Bool := s.boot.state == .ready || s.boot.state == .updating || s.boot.state == .epochSpent

/-- Xemberon runs. -/
def xemberon (s : State) : Bool := s.boot.state == .ready || s.boot.state == .epochSpent

/-- A domain is powered. -/
def domainOn (s : State) (d : Nat) : Bool := s.power.domains.getLsbD d

/-- Domains of an island; Sentinel, Spore, Medulla and Rhizoid have none of the fifty (Table 3.1, codes of R756). -/
def islandDomains (i : Nat) : List Nat :=
  if i == 2 then [24] else if 3 ≤ i && i ≤ 6 then [2 * i + 10, 2 * i + 11] else if i == 7 then List.range 16
  else if i == 8 || i == 9 then [23 + i] else if i == 10 then [33, 34, 35, 36] else if i == 12 then [48] else if i == 13 then [44]
  else if i == 14 || i == 15 || i == 16 then [31 + i] else if i == 18 then [49] else []
/-- The island has power. -/
def islandOn (s : State) (i : Nat) : Bool :=
  if i == 0 || i == 1 || i == 11 then s.power.sentinel else if i == 17 then s.power.sentinel && s.power.state != .off
  else (islandDomains i).any (domainOn s)
/-- Island logic runs: its domain is on, its PLL has locked, its clock is there and it is not isolated (R133, R136). -/
def islandWorks (s : State) (i : Nat) : Bool :=
  islandOn s i && s.clocks.locked.getLsbD i && !s.clocks.lost.getLsbD i && !s.clocks.isolated.getLsbD i

/-- Device identity, OTP words 0 and 1. -/
def identity (s : State) : Bytes := leBytes 8 (otp s 0).toNat ++ leBytes 8 (otp s 1).toNat
/-- SHA-384 held in six OTP words. -/
def otpHash (s : State) (w : Nat) : Bytes := (List.range 6).flatMap (fun i => leBytes 8 (otp s (w + i)).toNat)
/-- The boot epoch, Lichen counter 0 (Table 3.10). -/
def bootEpoch (s : State) : U32 := BitVec.ofNat 32 (counterValue s.counters 0)

/-- Seed erased (Spore word 48 [1]). -/
def seedErased (s : State) : Bool := bitOf (sporeWord s 48).toNat 1
/-- The tamper-erasable seed. -/
def seedWords (s : State) : List U64 := (List.range 4).map (fun i => sporeWord s (44 + i))
/-- Spore word 48 with its complement (Table 15.1). -/
def statusWord (v : Nat) : U64 := BitVec.ofNat 64 (v % 2 ^ 32 + (2 ^ 32 - 1 - v % 2 ^ 32) * 2 ^ 32)
def setStatusBit (s : State) (b : Nat) (on : Bool) : State :=
  let v := bitsOf (sporeWord s 48).toNat 0 32
  let w := if on then (if bitOf v b then v else v + 2 ^ b) else (if bitOf v b then v - 2 ^ b else v)
  setSpore s 48 (statusWord w)

/-- Value of a Spore counter: the larger copy whose complement matches (R611). -/
def sporeCopy (w : U64) : Option Nat :=
  let v := bitsOf w.toNat 0 24
  if bitsOf w.toNat 24 24 == 2 ^ 24 - 1 - v then some v else none
def sporeCounter (s : State) (n : Nat) : Nat :=
  let c := fun k => if s.spore.bad.contains k then none else sporeCopy (sporeWord s k)
  match c (2 * n), c (2 * n + 1) with
  | some a, some b => max a b
  | some a, none => a
  | none, some b => b
  | none, none => 0
/-- Table 14.5. -/
def sporeCounterWord (v n : Nat) (copy : Bool) : U64 :=
  BitVec.ofNat 64 (v + (2 ^ 24 - 1 - v) * 2 ^ 24 + n * 2 ^ 48 + (if copy then 2 ^ 52 else 0))
/-- R609, R616: primary word, then backup word; a spent counter refuses. -/
def bumpSpore (s : State) (n : Nat) : State :=
  let v := sporeCounter s n
  if v ≥ 0xFFFFFF then s
  else setSpore (setSpore s (2 * n) (sporeCounterWord (v + 1) n false)) (2 * n + 1) (sporeCounterWord (v + 1) n true)

/-! ### Interrupts -/

/-- Send an MSI-X message: the posted write of the table entry, or the pending bit while it is masked or the function may
not master the bus (Table 5.13, PCI Express; log entry 8). The mask is held inverted, so an untouched entry is masked. -/
def signal (s : State) (f : FnId) (v : Nat) : State :=
  let base := fnKey f (0x2000 + 16 * v)
  if bitOf (reg s (base + 12)) 0 && (fnOf s f).busMaster then
    hostWrite s f (reg s base + reg s (base + 4) * 2 ^ 32) (leBytes 4 (reg s (base + 8)))
  else s.onLink (fun l => { l with pba := SMap.set false l.pba (f.toNat * 64 + v) true })

/-- Set bits of an event register; a bit that goes from 0 to 1 and is let through raises vector 0 (R185). -/
def setEvents (s : State) (k : Nat) (f : FnId) (bits mask : Nat) : State :=
  let old := SMap.get 0 s.regs.events k
  let fresh := BitVec.ofNat 32 bits &&& ~~~old
  let s1 := s.onRegs (fun r => { r with events := SMap.set 0 r.events k (old ||| BitVec.ofNat 32 bits) })
  if fresh &&& BitVec.ofNat 32 mask != 0 then signal s1 f 0 else s1

/-- FN_EVENTS bit (Table 5.4), let through by FN_EVENT_MASK. -/
def fnEvent (s : State) (f : FnId) (bit : Nat) : State :=
  setEvents s (fnKey f 0x24) f (2 ^ bit) (reg s (fnKey f 0x28))
/-- The same bit on every enabled function and the PF. -/
def allFnEvent (s : State) (bit : Nat) : State :=
  (List.range 256).foldl
    (fun a n => if n == 0 || (fnOf s (BitVec.ofNat 8 n)).enabled then fnEvent a (BitVec.ofNat 8 n) bit else a) s
/-- GL_PWR_EVENTS bit (Table 2.7). -/
def pwrEvent (s : State) (bit : Nat) : State :=
  setEvents s (glKey 0x24) 0 (2 ^ bit) (if bitOf (reg s (glKey 0x58)) 0 then 0xFFFFFFFF else 0)
/-- GL_POOL_EVENTS bit (Table 5.10). -/
def poolEvent (s : State) (bit : Nat) : State :=
  setEvents s (glKey 0x54) 0 (2 ^ bit) (if bitOf (reg s (glKey 0x58)) 1 then 0xFFFFFFFF else 0)

/-! ### The evidence log (Tables 17.9 to 17.12) -/

/-- R748: 0 class C, 1 class T, 2 class N. -/
def logClass (type : Nat) : Nat :=
  if 0x0F01 ≤ type && type ≤ 0x0F0A then 1 else if type == 4 || type == 5 || type == 6 then 2 else 0

/-- Slots of the allocated region: 2048, and 1024 for each extension of 12 sectors. -/
def logSlots (s : State) : Nat := 2048 + 1024 * s.flash.extensions
/-- Free slots outside the tamper reserve (R749). -/
def logFree (s : State) : Nat := logSlots s - 64 - s.log.next

/-- An entry as this moment stamps it (Table 3.11 POWERED). -/
def note (s : State) (type source detail : Nat) : Note :=
  { epoch := bootEpoch s, seta := s.clocks.seta, kind := 0, type := type, source := source, detail := detail }

/-- Bytes 0 to 27 of an entry. -/
def noteBytes (seq : U32) (n : Note) : Bytes :=
  leBytes 4 seq.toNat ++ leBytes 4 n.epoch.toNat ++ leBytes 8 (n.seta % 2 ^ 56 + n.kind % 4 * 2 ^ 56) ++ leBytes 2 n.type ++
    leBytes 2 n.source ++ leBytes 8 n.detail

/-- The 48 bytes of an entry. -/
def entryBytes (seq : U32) (n : Note) (chain : Bytes) : Bytes := noteBytes seq n ++ chain ++ leBytes 4 0

/-- The log chain key, slot 1. -/
def chainKey (s : State) : Bytes := (SMap.get {} s.medulla.slots 1).key

/-- R753: count a type in the overflow words. -/
def overflowWord (w : U64) (type : Nat) : U64 :=
  let c := satAdd 0xFFFFFF (bitsOf w.toNat 16 24) 1
  BitVec.ofNat 64 (type + c * 2 ^ 16 + (2 ^ 24 - 1 - c) * 2 ^ 40)
def overflowPlace (s : State) (type : Nat) : Nat :=
  match (List.range 63).find? (fun i => bitsOf (sporeWord s (476 + i)).toNat 0 16 == type
      || bitsOf (sporeWord s (476 + i)).toNat 0 16 == 0) with
  | some i => 476 + i
  | none => 539
def countOverflow (s : State) (type : Nat) : State :=
  let w := overflowPlace s type
  setStatusBit (setSpore s w (overflowWord (sporeWord s w) (if w == 539 then 0xFFFF else type))) 2 true

/-- Place an entry in the next slot (R743 to R746): chained to the previous counting entry; a tamper-class entry counts in
Spore counter 8 (Table 15.2). -/
def writeEntry (s : State) (n : Note) : State :=
  let prev := if s.log.chain.isEmpty then List.replicate 16 0 else s.log.chain
  let ch := Config.cmac (chainKey s) (prev ++ noteBytes s.log.seq n)
  let s1 := s.onLog (fun l => { l with
    slots := SMap.set .erased l.slots l.next (.entry l.seq n ch), next := l.next + 1, seq := l.seq + 1, chain := ch,
    toMirror := l.toMirror ++ [l.next], writing := some 0 })
  if logClass n.type == 1 then bumpSpore s1 8 else s1

/-- Slots open to a type (R748, R749). -/
def logRoom (s : State) (type : Nat) : Nat := if logClass type == 1 then logSlots s else logSlots s - 64
/-- Append without raising anything: held in last gasp (R894), staged until slot 1 exists (R153, R731), counted when slot 1
cannot be derived (R766) or no slot is free for its class (R749, R751, R752). -/
def logPlace (s : State) (n : Note) : State :=
  let cls := logClass n.type
  if s.log.gasping && cls != 1 then s.onLog (fun l => { l with held := l.held ++ [n] })
  else if s.log.noChain then (if cls == 2 then s else countOverflow s n.type)
  else if !s.log.chained then s.onLog (fun l => { l with staged := l.staged ++ [n] })
  else if s.log.next < logRoom s n.type then writeEntry s n
  else if cls == 2 then s else countOverflow s n.type

/-! ### Hypha -/

/-- The four route bytes of a task: source and enable (Table 5.2). Those of T00 to T47 are Xemberon's own (R113). -/
def routeBytes (s : State) (t : Nat) : List Nat :=
  (leBytes 4 (if t < 48 then (SMap.get 0 s.clocks.xemRoutes t).toNat else reg s (glKey (0x1000 + 4 * t)))).map (·.toNat)
/-- How many of a list of sources a task's enabled inputs take (R113). -/
def taskHits (s : State) (t : Nat) (srcs : List Nat) : Nat :=
  (srcs.filter (fun e => (routeBytes s t).contains (e + 128))).length
def taskOf (s : State) (t : Nat) : Task := SMap.get {} s.clocks.tasks t
def onTask (s : State) (t : Nat) (h : Task → Task) : State :=
  s.onClocks (fun c => { c with tasks := SMap.mod {} c.tasks t h })

/-- R116 to R118: `k` events reach a task input in one cycle; `lasting` tasks stay running (T00 to T55). -/
def Task.reach (x : Task) (k : Nat) (lasting : Bool) : Task × Bool :=
  if k == 0 then (x, false)
  else if x.running && x.pending then ({ x with merged := satAdd 0xFF x.merged k }, false)
  else if x.running then ({ x with pending := true, merged := satAdd 0xFF x.merged (k - 1) }, false)
  else ({ x with running := lasting, fired := x.fired + 1, merged := satAdd 0xFF x.merged (k - 1) }, true)

/-- The execution unit that contains a core (R824). -/
def unitOfCore (s : State) (core : Nat) : Nat := if s.pinnas.split then core else core / 2

/-- Wake a unit from SLEEP: the cycles it slept, which the manual ties to no count of Seta, and 2 (Table 19.6, log entry 2). -/
def awaken (s : State) (u : Nat) (h : Pinna → Pinna) : State :=
  let (v, s1) := takeFree s
  onPinnaNat s1 u (fun p => h { p with asleep := false, cycle := p.cycle + 2 + v.setWidth 32 })

/-- A wake task reaches a unit (R825): false where the unit holds no invocation, so that the task stops at once. -/
def wakeUnit (s : State) (u : Nat) : State × Bool :=
  let p := SMap.get {} s.pinnas.units u
  if p.inv.isNone then (s, false)
  else if p.asleep then (awaken s u (fun p => { p with wokeTask := true }), true)
  else (onPinnaNat s u (fun p => { p with wakePending := true }), true)

/-- What a fired task does (Table 3.8). `src` is the first source that reached it; `put` places a log entry. -/
def taskAction (put : State → Note → State) (s : State) (t src : Nat) : State :=
  if t < 48 then s
  else if t < 56 then
    let (s1, held) := wakeUnit s (unitOfCore s (t - 48))
    if held then s1 else onTask s1 t (fun x => { x with running := false })
  else if t < 64 then
    s.onClocks (fun c =>
      { c with captures := SMap.set {} c.captures (t - 56) { epoch := bootEpoch s, seta := c.seta } })
  else if t < 72 then
    let (v, s1) := takeFree s
    let bit : Byte := 1 <<< (t - 64)
    s1.onClocks (fun c => { c with gpioOut := (c.gpioOut &&& ~~~bit) ||| (if v.getLsbD 0 then bit else 0) })
  else if t < 88 then signal s 0 (t - 24)
  else put s (note s Entry.eventNote (Src.task t) (src + t * 2 ^ 8))

/-- R52, Table 2.14: a source ends DOZE; a GPIO edge only where CG_GPIO enables the pin's wake. -/
def wakeClass (s : State) (e : Nat) : Bool :=
  (30 ≤ e && e ≤ 45) || (48 ≤ e && e ≤ 55 && bitOf (reg s (glKey (0x200 + (e - 48) / 4 * 4))) (8 * ((e - 48) % 4) + 5)) ||
    (56 ≤ e && e ≤ 63) || (80 ≤ e && e ≤ 85) || e == 88 || e == 89 || (90 ≤ e && e ≤ 92) || e == 94
/-- A wake from DOZE (R51): the state it left; the next epoch boundary starts the rising transition and switches the domains on (R45,
R48). -/
def dozeWake (s : State) : State :=
  if s.power.state != .doze then s
  else s.onPower (fun p => { p with state := p.dozeFrom, waking := true, idleSince := s.clocks.seta })

/-- Events reach the task inputs in one Hypha cycle (R113, R115 to R118). -/
def reachTasks (put : State → Note → State) (s : State) (srcs : List Nat) : State :=
  (List.range 96).foldl (fun a t =>
    let k := taskHits s t srcs
    let (x, fired) := (taskOf a t).reach k (decide (t < 56))
    if k == 0 then a
    else
      let a1 := onTask a t (fun _ => x)
      if fired then taskAction put a1 t ((srcs.find? (fun e => (routeBytes s t).contains (e + 128))).getD 0) else a1) s
/-- Events reach Hypha; one of the wake class ends DOZE (R52). -/
def raiseWith (put : State → Note → State) (s : State) (srcs : List Nat) : State :=
  let s1 := reachTasks put s srcs
  if srcs.any (wakeClass s1) then dozeWake s1 else s1

/-- R750, R751: E091 and LOG_NEAR_FULL once per fall to 256; E092 once when no slot is free. -/
def logLevels (raise : State → List Nat → State) (s : State) : State :=
  let s1 :=
    if s.log.chained && logFree s ≤ 256 && !s.log.nearFull then
      logPlace (raise (s.onLog (fun l => { l with nearFull := true })) [91]) (note s Entry.logNearFull Src.xemberon (logFree s))
    else s
  if s1.log.chained && logFree s1 == 0 && !s1.log.fullRaised then
    raise (s1.onLog (fun l => { l with fullRaised := true })) [92]
  else s1

/-- Append an entry, with what its appending raises. -/
def appendNote (s : State) (n : Note) : State := logLevels (raiseWith logPlace) (logPlace s n)
/-- Append an entry stamped now. -/
def append (s : State) (type source detail : Nat) : State := appendNote s (note s type source detail)
/-- Raise Hypha sources. -/
def raise (s : State) (srcs : List Nat) : State := raiseWith appendNote s srcs

/-! ### Flash and Lichen steps of Xemberon's own -/

/-- The owner of a counter as the log names it. -/
def counterOwner (s : State) (c : Nat) : Nat := SMap.get 0 s.counters.owner c - 1

/-- R614: the increment that makes a counter spent raises E090 and appends COUNTER_SPENT. -/
def afterIncrement (s : State) (c : Nat) : State :=
  if counterSpent s.counters c && !s.counters.spentLogged.contains c then
    let s1 := s.onCounters (fun k => { k with spentLogged := c :: k.spentLogged })
    append (raise s1 [90]) Entry.counterSpent Src.xemberon (c + counterOwner s c * 2 ^ 16 + counterValue s.counters c * 2 ^ 32)
  else s

/-! ### Completions -/

/-- Byte `k` of PARAMS, and little-endian fields. -/
def param (c : Cmd) (k n : Nat) : Nat := bitsOf c.params.toNat (8 * k) (8 * n)
def paramBytes (c : Cmd) (k n : Nat) : Bytes := leBytes n (param c k n)

/-- The 64 bytes of a submission entry (Table 6.2). -/
def entryOf (op : Nat) (c : Cmd) : Bytes :=
  leBytes 2 op ++ leBytes 2 c.tag.toNat ++ [c.flags, c.format] ++ leBytes 2 c.rsv.toNat ++ leBytes 56 c.params.toNat

/-- The completion entry (Table 6.3). -/
def completionOf (c : Cmd) (r : Reply) (sqHead flags : Nat) (phase : Bool) : Bytes :=
  leBytes 2 c.tag.toNat ++ leBytes 2 r.status ++ leBytes 8 r.detail ++ leBytes 4 r.res0 ++ leBytes 4 r.res1 ++
    leBytes 4 r.res2 ++ leBytes 4 r.res3 ++ leBytes 2 sqHead ++ [BitVec.ofNat 8 flags] ++
    [BitVec.ofNat 8 ((if phase then 1 else 0) + 2 * c.q.toNat)]

/-- Start of the replay area (Table 6.1). -/
def replayBase (p : Pair) : Nat := (p.cqBase + 32 * p.depth + 4095) / 4096 * 4096

/-- The replay key of a pair (R345, R889). -/
def replayKey (s : State) (f : FnId) (q : PairId) : Bytes :=
  let label : Bytes := [0x52, 0x45, 0x50, 0x4C, 0x41, 0x59]
  let fixed := label ++ [0] ++ beBytes 1 f.toNat ++ beBytes 1 q.toNat ++ beBytes 4 256
  Config.cmac (fnOf s f).ctxKey (beBytes 4 1 ++ fixed) ++ Config.cmac (fnOf s f).ctxKey (beBytes 4 2 ++ fixed)

/-- Commands Table 7.2 marks idempotent; the two cipher commands are not when the device draws the IV. -/
def idempotent (op : Nat) (c : Cmd) : Bool :=
  if op == 0x0301 || op == 0x0302 then !bitOf (param c 3 1) 1
  else [0x0001, 0x0002, 0x0003, 0x0015, 0x0018, 0x0104, 0x0105, 0x0205, 0x0207, 0x0303, 0x0304, 0x0305, 0x0306, 0x0402, 0x0404,
    0x0405, 0x0406, 0x040C, 0x0501, 0x0502, 0x0503, 0x0603, 0x0605, 0x0702, 0x0704, 0x0801, 0x0803, 0x0804, 0x0901, 0x0905,
    0x0A02, 0x0A03, 0x0A05, 0x0B01, 0x0B02, 0x0B03, 0x0B05, 0x0C04, 0x0D01].contains op

/-- R244: write the replay record of a completion, displacing the oldest. -/
def recordReplay (s : State) (op : Nat) (c : Cmd) (done : Bytes) : State :=
  let p := pairOf s c.fn c.q
  let unphased := done.take 31 ++ [(done.getD 31 0) &&& 0xFE]
  let body := unphased ++ Config.bytes 32 (Config.replayPrivateByte (replayKey s c.fn c.q) (entryOf op c) unphased)
  let s1 := hostWrite s c.fn (replayBase p + 64 * p.nextRec) body
  onPair s1 c.fn c.q (fun p => { p with
    window := p.window.filter (fun r => r.place != p.nextRec && r.cmd.tag != c.tag) ++
      [{ op := op, cmd := c, place := p.nextRec, record := body }],
    nextRec := (p.nextRec + 1) % 256 })

/-- R186, R187: signal now, or gather. CG_IMOD COUNT and TIME. -/
def signalCompletion (s : State) (f : FnId) (q : PairId) : State :=
  let p := pairOf s f q
  let imod := reg s (fnKey f 0x180)
  let count := bitsOf imod 0 8
  let time := bitsOf imod 8 10
  let n := p.unsignalled + 1
  if p.cls == 0 || (count == 0 && time == 0) || (count != 0 && n ≥ count) then
    signal (onPair s f q (fun p => { p with unsignalled := 0 })) f p.vector
  else onPair s f q (fun p => { p with
    unsignalled := n, oldest := if p.unsignalled == 0 then s.clocks.seta else p.oldest })

/-- R232, R233: write one completion entry at the CQ tail and advance it. -/
def writeCompletion (s : State) (c : Cmd) (done : Bytes) : State :=
  let p := pairOf s c.fn c.q
  let s1 := hostWrite s c.fn (p.cqBase + 32 * p.cqTail) done
  let wraps := p.cqTail + 1 == p.depth
  onPair s1 c.fn c.q (fun p => { p with
    cqTail := if wraps then 0 else p.cqTail + 1, phase := if wraps then !p.phase else p.phase })

/-- R219: a pair that becomes ACTIVE. -/
def openPair (s : State) (f : FnId) (q : PairId) : State :=
  let b := fnKey f (0x100 + 0x20 * q.toNat)
  let cfg := reg s (b + 0x10)
  onPair s f q (fun _ => {
    active := true, sqBase := reg s b + reg s (b + 4) * 2 ^ 32, cqBase := reg s (b + 8) + reg s (b + 12) * 2 ^ 32,
    depth := bitsOf cfg 0 13, cls := bitsOf cfg 13 2, vector := bitsOf cfg 16 6 })

/-- ACTIVE of a pair (R220). -/
def pairServed (p : Pair) : Bool := p.active || p.draining
/-- R183: another pair of the function that reads ACTIVE serves the class. -/
def classTaken (s : State) (f : FnId) (q : PairId) (cls : Nat) : Bool :=
  (List.range 4).any (fun i => i != q.toNat && pairServed (pairOf s f (BitVec.ofNat 2 i)) && (pairOf s f (BitVec.ofNat 2 i)).cls == cls)
/-- CONFLICT and QUEUE_CONFLICT (R183). -/
def conflict (s : State) (f : FnId) (q : PairId) : State := fnEvent (onPair s f q (fun p => { p with conflict := true })) f 5

/-- R220, R222, R224: a draining pair with nothing left to post becomes inactive, or is enabled again unless its class is taken (R183). -/
def drained (s : State) (f : FnId) (q : PairId) : State :=
  let p := pairOf s f q
  if p.draining && s.jobs.all (fun j => !(j.cmd.fn == f && j.cmd.q == q && j.cmd.issuer == .host)) then
    let s1 := onPair s f q (fun p => { conflict := p.conflict })
    if !p.reopen then s1
    else if classTaken s1 f q (bitsOf (reg s (fnKey f (0x110 + 0x20 * q.toNat))) 13 2) then conflict s1 f q
    else openPair s1 f q
  else s

/-- R844, R846: an invocation gives up its unit; the save slot holds the DTCM, the unit's state and its DRBG instance, and the unit is
cleared of them. -/
def suspendUnit (s : State) (u : Fin 8) : State :=
  let p := pinnaOf s u
  match p.inv with
  | none => s
  | some i =>
    let kept : Pinna := { p with
      inv := some { i with usedTicks := i.usedTicks + (s.clocks.seta - i.since) }, suspendDue := false, drbg := SMap.get {} s.entropy.insts (instKey (.inv u)) }
    let s1 := s.onPinnas (fun x => { x with saved := x.saved ++ [(u.val, kept)] })
    let s2 := (onPinna s1 u (fun p => { itcm := p.itcm, image := p.image })).onEntropy (fun e => { e with insts := SMap.set {} e.insts (instKey (.inv u)) {} })
    s2.onJobs (·.map (fun j =>
      if j.op == 0x0C03 && j.cmd.fn == i.fn && j.cmd.q == i.q && j.cmd.tag == i.tag && j.cmd.issuer == .host then { j with stage := .preempted (.pinna u) } else j))

/-- What COMMAND returns (Table 19.9). -/
def Pinna.commandReturns (p : Pinna) (r : Reply) (rerun : Bool) : Pinna :=
  { p with
    g := [(1, r.status), (2, r.res0), (3, r.res1), (4, r.res2), (5, r.res3), (6, r.detail), (7, r.detail / 2 ^ 32)].foldl
      (fun m e => SMap.set 0 m e.1 (BitVec.ofNat 32 e.2)) p.g
    sysStatus := BitVec.ofNat 16 r.status, sysRerun := rerun, blocked := false }

/-- The invocation of a function and pair waits in COMMAND. -/
def Pinna.awaits (p : Pinna) (c : Cmd) : Bool := p.blocked && p.inv.any (fun i => i.fn == c.fn && i.q == c.q)
/-- Give an applet the outcome of its command: on its unit, where a suspension that waited for it follows (R844), or in its save slot. -/
def postApplet (s : State) (c : Cmd) (u : Fin 8) (r : Reply) (rerun : Bool) : State :=
  if (pinnaOf s u).awaits c then
    let s1 := onPinna s u (fun p => p.commandReturns r rerun)
    if (pinnaOf s u).suspendDue then suspendUnit s1 u else s1
  else s.onPinnas (fun x => { x with saved := x.saved.map (fun e => if e.1 == u.val && e.2.awaits c then (e.1, e.2.commandReturns r rerun) else e) })

/-- A completion entry in the pair's queue, its effect on FAIL_STOP, its signal (R232 to R235). `own` says that it is the completion of the
entry's command itself, and no copy of one and no answer about another: that of a fenced command starts the count of R239 anew. Nothing is
posted for a function under reset or a pair that does not read ACTIVE (R196, R234), and what queue memory cannot take is lost (R257). -/
def deliver (s : State) (c : Cmd) (done : Bytes) (st : Nat) (own : Bool) : State :=
  let p := pairOf s c.fn c.q
  if (fnOf s c.fn).resetting || !pairServed p then s
  else if p.lost then drained s c.fn c.q
  else
    let s1 := writeCompletion s c done
    let s2 := onPair s1 c.fn c.q (fun p => { p with failed := !(own && bitOf c.flags.toNat 0) && (p.failed || st != 0) })
    drained (signalCompletion s2 c.fn c.q) c.fn c.q

/-- Whether the completion of an opcode leaves a replay record: `known` says that Table 7.2 defines it (R242, R244). -/
def recorded (known : Bool) (op : Nat) (c : Cmd) : Bool := known && !idempotent op c

/-- A job that has ended and holds nothing any more. -/
def Job.ended (j : Job) (r : Reply) : Job :=
  { j with stage := .done, outcome := some r, twin := none, borrowed := none, granules := [], reserved := false, tags := 0, segs := [], copies := [], paidTo := none, lattice := .idle }
/-- Post the completion of a command in flight: replay record, entry, signal; the tag leaves the in-flight set in the same
step (Table 6.6 row 1). While Bus Master Enable is 0 the job holds at this write (R211). -/
def post (s : State) (j : Job) (r : Reply) : State :=
  let c := j.cmd
  let s0 := dropJob s c
  match c.issuer with
  | .applet u => postApplet s0 c u r j.rerun
  | .host =>
    let p := pairOf s c.fn c.q
    let flags := (if j.rerun then 1 else 0) + (if j.fenceWaited then 4 else 0)
    let done := completionOf c r p.sqHead flags p.phase
    if (fnOf s c.fn).resetting || !pairServed p then s0
    else if !(fnOf s c.fn).busMaster then onJob s c (fun x => x.ended r)
    else deliver (if idempotent j.op c || p.lost then s0 else recordReplay s0 j.op c done) c done r.status true

end Sys2Proof.Machine
end

