-- ==== Sys2Proof/Machine/Checks.lean ====
section
/-! DEFINITION. The catalogue of Table 7.2 and the checks every command passes before it runs (Tables 7.3 and 7.4), the order
of starts (R236 to R240), protocol violations (R254 to R256), and the frame `xci` in which every command's own meaning runs. -/

namespace Sys2Proof.Machine

/-! ### Status codes (Table 6.5) -/

def Status.badDescriptor : Nat := 0x0001
def Status.unknownOpcode : Nat := 0x0002
def Status.badParameter : Nat := 0x0003
def Status.notPermitted : Nat := 0x0004
def Status.tenantAbsent : Nat := 0x0005
def Status.quarantined : Nat := 0x0006
def Status.tagInUse : Nat := 0x0007
def Status.inProgress : Nat := 0x0008
def Status.replayLost : Nat := 0x0009
def Status.fenceFailed : Nat := 0x000A
def Status.dmaError : Nat := 0x000B
def Status.tamperAbort : Nat := 0x000C
def Status.suspended : Nat := 0x000D
def Status.serviceLimited : Nat := 0x000E
def Status.notIdle : Nat := 0x000F
def Status.exhausted : Nat := 0x0010
def Status.noUnit : Nat := 0x0011
def Status.keyEmpty : Nat := 0x0201
def Status.keyUsage : Nat := 0x0202
def Status.keyNotOwned : Nat := 0x0203
def Status.allotmentFull : Nat := 0x0204
def Status.unwrapFailed : Nat := 0x0205
def Status.keyUnusable : Nat := 0x0206
def Status.authFailed : Nat := 0x0301
def Status.tooLongForHold : Nat := 0x0302
def Status.contextStale : Nat := 0x0303
def Status.contextBad : Nat := 0x0304
def Status.contextMustWrap : Nat := 0x0305
def Status.lengthInvalid : Nat := 0x0306
def Status.padInvalid : Nat := 0x0307
def Status.signatureInvalid : Nat := 0x0401
def Status.pointInvalid : Nat := 0x0402
def Status.operandRange : Nat := 0x0403
def Status.ringUnsupported : Nat := 0x0501
def Status.shareIncomplete : Nat := 0x0502
def Status.scratchFull : Nat := 0x0503
def Status.kskAuthFailed : Nat := 0x0504
def Status.entropyUnavailable : Nat := 0x0601
def Status.counterSpent : Nat := 0x0701
def Status.counterNotOwned : Nat := 0x0702
def Status.counterPoolEmpty : Nat := 0x0703
def Status.logFull : Nat := 0x0801
def Status.logRange : Nat := 0x0802
def Status.poolState : Nat := 0x0901
def Status.poolMinimum : Nat := 0x0902
def Status.wornBlock : Nat := 0x0A01
def Status.belowFloor : Nat := 0x0A02
def Status.floorSpent : Nat := 0x0A03
def Status.updateActive : Nat := 0x0A04
def Status.manifestBad : Nat := 0x0A05
def Status.notEnrolled : Nat := 0x0A06
def Status.flashFailed : Nat := 0x0A07
def Status.noCard : Nat := 0x0B01
def Status.cardTimeout : Nat := 0x0B02
def Status.cardProtocol : Nat := 0x0B03
def Status.readerOff : Nat := 0x0B04
def Status.appletSignature : Nat := 0x0C01
def Status.appletTooLarge : Nat := 0x0C02
def Status.appletLimit : Nat := 0x0C03
def Status.appletFault : Nat := 0x0C04
def Status.appletAbsent : Nat := 0x0C05
def Status.selfTestFailed : Nat := 0x0D01
def Status.testLocked : Nat := 0x0D02

/-- BAD_PARAMETER naming a byte of PARAMS (R304). -/
def bad (off : Nat) : Reply := { status := Status.badParameter, detail := off }
/-- A status with no detail. -/
def fail (st : Nat) : Reply := { status := st }
/-- RESOURCE_EXHAUSTED naming the resource. -/
def exhausted (d : Nat) : Reply := { status := Status.exhausted, detail := d }

/-! ### The catalogue (Table 7.2) -/

/-- Opcodes marked A. -/
def appletOps : List Nat :=
  [0x0201, 0x0203, 0x0204, 0x0205, 0x0301, 0x0302, 0x0303, 0x0304, 0x0305, 0x0306, 0x0401, 0x0402, 0x0403, 0x0404, 0x0405,
   0x0406, 0x0407, 0x0408, 0x0409, 0x040A, 0x040B, 0x040C, 0x0601, 0x0602, 0x0603, 0x0702, 0x0703, 0x0801, 0x0807]
/-- Opcodes marked T. -/
def tenantOps : List Nat :=
  appletOps ++ [0x0001, 0x0002, 0x0003, 0x0104, 0x0202, 0x0206, 0x0207, 0x0501, 0x0502, 0x0503, 0x0504, 0x0505, 0x0506,
    0x0507, 0x0508, 0x0509, 0x0701, 0x0704, 0x0C01, 0x0C02, 0x0C03, 0x0C04, 0x0D01]
/-- Opcodes marked C alone. -/
def custodianOps : List Nat :=
  [0x0010, 0x0011, 0x0012, 0x0013, 0x0014, 0x0015, 0x0016, 0x0017, 0x0018, 0x0019, 0x0101, 0x0102, 0x0103, 0x0105, 0x0604,
   0x0605, 0x0802, 0x0803, 0x0804, 0x0805, 0x0806, 0x0901, 0x0902, 0x0903, 0x0904, 0x0905, 0x0906, 0x0907, 0x0908, 0x0A01,
   0x0A02, 0x0A03, 0x0A04, 0x0A05, 0x0A06, 0x0B01, 0x0B02, 0x0B03, 0x0B04, 0x0B05, 0x0C05, 0x0D02, 0x0D03]
/-- R262: the opcode is defined. -/
def knownOp (op : Nat) : Bool := tenantOps.contains op || custodianOps.contains op

/-- Check 8 of Table 7.3. -/
def mayIssue (op : Nat) (c : Cmd) : Bool :=
  match c.issuer with
  | .applet _ => appletOps.contains op
  | .host => tenantOps.contains op || (c.fn == 0 && custodianOps.contains op)

/-- The opcode and the command of a 64-byte submission entry (Table 6.2). -/
def parseEntry (f : FnId) (q : PairId) (i : Issuer) (b : Bytes) : Nat × Cmd :=
  let x := fun k n => leNat ((b.drop k).take n)
  (x 0 2, { fn := f, q := q, issuer := i, tag := BitVec.ofNat 16 (x 2 2), flags := BitVec.ofNat 8 (x 4 1), format := BitVec.ofNat 8 (x 5 1), rsv := BitVec.ofNat 16 (x 6 2), params := BitVec.ofNat 448 (x 8 56) })

/-- Bytes of PARAMS each layout names: offset and size (R266). -/
def namedBytes (op : Nat) : List (Nat × Nat) :=
  if op == 0x0001 then [(0, 8)] else if op == 0x0002 then [(0, 1)]
  else if op == 0x0010 || op == 0x0011 || op == 0x0014 then [(0, 2)]
  else if op == 0x0012 || op == 0x0013 then [(0, 10)] else if op == 0x0015 then [(0, 3)]
  else if op == 0x0016 then [(0, 2), (8, 48)] else if op == 0x0017 then [(0, 3), (8, 48)]
  else if op == 0x0018 then [(0, 4)] else if op == 0x0019 then [(0, 1)]
  else if op == 0x0101 then [(0, 1), (2, 2), (4, 2), (6, 1), (8, 4), (16, 16)]
  else if op == 0x0102 then [(0, 1), (4, 2)] else if op == 0x0103 then [(0, 1), (8, 4)]
  else if op == 0x0104 || op == 0x0105 then [(0, 1)]
  else if op == 0x0201 then [(0, 2), (8, 9)] else if op == 0x0202 then [(0, 4), (8, 9)]
  else if op == 0x0203 then [(0, 4), (8, 40)] else if op == 0x0204 || op == 0x0206 then [(0, 2)]
  else if op == 0x0205 || op == 0x0207 then [(0, 4), (8, 8)]
  else if 0x0301 ≤ op && op ≤ 0x0304 then [(0, 7), (8, 48)] else if op == 0x0305 || op == 0x0306 then [(8, 16)]
  else if 0x0401 ≤ op && op ≤ 0x040C then [(0, 56)]
  else if op == 0x0501 then [(0, 20), (24, 16)] else if op == 0x0502 then [(0, 48)] else if op == 0x0503 then [(0, 34)]
  else if op == 0x0504 then [(0, 40)] else if op == 0x0505 then [(0, 5), (6, 12)] else if op == 0x0506 then [(0, 5), (6, 46)]
  else if op == 0x0507 || op == 0x0509 then [(0, 4)] else if op == 0x0508 then [(0, 5), (6, 10)]
  else if op == 0x0601 then [(0, 13), (16, 32)] else if op == 0x0602 then [(0, 1), (8, 32)]
  else if op == 0x0604 then [(0, 1), (8, 8)] else if op == 0x0605 then [(0, 1), (8, 12)]
  else if op == 0x0701 || op == 0x0703 then [(0, 2)] else if op == 0x0702 then [(0, 3)] else if op == 0x0704 then [(0, 2)]
  else if op == 0x0802 || op == 0x0807 then [(0, 8)] else if op == 0x0804 then [(0, 6), (8, 8)]
  else if op == 0x0805 then [(0, 36)] else if op == 0x0806 || op == 0x0901 then [(0, 1)]
  else if op == 0x0902 || op == 0x0903 then [(0, 2)] else if op == 0x0904 then [(0, 5)] else if op == 0x0906 then [(0, 8)]
  else if op == 0x0907 then [(0, 4)] else if op == 0x0908 then [(0, 2)]
  else if op == 0x0A01 then [(0, 9), (10, 2)] else if op == 0x0A03 then [(0, 2)] else if op == 0x0A04 then [(0, 9), (12, 6)]
  else if op == 0x0A05 then [(0, 1), (2, 2)] else if op == 0x0A06 then [(0, 4)]
  else if op == 0x0B01 then [(0, 3), (4, 2), (8, 8)] else if op == 0x0B02 then [(8, 10), (24, 10)]
  else if op == 0x0B04 then [(0, 1), (4, 12)] else if op == 0x0B05 then [(0, 1), (8, 8)]
  else if op == 0x0C01 then [(0, 14)] else if op == 0x0C02 then [(0, 1)] else if op == 0x0C03 then [(0, 1), (2, 18), (24, 16)]
  else if op == 0x0C04 then [(0, 1), (8, 8)] else if op == 0x0C05 then [(0, 1), (2, 2)]
  else if op == 0x0D02 then [(0, 2)] else if op == 0x0D03 then [(0, 1)] else []

/-- R266: the reserved PARAMS bytes are zero. -/
def reservedZero (op : Nat) (c : Cmd) : Bool :=
  (List.range 56).all (fun k => (namedBytes op).any (fun r => r.1 ≤ k && k < r.1 + r.2) || param c k 1 == 0)

/-- Check 2 of Table 7.3 (R240, Table 6.2); reserved PARAMS bytes only where the opcode has a layout. -/
def malformed (op : Nat) (c : Cmd) : Bool :=
  c.format != 1 || c.rsv != 0 || c.flags.toNat ≥ 4 || c.flags == 2 || (knownOp op && !reservedZero op c)

/-- Commands that run on fronds, on Calyptra units, on Sorus slices. -/
def isFrondOp (op : Nat) : Bool := 0x0301 ≤ op && op ≤ 0x0304
def isCalyptraOp (op : Nat) : Bool := 0x0401 ≤ op && op ≤ 0x040C
def isSliceOp (op : Nat) : Bool := [0x0501, 0x0502, 0x0503, 0x0504, 0x0506, 0x0507, 0x0508].contains op
/-- Commands that start when they are dispatched to an engine; the others start when they are admitted. -/
def engineOp (op : Nat) : Bool := isFrondOp op || isCalyptraOp op || isSliceOp op || op == 0x0C01 || op == 0x0C03

/-! ### Device state (Table 7.4) -/

/-- The range of an opcode. -/
def range (op : Nat) : Nat := op / 256

/-- Check 5: SERVICE_LIMITED in EPOCH_SPENT (R174) and while Crozier is at work (R693). -/
def stateServes (s : State) (op : Nat) (f : FnId) : Bool :=
  match s.boot.state with
  | .epochSpent => f == 0 && [0x00, 0x08, 0x0D].contains (range op)
  | .updating => f == 0 && [0x00, 0x08, 0x0A, 0x0D].contains (range op)
  | _ => true

/-- Check 6: suspended by a level 2 response (R727). -/
def isSuspended (s : State) (op : Nat) (f : FnId) : Bool :=
  s.tamper.suspended != 0 && (f != 0 || !([0x00, 0x08, 0x09, 0x0D].contains (range op)))

/-- Function 0 is always assigned (R190). -/
def isAssigned (s : State) (f : FnId) : Bool := f == 0 || (fnOf s f).assigned

/-- Checks 5 to 8: the status of the first that fails. -/
def lateChecks (s : State) (op : Nat) (c : Cmd) : Option Nat :=
  if !stateServes s op c.fn then some Status.serviceLimited
  else if isSuspended s op c.fn then some Status.suspended
  else if !isAssigned s c.fn && range op != 0 then some Status.tenantAbsent
  else if !mayIssue op c then some Status.notPermitted
  else none

/-! ### Violations and quarantine -/

/-- Violations in the current and the previous nine intervals (R254). -/
def violationCount (x : Fn) : Nat := x.violations.sum

/-- R255: quarantine a function for 100 ms. -/
def startQuarantine (s : State) (f : FnId) : State :=
  let n := violationCount (fnOf s f)
  let s1 := onFn s f (fun x => { x with
    quarantined := true, quarantineRuns := x.quarantineRuns + 1, quarUntil := s.clocks.seta + 10000000, violations := [] })
  append (raise (fnEvent s1 f 0) [86]) Entry.quarantine Src.xemberon
    (f.toNat + min 255 n * 2 ^ 8 + min 255 ((fnOf s1 f).quarantineRuns) * 2 ^ 16)

/-- Count one violation of a function (Table 6.7); above 64 it is quarantined. -/
def violate (s : State) (f : FnId) : State :=
  let s1 := onFn s f (fun x => { x with violations := match x.violations with | [] => [1] | v :: r => (v + 1) :: r })
  if violationCount (fnOf s1 f) > 64 && !(fnOf s1 f).quarantined then startQuarantine s1 f else s1

/-! ### Starting a command -/

/-- What admission answers: the command waits, is refused with a completion, or starts. -/
inductive Admit where
  | wait (s : State)
  | deny (j : Job) (r : Reply)
  | go (j : Job)
  deriving DecidableEq, Repr

/-- Commands of the pair fetched before this one and still in flight. -/
def earlier (s : State) (c : Cmd) : List Job :=
  (s.jobs.takeWhile (fun j => !j.isFor c)).filter (fun j => j.cmd.fn == c.fn && j.cmd.q == c.q && j.cmd.issuer == c.issuer)

/-- The class a command is scheduled at: its pair's (R259), or its invocation's. -/
def classOf (s : State) (c : Cmd) : Nat :=
  match c.issuer with
  | .host => (pairOf s c.fn c.q).cls
  | .applet u =>
    match ((pinnaOf s u) :: (s.pinnas.saved.filter (·.1 == u.val)).map (·.2)).find? (·.awaits c) with
    | some p => (p.inv.map (·.cls)).getD 3
    | none => 3

/-- R65 to R68: what SAFE_HOLD serves: management ranges, and URGENT work of the units that stay on. -/
def safeHoldServes (s : State) (op : Nat) (c : Cmd) : Bool :=
  [0x00, 0x08, 0x09, 0x0D].contains (range op) ||
    (classOf s c == 0 && !([0x05, 0x0B, 0x0C].contains (range op)))

/-- Conditions under which a fetched command stays unstarted: no command runs before READY, in last gasp or for a function
under reset; a host command needs Bus Master Enable (R211) and is held by R67. -/
def holdsBack (s : State) (op : Nat) (c : Cmd) : Bool :=
  !running s || s.power.quiesced || s.power.state == .doze || s.power.state == .hibernate || (fnOf s c.fn).resetting ||
    (c.issuer == .host && !(fnOf s c.fn).busMaster) || (s.power.safeHold.isSome && !safeHoldServes s op c)

/-- R236, R238: order of starts in a pair. -/
def orderHolds (s : State) (c : Cmd) : Bool := (earlier s c).any (fun j => !j.begun)
def fenceHolds (s : State) (c : Cmd) : Bool :=
  (bitOf c.flags.toNat 0 && !(earlier s c).isEmpty) || (earlier s c).any (fun j => bitOf j.cmd.flags.toNat 0)

/-- Whether and how a fetched command starts. -/
def admission (op : Nat) (c : Cmd) (s : State) : Admit :=
  match s.jobs.find? (fun j => j.op == op && j.cmd == c && j.stage == .fetched) with
  | none => .wait s
  | some j =>
    if holdsBack s op c then .wait s
    else if fenceHolds s c then .wait (onJob s c (fun j => { j with fenceWaited := true }))
    else if orderHolds s c then .wait s
    else match lateChecks s op c with
      | some st => .deny j (fail st)
      | none =>
        if bitOf c.flags.toNat 1 && (pairOf s c.fn c.q).failed then .deny j (fail Status.fenceFailed)
        else .go { j with stage := .waiting, startedAt := s.clocks.seta, begun := j.begun || !engineOp op }

/-- Run a command's own checks and effect in the frame of Table 7.3: `body` answers the new state and, when the command
completes at once, its completion. -/
def xci (op : Nat) (c : Cmd) (s : State) (body : State → Job → State × Option Reply) : Host.Outcome State Fault Refusal :=
  match admission op c s with
  | .wait s' => .next s'
  | .deny j r => .next (post s j r)
  | .go j =>
    match body (onJob s c (fun _ => j)) j with
    | (s2, some r) => .next (post s2 j r)
    | (s2, none) => .next s2

/-! ### Buffers (R268, R829) -/

/-- R829: an applet address inside a region the device may read or write for it. -/
def appletBufOk (s : State) (u : Fin 8) (a n : Nat) (write : Bool) : Bool :=
  match (pinnaOf s u).inv with
  | none => false
  | some i =>
    (0x10000000 ≤ a && a + n ≤ 0x10000000 + i.dataLen) ||
    (0x10010000 - i.stackLen ≤ a && a + n ≤ 0x10010000) ||
    (!write && 0x40000000 ≤ a && a + n ≤ 0x40000000 + i.inLen)

/-- Whether a buffer address is refused: unaligned from host software (R268), outside the regions from an applet (R829). -/
def bufBad (s : State) (c : Cmd) (a n : Nat) (write : Bool) : Bool :=
  match c.issuer with
  | .host => a % 8 != 0
  | .applet u => !appletBufOk s u a n write

/-- A write of the device's own to a function's memory: it waits for Bus Master Enable (R211). -/
def dmaWrite (s : State) (f : FnId) (a : Nat) (bs : Bytes) : State :=
  if (fnOf s f).busMaster then hostWrite s f a bs else s.onLink (fun l => { l with held := l.held ++ [(f, a, bs)] })

/-- Read a command's buffer: host memory of its function, or the applet's DTCM or IN window. -/
def bufRead (s : State) (c : Cmd) (a n : Nat) : Bytes :=
  match c.issuer with
  | .host => hostRead s c.fn a n
  | .applet u =>
    if a ≥ 0x40000000 then
      match (pinnaOf s u).inv with
      | some i => hostRead s c.fn (i.inAddr + (a - 0x40000000)) n
      | none => []
    else Memory.read 0 (pinnaOf s u).dtcm (a - 0x10000000) n

/-- Write a command's buffer. -/
def bufWrite (s : State) (c : Cmd) (a : Nat) (bs : Bytes) : State :=
  match c.issuer with
  | .host => dmaWrite s c.fn a bs
  | .applet u => onPinna s u (fun p => { p with dtcm := Memory.write 0 p.dtcm (a - 0x10000000) bs })

/-- Keys, counters and log entries name an applet as their source (Table 17.11). -/
def sourceOf (s : State) (c : Cmd) : Nat :=
  match c.issuer with
  | .host => 0x0500 + c.fn.toNat
  | .applet u => match (pinnaOf s u).inv with
    | some i => 0x8000 + i.applet * 2 ^ 8 + c.fn.toNat
    | none => 0x0500 + c.fn.toNat

end Sys2Proof.Machine
end

