-- ==== Sys2Proof/Machine/Drbg.lean ====
section
/-! DEFINITION. The DRBG instances of Table 12.1: instantiation, reseeds, generate requests and when they are refused (R502 to
R529). -/

namespace Sys2Proof.Machine

def drbgOf (s : State) (k : Inst) : Drbg := SMap.get {} s.entropy.insts (instKey k)
def onDrbg (s : State) (k : Inst) (h : Drbg → Drbg) : State :=
  s.onEntropy (fun e => { e with insts := SMap.mod {} e.insts (instKey k) h })

def sourceState (s : State) (n : Nat) : Source := SMap.get {} s.entropy.sources n
/-- Sources that are not retired, and those in service (R525). -/
def unretired (s : State) : List Nat := (List.range 4).filter (fun n => !(sourceState s n).retired)
def feeding (s : State) : List Nat := (List.range 4).filter (fun n => (sourceState s n).inService)

/-- A conditioned block can be had: the entropy island runs, and a source feeds or the test pattern does (R136, R505, R523). -/
def blockReady (s : State) : Bool := islandWorks s 12 && (!(feeding s).isEmpty || s.entropy.pattern.isSome)

/-- R525, R530: the entropy source is FAILED. -/
def entropyFailed (s : State) : Bool := (unretired s).length < 2 || s.entropy.coreFailed

/-- The next full-entropy block (R500): of the noise sources a free value, of the test pattern its conditioning (R523). -/
def nextBlock (s : State) : Bytes :=
  match s.entropy.pattern with
  | some p => Config.cmac (Config.bytes 32 Config.conditioningKey) p
  | none => Config.entropyBlock s.entropy.taken
/-- `n` blocks in turn. -/
def takeBlocks : Nat → State → Bytes × State
  | 0, s => ([], s)
  | n + 1, s =>
    let (bs, s1) := takeBlocks n (s.onEntropy (fun e => { e with taken := e.taken + 1 }))
    (nextBlock s ++ bs, s1)

/-- R503, R510: the personalisation string. -/
def personal (s : State) : Inst → Bytes
  | .f n => identity s ++ leBytes 4 (bootEpoch s).toNat ++ [0x46, n] ++ leBytes 2 (fnOf s n).generation.toNat
  | .i n => identity s ++ leBytes 4 (bootEpoch s).toNat ++ [0x49, BitVec.ofNat 8 n.val] ++ leBytes 2 0
  | .inv _ => []

/-- R503: instantiate an F or I instance from 384 bits. -/
def instantiate (s : State) (k : Inst) : State :=
  let (e, s1) := takeBlocks 3 s
  onDrbg s1 k (fun _ =>
    { live := true, st := Config.drbgNew (e.take 32) (e.drop 32) (personal s k), lastReseed := s.clocks.seta })

/-- R510: the instance of an invocation, from a 256-bit seed of the function's instance. -/
def instantiateInv (s : State) (u : Fin 8) (core : Nat) (tag : BitVec 16) (seed : Bytes) : State :=
  onDrbg s (.inv u) (fun _ =>
    { live := true, st := Config.drbgNew seed [] (BitVec.ofNat 8 core :: leBytes 2 tag.toNat), lastReseed := s.clocks.seta })

/-- R505: reseed with 256 bits. -/
def reseed (s : State) (k : Inst) (extra : Bytes) : State :=
  let (e, s1) := takeBlocks 2 s
  onDrbg s1 k (fun d => { d with
    st := Config.drbgReseeded d.st e extra, requests := 0, lastReseed := s.clocks.seta, reseeds := d.reseeds + 1,
    blocked := false })

/-- R506: the additional input of the reseed at FLR step 5. -/
def flrInput (s : State) (f : FnId) : Bytes :=
  [f] ++ leBytes 2 (fnOf s f).generation.toNat ++ leBytes 4 (bootEpoch s).toNat ++ leBytes 2 (fnOf s f).flrs.toNat

/-- Live instances that reseed, and every F and I instance. -/
def seededInsts (s : State) : List Inst :=
  ((List.range 256).map (fun n => Inst.f (BitVec.ofNat 8 n)) ++ (List.finRange 8).map Inst.i).filter (fun k => (drbgOf s k).live)

/-- R505: a reseed is due. -/
def reseedIsDue (s : State) (k : Inst) : Bool :=
  match k with
  | .inv _ => false
  | _ => (drbgOf s k).requests ≥ 65536 || s.clocks.seta ≥ (drbgOf s k).lastReseed + 100000000

/-- What a generate request meets. -/
inductive Draw where
  /-- the bytes -/
  | got (bs : Bytes) (s : State)
  /-- a reseed waits for its block (R505), or the island for its clock -/
  | wait
  /-- ENTROPY_UNAVAILABLE (R512, R520, R525, R529) -/
  | none (s : State)
  deriving DecidableEq, Repr

/-- R512: bytes an invocation instance has left. -/
def instLimit (k : Inst) (d : Drbg) (n : Nat) : Bool :=
  match k with
  | .inv _ => d.produced + n > 2 ^ 20
  | _ => false

/-- One generate request of `n` bytes (R505, R507, R516): a due reseed first. An island without its clock makes it wait (R133, R136). -/
def generate (s : State) (k : Inst) (n : Nat) (extra : Bytes) : Draw :=
  let d := drbgOf s k
  if !d.live || entropyFailed s || s.entropy.rawMode || instLimit k d n then .none s
  else if !islandWorks s 12 || ((reseedIsDue s k || d.blocked) && !blockReady s) then .wait
  else
    let s1 := if reseedIsDue s k || d.blocked then reseed s k [] else s
    let d1 := drbgOf s1 k
    .got (Config.drbgOut d1.st extra n)
      (onDrbg s1 k (fun d => { d with
        st := Config.drbgStep d1.st extra, requests := d.requests + 1, produced := d.produced + n }))

/-- The instance a command draws from (R508, R511). -/
def instOf (c : Cmd) : Inst :=
  match c.issuer with
  | .host => .f c.fn
  | .applet u => .inv u

/-- Run a command's body with `n` drawn bytes; ENTROPY_UNAVAILABLE without them, and back to waiting to start while a
reseed waits for its block. A re-run reuses the draws it holds (R399, R508). -/
def withDraw (s : State) (j : Job) (n : Nat) (extra : Bytes) (body : State → Bytes → State × Option Reply) :
    State × Option Reply :=
  if j.rerun && !j.draws.isEmpty then body s j.draws
  else match generate s (instOf j.cmd) n extra with
    | .got bs s1 => body (onJob s1 j.cmd (fun x => { x with draws := bs })) bs
    | .wait => (onJob s j.cmd (fun x => { x with stage := .fetched }), none)
    | .none s1 => (s1, some (fail Status.entropyUnavailable))

/-- Run a command's body with `n` bytes of an instance of Xemberon's own, as `withDraw` does. -/
def withOwn (s : State) (c : Cmd) (k : Fin 8) (n : Nat) (body : State → Bytes → State × Option Reply) : State × Option Reply :=
  match generate s (.i k) n [] with
  | .got bs s1 => body s1 bs
  | .wait => (onJob s c (fun x => { x with stage := .fetched }), none)
  | .none s1 => (s1, some (fail Status.entropyUnavailable))

/-- Bytes of an instance of Xemberon's own (I0 to I7); when it cannot generate, full-entropy blocks are not drawn and the
bytes are absent. -/
def drawOwn (s : State) (k : Fin 8) (n : Nat) : Option Bytes × State :=
  match generate s (.i k) n [] with
  | .got bs s1 => (some bs, s1)
  | .wait => (none, s)
  | .none s1 => (none, s1)

end Sys2Proof.Machine
end

