-- ==== Sys2Proof/Machine/Operands.lean ====
section
/-! DEFINITION. The operand forms of the Pinna instruction set: guards, general and predicate registers, immediates, bit fields,
the byte permute, the shifts, the quotients, and the regions of the memory protection unit (chapter 19). -/

namespace Sys2Proof.Machine

/-- A general register: g0 reads zero (Table 19.1). -/
def gGet (p : Pinna) (r : GReg) : U32 := if r = 0 then 0 else SMap.get 0 p.g r.toNat
/-- Write a general register: a write to g0 is discarded. -/
def gSet (p : Pinna) (r : GReg) (v : U32) : Pinna := if r = 0 then p else { p with g := SMap.set 0 p.g r.toNat v }
/-- A predicate register: p0 reads 1. -/
def pGet (p : Pinna) (r : PReg) : Bool := if r = 0 then true else p.p.getLsbD r.toNat
/-- Write a predicate register: a write to p0 is discarded. -/
def pSet (p : Pinna) (r : PReg) (v : Bool) : Pinna :=
  if r = 0 then p else { p with p := (p.p &&& ~~~((1 : Byte) <<< r.toNat)) ||| (if v then (1 : Byte) <<< r.toNat else 0) }
/-- R805: the guard holds. -/
def guardHolds (p : Pinna) (gd : Guard) : Bool := pGet p gd.p != gd.neg

/-- Sign and zero extension of an immediate to 32 bits. -/
def sx {n : Nat} (v : BitVec n) : U32 := v.signExtend 32
def zx {n : Nat} (v : BitVec n) : U32 := v.setWidth 32

/-- Leading zeros of a word (Table 19.4). -/
def leadingZeros (v : U32) : Nat := ((List.range 32).find? (fun i => v.getLsbD (31 - i))).getD 32
/-- Set bits of a word. -/
def popCount (v : U32) : Nat := ((List.range 32).filter (fun i => v.getLsbD i)).length

/-- R808: byte `k` of the permute of the pair of registers `lo`, `hi`. -/
def permByte (lo hi sel : U32) (k : Nat) : Nat :=
  let n := bitsOf sel.toNat (4 * k) 4
  if n ≥ 8 then 0 else bitsOf (lo.toNat + hi.toNat * 2 ^ 32) (8 * n) 8
def permute (lo hi sel : U32) : U32 :=
  BitVec.ofNat 32 (permByte lo hi sel 0 + permByte lo hi sel 1 * 2 ^ 8 + permByte lo hi sel 2 * 2 ^ 16 +
    permByte lo hi sel 3 * 2 ^ 24)

/-- R807: the field of `w` bits at `pos`, its sign extension, and its insertion. -/
def fieldGet (v : U32) (pos w : Nat) : U32 := BitVec.ofNat 32 (bitsOf v.toNat pos w)
def fieldGetS (v : U32) (pos w : Nat) : U32 :=
  let x := bitsOf v.toNat pos w
  BitVec.ofInt 32 (if bitOf x (w - 1) then (x : Int) - 2 ^ w else x)
def fieldPut (d v : U32) (pos w : Nat) : U32 :=
  BitVec.ofNat 32 (d.toNat - bitsOf d.toNat pos w * 2 ^ pos + bitsOf v.toNat 0 w * 2 ^ pos)

/-- High words of the products (Table 19.4). -/
def mulHigh (x y : Int) : U32 := BitVec.ofInt 32 (x * y / 2 ^ 32)

/-- R810: quotients and remainders. -/
def divSigned (x y : U32) : U32 := if y = 0 then 0xFFFFFFFF else BitVec.ofInt 32 (x.toInt.tdiv y.toInt)
def remSigned (x y : U32) : U32 := if y = 0 then x else BitVec.ofInt 32 (x.toInt.tmod y.toInt)
def divUnsigned (x y : U32) : U32 := if y = 0 then 0xFFFFFFFF else x / y
def remUnsigned (x y : U32) : U32 := if y = 0 then x else x % y

/-! ### Memory (Table 19.7, R818, R819) -/

/-- The code region of an invocation. -/
def inCode (i : Inv) (a n : Nat) : Bool := a + n ≤ i.codeLen
/-- The data and the stack region. -/
def inData (i : Inv) (a n : Nat) : Bool := 0x10000000 ≤ a && a + n ≤ 0x10000000 + i.dataLen
def inStack (i : Inv) (a n : Nat) : Bool := 0x10010000 - i.stackLen ≤ a && a + n ≤ 0x10010000
/-- R818: what a store may reach, and what a load may. -/
def mayStore (i : Inv) (a n : Nat) : Bool := inData i a n || inStack i a n
def mayLoad (i : Inv) (a n : Nat) : Bool := inCode i a n || mayStore i a n
/-- The bytes a load reads: the ITCM below 0x2_0000, the DTCM above. -/
def tcmRead (p : Pinna) (a n : Nat) : Bytes :=
  if a < 0x20000 then Memory.read 0 p.itcm a n else Memory.read 0 p.dtcm (a - 0x10000000) n
/-- The bytes a store writes, in the DTCM. -/
def tcmWrite (p : Pinna) (a : Nat) (bs : Bytes) : Pinna := { p with dtcm := Memory.write 0 p.dtcm (a - 0x10000000) bs }
/-- The address of a load or a store: `ra + sext(imm12)` modulo 2^32. -/
def memAddr (p : Pinna) (ra : GReg) (imm : BitVec 12) : Nat := (gGet p ra + sx imm).toNat

end Sys2Proof.Machine
end

