-- ==== Sys2Proof/Machine/Flags.lean ====
section
/-! DEFINITION. The compare conditions of Table 19.5, and the access codes and same-cycle rules of register fields (Tables 0.2 and
3.6, R110 to R112). -/

namespace Sys2Proof.Machine

/-- Table 19.5. -/
def compare (cond : BitVec 3) (x y : U32) : Bool :=
  match cond.toNat with
  | 0 => x == y
  | 1 => x != y
  | 2 => decide (x.toInt < y.toInt)
  | 3 => !decide (x.toInt < y.toInt)
  | 4 => decide (x.toNat < y.toNat)
  | 5 => !decide (x.toNat < y.toNat)
  | 6 => x &&& y == 0
  | _ => x &&& y != 0

/-- A number with one bit set where a flag holds. -/
def flagBit (b : Bool) (k : Nat) : Nat := if b then 2 ^ k else 0
/-- The bits of `m`: software's value where `m` is set, the old value elsewhere. -/
def merge (old v m : U32) : U32 := (old &&& ~~~m) ||| (v &&& m)
/-- EVT: a W1C write clears the bits it writes as 1, and a bit the hardware sets in the same cycle stays 1. -/
def evtWrite (old v hw : U32) : U32 := (old &&& ~~~v) ||| hw
/-- CNT: software's value and the hardware's sum, wrapping. -/
def cntWrite {n : Nat} (v : BitVec n) (add : Nat) : BitVec n := v + BitVec.ofNat n add
/-- RCL on a saturating count: the read returns the old value and leaves what arrived in its cycle. -/
def rclRead (old arriving : Nat) : Nat × Nat := (old, min 0xFF arriving)

end Sys2Proof.Machine
end

