-- ==== Sys2Proof/Machine/Journal.lean ====
section
/-! DEFINITION. The erase journal, wear, the configuration region and the opening of flash operations (chapter 13). -/

namespace Sys2Proof.Machine

/-- What an erased flash word reads (R533). -/
def erasedWord : U64 := 0xFFFFFFFFFFFFFFFF

/-! ### Journal words (Table 13.3) -/

/-- TYPE 1 BEGIN, 2 DONE, 3 HEAD, 4 SWITCH, with its CHECK. -/
def journalWord (type kind index value : Nat) : U64 :=
  let h := type * 2 ^ 28 + kind * 2 ^ 24 + index * 2 ^ 16 + value
  BitVec.ofNat 64 (h * 2 ^ 32 + (2 ^ 32 - 1 - h))
/-- R548. -/
def journalCounts (w : U64) : Bool := bitsOf w.toNat 0 32 == 2 ^ 32 - 1 - bitsOf w.toNat 32 32
def jType (w : U64) : Nat := bitsOf w.toNat 60 4
def jUnit (w : U64) : FlashUnit := ⟨bitsOf w.toNat 56 4, bitsOf w.toNat 48 8⟩
def jWord (s : State) (sec k : Nat) : U64 := SMap.get erasedWord s.flash.journal (512 * sec + k)
def setJWord (s : State) (sec k : Nat) (w : U64) : State :=
  s.onFlash (fun f => { f with journal := SMap.set erasedWord f.journal (512 * sec + k) w })
/-- Erase a journal sector. -/
def eraseJournal (s : State) (sec : Nat) : State :=
  s.onFlash (fun f => { f with journal := f.journal.filter (fun e => e.1 / 512 != sec) })

/-- The generation of a sector with a valid HEAD. -/
def headGen (s : State) (sec : Nat) : Option Nat :=
  let w := jWord s sec 0
  if journalCounts w && jType w == 3 && (jUnit w).index == sec then some (bitsOf w.toNat 32 16) else none
/-- The active sector: a valid HEAD of the newest generation, compared modulo 2^16 (R557). -/
def journalActive (s : State) : Option Nat :=
  match headGen s 0, headGen s 1 with
  | some a, some b => some (if (b + 2 ^ 16 - a) % 2 ^ 16 < 2 ^ 15 then 1 else 0)
  | some _, none => some 0
  | none, some _ => some 1
  | none, none => none
def activeSector (s : State) : Nat := (journalActive s).getD 0

/-- Records of a sector, in order, that count. -/
def jRecords (s : State) (sec : Nat) : List U64 := ((List.range 509).map (fun i => jWord s sec (i + 1))).filter journalCounts
/-- The next free word of a sector: after the last programmed one, at most 510. -/
def jNext (s : State) (sec : Nat) : Nat :=
  ((s.flash.journal.filter (fun e => e.1 / 512 == sec && 1 ≤ e.1 % 512 && e.1 % 512 ≤ 509)).map (fun e => e.1 % 512 + 1)).foldl max 1
/-- Program a record. -/
def jAppend (s : State) (type : Nat) (u : FlashUnit) : State :=
  let a := activeSector s
  setJWord s a (jNext s a) (journalWord type u.kind u.index 0)

/-- R550, R552: units whose BEGIN has no matching DONE, in order. -/
def loneBegins : List U64 → List FlashUnit → List FlashUnit
  | [], l => l
  | w :: r, l =>
    if jType w == 1 then loneBegins r (l ++ [jUnit w])
    else if jType w == 2 then loneBegins r (l.filter (· != jUnit w))
    else loneBegins r l
def lone (s : State) : List FlashUnit := (loneBegins (jRecords s (activeSector s)) []).eraseDups

/-! ### Wear (R576, R577, R583) -/

def unitKind (u : FlashUnit) : Nat := u.kind * 256 + u.index
/-- DONE records of a unit in a journal sector. -/
def donesIn (s : State) (sec : Nat) (u : FlashUnit) : Nat := ((jRecords s sec).filter (fun w => jType w == 2 && jUnit w == u)).length
/-- The folded wear records and the DONE records not yet folded. -/
def eraseCount (s : State) (u : FlashUnit) : Nat := SMap.get 0 s.flash.wear (unitKind u) + donesIn s 0 u + donesIn s 1 u
def ratedErases (kind : Nat) : Nat := if kind < 2 then 10000 else 100000
/-- WORN: above its rated count, or marked by failed verification. -/
def wornMark (s : State) (u : FlashUnit) : Bool :=
  eraseCount s u > ratedErases u.kind || SMap.get false s.flash.wornBad (unitKind u)
/-- WORN and no override stands. -/
def wornUnit (s : State) (u : FlashUnit) : Bool := wornMark s u && !SMap.get false s.flash.override (unitKind u)

/-- R576: fold a sector's DONE records into wear records. -/
def foldSector (s : State) (sec : Nat) : State :=
  ((jRecords s sec).filter (fun w => jType w == 2)).foldl (fun a w =>
    a.onFlash (fun f => { f with wear := SMap.mod 0 f.wear (unitKind (jUnit w)) (· + 1) })) s

/-! ### Switch, BEGIN and DONE -/

/-- R551: SWITCH in word 510, the other sector folded and erased, its HEAD with the next generation. -/
def switchJournal (s : State) : State :=
  let a := activeSector s
  let o := 1 - a
  let s1 := setJWord s a 510 (journalWord 4 4 o 0)
  setJWord (eraseJournal (foldSector s1 o) o) o 0 (journalWord 3 4 o (((headGen s a).getD 0 + 1) % 2 ^ 16))
/-- init_journal of R557. -/
def initJournal (s : State) : State := setJWord (eraseJournal (eraseJournal s 0) 1) 0 0 (journalWord 3 4 0 0)

/-- Erases that are open. -/
def openErases (s : State) : List FlashOp := s.flash.ops.filter (fun o => o.erase && o.begun)
/-- The active sector takes one further BEGIN and DONE beside the DONEs of the open erases. -/
def journalRoom (s : State) : Bool := jNext s (activeSector s) + 1 + (openErases s).length ≤ 509

/-- An erase whole: BEGIN and DONE, with a switch before it where it is due (ROM, and erases inside one step). -/
def eraseWhole (s : State) (u : FlashUnit) : State :=
  let s1 := if journalRoom s then s else switchJournal s
  jAppend (jAppend s1 1 u) 2 u

/-! ### Opening an operation (R547, R549) -/

/-- Arrays: 0 bank A, 1 bank B, 2 data flash, 3 option area. -/
def arrayOf (u : FlashUnit) : Nat := if u.kind == 4 then 2 else u.kind
/-- A program is open on an array, which answers every read with BUSY (R542). -/
def programOn (s : State) (a : Nat) : Bool := s.flash.ops.any (fun o => !o.erase && o.begun && arrayOf o.unit == a)
/-- The open erase of an array is suspended for an access (R543): for a read it resumes within the access, for a program it `stays` so. -/
def suspendErase (s : State) (a : Nat) (stays : Bool) : State :=
  s.onFlash (fun f => { f with ops := f.ops.map (fun o =>
    if o.erase && o.begun && arrayOf o.unit == a then { o with suspends := o.suspends + 1, suspended := o.suspended || stays } else o) })
/-- An erase resumes when no program is open on its array any more (R543). -/
def resumeErases (s : State) : State :=
  s.onFlash (fun f => { f with ops := f.ops.map (fun o => if o.suspended && !programOn s (arrayOf o.unit) then { o with suspended := false } else o) })
/-- Start the waiting erase at a place of the list: one open per array, no program open on it, and room in the journal, which switches when no
erase is open. -/
def startErase (s : State) (i : Nat) : State :=
  match s.flash.ops[i]? with
  | none => s
  | some o =>
    if o.begun || (openErases s).any (fun x => arrayOf x.unit == arrayOf o.unit) || programOn s (arrayOf o.unit) || (!journalRoom s && !(openErases s).isEmpty) then s
    else
      let s1 := jAppend (if journalRoom s then s else switchJournal s) 1 o.unit
      s1.onFlash (fun f => { f with ops := f.ops.set i { o with begun := true, startedAt := s.clocks.seta } })
def startErases (s : State) : State := (List.range s.flash.ops.length).foldl startErase s

/-- Request a program or an erase; a program suspends the open erase of its array (R543). -/
def openFlash (s : State) (unit : FlashUnit) (erase : Bool) (use : FlashUse) : State :=
  startErases ((if erase then s else suspendErase s (arrayOf unit) true).onFlash (fun f => { f with
    ops := f.ops ++ [{ unit := unit, erase := erase, use := use, begun := !erase, startedAt := s.clocks.seta }] }))

/-! ### The configuration region (R566, R567) -/

/-- The active half. -/
def configUnit (s : State) : FlashUnit := ⟨2, 2 + 8 * s.flash.configActive⟩
/-- Records in force: tenant records, counter ownership, applets and wear (log entry 41). -/
def configLive (s : State) : Nat :=
  (s.fns.filter (fun e => e.2.assigned || e.2.generation != 0)).length + s.counters.owner.length + s.pinnas.applets.length + s.flash.wear.length
/-- The other half becomes active and takes the records in force. -/
def switchHalf (s : State) : State :=
  s.onFlash (fun f => { f with configActive := 1 - f.configActive, configUsed := min 384 (configLive s), configCopying := true })
/-- A WORN data sector without a replacement is lost to its region (R579). -/
def dataSectorLost (s : State) (n : Nat) : Bool := wornMark s ⟨2, n⟩ && !(s.flash.replaced.any (·.1 == n))
/-- Records the active half holds: 64 in each of its sectors (R566, R579). -/
def configRoom (s : State) : Nat := 64 * ((List.range 8).filter (fun i => !dataSectorLost s (2 + 8 * s.flash.configActive + i))).length
/-- Append a record; with no free record left the switch comes first (R567). -/
def appendConfig (s : State) : State :=
  let s1 := if s.flash.configUsed ≥ configRoom s then switchHalf s else s
  s1.onFlash (fun f => { f with configUsed := f.configUsed + 1 })

/-! ### Replacement of WORN sectors (R578, R579) -/

/-- Free sectors of the extension pool, from the lowest. -/
def freePool (s : State) : List Nat :=
  ((List.range 48).map (· + 78)).filter (fun n => n ≥ 78 + 12 * s.flash.extensions && !(s.flash.replaced.any (fun e => e.2 == n)))
/-- The region loses a sector that has no replacement (R579): that of the counters keeps a list of them, the others go by the WORN mark. -/
def loseSector (s : State) (n : Nat) : State :=
  if 126 ≤ n && n < 250 then s.onCounters (fun k => { k with
    lostSectors := if k.lostSectors.contains (n - 126) then k.lostSectors else (n - 126) :: k.lostSectors }) else s
/-- Move a WORN data sector to the lowest spare, or to the highest free sector of the pool; those of the log are never replaced (R765). -/
def replaceSector (s : State) (n : Nat) : State :=
  if n < 2 || (54 ≤ n && n < 126) || (s.flash.replaced.any (·.1 == n)) then s
  else match s.flash.spares with
    | x :: r => s.onFlash (fun f => { f with spares := r, replaced := SMap.set 0 f.replaced n x })
    | [] => match (freePool s).getLast? with
      | some x => s.onFlash (fun f => { f with replaced := SMap.set 0 f.replaced n x })
      | none => loseSector s n
/-- R577: two failures in succession mark a unit WORN. -/
def markWorn (s : State) (u : FlashUnit) : State :=
  s.onFlash (fun f => { f with wornBad := SMap.set false f.wornBad (unitKind u) true })
/-- A WORN data sector takes no new data. -/
def replaceIfWorn (s : State) (u : FlashUnit) : State := if u.kind == 2 && wornMark s u then replaceSector s u.index else s

end Sys2Proof.Machine
end

