-- ==== Sys2Proof/Machine/Groups.lean ====
section
/-! DEFINITION. The commit groups of Table 3.5: their registers, their checks on the staged values, their apply with what it
starts, and the commands that complete when a group has applied (R101 to R109). -/

namespace Sys2Proof.Machine

/-- Keys of a group's registers. -/
def groupRegs : CommitGroup → List Nat
  | .queue f q => [0, 4, 8, 12, 16].map (fun o => fnKey f (0x100 + 0x20 * q.toNat + o))
  | .imod f => [fnKey f 0x180]
  | .sched => [glKey 0x40]
  | .tenant f => [glKey (0x2000 + 0x10 * f.toNat)]
  | .power => [glKey 0x30]
  | .hypha => (List.range 48).map (fun i => glKey (0x1000 + 4 * (48 + i)))
  | .alarm k => [0, 4, 8, 12].map (fun o => glKey (0x100 + 0x20 * k.val + o))
  | .gpio => [glKey 0x200, glKey 0x204]
  | .turtis p => [glKey (0x220 + 0x20 * p.val)]
  | .cless => [glKey 0x260]
  | .tamper => [0, 4, 8, 12].map (fun o => glKey (0x280 + o))

/-- Key of a group's COMMIT register. -/
def commitKey : CommitGroup → Nat
  | .queue f q => fnKey f (0x118 + 0x20 * q.toNat)
  | .imod f => fnKey f 0x184
  | .sched => glKey 0x44
  | .tenant f => glKey (0x2004 + 0x10 * f.toNat)
  | .power => glKey 0x34
  | .hypha => glKey 0x1200
  | .alarm k => glKey (0x110 + 0x20 * k.val)
  | .gpio => glKey 0x208
  | .turtis p => glKey (0x224 + 0x20 * p.val)
  | .cless => glKey 0x264
  | .tamper => glKey 0x290

/-- Groups that apply at a later boundary: the epoch, the superframe start, the field-on (Table 3.5). -/
def deferred : CommitGroup → Bool
  | .sched | .tenant _ | .power | .turtis _ | .cless => true
  | _ => false

/-- Whether an apply waits now: a port that does not run has no superframe, and its group applies at once. -/
def waits (s : State) (g : CommitGroup) : Bool :=
  match g with
  | .turtis p => (portOf s p).running
  | _ => deferred g

/-- The staged values of a group as one little-endian number. -/
def stagedValue (s : State) (g : CommitGroup) : Nat := leNat ((groupRegs g).flatMap (fun k => leBytes 4 (staged s k)))

/-- The order of R725: OFF, NOTICE, LOG, SUSPEND, ZEROISE, ZEROISE+RETIRE. -/
def levelRank : Nat → Nat
  | 7 => 0 | 5 => 1 | 1 => 2 | 2 => 3 | 3 => 4 | 4 => 5 | _ => 6
/-- Table 17.1: default and minimum level of a source. -/
def defaultLevel (n : Nat) : Nat := if n ≤ 1 then 3 else if n == 12 then 5 else 2
def minimumLevel (n : Nat) : Nat := if n ≤ 1 || n == 6 then 2 else if n ≥ 8 then 7 else 1
/-- R725: a level field a source may hold. -/
def levelAllowed (n v : Nat) : Bool :=
  v == 0 || (v != 6 && !((v == 5 || v == 7) && n < 8) && levelRank v ≥ levelRank (minimumLevel n))
/-- R725 for a 128-bit value: REASON of the first failing field. -/
def tamperFail (v : Nat) : Nat :=
  match (List.range 13).find? (fun n => !levelAllowed n (bitsOf v (3 * n) 3)) with
  | some n => n + 1
  | none => if bitsOf v 64 64 != 0 then 14 else 0

/-- Sum of the MIN quotas of all functions but one, active values (R102). -/
def otherMinima (s : State) (f : FnId) : Nat :=
  ((List.range 256).map (fun n => if n == f.toNat then 0 else bitsOf (tenCfg s (BitVec.ofNat 8 n)) 8 7)).sum

/-- A GL_TEN_CFG value the group refuses: the first failing field (Table 3.5, R280); a minimum above the maximum, or a sum of minima above
64, names MIN (DESIGN CHOICE, log entry 79). -/
def tenantFail (s : State) (f : FnId) (v : Nat) : Nat :=
  let mn := bitsOf v 8 7
  let mx := bitsOf v 16 7
  if mn > mx || otherMinima s f + mn > 64 then 2 else if mx > 64 then 3 else if bitsOf v 24 7 > 100 then 4 else 0

/-- R102, Table 3.5: the index of the first failing field of the staged values, 0 when they pass. CG_GPIO counts five fields a pin, its wake
enable the fifth (DESIGN CHOICE, log entry 79). -/
def groupFail (s : State) (g : CommitGroup) : Nat :=
  let v := stagedValue s g
  match g with
  | .queue f _ =>
    let cfg := bitsOf v 128 32
    if bitsOf v 0 12 != 0 then 1 else if bitsOf v 64 12 != 0 then 3
    else if bitsOf cfg 0 13 < 16 || bitsOf cfg 0 13 > 4096 then 5
    else if bitsOf cfg 16 6 > (if f == 0 then 47 else 7) then 7 else 0
  | .imod _ => if bitsOf v 8 10 > 1000 then 2 else 0
  | .sched =>
    if bitsOf v 0 8 == 0 then 1 else if bitsOf v 8 8 == 0 then 2 else if bitsOf v 16 8 == 0 then 3
    else if bitsOf v 24 7 == 0 || bitsOf v 24 7 > 100 then 4 else 0
  | .tenant f => tenantFail s f v
  | .power =>
    if bitsOf v 0 8 < 30 || bitsOf v 0 8 > 115 then 1
    else if bitsOf v 8 10 == 0 || bitsOf v 8 10 > 1000 then 2 else 0
  | .hypha => 0
  | .alarm _ => if bitOf v 96 && bitsOf v 64 32 != 0 && bitsOf v 64 32 < 100 then 3 else 0
  | .gpio =>
    match (List.range 8).find? (fun n => bitOf v (8 * n) && bitOf v (8 * n + 5)) with
    | some n => 5 * n + 5
    | none => 0
  | .turtis _ => if bitsOf v 16 10 == 0 || bitsOf v 16 10 > 600 then 3 else 0
  | .cless => if bitsOf v 4 12 < 10 || bitsOf v 4 12 > 200 then 3 else 0
  | .tamper => tamperFail v

/-- Lowest bit of a field of a group's values, for DETAIL (R109). -/
def fieldBit (g : CommitGroup) (v reason : Nat) : Nat :=
  match g with
  | .queue _ _ => 0
  | .imod _ => 8 * (reason - 1)
  | .sched | .tenant _ => 8 * (reason - 1)
  | .power => if reason == 1 then 0 else 8
  | .hypha => 0
  | .alarm _ => 32 * (reason - 1)
  | .gpio => 8 * ((reason - 1) / 5) + 5
  | .turtis _ => 16
  | .cless => 4
  | .tamper => if reason ≤ 13 then 3 * (reason - 1)
    else 64 + 8 * (((List.range 8).find? (fun i => bitsOf v (64 + 8 * i) 8 != 0)).getD 0)

/-- R220: stop fetching at once; inactive when the last command has posted. -/
def closePair (s : State) (f : FnId) (q : PairId) (reopen : Bool) : State :=
  drained (onPair s f q (fun p => { p with active := false, draining := true, reopen := reopen, conflict := false })) f q

/-- R183, R219, R220, R222, R223: what a CG_QUEUE apply does to the pair. -/
def applyQueue (s : State) (f : FnId) (q : PairId) : State :=
  let b := fnKey f (0x100 + 0x20 * q.toNat)
  let cfg := reg s (b + 16)
  let p := pairOf s f q
  let cls := bitsOf cfg 13 2
  if !bitOf cfg 31 then
    if pairServed p then closePair s f q false else onPair s f q (fun _ => {})
  else if p.active && p.sqBase == reg s b + reg s (b + 4) * 2 ^ 32 && p.cqBase == reg s (b + 8) + reg s (b + 12) * 2 ^ 32 &&
      p.depth == bitsOf cfg 0 13 && p.cls == cls then
    onPair s f q (fun p => { p with vector := bitsOf cfg 16 6 })
  else if classTaken s f q cls then
    conflict (if pairServed p then closePair s f q false else s) f q
  else if pairServed p then closePair s f q true
  else openPair s f q

/-- A port restarts as a new link session when MODE, ADDRESS or ENABLE change (Table 16.12, R716). -/
def applyTurtis (s : State) (p : Fin 2) : State :=
  let w : U64 := BitVec.ofNat 64 (reg s (glKey (0x220 + 0x20 * p.val)))
  onPort s p (fun x =>
    if bitsOf w.toNat 0 14 == bitsOf x.word.toNat 0 14 then { x with word := w }
    else { restartPort x with running := bitOf w.toNat 0 && domainOn s (45 + p.val), word := w, key := [] })

/-- GPIO outputs take their drive value (Table 4.4 word 6 layout: [0] direction, [1] value). -/
def applyGpio (s : State) : State :=
  let v := reg s (glKey 0x200) + reg s (glKey 0x204) * 2 ^ 32
  s.onClocks (fun c => { c with gpioOut := (List.range 8).foldl (fun a n =>
    if bitOf v (8 * n) then (if bitOf v (8 * n + 1) then a ||| (1 <<< n : Byte) else a &&& ~~~(1 <<< n : Byte)) else a) c.gpioOut })

/-- R102, R103: check the staged values and apply all of them, or none. -/
def applyGroup (s : State) (g : CommitGroup) : State :=
  let why := groupFail s g
  if why != 0 then
    onCommit s (commitKey g) (fun r => { r with busy := false, rejected := true, reason := BitVec.ofNat 8 why, clearedAt := some s.clocks.seta })
  else
    let s1 := (groupRegs g).foldl (fun a k => setReg a k (staged a k)) s
    let s2 := onCommit s1 (commitKey g) (fun r => { r with busy := false, reason := 0, applied := r.applied + 1, clearedAt := some s.clocks.seta })
    match g with
    | .queue f q => applyQueue s2 f q
    | .turtis p => applyTurtis s2 p
    | .gpio => applyGpio s2
    | .alarm k => s2.onClocks (fun c => { c with alarmMark := SMap.set 0 c.alarmMark k.val c.seta })
    | .tamper => append s2 Entry.policyChanged Src.xemberon (bitsOf (reg s2 (glKey 0x280) + reg s2 (glKey 0x284) * 2 ^ 32) 0 39)
    | _ => s2

/-- The reply of a command that waited for a group (R109): `off` is where the group's values stand in its PARAMS. -/
def groupReply (s : State) (g : CommitGroup) (off : Nat) (res : Bool) : Reply :=
  let r := commitReg s (commitKey g)
  if r.rejected then bad (off + fieldBit g (stagedValue s g) r.reason.toNat / 8)
  else { res0 := if res then r.applied.toNat else 0 }

/-- R102, R106: GO starts the check; a GO while BUSY starts nothing. A group that applies in the next cycle applies now. -/
def commitGo (s : State) (g : CommitGroup) : State :=
  if (commitReg s (commitKey g)).busy then onCommit s (commitKey g) (fun r => { r with overrun := true })
  else
    let s1 := onCommit s (commitKey g) (fun r => { r with busy := true })
    if waits s g then s1 else applyGroup s1 g

/-- A write that comes in the cycle in which BUSY of the group clears meets BUSY (R106): `clearing` says that it does, at that Seta value. -/
def inClearing (s : State) (g : CommitGroup) (clearing : Bool) : Bool := clearing && (commitReg s (commitKey g)).clearedAt == some s.clocks.seta
/-- GO, or OVERRUN in that cycle. -/
def commitStart (s : State) (g : CommitGroup) (clearing : Bool) : State :=
  if inClearing s g clearing then onCommit s (commitKey g) (fun r => { r with overrun := true }) else commitGo s g

/-- Write a value to a group's staging copy; dropped while BUSY (R106). -/
def stageGroup (s : State) (g : CommitGroup) (v : Nat) : State :=
  if (commitReg s (commitKey g)).busy then onCommit s (commitKey g) (fun r => { r with dropped := true })
  else ((groupRegs g).zipIdx).foldl (fun a e => setStage a e.1 (bitsOf v (32 * e.2) 32)) s

/-- Mark of a job that waits for a group: its COMMIT key (R109). -/
def groupMark (g : CommitGroup) : Nat := commitKey g + 1

/-- Set a group on an issuer's behalf (R109, R270): stage, GO, and complete, or wait for a deferred group. REJECTED of an earlier commit is
cleared first (DESIGN CHOICE, log entry 79). -/
def setGroup (s : State) (j : Job) (g : CommitGroup) (v off : Nat) (res : Bool) : State × Option Reply :=
  let s0 := onCommit (stageGroup s g v) (commitKey g) (fun r => { r with rejected := false })
  let s1 := commitGo s0 g
  if waits s g then (onJob s1 j.cmd (fun x => { x with aux := groupMark g, aux2 := off + (if res then 2 ^ 16 else 0) }), none)
  else (s1, some (groupReply s1 g off res))

/-- Open a flash program that a command owns: it completes at FLASH_OPERATION_DONE (R306, R536, R586). -/
def flashCommand (s : State) (j : Job) (unit : FlashUnit) : State :=
  onJob (openFlash s unit false (.command j.cmd)) j.cmd (fun x => { x with stage := .flash })

/-- Apply a deferred group that is BUSY, and complete the commands that wait for it. -/
def applyDeferred (s : State) (g : CommitGroup) : State :=
  if !(commitReg s (commitKey g)).busy then s
  else
    let s1 := applyGroup s g
    (s1.jobs.filter (fun j => j.aux == groupMark g && j.stage == .waiting &&
        [0x0017, 0x0103, 0x0904, 0x0907].contains j.op)).foldl
      (fun a j =>
        if j.op == 0x0103 && !(commitReg a (commitKey g)).rejected then flashCommand a j (configUnit a)
        else post a j (groupReply a g (j.aux2 % 2 ^ 16) (j.aux2 ≥ 2 ^ 16))) s1

end Sys2Proof.Machine
end

