-- ==== Sys2Proof/Machine/PinnaOps.lean ====
section
/-! DEFINITION. The frame every Pinna instruction runs in: when an instruction issues, its guard, its cycles and its exceptions, and
the end of an invocation (chapter 19). -/

namespace Sys2Proof.Machine

/-- Table 19.9, Table 19.10: the first core of a unit. -/
def coreOf (s : State) (u : Fin 8) : Nat := if s.pinnas.split then u.val else 2 * u.val
/-- The wake tasks of a unit (R824). -/
def wakeTasks (s : State) (u : Fin 8) : List Nat := if s.pinnas.split then [48 + u.val] else [48 + 2 * u.val, 49 + 2 * u.val]
/-- R799: the unit exists in the mode in force. -/
def unitExists (s : State) (u : Fin 8) : Bool := s.pinnas.split || decide (u.val < 4)

/-- Ticks an invocation has held its unit (R846), and the whole quanta of them. -/
def heldTicks (s : State) (i : Inv) : Nat := i.usedTicks + (s.clocks.seta - i.since)
def quantaUsed (s : State) (i : Inv) : Nat := heldTicks s i / 100000

/-- The APPLET_INVOKE command of an invocation. -/
def invokeJob (s : State) (i : Inv) : Option Job :=
  s.jobs.find? (fun j => j.op == 0x0C03 && j.cmd.fn == i.fn && j.cmd.q == i.q && j.cmd.tag == i.tag && j.cmd.issuer == .host)

/-- Started invocations of an applet, running or suspended. -/
def startedOf (s : State) (a : Nat) : Bool :=
  s.pinnas.units.any (fun e => e.2.inv.any (·.applet == a)) || s.pinnas.saved.any (fun e => e.2.inv.any (·.applet == a))

/-- R839: a removal that waited for the last started invocation goes on to its directory record. -/
def removeWaiting (s : State) (a : Nat) : State :=
  if startedOf s a then s
  else match s.jobs.find? (fun j => j.op == 0x0C02 && j.stage == .waiting && j.aux == a + 1) with
    | some j => flashCommand s j (configUnit s)
    | none => s

/-- R821, R511: the unit is cleared of its invocation; the ITCM keeps its image. -/
def clearUnit (s : State) (u : Fin 8) : State :=
  let s1 := onPinna s u (fun p => { itcm := p.itcm, image := p.image })
  s1.onEntropy (fun e => { e with insts := SMap.set {} e.insts (instKey (.inv u)) {} })

/-- Commands an invocation left in flight. -/
def dropIssued (s : State) (u : Fin 8) : State := s.onJobs (·.filter (fun j => j.cmd.issuer != .applet u))

/-- An invocation ends with a completion (R831, R832, R846). -/
def endInvocation (s : State) (u : Fin 8) (i : Inv) (r : Reply) : State :=
  let s1 := dropIssued (clearUnit s u) u
  let s2 := match invokeJob s1 i with
    | some j => post s1 j r
    | none => s1
  removeWaiting s2 i.applet

/-- Table 19.10: APPLET_FAULT. -/
def faultReply (s : State) (u : Fin 8) (pc : U32) (cause info : Nat) : Reply :=
  { status := Status.appletFault, detail := cause + coreOf s u * 2 ^ 8 + pc.toNat * 2 ^ 16 + info % 2 ^ 16 * 2 ^ 48 }

/-- R832: an exception ends the invocation and raises E016 + n. -/
def trap (s : State) (u : Fin 8) (i : Inv) (pc : U32) (cause info : Nat) : State :=
  raise (endInvocation s u i (faultReply s u pc cause info)) [16 + coreOf s u]

/-- An instruction that ended normally: its cycles have passed and PC points at the next one. -/
def advance (cyc : Nat) (p : Pinna) : Pinna := { p with cycle := p.cycle + BitVec.ofNat 32 cyc, pc := p.pc + 4 }
/-- The same with a target. -/
def jumpTo (cyc : Nat) (t : U32) (p : Pinna) : Pinna := { p with cycle := p.cycle + BitVec.ofNat 32 cyc, pc := t }

/-- A false guard: the full cycles pass and nothing else (R805, R814). -/
def skipped (u : Fin 8) (cyc : Nat) (s : State) : State := onPinna s u (advance cyc)

/-- An instruction issues only on a unit that runs an invocation, awake and not in a SYS service (R813, R828), and not while
last gasp holds the units (Table 19.14). -/
def issues (s : State) (u : Fin 8) : Option Inv :=
  let p := pinnaOf s u
  match p.inv with
  | some i => if p.asleep || p.blocked || s.power.quiesced then none else some i
  | none => none

/-- The frame of every instruction: the fetch check (R819), ILLEGAL whatever the guard (R806), the guard (R805, R814), the
effect. -/
def issue (u : Fin 8) (gd : Guard) (illegal : Bool) (skip : State → State) (s : State) (effect : State → Pinna → Inv → State) :
    Host.Outcome State Fault Refusal :=
  if !unitExists s u then .fault (.noSuchUnit u.val)
  else match issues s u with
    | none => .next s
    | some i =>
      let p := pinnaOf s u
      if !inCode i p.pc.toNat 4 || p.pc.toNat % 4 != 0 then .next (trap s u i p.pc 2 p.pc.toNat)
      else if illegal then .next (trap s u i p.pc 1 0)
      else if guardHolds p gd then .next (effect s p i)
      else .next (skip s)

/-- An instruction that changes registers of its unit alone. -/
def regOp (u : Fin 8) (gd : Guard) (illegal : Bool) (cyc : Nat) (s : State) (f : Pinna → Pinna) :
    Host.Outcome State Fault Refusal :=
  issue u gd illegal (skipped u cyc) s (fun s p _ => onPinna s u (fun _ => advance cyc (f p)))

/-- `rd = f(ra, rb)`. -/
def aluOp (u : Fin 8) (gd : Guard) (rd ra rb : GReg) (cyc : Nat) (f : U32 → U32 → U32) (s : State) :
    Host.Outcome State Fault Refusal :=
  regOp u gd false cyc s (fun p => gSet p rd (f (gGet p ra) (gGet p rb)))

/-- `rd = f(ra)`. -/
def aluOp1 (u : Fin 8) (gd : Guard) (rd ra : GReg) (f : U32 → U32) (s : State) : Host.Outcome State Fault Refusal :=
  regOp u gd false 1 s (fun p => gSet p rd (f (gGet p ra)))

/-- `pd = f(pa, pb)`. -/
def predOp (u : Fin 8) (gd : Guard) (pd pa pb : PReg) (f : Bool → Bool → Bool) (s : State) : Host.Outcome State Fault Refusal :=
  regOp u gd false 1 s (fun p => pSet p pd (f (pGet p pa) (pGet p pb)))

/-- A load of `n` bytes (R811, R819): a misaligned address first. -/
def loadOp (u : Fin 8) (gd : Guard) (rd ra : GReg) (imm : BitVec 12) (n : Nat) (f : Nat → U32) (s : State) :
    Host.Outcome State Fault Refusal :=
  issue u gd false (skipped u 2) s (fun s p i =>
    let a := memAddr p ra imm
    if a % n != 0 then trap s u i p.pc 5 a
    else if !mayLoad i a n then trap s u i p.pc 3 a
    else onPinna s u (fun _ => advance 2 (gSet p rd (f (leNat (tcmRead p a n))))))

/-- A store of the low `n` bytes of `rd` (R811, R819). -/
def storeOp (u : Fin 8) (gd : Guard) (rd ra : GReg) (imm : BitVec 12) (n : Nat) (s : State) : Host.Outcome State Fault Refusal :=
  issue u gd false (skipped u 1) s (fun s p i =>
    let a := memAddr p ra imm
    if a % n != 0 then trap s u i p.pc 5 a
    else if !mayStore i a n then trap s u i p.pc 4 a
    else onPinna s u (fun _ => advance 1 (tcmWrite p a (leBytes n (gGet p rd).toNat))))

/-- A branch or a jump and the fetch of its target: a target outside the code region or not a multiple of 4 raises FETCH at the
target (R812, R819). -/
def branchOp (u : Fin 8) (gd : Guard) (s : State) (link : Option GReg) (target : Pinna → U32) : Host.Outcome State Fault Refusal :=
  issue u gd false (skipped u 2) s (fun s p i =>
    let t := target p
    let p1 := match link with | some r => gSet p r (p.pc + 4) | none => p
    if t.toNat % 4 != 0 || !inCode i t.toNat 4 then trap s u i t 2 t.toNat
    else onPinna s u (fun _ => jumpTo 2 t p1))

end Sys2Proof.Machine
end

