-- ==== Sys2Proof/Machine/PinnaSys.lean ====
section
/-! DEFINITION. The special registers (Tables 19.8 and 12.2), SLEEP, the SYS services (Table 19.9) and the invalid encodings. -/

namespace Sys2Proof.Machine

/-- RNGSTAT UNAVAILABLE: no further words for this invocation (R512, R520, R525). -/
def rngGone (s : State) (u : Fin 8) : Bool :=
  let d := drbgOf s (.inv u)
  !d.live || d.produced + 16 > 2 ^ 20 || s.entropy.rawMode || entropyFailed s


/-- RNGSTAT (Table 12.2). -/
def rngStat (s : State) (u : Fin 8) (p : Pinna) : U32 :=
  BitVec.ofNat 32 (flagBit (!p.rng.isEmpty) 0 + flagBit p.rngErr 1 + flagBit (rngGone s u) 2 + p.rng.length * 2 ^ 3)

/-- BUSY of WAKECTL: in the cycle after GO, in which CG_WAKECMP is applied and BUSY clears (R106). -/
def wakeBusy (s : State) (p : Pinna) : Bool := p.goAt.any (fun x => x.1 == p.cycle && s.clocks.seta ≤ x.2 + 1)
/-- WAKECTL (Table 19.8): GO reads 0. -/
def wakeCtl (s : State) (p : Pinna) : U32 :=
  BitVec.ofNat 32 (flagBit (wakeBusy s p) 1 + flagBit p.overrun 2 + flagBit (if p.view then p.enStage else p.en) 3 + flagBit p.matched 4 +
    flagBit p.wokeTask 5 + flagBit p.wakePending 6 + flagBit p.view 31)

/-- INVINFO (Table 19.8). -/
def invInfo (s : State) (u : Fin 8) (i : Inv) : U32 :=
  BitVec.ofNat 32 (i.fn.toNat + i.applet % 64 * 2 ^ 8 + i.cls % 4 * 2 ^ 14 + coreOf s u % 8 * 2 ^ 16 +
    flagBit (!s.pinnas.split) 19)

/-- R514, RCL: a read of RNGDATA removes the oldest word; an empty buffer reads zero and sets RNGERR. -/
def popRng (p : Pinna) : U32 × Pinna :=
  match p.rng with
  | [] => (0, { p with rngErr := true })
  | w :: r => (w, { p with rng := r })

/-- A read of a special register and what it does to the unit. -/
def sRead (s : State) (u : Fin 8) (i : Inv) (p : Pinna) (n : Nat) : U32 × Pinna :=
  match n with
  | 0 => (p.cycle, p)
  | 1 => (BitVec.ofNat 32 s.clocks.seta, { p with setaHi := BitVec.ofNat 32 (s.clocks.seta / 2 ^ 32) })
  | 2 => (p.setaHi, p)
  | 3 => popRng p
  | 4 => (rngStat s u p, p)
  | 5 => (if p.view then p.cmpLoStage else p.cmpLo, p)
  | 6 => (if p.view then p.cmpHiStage else p.cmpHi, p)
  | 7 => (wakeCtl s p, p)
  | 8 => (invInfo s u i, p)
  | _ => (BitVec.ofNat 32 (p.sysStatus.toNat + flagBit p.sysRerun 16), p)

/-- A write of WAKECTL: the W1C bits and VIEW; then EN's staging and GO, which in the cycle in which BUSY clears are dropped and set OVERRUN
(R106, R822). -/
def wakeCtlWrite (s : State) (p : Pinna) (v : U32) : Pinna :=
  let p1 := { p with
    overrun := p.overrun && !v.getLsbD 2, matched := p.matched && !v.getLsbD 4, wokeTask := p.wokeTask && !v.getLsbD 5, view := v.getLsbD 31 }
  if wakeBusy s p then { p1 with overrun := p1.overrun || v.getLsbD 0 }
  else if v.getLsbD 0 then
    { p1 with enStage := v.getLsbD 3, cmpLo := p1.cmpLoStage, cmpHi := p1.cmpHiStage, en := v.getLsbD 3, goAt := some (p.cycle + 1, s.clocks.seta) }
  else { p1 with enStage := v.getLsbD 3 }

/-- A write of a special register with a writable field: RNGSTAT, WAKECMPLO, WAKECMPHI, WAKECTL. -/
def sWrite (s : State) (p : Pinna) (n : Nat) (v : U32) : Pinna :=
  match n with
  | 4 => { p with rngErr := p.rngErr && !v.getLsbD 1 }
  | 5 => if wakeBusy s p then p else { p with cmpLoStage := v }
  | 6 => if wakeBusy s p then p else { p with cmpHiStage := v }
  | 7 => wakeCtlWrite s p v
  | _ => p

/-- MFS: s10 to s15 are invalid encodings. -/
def execMfs (u : Fin 8) (gd : Guard) (rd : GReg) (sa : SReg) (s : State) : Host.Outcome State Fault Refusal :=
  issue u gd (decide (sa.toNat ≥ 10)) (skipped u 1) s (fun s p i =>
    let (v, p1) := sRead s u i p sa.toNat
    onPinna s u (fun _ => advance 1 (gSet p1 rd v)))

/-- MTS: a register with no writable field, or s10 to s15, is an invalid encoding. -/
def execMts (u : Fin 8) (gd : Guard) (sd : SReg) (ra : GReg) (s : State) : Host.Outcome State Fault Refusal :=
  issue u gd (decide (sd.toNat < 4 ∨ sd.toNat > 7)) (skipped u 1) s (fun s p _ =>
    onPinna s u (fun _ => advance 1 (sWrite s p sd.toNat (gGet p ra))))

/-- R826: SLEEP ends the running activation of the unit's wake tasks; a pending one fires. -/
def endWake (s : State) (ts : List Nat) : State :=
  ts.foldl (fun a t => onTask a t (fun x =>
    if x.pending then { x with pending := false, running := true, fired := x.fired + 1 } else { x with running := false })) s

/-- SLEEP (R826). -/
def execSleep (u : Fin 8) (gd : Guard) (s : State) : Host.Outcome State Fault Refusal :=
  issue u gd false (skipped u 2) s (fun s p _ =>
    let ts := wakeTasks s u
    let held := ts.any (fun t => (taskOf s t).pending)
    let s1 := endWake s ts
    if held then onPinna s1 u (fun _ => advance 2 { p with wakePending := false, wokeTask := true })
    else if p.wakePending then onPinna s1 u (fun _ => advance 2 { p with wakePending := false })
    else onPinna s1 u (fun _ => advance 0 { p with asleep := true }))

/-- R806: a word the tables do not define raises ILLEGAL whatever its guard; a word they define is no such event. -/
def execInvalidEncoding (unit : Fin 8) (word : U32) (s : State) : Host.Outcome State Fault Refusal :=
  match decodePinna unit word.toNat with
  | some _ => .next s
  | none => issue unit ⟨false, 0⟩ true id s (fun s _ _ => s)

/-! ### SYS services -/

/-- A SYS service's cycles: the manual gives bounds of durations, not cycles (log entry 2). -/
def sysCycles (s : State) (u : Fin 8) : State :=
  let (v, s1) := takeFree s
  onPinna s1 u (advance v.toNat)

/-- Every SYS raises E016 + n (Table 19.9). -/
def sysRaises (s : State) (u : Fin 8) : State := raise s [16 + coreOf s u]

/-- The frame of a SYS service. -/
def sysOp (u : Fin 8) (gd : Guard) (s : State) (effect : State → Pinna → Inv → State) : Host.Outcome State Fault Refusal :=
  issue u gd false (fun s => sysCycles s u) s effect

/-- A service that returns: its results, its status in g1 and SYSSTAT, its cycles, its event. -/
def sysReturn (s : State) (u : Fin 8) (p : Pinna) (st : BitVec 16) : State :=
  sysRaises (sysCycles (onPinna s u (fun _ => { gSet p 1 (st.setWidth 32) with sysStatus := st })) u) u

def gNat (p : Pinna) (r : GReg) : Nat := (gGet p r).toNat

/-- EXIT (R827, R831): OUT, then SUCCESS. -/
def execSysExit (u : Fin 8) (gd : Guard) (s : State) : Host.Outcome State Fault Refusal :=
  sysOp u gd s (fun s p i =>
    let a := gNat p 1
    let n := gNat p 2
    if n > i.outLen || (n != 0 && !mayStore i a n) then trap s u i p.pc 6 0
    else
      let s1 := dmaWrite s i.fn i.outAddr (tcmRead p a n)
      sysRaises (endInvocation s1 u i
        { res0 := n, res1 := gNat p 3, res2 := p.cycle.toNat, res3 := quantaUsed s i % 2 ^ 16 + u.val * 2 ^ 16 }) u)

/-- ABORT (R831). -/
def execSysAbort (u : Fin 8) (gd : Guard) (s : State) : Host.Outcome State Fault Refusal :=
  sysOp u gd s (fun s p i => sysRaises (endInvocation s u i (faultReply s u p.pc 0x0A (gNat p 1 % 2 ^ 16))) u)

/-- The submission entry an applet's COMMAND names, as a command of the invocation's function and class (R828). -/
def appletCmd (u : Fin 8) (i : Inv) (b : Bytes) : Nat × Cmd := parseEntry i.fn i.q (.applet u) b

/-- R828: the check order of Table 7.3 without check 3; FENCE and FAIL_STOP must be zero; nothing is a violation. -/
def appletChecks (s : State) (op : Nat) (c : Cmd) : Option Nat :=
  if (fnOf s c.fn).quarantined then some Status.quarantined
  else if malformed op c || c.flags != 0 then some Status.badDescriptor
  else if !knownOp op then some Status.unknownOpcode
  else lateChecks s op c

/-- An applet's command is in flight: its submission is its doorbell. -/
def submitApplet (s : State) (op : Nat) (c : Cmd) : State :=
  (s.onLink (fun l => { l with rings := l.rings + 1 })).onJobs (· ++ [{ op := op, cmd := c, fetchedAt := s.clocks.seta, rung := s.link.rings + 1 }])
/-- COMMAND (R828): refused at once, or in flight with the unit blocked. An address outside the unit's memory earns a status
the manual does not state (log entry 2). -/
def execSysCommand (u : Fin 8) (gd : Guard) (s : State) : Host.Outcome State Fault Refusal :=
  sysOp u gd s (fun s p i =>
    let a := gNat p 1
    if !mayStore i a 64 then
      let (v, s1) := takeFree s
      sysReturn s1 u p (v.setWidth 16)
    else
      let (op, c) := appletCmd u i (tcmRead p a 64)
      match appletChecks s op c with
      | some st => sysRaises (onPinna (sysCycles s u) u (fun p => p.commandReturns (fail st) false)) u
      | none =>
        sysRaises (onPinna (submitApplet (sysCycles s u) op c) u (fun p => { p with blocked := true })) u)

/-- COPY_IN (R827): IN bytes into the DTCM. -/
def execCopyIn (u : Fin 8) (gd : Guard) (s : State) : Host.Outcome State Fault Refusal :=
  sysOp u gd s (fun s p i =>
    let a := gNat p 1
    let off := gNat p 2
    let n := gNat p 3
    if off + n > i.inLen || (n != 0 && !mayStore i a n) then trap s u i p.pc 6 3
    else sysReturn s u (tcmWrite p a (hostRead s i.fn (i.inAddr + off) n)) 0)

/-- RAISE (R830): a number above 15 earns a status the manual does not state, and raises no applet event. -/
def execSysRaise (u : Fin 8) (gd : Guard) (s : State) : Host.Outcome State Fault Refusal :=
  sysOp u gd s (fun s p _ =>
    let n := gNat p 1
    if n < 16 then raise (sysReturn s u p 0) [96 + n]
    else
      let (v, s1) := takeFree s
      sysReturn s1 u p (v.setWidth 16))

/-- INFO: boot epoch, the invocation's TAG, quanta used. -/
def execSysInfo (u : Fin 8) (gd : Guard) (s : State) : Host.Outcome State Fault Refusal :=
  sysOp u gd s (fun s p i =>
    sysReturn s u (gSet (gSet (gSet p 2 (bootEpoch s)) 3 (i.tag.setWidth 32)) 4 (BitVec.ofNat 32 (quantaUsed s i))) 0)

/-- R827: a service number not in Table 19.9. -/
def execSysInvalid (unit : Fin 8) (gd : Guard) (service : BitVec 16) (s : State) : Host.Outcome State Fault Refusal :=
  if service.toNat < 6 then .next s
  else sysOp unit gd s (fun s p i => trap s unit i p.pc 6 service.toNat)

/-! ### The rows of single register accesses -/

/-- What a register read row returned. -/
def returns (s : State) (v : U32) : State := s.onLink (fun l => { l with readData := v })

/-- RNGDATA_READ (R513, R514). -/
def execRngdataRead (unit : Fin 8) (s : State) : Host.Outcome State Fault Refusal :=
  match issues s unit with
  | none => .next s
  | some _ =>
    let (v, p) := popRng (pinnaOf s unit)
    .next (returns (onPinna s unit (fun _ => p)) v)

/-- Four words of a generated block. -/
def wordsOf (b : Bytes) : List U32 := (List.range 4).map (fun k => BitVec.ofNat 32 (leNat ((b.drop (4 * k)).take 4)))

/-- RNGDATA_REFILL (R513): four words, while the buffer holds four or fewer. -/
def execRngdataRefill (unit : Fin 8) (s : State) : Host.Outcome State Fault Refusal :=
  let p := pinnaOf s unit
  if p.inv.isNone || p.rng.length > 4 then .next s
  else match generate s (.inv unit) 16 [] with
    | .got bs s1 => .next (onPinna s1 unit (fun p => { p with rng := p.rng ++ wordsOf bs }))
    | .wait => .next s
    | .none s1 => .next s1

/-- SETA_LO_READ (R122 to R125): the low word, with the high word latched for that reader; samples that disagree three times
are a SETA_FAULT and the value comes from the Stipe (Table 3.14). Before READY a host read returns all ones and latches nothing (R141). -/
def execSetaLoRead (reader : FnId ⊕ Fin 8) (disagrees : Bool) (s : State) : Host.Outcome State Fault Refusal :=
  if (match reader with | .inl f => !running s || !(f == 0 || (fnOf s f).enabled) | .inr _ => false) then .next (returns s 0xFFFFFFFF)
  else
  let hi := BitVec.ofNat 32 (s.clocks.seta / 2 ^ 32)
  let s1 := match reader with
    | .inl f => onFn s f (fun x => { x with setaHi := hi })
    | .inr u => onPinna s u (fun p => { p with setaHi := hi })
  let s2 := returns s1 (BitVec.ofNat 32 s.clocks.seta)
  let island := match reader with
    | .inl _ => 2
    | .inr u => 3 + (if s.pinnas.split then u.val / 2 else u.val)
  .next (if disagrees then append s2 Entry.setaFault Src.xemberon island else s2)

end Sys2Proof.Machine
end

