-- ==== Sys2Proof/Machine/Power.lean ====
section
/-! DEFINITION. Domains, budgets, operating points and the two limits of the governor (chapter 2, Tables 2.1 to 2.5), and the boundaries of
Seta at which things come due. -/

namespace Sys2Proof.Machine

/-- Budget of a domain at OP_FULL, mW (Table 2.3): ON, and in RET. -/
def budgetOf (d : Nat) : Nat :=
  if d ≤ 15 then 360 else if d ≤ 23 then 140 else if d == 24 then 450 else if d ≤ 30 then 50 else if d ≤ 32 then 550
  else if d ≤ 36 then 850 else if d ≤ 40 then 120 else if d ≤ 43 then 150 else if d == 44 then 900 else if d ≤ 46 then 80
  else if d == 47 then 350 else 50
def retBudget (d : Nat) : Nat := if 25 ≤ d && d ≤ 30 then 5 else if 37 ≤ d && d ≤ 40 then 10 else 0

/-- Sum of the budgets of the powered domains, with the Sentinel (R43, R57). -/
def budgetMw (s : State) : Nat :=
  30 + ((List.range 50).map (fun d =>
    if domainOn s d then budgetOf d else if s.power.retained.getLsbD d then retBudget d else 0)).sum

/-- The custodian's cap, 0.1 W; the effective cap in mW, which the governor meets, and as registers and entries report it, 0.1 W rounded
down (R58). With two and more phases lost the 75 % stay (DESIGN CHOICE, log entry 78). -/
def custodianCap (s : State) : Nat := bitsOf (reg s (glKey 0x30)) 0 8
def effectiveCapMw (s : State) : Nat := if s.power.phasesLost == 0 then 100 * custodianCap s else 75 * custodianCap s
def effectiveCap (s : State) : Nat := effectiveCapMw s / 100

/-- Frond groups that are powered. -/
def poweredGroups (s : State) : List Nat := (List.range 16).filter (domainOn s)

/-- Both limits of R58 are met. -/
def withinLimits (s : State) : Bool := budgetMw s ≤ effectiveCapMw s && (poweredGroups s).length ≤ s.power.allowance

/-- A PLL whose island has lost its power is no longer locked (R136). -/
def dropLocks (s : State) : State :=
  s.onClocks (fun c => { c with locked := (List.range 19).foldl (fun m i => if islandOn s i then m else m &&& ~~~(1#19 <<< i)) c.locked })
/-- Switch a domain. -/
def setDomain (s : State) (d : Nat) (on : Bool) : State :=
  let b : BitVec 50 := 1#50 <<< d
  let s1 := s.onPower (fun p => { p with
    domains := if on then p.domains ||| b else p.domains &&& ~~~b, retained := p.retained &&& ~~~b })
  if on then s1 else dropLocks s1
def setDomains (s : State) (ds : List Nat) (on : Bool) : State := ds.foldl (fun a d => setDomain a d on) s

/-- VCORE code of an operating point (Table 2.1). -/
def OpPoint.vcode : OpPoint → Nat
  | .full => 25 | .safe => 20 | .doze => 0
/-- Clock of an island at an operating point, in 0.01 MHz (Tables 2.1 and 3.1, in the order of Table 3.1); at OP_DOZE the Stipe runs at
125 MHz and the engine islands are off. -/
def OpPoint.clock (p : OpPoint) (i : Nat) : Nat :=
  let nominal := if i == 0 then 10000 else if i == 1 then 1250 else if i == 2 then 50000 else if 3 ≤ i && i ≤ 6 then 60000 else if i == 7 then 100000
    else if i == 8 || i == 9 then 80000 else if i == 10 then 90000 else if i == 11 then 40000 else if i == 12 then 20000 else if i == 13 then 50000
    else if i == 14 || i == 15 then 10000 else if i == 16 then 1356 else if i == 17 then 14000 else 5000
  let scaled := 2 ≤ i && i ≤ 12
  match p with
  | .full => nominal
  | .safe => if scaled then nominal / 2 else nominal
  | .doze => if i == 2 then 12500 else if 3 ≤ i && i ≤ 10 then 0 else if scaled then nominal / 2 else nominal
/-- The clock an island runs at now (R46, R47). -/
def islandClock (s : State) (i : Nat) : Nat := s.power.clk.clock i

/-- Begin a voltage transition at an epoch boundary (R45), the last multiple of 1000 of Seta; none when the point is in force. On a fall the
clocks are lowered before the first step (R47). -/
def startTransition (s : State) (p : OpPoint) : State :=
  if s.power.op == p && s.power.target.isNone then s
  else s.onPower (fun x => { x with
    target := some p, aborted := false, moveFrom := x.vcore, moveAt := s.clocks.seta / 1000 * 1000, clk := if p.vcode ≤ x.vcore then p else x.clk })

/-- The code a transition has reached at a Seta value: one step of 10 mV each 2 µs (R45, Table 2.2). -/
def Power.codeAt (x : Power) (p : OpPoint) (t : Nat) : Nat :=
  let n := (t - x.moveAt) / 200
  if x.moveFrom < p.vcode then min p.vcode (x.moveFrom + n) else max p.vcode (x.moveFrom - n)
/-- Seta at which the point of a transition is in force: after its last step, and on a rise 2 µs later, when the clocks follow (R46). -/
def Power.settledAt (x : Power) (p : OpPoint) : Nat :=
  if x.moveFrom < p.vcode then x.moveAt + 200 * (p.vcode - x.moveFrom + 1) else x.moveAt + 200 * (x.moveFrom - p.vcode)
/-- VCORE, the operating point and the clocks as Seta stands. -/
def stepVcore (s : State) : State :=
  match s.power.target with
  | none => s
  | some p =>
    s.onPower (fun x =>
      if x.settledAt p ≤ s.clocks.seta then { x with vcore := p.vcode, target := none, op := p, clk := p }
      else { x with vcore := x.codeAt p s.clocks.seta })

/-- The move to the safe point, at 50 mV/µs, with last-gasp clocks (R85, Table 2.9 step 1). -/
def moveToSafe (s : State) : State :=
  s.onPower (fun x => { x with
    aborted := x.aborted || x.target.isSome, target := none, vcore := OpPoint.vcode .safe, op := .safe, clk := .safe })

/-- The state the custodian's OFF mask leaves an awake device in (R297). -/
def awakeState (s : State) : PowerState := if s.power.offMask == 0 then .active else .trim

/-- The domain of a unit, by its key (Table 2.3). -/
def keyDomain (k : Nat) : Nat := if k < 64 then k / 4 else if k < 66 then k - 33 else if k < 70 then k - 33 else if k < 78 then k - 54 else 48
/-- Raise sources from outside the steps of Xemberon's own; `raise` wakes from DOZE where one is of the wake class (R51, R52). -/
def raiseWaking (s : State) (srcs : List Nat) : State := raise s srcs

/-- RHZ_CLOCK is reported (Table 2.12). -/
def noteClock (s : State) : State :=
  append (pwrEvent (raiseWaking (s.onPower (fun p => { p with clockNote := false })) [33]) 6) Entry.rhzClock Src.xemberon 1

/-! ### The reader field (chapter 15) -/

/-- Field-reset off time of CG_CLESS, Seta ticks (Table 4.4). -/
def fieldOffTicks (s : State) : Nat :=
  let v := bitsOf (reg s (glKey 0x260)) 16 8
  100000 * (if v == 0 then 8 else v)
/-- The field is off: no card, and off for the off time at least (R637). -/
def fieldDown (s : State) : State :=
  if !s.reader.fieldOn then s
  else s.onReader (fun r => { fault := r.fault, offUntil := s.clocks.seta + fieldOffTicks s })

/-! ### Instants of Seta -/

/-- The clocks of the shield streams and of the loops: ticks with VIN in range, ticks on VBAK alone (R718). -/
def Tamper.pass (x : Tamper) (vin : Bool) (n : Nat) : Tamper :=
  if vin then { x with vinTicks := x.vinTicks + n } else { x with vbakTicks := x.vbakTicks + n }
/-- Cycles of the frond clock in so many ticks of 10 ns: none while the island has no clock (R360). -/
def frondCycles (s : State) (n : Nat) : Nat :=
  if s.clocks.locked.getLsbD 7 && !s.clocks.lost.getLsbD 7 then n * OpPoint.clock s.power.clk 7 / 10000 else 0
/-- Seta moves to a value, modulo 2^64 (R121), and VCORE and the shield with it. A Seta that wraps leaves the boundaries taken behind it. -/
def setaTo (s : State) (t : Nat) : State :=
  stepVcore ((s.onTamper (fun x => x.pass (s.power.state != .off) (t - s.clocks.seta))).onClocks (fun c =>
    let d := { c with frondTime := c.frondTime + BitVec.ofNat 64 (frondCycles s (t - c.seta)) }
    if t < 2 ^ 64 then { d with seta := t } else { d with seta := t % 2 ^ 64, epochAt := 0, rollAt := 0, quantumAt := 0, alarmMark := [] }))
/-- Seta at an instant that is due: time passes to it when it has not come yet. Seta stands while the Sentinel has no power (R32). -/
def atInstant (s : State) (t : Nat) : State := if s.power.sentinel && s.clocks.seta < t then setaTo s t else s

/-- The next multiple of a period not yet taken: none is passed over (R126). -/
def nextBoundary (last period : Nat) : Nat := (last / period + 1) * period

end Sys2Proof.Machine
end

