-- ==== Sys2Proof/Machine/Pool.lean ====
section
/-! DEFINITION. The units of the engines: which job holds which unit, re-runs, retirement, test slots, joining and leaving the pool
(Table 9.9, R394 to R401, chapter 18), and the registers that report them. -/

namespace Sys2Proof.Machine

/-! ### Jobs and units -/

/-- Jobs of the Calyptra units: a BADGE_VERIFY whose badge has answered (R641) and an APPLET_INSTALL (R834) are such. -/
def wantsCalyptra (j : Job) : Bool := isCalyptraOp j.op || (j.op == 0x0B04 && j.aux == 3) || j.op == 0x0C01
/-- ML-KEM and ML-DSA jobs, whose lattice steps run on a slice (R432). -/
def isLatticeJob (j : Job) : Bool := isCalyptraOp j.op && 0x0407 < j.op && 0x30 ≤ param j.cmd 2 1

/-- A job is on a unit, running or preempted. -/
def Job.onUnits (j : Job) : List UnitRef :=
  (match j.stage with
    | .running u => [u]
    | .preempted u => [u]
    | _ => []) ++ (match j.twin with | some n => [.frond n] | none => []) ++
    (match j.borrowed with | some n => [.frond n] | none => [])
/-- Fronds among them. -/
def Job.frondCount (j : Job) : Nat := (j.onUnits.filter (fun u => match u with | .frond _ => true | _ => false)).length
def Job.holds (j : Job) (u : UnitRef) : Bool := j.onUnits.contains u
def busy (s : State) (u : UnitRef) : Bool := s.jobs.any (·.holds u)

/-- The island of a unit, and whether it has its clock (R136, Table 3.14). -/
def islandOf : UnitRef → Nat
  | .frond _ => 7
  | .calyptra n => 8 + n.val
  | .slice _ => 10
  | .pinna n => 3 + n.val / 2
  | .entropy => 12
  | .wrap => 11
def clocked (s : State) (u : UnitRef) : Bool := s.clocks.locked.getLsbD (islandOf u) && !s.clocks.lost.getLsbD (islandOf u)
/-- A unit in service with its clock, no job on it, and no test slot due (R785, Table 18.8). -/
def idleUnit (s : State) (u : UnitRef) : Bool := (unitOf s u).st == .inService && clocked s u && !(unitOf s u).forced && !busy s u

def fronds : List (Fin 64) := List.finRange 64
def frondState (s : State) (n : Fin 64) : PoolState := (unitOf s (.frond n)).st
def countFronds (s : State) (p : PoolState → Bool) : Nat := (fronds.filter (fun n => p (frondState s n))).length
/-- Fronds in the pool: in service, or lent to a Sorus job. -/
def inPool (s : State) : Nat := countFronds s (fun p => p == .inService || p == .borrowed)

/-- Fronds bound to a function's jobs, borrowed ones included (Table 5.12 HELD). -/
def held (s : State) (f : FnId) : Nat :=
  ((s.jobs.filter (·.cmd.fn == f)).map Job.frondCount).sum

/-- R213: the sum of minima of all functions, and a function's effective minimum. -/
def minOf (s : State) (f : FnId) : Nat := bitsOf (tenCfg s f) 8 7
def maxOf (s : State) (f : FnId) : Nat := bitsOf (tenCfg s f) 16 7
def weightOf (s : State) (f : FnId) : Nat := bitsOf (tenCfg s f) 0 8
def sumMinima (s : State) : Nat := ((List.range 256).map (fun n => minOf s (BitVec.ofNat 8 n))).sum
def effectiveMin (s : State) (f : FnId) : Nat :=
  let total := sumMinima s
  if inPool s < total then minOf s f * inPool s / total else minOf s f

/-- Table 7.10. -/
def PoolState.code : PoolState → Nat
  | .inService => 0 | .testing => 1 | .failed => 2 | .out => 3 | .shed => 4 | .borrowed => 5

/-- GL_POOL_STATUS (Table 5.9). -/
def poolStatus (s : State) : Nat :=
  inPool s + countFronds s (· == .failed) * 2 ^ 8 + countFronds s (· == .out) * 2 ^ 16 + countFronds s (· == .shed) * 2 ^ 24
/-- FN_POOL (Table 5.1). -/
def fnPool (s : State) (f : FnId) : Nat := inPool s + min (maxOf s f) (inPool s) * 2 ^ 8

/-- FN_POOL changed: POOL_CHANGED on every function (R397). -/
def poolChanged (s : State) : State := allFnEvent s 2

/-! ### Re-run -/

/-- R399: start again from the first byte, with the draws and reservations of the first run. -/
def Job.again (j : Job) : Job :=
  { j with stage := .waiting, rerun := true, twin := none, borrowed := none, chunks := 0, aux2 := 0, veinFails := [], copies := [], segs := [], passOne := none, lattice := .idle, paidTo := none, spent := 0, stepSpent := 0 }

/-- Fronds a job has borrowed: one, or two for a key of TWIN_REQUIRED (R466). -/
def Job.loans (j : Job) : List (Fin 64) :=
  match j.borrowed with
  | none => []
  | some n => n :: (match j.twin with | some m => [m] | none => [])

/-! ### Frond time (R200, R202, R392, R400, R402) -/

/-- Deficit of a function in a class of a kind of unit: 0 fronds, 1 Calyptra units, 2 slices, 3 Pinna units. -/
def shareKey (kind c : Nat) : Nat := 4 * kind + c
def deficit (s : State) (f : FnId) (kind c : Nat) : Int := SMap.get 0 (fnOf s f).deficits (shareKey kind c)
def setDeficit (s : State) (f : FnId) (kind c : Nat) (d : Int) : State :=
  onFn s f (fun x => { x with deficits := SMap.set 0 x.deficits (shareKey kind c) d })
/-- Fronds whose time a job is charged for: those it runs on, and those lent to it. -/
def Job.paying (j : Job) : Nat :=
  j.loans.length + (match j.stage with | .running (.frond _) => if j.twin.isSome then 2 else 1 | _ => 0)
/-- Add frond time to a window of epochs, newest first, or take it back. -/
def billWindow : List Nat → Int → List Nat
  | [], a => if 0 < a then [a.toNat] else []
  | x :: r, a => if 0 ≤ (x : Int) + a then ((x : Int) + a).toNat :: r else 0 :: billWindow r ((x : Int) + a)
/-- Charge a function frond time in a class: the deficit of a weighted class, the window of URGENT. -/
def bill (s : State) (f : FnId) (c : Nat) (ns : Int) : State :=
  if c == 0 then onFn s f (fun x => { x with urgentHist := billWindow x.urgentHist ns })
  else setDeficit s f 0 c (deficit s f 0 c - ns)
/-- Charge a job for its fronds up to a Seta value; time charged beyond it is returned. -/
def payTo (s : State) (c : Cmd) (t : Nat) : State :=
  match jobOf s c with
  | none => s
  | some j => match j.paidTo with
    | none => s
    | some p =>
      let ns : Int := 10 * (j.paying : Int) * ((t : Int) - p)
      bill (onJob s c (fun x => { x with paidTo := some t, spent := x.spent + ns })) c.fn (classOf s c) ns
/-- The next epoch boundary. -/
def nextEpoch (s : State) : Nat := (s.clocks.seta / 1000 + 1) * 1000
/-- A job begins to hold fronds: it is charged for the rest of the epoch. -/
def startPay (s : State) (c : Cmd) : State := payTo (onJob s c (fun x => { x with paidTo := some s.clocks.seta })) c (nextEpoch s)
/-- It holds them no longer. -/
def stopPay (s : State) (c : Cmd) : State := onJob (payTo s c s.clocks.seta) c (fun x => { x with paidTo := none })
/-- R400: what an abandoned run was charged is given back; `kept` of it was of steps that stand. -/
def refund (s : State) (c : Cmd) (kept : Int) : State :=
  match jobOf s c with
  | none => s
  | some j => bill (onJob s c (fun x => { x with spent := kept })) c.fn (classOf s c) (kept - j.spent)

/-- Fronds are no longer charged to a job, and lent ones come back, their copies of the key cleared (Table 9.9, R333, R467). -/
def giveBack (s : State) (j : Job) : State :=
  let s1 := stopPay s j.cmd
  j.loans.foldl (fun a n =>
    onUnit a (.frond n) (fun u => if u.st == .borrowed then { u with st := .inService } else u))
    (if j.borrowed.isSome then onJob s1 j.cmd (fun x => { x with borrowed := none, twin := none, copies := [], veinFails := [] }) else s1)

/-- A job's run is abandoned: it waits to start again, and nothing of the run is charged (R398 to R400). -/
def abandon (s : State) (j : Job) : State := onJob (refund (giveBack s j) j.cmd 0) j.cmd Job.again

/-- A job that only borrowed a unit loses its key-switch step and starts it again (R406, R468). -/
def onlyLent (j : Job) (u : UnitRef) : Bool := match u with | .frond n => j.loans.contains n | _ => false

/-- A slice is lost during a lattice step: the step is asked for again (Table 10.7). -/
def latticeLost (s : State) (u : UnitRef) : State :=
  match u with
  | .slice n => s.onJobs (·.map (fun j => if j.lattice == .on n then { j with lattice := .due, rerun := true } else j))
  | _ => s
/-- Jobs on a unit stop and are marked for re-run (R398), and return what they had borrowed. -/
def stopUnit (s : State) (u : UnitRef) : State × Nat :=
  let hit := s.jobs.filter (·.holds u)
  let s1 := hit.foldl (fun a j =>
    if onlyLent j u then
      onJob (refund (giveBack a j) j.cmd j.stepSpent) j.cmd (fun x => { x with rerun := true, chunks := x.aux2, spent := x.stepSpent })
    else abandon a j) s
  (latticeLost s1 u, hit.length)

/-! ### Retirement -/

def groupOf (n : Fin 64) : Nat := n.val / 4

/-- R397, R411: a frond is retired as FAILED. -/
def failFrond (s : State) (n : Fin 64) (cause : Nat) : State :=
  let (s1, k) := stopUnit s (.frond n)
  let s2 := onUnit s1 (.frond n) (fun u => { u with st := .failed, failCause := cause, passed := false, forced := false })
  let s3 := raiseWaking (poolChanged (poolEvent s2 0)) [groupOf n]
  append s3 Entry.frondFailed (Src.frond n.val) (cause + groupOf n * 2 ^ 8 + k * 2 ^ 32)

/-- UNIT_FAILED of Table 17.16: kind, index, cause, jobs re-run. -/
def unitFailedEntry (s : State) (src kind index cause k : Nat) : State :=
  append s Entry.unitFailed src (kind + index * 2 ^ 8 + cause * 2 ^ 16 + k * 2 ^ 32)

/-- A Calyptra unit or a Sorus slice is retired as FAILED (R443). -/
def failEngine (s : State) (u : UnitRef) (src kind index cause : Nat) : State :=
  let (s1, k) := stopUnit s u
  let s2 := onUnit s1 u (fun x => { x with st := .failed, failCause := cause, passed := false, forced := false })
  unitFailedEntry (poolEvent s2 2) src kind index cause k

/-- Retire a unit with a cause code of Table 9.13 or Table 17.16. A Pinna core takes its pair with it in paired mode (R801, R854). -/
def failUnit (s : State) (u : UnitRef) (cause : Nat) : State :=
  match u with
  | .frond n => failFrond s n cause
  | .calyptra n => failEngine s u (Src.calyptra n.val) 2 n.val cause
  | .slice n => failEngine s u (Src.slice n.val) 3 n.val cause
  | .pinna n =>
    let even := n.val / 2 * 2
    let mates := if s.pinnas.split then [n] else (List.finRange 8).filter (fun m => m.val / 2 * 2 == even)
    let s1 := mates.foldl (fun a m => onUnit a (.pinna m) (fun x => { x with st := .failed, failCause := cause, passed := false, forced := false })) s
    unitFailedEntry s1 Src.xemberon 4 (if s.pinnas.split then n.val else even) cause 0
  | .entropy =>
    let s1 := onUnit s u (fun x => { x with st := .failed, failCause := cause, passed := false, forced := false })
    append ((raiseWaking s1 [62]).onEntropy (fun e => { e with coreFailed := true, healthFailures := e.healthFailures + 1 }))
      Entry.entropyHealth (Src.entropy 0xFF) (0xFF + 4 * 2 ^ 8)
  | .wrap =>
    let s1 := onUnit s u (fun x => { x with st := .failed, failCause := cause, passed := false, forced := false })
    unitFailedEntry (s1.onMedulla (fun m => { m with wrapFailed := true })) Src.xemberon 5 0 cause 0

/-- R200: a function's URGENT cap, in percent, and its use against the fronds in service over 1 ms: with `n` fronds more for the rest of the
epoch it stays within the cap. -/
def urgentCap (s : State) (f : FnId) : Nat :=
  let own := bitsOf (tenCfg s f) 24 7
  if own == 0 then bitsOf (schedCfg s) 24 7 else own
def urgentUsed (s : State) (f : FnId) : Nat := (fnOf s f).urgentHist.sum
def underCap (s : State) (f : FnId) (n : Nat) : Bool :=
  (urgentUsed s f + 10 * n * (nextEpoch s - s.clocks.seta)) * 100 ≤ urgentCap s f * inPool s * 1000000
/-- Time charged to a function's URGENT jobs that has not passed yet. -/
def urgentAhead (s : State) (f : FnId) : Nat :=
  ((s.jobs.filter (fun j => j.cmd.fn == f && classOf s j.cmd == 0)).map (fun j => 10 * j.paying * (j.paidTo.getD 0 - s.clocks.seta))).sum
/-- URGENT_USE, 0.1 % units (Table 5.12). -/
def urgentUse (s : State) (f : FnId) : Nat :=
  if inPool s == 0 then 0 else min 1000 ((urgentUsed s f - urgentAhead s f) * 1000 / (inPool s * 1000000))

/-! ### Test slots and joining -/

/-- Take a unit for its known-answer set. -/
def startTest (s : State) (u : UnitRef) (why : TestCause) : State :=
  onUnit s u (fun x => { x with st := .testing, why := why, passed := false, forced := false })

/-- A unit in a test slot (R780, R793). -/
def inSlot (s : State) (u : UnitRef) : Bool := (unitOf s u).st == .testing && ((unitOf s u).why == .slot || (unitOf s u).why == .selfTest)
/-- A SELF_TEST still waits for the unit: `aux` of the command holds such units, one bit each (R301). -/
def testWanted (s : State) (u : UnitRef) : Bool := s.jobs.any (fun j => j.op == 0x0D02 && j.stage == .testing && bitOf j.aux (unitKey u))

/-- A unit on which a job runs; the partners of a twin job run together (R393). -/
def runningHere (s : State) (u : UnitRef) : Option Job :=
  s.jobs.find? (fun j => match j.stage with
    | .running v => v == u || (match v, j.twin with | .frond _, some m => u == .frond m | _, _ => false)
    | _ => false)
/-- Sorus stands still: at 120 °C, or until the epoch boundary after a phase was lost (R492). -/
def sorusOff (s : State) : Bool := s.power.sorusStopped || s.power.sorusHold
/-- A job whose units are all in service or lent and run no other job may run on; on a slice not while Sorus stands still (R492), and URGENT
work within its function's cap (R200). -/
def mayResume (s : State) (j : Job) : Bool :=
  !(sorusOff s && isSliceOp j.op) && (classOf s j.cmd != 0 || j.frondCount == 0 || underCap s j.cmd.fn j.frondCount) && j.onUnits.all (fun v => ((unitOf s v).st == .inService || (unitOf s v).st == .borrowed) && (runningHere s v).isNone)
/-- The job preempted on a unit runs on (R207, R438, R489), an URGENT one first; a suspended invocation waits for INVOCATION_RESUME. -/
def resumeOn (s : State) (u : UnitRef) : State :=
  let l := s.jobs.filter (fun j => j.holds u && (match j.stage with | .preempted (.pinna _) => false | .preempted _ => true | _ => false) && mayResume s j)
  match (l.filter (fun j => classOf s j.cmd == 0)) ++ l with
  | j :: _ => match j.stage with
    | .preempted v => startPay (onJob s j.cmd (fun x => { x with stage := .running v, lattice := if isLatticeJob x then .due else x.lattice })) j.cmd
    | _ => s
  | [] => s

/-- A unit back in service at once (R784, Table 9.9), a frond that is lent to the job that borrowed it; a job it held runs on. A slot that a
SELF_TEST asks for stays due. -/
def backInService (s : State) (u : UnitRef) : State :=
  let lent := s.jobs.any (fun j => j.borrowed.isSome && (match u with | .frond n => some n == j.borrowed || some n == j.twin | _ => false))
  resumeOn (onUnit s u (fun x => { x with st := if lent then .borrowed else .inService, lastTest := s.clocks.seta, passed := false, forced := testWanted s u })) u

/-- FAILED cause of a known-answer failure, by what the test was for (Tables 9.13 and 17.16). -/
def testCauseCode (u : UnitRef) : TestCause → Nat
  | .slot => 1
  | .mismatch => match u with | .pinna _ => 8 | _ => 2
  | .selfTest => 6
  | .join | .returning => 7

/-- A known-answer set ends (R784, R294, Table 9.9): a join test that passes waits for the epoch boundary. -/
def endTest (s : State) (u : UnitRef) (pass : Bool) : State :=
  let x := unitOf s u
  if !pass then failUnit s u (testCauseCode u x.why)
  else match x.why with
    | .join | .returning => onUnit s u (fun x => { x with passed := true, lastTest := s.clocks.seta })
    | _ => backInService s u

/-- Units that UNIT_OUT and UNIT_RETURN name (Table 7.10). -/
def unitsOfKind (kind index : Nat) : List UnitRef :=
  match kind with
  | 0 => if h : index < 64 then [.frond ⟨index, h⟩] else []
  | 1 => (List.finRange 64).filterMap (fun n => if n.val / 4 == index then some (.frond n) else none)
  | 2 => if h : index < 2 then [.calyptra ⟨index, h⟩] else []
  | 3 => if h : index < 4 then [.slice ⟨index, h⟩] else []
  | _ => []

/-- PINNA_MODE completes when its cores have joined or failed (R849); UNIT_RETURN (R293, R294) completes when its units have joined or one has failed. `aux` holds KIND and INDEX. -/
def returnReply (s : State) (j : Job) : Option Reply :=
  if j.op == 0x0C05 then
    if (List.finRange 8).any (fun n => (unitOf s (.pinna n)).st == .testing) then none else some { res0 := flagBit s.pinnas.split 0 }
  else
  let us := unitsOfKind (j.aux % 256) (j.aux / 256)
  if us.any (fun u => (unitOf s u).st == .failed) then some { status := Status.selfTestFailed, detail := j.aux % 2 ^ 16 }
  else if us.all (fun u => (unitOf s u).st == .inService || (unitOf s u).st == .borrowed) then
    some { res0 := 3, res1 := poolStatus s }
  else none
def settleReturns (s : State) : State :=
  (s.jobs.filter (fun j => (j.op == 0x0903 || j.op == 0x0C05) && j.stage == .testing)).foldl
    (fun a j => match returnReply a j with | some r => post a j r | none => a) s

/-- Every unit that has a key in the map of units. -/
def allUnits : List UnitRef :=
  fronds.map .frond ++ (List.finRange 2).map .calyptra ++ (List.finRange 4).map .slice ++ (List.finRange 8).map .pinna

/-! ### SELF_TEST (R301, R302) -/

/-- KIND of a unit for a DETAIL (R294). -/
def kindOf : UnitRef → Nat × Nat
  | .frond n => (0, n.val)
  | .calyptra n => (2, n.val)
  | .slice n => (3, n.val)
  | .entropy => (4, 0)
  | .pinna n => (5, n.val)
  | .wrap => (5, 0)

/-- Reply of a SELF_TEST whose units have all answered. -/
def selfTestReply (j : Job) : Reply :=
  let failed := bitsOf j.aux2 16 16
  { status := if failed == 0 then 0 else Status.selfTestFailed, detail := bitsOf j.aux2 32 16, res0 := bitsOf j.aux2 0 16, res1 := failed }

/-- Count a unit for the SELF_TEST commands that named it: its test passed or failed, or there is none to come (`counted` false). -/
def noteTested (s : State) (u : UnitRef) (counted pass : Bool) : State :=
  let k := kindOf u
  (s.jobs.filter (fun j => j.op == 0x0D02 && j.stage == .testing && bitOf j.aux (unitKey u))).foldl (fun a j =>
    let first := if counted && !pass && bitsOf j.aux2 16 16 == 0 then (k.1 + k.2 * 2 ^ 8) * 2 ^ 32 else 0
    let j' := { j with aux := j.aux - 2 ^ unitKey u, aux2 := j.aux2 + (if !counted then 0 else if pass then 1 else 1 + 2 ^ 16) + first }
    if j'.aux == 0 then post (onJob a j.cmd (fun _ => j')) j' (selfTestReply j') else onJob a j.cmd (fun _ => j')) s

/-- A unit that a SELF_TEST named comes to no slot any more: one that has failed counts as failed, one that has gone OUT or lost its power does
not count (log entry 82). -/
def settleSelfTest (s : State) (u : UnitRef) : State :=
  let x := unitOf s u
  if !testWanted s u || x.forced || inSlot s u || (x.st == .testing && x.why == .mismatch) then s
  else if x.st == .failed then noteTested s u true false
  else noteTested s u false true
def settleSelfTests (s : State) : State :=
  if s.jobs.all (fun j => j.op != 0x0D02) then s else (allUnits ++ [UnitRef.entropy]).foldl settleSelfTest s

/-- A unit's domain is powered. -/
def unitPowered (s : State) : UnitRef → Bool
  | .frond n => domainOn s (n.val / 4)
  | .calyptra n => domainOn s (31 + n.val)
  | .slice n => domainOn s (33 + n.val)
  | .pinna n => domainOn s (16 + n.val)
  | .entropy => domainOn s 48
  | .wrap => true

/-- The units that have passed join the pool at the epoch boundary (R49, R293, R414). -/
def joinUnits (s : State) : State :=
  let ready := allUnits.filter (fun u => (unitOf s u).st == .testing && (unitOf s u).passed && unitPowered s u)
  if ready.isEmpty then s
  else
    let s1 := ready.foldl (fun a u =>
      onUnit a u (fun x => { x with st := .inService, passed := false, joinedAt := s.clocks.seta })) s
    let s2 := if ready.any (fun u => match u with | .frond _ => true | _ => false) then poolChanged (poolEvent s1 1) else s1
    settleReturns s2

/-- A unit goes OUT (R291, R298): its jobs are re-run elsewhere. -/
def takeOut (s : State) (u : UnitRef) : State :=
  onUnit (stopUnit s u).1 u (fun x => { x with st := .out, passed := false, forced := false })

/-! ### Shedding -/

def groupFronds (g : Nat) : List (Fin 64) := fronds.filter (fun n => n.val / 4 == g)
/-- The test age of a unit, and a list of units in its order. -/
def testAge (s : State) (u : UnitRef) : Nat := s.clocks.seta - (unitOf s u).lastTest
def oldestFirst (s : State) (us : List UnitRef) : List UnitRef :=
  us.foldr (fun u l => (l.takeWhile (fun v => testAge s v > testAge s u)) ++ u :: l.dropWhile (fun v => testAge s v > testAge s u)) []
/-- A frond of the group is in a test slot (R781). -/
def groupTesting (s : State) (n : Fin 64) : Bool :=
  (groupFronds (groupOf n)).any (fun m => inSlot s (.frond m))
/-- A due test slot may be taken now: one frond of a group at a time. -/
def slotFree (s : State) : UnitRef → Bool
  | .frond n => !groupTesting s n
  | _ => true
/-- Units without a job whose forced slot is due are taken, the oldest first (R780, R781). -/
def startForced (s : State) : State :=
  (oldestFirst s ((allUnits ++ [UnitRef.entropy, UnitRef.wrap]).filter (fun u => (unitOf s u).forced && (unitOf s u).st == .inService && !busy s u && unitPowered s u))).foldl
    (fun a u => if slotFree a u then startTest a u (unitOf a u).why else a) s
def groupBusy (s : State) (g : Nat) : Bool := (groupFronds g).any (fun n => busy s (.frond n))

/-- A unit without power: SHED, but FAILED and OUT as they were; one that the custodian returns stays TESTING until it has power (Table 7.14). -/
def UnitSt.shed (x : UnitSt) : UnitSt :=
  if x.st == .failed || x.st == .out || (x.st == .testing && x.why == .returning) then { x with passed := false }
  else { x with st := .shed, forced := false, passed := false }
/-- R59, R60: power a frond group off. Its fronds in service read SHED and the jobs on them are re-run. -/
def shedGroup (s : State) (g : Nat) : State :=
  setDomain ((groupFronds g).foldl (fun a n => onUnit (stopUnit a (.frond n)).1 (.frond n) UnitSt.shed) s) g false

/-- The highest-numbered idle group, else the highest-numbered busy one. -/
def shedVictim (s : State) : Option Nat :=
  let gs := (poweredGroups s).reverse
  match gs.find? (fun g => !groupBusy s g) with
  | some g => some g
  | none => gs.head?

/-- Shed until both limits are met (R57 to R60). -/
def shedTo : Nat → State → State
  | 0, s => s
  | k + 1, s => if withinLimits s then s else match shedVictim s with | none => s | some g => shedTo k (shedGroup s g)

/-- What shedding reports: POOL_CHANGED, and THERMAL_SHED when the allowance asked for it. -/
def shed (s : State) : State :=
  let thermal := (poweredGroups s).length > s.power.allowance && budgetMw s ≤ effectiveCapMw s
  let s1 := shedTo 16 s
  if s1.power.domains == s.power.domains then s
  else poolChanged (if thermal then pwrEvent s1 3 else s1)

/-- R61: the lowest shed group returns when there is headroom; none in SAFE_HOLD, which keeps one group (R65). -/
def returnGroup (s : State) : State :=
  if s.power.safeHold.isSome then s
  else match (List.range 16).find? (fun g => !domainOn s g && !s.power.offMask.getLsbD g && (groupFronds g).any (fun n => frondState s n == .shed)) with
  | none => s
  | some g =>
    let s1 := setDomain s g true
    if withinLimits s1 then
      (groupFronds g).foldl (fun a n => if frondState a n == .shed then startTest a (.frond n) .join else a) s1
    else s

end Sys2Proof.Machine
end

