-- ==== Sys2Proof/Machine/Slots.lean ====
section
/-! DEFINITION. Medulla: the attribute word, allotments, the checks of Table 8.5, key derivation, persistent records and their reload
(chapter 8). -/

namespace Sys2Proof.Machine

/-! ### The attribute word (Tables 8.3 and 8.4) -/

def slotOf (s : State) (n : Nat) : Slot := SMap.get {} s.medulla.slots n
/-- The copy of its key that a job's engine works with (R331, R333). -/
def jobKey (s : State) (c : Cmd) : Bytes := ((jobOf s c).bind (·.copies.head?)).elim [] (·.2)
def setSlot (s : State) (n : Nat) (x : Slot) : State := s.onMedulla (fun m => { m with slots := SMap.set {} m.slots n x })
def attrOf (s : State) (n : Nat) : Nat := (slotOf s n).attr.toNat
def attrValid (a : Nat) : Bool := bitOf a 8
def attrPersistent (a : Nat) : Bool := bitOf a 9
def attrType (a : Nat) : Nat := bitsOf a 10 5
def attrLength (a : Nat) : Nat := bitsOf a 15 10
def attrVersion (a : Nat) : Nat := bitsOf a 52 12
/-- USAGE bits: 0 ENCRYPT to 7 AGREE. -/
def attrUsage (a u : Nat) : Bool := bitOf a (25 + u)
def attrMode (a m : Nat) : Bool := bitOf a (33 + m)
/-- ENGINES: 0 frond, 1 Calyptra, 2 Sorus. -/
def attrEngine (a e : Nat) : Bool := bitOf a (41 + e)

/-- Key length in bits of a TYPE; the template's LENGTH for TYPE 0x06. -/
def typeBits (ty len : Nat) : Nat :=
  match ty with
  | 0x00 => 128 | 0x01 => 192 | 0x02 => 256 | 0x03 => 256 | 0x04 => 512 | 0x05 => 256 | 0x06 => len | 0x07 => 256
  | 0x08 => 256 | 0x09 => 384 | 0x0A => 521 | 0x0B => 256 | 0x0C => 456 | 0x0D => 256 | 0x0E => 448 | 0x0F => 512 | 0x10 => 256
  | _ => 0
def typeBytes (ty len : Nat) : Nat := (typeBits ty len + 7) / 8

/-- The template fields: TYPE, LENGTH, USAGE, MODES, ENGINES, EXPORTABLE, TWIN_REQUIRED, APPLET_USE. -/
def templateOf (a : Nat) : Nat := bitsOf a 10 37 * 2 ^ 10
/-- A template that sets nothing else, with a LENGTH only for TYPE 0x06, 128 to 576 and a multiple of 8. -/
def templateOk (a : Nat) : Bool :=
  templateOf a == a && attrType a ≤ 0x10 &&
    (if attrType a == 6 then 128 ≤ attrLength a && attrLength a ≤ 576 && attrLength a % 8 == 0 else attrLength a == 0)

/-- The attribute word written with key material (R311, R316). ORIGIN: 1 generated, 2 imported, 3 derived, 4 agreed. -/
def newAttr (owner template origin version : Nat) (appletUse isInternal : Bool) : U64 :=
  let ty := attrType template
  BitVec.ofNat 64 (owner % 256 + 2 ^ 8 + ty * 2 ^ 10 + typeBits ty (attrLength template) % 1024 * 2 ^ 15 +
    bitsOf template 25 21 * 2 ^ 25 + (if appletUse || bitOf template 46 then 2 ^ 46 else 0) +
    (if isInternal then 2 ^ 47 else 0) + origin % 8 * 2 ^ 48 + version % 4096 * 2 ^ 52)

/-! ### Allotments -/

/-- A function's allotment (Table 8.1, R312). -/
def allotment (s : State) (f : FnId) : List Nat :=
  if f == 0 then (List.range 256).map (· + 32) else (fnOf s f).slots

/-- Slots of the tenant pool that no function has. -/
def freeSlots (s : State) : List Nat :=
  let taken := s.fns.flatMap (fun e => if e.2.assigned then e.2.slots else [])
  ((List.range 3808).map (· + 288)).filter (fun n => !taken.contains n)

/-- A record of the region counts as live (R338). -/
def recLive (r : KeyRec) : Bool := r.committed && !r.tombstone && r.headerOk
/-- The live record of a slot and owner. -/
def recordFor (s : State) (slot owner : Nat) : Option (Nat × KeyRec) :=
  s.medulla.records.find? (fun e => recLive e.2 && e.2.slot == slot && e.2.owner == owner)

/-- Slots in use of an allotment (GET_LIMITS, TENANT_STATUS). -/
def slotsInUse (s : State) (f : FnId) : Nat := ((allotment s f).filter (fun n => attrValid (attrOf s n))).length

/-- R315: VALID, or a committed record that is not loaded. -/
def occupied (s : State) (owner n : Nat) : Bool := attrValid (attrOf s n) || (recordFor s n owner).isSome

/-- A KEY_DELETE of the slot has started and waits for its jobs (R326, R327). -/
def beingDeleted (s : State) (n : Nat) : Bool := s.jobs.any (fun j => j.op == 0x0204 && j.stage != .fetched && j.aux == n + 1)

def isApplet (c : Cmd) : Bool := match c.issuer with | .applet _ => true | .host => false

/-! ### Table 8.5 -/

/-- Checks 1 and 2: `off` is the slot field's place in PARAMS; `internal` the internal slots Table 8.2 permits here. -/
def slotNamed (s : State) (c : Cmd) (off n : Nat) (internals : List Nat) : Option Reply :=
  if n ≥ 4096 then some (bad off)
  else if !((allotment s c.fn).contains n || (c.fn == 0 && internals.contains n)) then some (fail Status.keyNotOwned)
  else none

/-- R317: every check of Table 8.5; `use` is the condition of check 5, and `deleted` says that a KEY_DELETE has started (R327). -/
def slotChecks (s : State) (c : Cmd) (off n : Nat) (deleted : Bool) (use : Nat → Bool) : Option Reply :=
  let a := attrOf s n
  match slotNamed s c off n [] with
  | some r => some r
  | none =>
    if !attrValid a || deleted || (attrPersistent a && s.medulla.unusable) then
      some (fail (if (recordFor s n c.fn.toNat).isSome && !deleted then Status.keyUnusable else Status.keyEmpty))
    else if isApplet c && !bitOf a 46 then some (fail Status.keyUsage)
    else if !use a then some (fail Status.keyUsage)
    else none
/-- Xemberon's check at the start of a command. -/
def slotRefusal (s : State) (c : Cmd) (off n : Nat) (use : Nat → Bool) : Option Reply := slotChecks s c off n (beingDeleted s n) use

/-- A started command has taken the slot for the key it makes (Table 8.12). -/
def spokenFor (s : State) (n : Nat) : Bool := s.jobs.any (fun j => j.fills == some (some n))
/-- The slot a creating command fills (R314, R315). -/
def slotToFill (s : State) (c : Cmd) (n : Nat) : Except Reply Nat :=
  let gone := fun k => occupied s c.fn.toNat k || spokenFor s k
  if n == 0xFFFF then
    match (allotment s c.fn).find? (fun k => !gone k) with
    | some k => .ok k
    | none => .error (fail Status.allotmentFull)
  else if gone n then .error (bad 0)
  else .ok n

/-! ### Slots of the commands that agree on a secret or make a private key (R424 to R427) -/

/-- Calyptra commands that write OUT_SLOT. -/
def fillsSlot (op : Nat) : Bool := [0x0407, 0x0408, 0x0409, 0x040A].contains op
def secretBytes (alg : Nat) : Nat :=
  match alg with
  | 0x10 => 32 | 0x11 => 48 | 0x12 => 66 | 0x28 => 32 | 0x29 => 56 | _ => 32
/-- R427: OUT_SLOT may hold the same agreed secret. -/
def sameSecretSlot (s : State) (op : Nat) (c : Cmd) : Bool :=
  let out := param c 6 2
  let a := attrOf s out
  (op == 0x0407 || op == 0x040A) && out != 0xFFFF && attrValid a && a % 256 == c.fn.toNat && bitsOf a 48 3 == 4 &&
    attrLength a == 8 * secretBytes (param c 2 1)
/-- An empty slot named by agreements of the function alone, of which the first to write takes it (Table 10.7). -/
def sharedSlot (s : State) (op : Nat) (c : Cmd) : Bool :=
  let out := param c 6 2
  (op == 0x0407 || op == 0x040A) && out != 0xFFFF && !occupied s c.fn.toNat out && s.jobs.all (fun j => j.fills != some (some out) ||
    ((j.op == 0x0407 || j.op == 0x040A) && param j.cmd 6 2 == out && j.cmd.fn == c.fn))
/-- A command takes its slot as it starts (R314, Table 8.12), once. -/
def takeSlot (s : State) (j : Job) : Except Reply State :=
  if !fillsSlot j.op || j.fills.isSome then .ok s
  else if sameSecretSlot s j.op j.cmd then .ok (onJob s j.cmd (fun x => { x with fills := some none }))
  else if sharedSlot s j.op j.cmd then .ok (onJob s j.cmd (fun x => { x with fills := some (some (param j.cmd 6 2)) }))
  else match slotToFill s j.cmd (param j.cmd 6 2) with
    | .error r => .error r
    | .ok k => .ok (onJob s j.cmd (fun x => { x with fills := some (some k) }))

/-- Write key material into a slot: VERSION counts every write. -/
def fillSlot (s : State) (c : Cmd) (n template origin : Nat) (key : Bytes) : State :=
  setSlot s n { attr := newAttr c.fn.toNat template origin (attrVersion (attrOf s n) + 1) (isApplet c) false, key := key }
/-- Empty a slot; its count of writes goes on. -/
def emptySlot (s : State) (n : Nat) : State :=
  setSlot s n { attr := BitVec.ofNat 64 (attrVersion (attrOf s n) * 2 ^ 52), key := [] }
/-- The reply of KEY_GENERATE, KEY_IMPORT, KEY_DERIVE. -/
def slotReply (s : State) (n : Nat) : Reply := { res0 := n, res1 := attrOf s n % 2 ^ 32, res2 := attrOf s n / 2 ^ 32 }

/-! ### Key derivation (R322, R889) -/

/-- Counter mode of SP 800-108 with AES-256-CMAC, `n` bytes, from block `i`. -/
def kdfBlocks (key fixed : Bytes) : Nat → Nat → Bytes
  | 0, _ => []
  | k + 1, i => Config.cmac key (beBytes 4 i ++ fixed) ++ kdfBlocks key fixed k (i + 1)
def kdf (key fixed : Bytes) (n : Nat) : Bytes := (kdfBlocks key fixed ((n + 15) / 16) 1).take n
/-- R889: 256 bits under a label and a context. -/
def kdfLabel (key label ctx : Bytes) : Bytes := kdf key (label ++ [0] ++ ctx ++ beBytes 4 256) 32
/-- R322: a base key of another length than 256 bits is condensed. -/
def baseKey (base : Bytes) (bits : Nat) : Bytes :=
  let z : Bytes := List.replicate 32 0
  if bits == 256 then base else Config.cmac z ([1] ++ base) ++ Config.cmac z ([2] ++ base)

def wordsBe (ws : List U64) : Bytes := ws.flatMap (fun w => beBytes 8 w.toNat)
def saltWords (s : State) : List U64 := (List.range 4).map (fun i => otp s (26 + i))
/-- R335: the KEK, absent while the seed is erased (R349). The seed and the salt are 64-bit words of Spore and OTP; they enter the context word by
word, each big-endian: DESIGN CHOICE (log entry 84). -/
def deriveKek (s : State) : Option Bytes :=
  if seedErased s || s.medulla.kekBlocked then none
  else some (kdfLabel Config.pufKey [0x4B, 0x45, 0x4B] (wordsBe (seedWords s) ++ wordsBe (saltWords s)))
/-- R335: slot 1, the log chain key. -/
def deriveChainKey (s : State) : Bytes :=
  kdfLabel Config.pufKey [0x4C, 0x4F, 0x47, 0x43, 0x48, 0x41, 0x49, 0x4E] (wordsBe (saltWords s))
/-- Slot 1 filled (Table 8.2). -/
def loadChainKey (s : State) : State :=
  setSlot s 1 { attr := newAttr 0 (2 * 2 ^ 10) 0 1 false true, key := deriveChainKey s }

/-! ### Context-wrapping keys (R342, R343) -/

def ctxId (s : State) (f : FnId) : Nat :=
  (bootEpoch s).toNat + (fnOf s f).flrs.toNat * 2 ^ 32 + f.toNat * 2 ^ 48 + 2 ^ 56
/-- A new context-wrapping key from I0; without entropy the bank holds none. -/
def renewCtxKey (s : State) (f : FnId) : State :=
  match drawOwn s 0 32 with
  | (some k, s1) => onFn s1 f (fun x => { x with ctxKey := k })
  | (none, s1) => onFn s1 f (fun x => { x with ctxKey := [] })

/-! ### Persistent records -/

/-- The flash sector of a record: 36 sectors, 32 records each. -/
def recordUnit (i : Nat) : FlashUnit := ⟨2, 18 + i / 32⟩
/-- Records a sector of the region holds, live or not. -/
def sectorUsed (s : State) (x : Nat) : Nat := (s.medulla.records.filter (fun e => e.1 / 32 == x)).length
/-- The region has lost a WORN sector that has no replacement (R579). -/
def sectorLost (s : State) (x : Nat) : Bool := dataSectorLost s (18 + x)
/-- Sectors that take records: neither lost nor being compacted. -/
def keyRegion (s : State) : List Nat := (List.range 36).filter (fun x => !sectorLost s x && s.medulla.compacting != some x)
/-- Empty ones among them; four are kept for compaction (R339). -/
def emptySectors (s : State) : List Nat := (keyRegion s).filter (fun x => sectorUsed s x == 0)
def partSectors (s : State) : List Nat := (keyRegion s).filter (fun x => sectorUsed s x != 0 && sectorUsed s x < 32)
/-- Free records of the region (R325, R339). -/
def freeRecords (s : State) : Nat := ((partSectors s).map (32 - sectorUsed s ·)).sum + 32 * ((emptySectors s).length - 4)
/-- The place the next record is written to: the first erased one of a sector in use, else of an empty sector that may be taken. -/
def freeRecord (s : State) : Option Nat :=
  match partSectors s with
  | x :: _ => ((List.range 32).map (32 * x + ·)).find? (fun i => !(s.medulla.records.any (·.1 == i)))
  | [] => if (emptySectors s).length > 4 then (emptySectors s).head?.map (32 * ·) else none

/-- R337, R889: the key a record of an owner and a tenant generation is wrapped under. -/
def persistKey (kek : Bytes) (owner : Nat) (gen : BitVec 16) : Bytes :=
  kdfLabel kek [0x50, 0x45, 0x52, 0x53, 0x49, 0x53, 0x54] (beBytes 1 owner ++ beBytes 2 gen.toNat)
/-- What WRAPPED carries: the attribute word and the key material, zero-padded to 72 bytes (Table 8.8). -/
def recordBody (attr : U64) (key : Bytes) : Bytes := leBytes 8 attr.toNat ++ (key ++ List.replicate 72 0).take 72
def genOf (s : State) (owner : Nat) : BitVec 16 := (fnOf s (BitVec.ofNat 8 owner)).generation
/-- A record of a slot, whose COMMIT is still to be programmed (R324). -/
def newRecord (s : State) (n owner : Nat) (attr : U64) (key : Bytes) : KeyRec :=
  { slot := n, owner := owner, gen := genOf s owner, wrapped := Config.kwpWrap (persistKey (s.medulla.kek.getD []) owner (genOf s owner)) (recordBody attr key), seed := seedWords s }
def putRecord (s : State) (i : Nat) (r : KeyRec) : State := s.onMedulla (fun m => { m with records := SMap.set {} m.records i r })
/-- A command programs a record at a place that it takes now; its COMMIT is programmed last. -/
def programRecord (s : State) (j : Job) (i : Nat) (r : KeyRec) : State :=
  onJob (flashCommand (putRecord s i r) j (recordUnit i)) j.cmd (fun x => { x with place := some i })
/-- COMMIT is programmed. -/
def commitRecord (s : State) (i : Nat) : State :=
  s.onMedulla (fun m => { m with records := m.records.map (fun e => if e.1 == i then (e.1, { e.2 with committed := true }) else e) })
/-- A record written whole. -/
def writeRecord (s : State) (n owner : Nat) (attr : U64) (key : Bytes) : State :=
  match freeRecord s with
  | none => s
  | some i => commitRecord (putRecord s i (newRecord s n owner attr key)) i
/-- Program the TOMBSTONE of a slot's live records, but the one at a place. -/
def buryOthers (s : State) (n owner : Nat) (keep : Option Nat) : State :=
  s.onMedulla (fun m => { m with
    records := m.records.map (fun e => if recLive e.2 && e.2.slot == n && e.2.owner == owner && some e.1 != keep then (e.1, { e.2 with tombstone := true }) else e)
    unloadable := m.unloadable.filter (· != n) })
def buryRecords (s : State) (n owner : Nat) : State := buryOthers s n owner none

/-- R337, R349: a record unwraps under the present seed and generation. -/
def recUnwraps (s : State) (r : KeyRec) : Bool :=
  !r.damaged && s.medulla.kek.isSome && r.seed == seedWords s && r.gen == genOf s r.owner
/-- What it unwraps to. -/
def openRecord (s : State) (r : KeyRec) : Option Slot :=
  if !recUnwraps s r then none
  else (Config.kwpUnwrap (persistKey (s.medulla.kek.getD []) r.owner r.gen) r.wrapped).map (fun p =>
    let attr := BitVec.ofNat 64 (leNat (p.take 8))
    { attr := attr, key := (p.drop 8).take (typeBytes (attrType attr.toNat) (attrLength attr.toNat)) })

/-- R341, R357: load one live record, or leave its slot empty and log it. -/
def loadRecord (s : State) (r : KeyRec) : State :=
  if !recLive r then
    if r.committed && !r.tombstone && !r.headerOk then append s Entry.keyRecordBad Src.xemberon (2 ^ 40) else s
  else if attrValid (attrOf s r.slot) then s
  else match openRecord s r with
    | some x => setSlot s r.slot { x with attr := x.attr ||| (1 <<< 9 : U64) }
    | none =>
      let s1 := s.onMedulla (fun m => { m with unloadable := r.slot :: m.unloadable })
      append s1 Entry.keyRecordBad Src.xemberon (r.slot + r.owner * 2 ^ 16 + r.gen.toNat * 2 ^ 24)

/-- Boot step 18 (R140, R341, R349); a wrap unit that has failed reloads nothing (R358). -/
def reloadRecords (s : State) : State :=
  if s.medulla.kek.isNone || s.medulla.wrapFailed then s else s.medulla.records.foldl (fun a e => loadRecord a e.2) s

end Sys2Proof.Machine
end

