-- ==== Sys2Proof/Machine/Sched.lean ====
section
/-! DEFINITION. The scheduler: class and tenant order, minima, weighted shares, URGENT caps and the binding of jobs to units (R199 to
R208, R381, R392, R401, R403, R841). -/

namespace Sys2Proof.Machine

/-- A job waits for a unit: started, and not held by R67. -/
def wantsUnit (s : State) (j : Job) : Bool :=
  j.stage == .waiting && (s.power.safeHold.isNone || safeHoldServes s j.op j.cmd)

/-- Segments of a two-pass job (R376, R381): AEAD_DECRYPT above 16 KiB. -/
def segments (j : Job) : Nat :=
  let len := param j.cmd 24 8
  if j.op == 0x0303 && len > 16384 then (len + 16383) / 16384 else 0
/-- Segment tags in use (R381). -/
def tagsInUse (s : State) : Nat := (s.jobs.map (·.tags)).sum

/-- R390: the job runs twin-locked. -/
def wantsTwin (s : State) (j : Job) : Bool :=
  bitOf (param j.cmd 3 1) 6 || bitOf (SMap.get {} s.medulla.slots (param j.cmd 0 2)).attr.toNat 45

/-- Whether a waiting frond job may be dispatched: its segment tags are reserved. -/
def frondReady (s : State) (j : Job) : Bool :=
  isFrondOp j.op && wantsUnit s j && (segments j == 0 || j.tags != 0)

/-- Idle fronds, lowest first. -/
def idleFronds (s : State) : List (Fin 64) := fronds.filter (fun n => idleUnit s (.frond n))

/-- The fronds a job would take: one, or two of different groups that joined before it was fetched (R392, R401). -/
def frondsFor (s : State) (j : Job) : Option (Fin 64 × Option (Fin 64)) :=
  if wantsTwin s j then
    let c := (idleFronds s).filter (fun n => (unitOf s (.frond n)).joinedAt ≤ j.fetchedAt)
    match c with
    | [] => none
    | a :: r => match r.find? (fun b => b.val / 4 != a.val / 4) with
      | some b => some (a, some b)
      | none => none
  else (idleFronds s).head?.map (fun n => (n, none))

/-- How many fronds it counts for. -/
def frondNeed (s : State) (j : Job) : Nat := if wantsTwin s j then 2 else 1

/-- R203: a function may hold `n` fronds more. -/
def belowMax (s : State) (f : FnId) (n : Nat) : Bool := held s f + n ≤ maxOf s f

/-! ### Class and tenant order -/

/-- The kind of unit a job is for: 0 fronds, 1 Calyptra units, 2 slices, 3 Pinna units. -/
def engineKind (j : Job) : Nat := if isFrondOp j.op then 0 else if isSliceOp j.op then 2 else if j.op == 0x0C03 then 3 else 1
/-- Weight of a class 1 to 3 (Table 5.8), and of a function (R204: one of WEIGHT 0 is served where no other is). -/
def classWeight (s : State) (c : Nat) : Nat := max 1 (bitsOf (schedCfg s) (8 * (c - 1)) 8)
def fnWeight (s : State) (f : FnId) : Nat := max 1 (weightOf s f)
def passOf (s : State) (kind c : Nat) : Nat := SMap.get 0 s.engines.classPass (shareKey kind c)
/-- Frond-ns per weight unit per round. -/
def quantum : Nat := 10000

/-- The classes with backlog in a list of jobs, and the one served least for its weight (R202). -/
def backlogged (s : State) (js : List Job) : List Nat := [1, 2, 3].filter (fun c => js.any (fun j => classOf s j.cmd == c))
def nextClass (s : State) (kind : Nat) (js : List Job) : Option Nat :=
  (backlogged s js).foldl (fun m c => match m with
    | none => some c
    | some b => if passOf s kind c < passOf s kind b then some c else some b) none

/-- R204: functions of WEIGHT 0 only while no other has backlog in the class. -/
def eligible (s : State) (fs : List Nat) : List Nat :=
  let heavy := fs.filter (fun f => weightOf s (BitVec.ofNat 8 f) != 0)
  if heavy.isEmpty then fs else heavy
/-- The functions of a class with a job in a list, which its rounds serve. -/
def rivals (s : State) (c : Nat) (js : List Job) : List Nat :=
  eligible s ((js.filter (fun j => classOf s j.cmd == c)).map (·.cmd.fn.toNat)).eraseDups

/-- Rounds of quanta until one of a list has a deficit above zero: 0 where one has (R206, replenish). -/
def roundsFor (s : State) (kind c f : Nat) : Nat :=
  let d := deficit s (BitVec.ofNat 8 f) kind c
  if 0 < d then 0 else ((-d) / ((fnWeight s (BitVec.ofNat 8 f) * quantum : Nat) : Int)).toNat + 1
def rounds (s : State) (kind c : Nat) (fs : List Nat) : Nat :=
  match fs.map (roundsFor s kind c) with
  | [] => 0
  | x :: r => r.foldl min x
def replenish (s : State) (kind c : Nat) (fs : List Nat) : State :=
  let k := rounds s kind c fs
  if k == 0 then s
  else fs.foldl (fun a f =>
    setDeficit a (BitVec.ofNat 8 f) kind c (deficit a (BitVec.ofNat 8 f) kind c + ((k * fnWeight s (BitVec.ofNat 8 f) * quantum : Nat) : Int))) s

/-- Distance of a function number after the one last served in a class. -/
def rrDistance (s : State) (kind c f : Nat) : Nat := (f + 256 - SMap.get 0 s.engines.lastServed (shareKey kind c) % 256) % 256

/-- Within a class, of the functions with a deficit above zero: the greatest deficit for its weight, ties in turn from the function last
served (R202, R206; log entry 9). -/
def nextFn (s : State) (kind c : Nat) (fs : List Nat) : Option Nat :=
  (fs.filter (fun f => 0 < deficit s (BitVec.ofNat 8 f) kind c)).foldl (fun m f => match m with
    | none => some f
    | some b =>
      let x := deficit s (BitVec.ofNat 8 f) kind c * (fnWeight s (BitVec.ofNat 8 b) : Int)
      let y := deficit s (BitVec.ofNat 8 b) kind c * (fnWeight s (BitVec.ofNat 8 f) : Int)
      if y < x || (x == y && rrDistance s kind c f < rrDistance s kind c b) then some f else some b) none

/-- A job on a slice that needs a frond for its next key chunk and has none (R402). -/
def wantsBorrow (j : Job) : Bool :=
  j.borrowed.isNone && j.chunks < j.need && (match j.stage with | .running (.slice _) => true | _ => false)
/-- Of a function's jobs of a class, its borrow request first (R403). -/
def firstOfFn (js : List Job) : Option Job := (js.find? wantsBorrow).orElse (fun _ => js.head?)
/-- The job of the earliest doorbell. -/
def firstRung : List Job → Option Job
  | [] => none
  | j :: r => match firstRung r with
    | some k => if k.rung < j.rung then some k else some j
    | none => some j

/-- The waiting job that comes first in class and tenant order: URGENT in doorbell order (Table 5.18), then R202. -/
def firstJob (s : State) (kind : Nat) (js : List Job) : Option Job :=
  match firstRung (js.filter (fun j => classOf s j.cmd == 0)) with
  | some j => some j
  | none => match nextClass s kind js with
    | none => none
    | some c => match nextFn (replenish s kind c (rivals s c js)) kind c (rivals s c js) with
      | none => none
      | some f => firstOfFn (js.filter (fun j => classOf s j.cmd == c && j.cmd.fn.toNat == f))

/-- R202: count `n` services of a job's class and function, chosen among `js`; a class that was idle starts level with the one served.
Units other than fronds are charged by the service, fronds by the time (R206). -/
def countClass (s : State) (kind : Nat) (js : List Job) (j : Job) (n : Nat) : State :=
  let c := classOf s j.cmd
  if c == 0 then s
  else
    let live := backlogged s js
    let level := passOf s kind c
    let s1 := replenish s kind c (rivals s c js)
    let s2 := s1.onEngines (fun e => { e with
      classPass := [1, 2, 3].foldl (fun m k =>
        let x := SMap.get 0 m (shareKey kind k)
        SMap.set 0 m (shareKey kind k) (if k == c then x + 65536 * n / classWeight s c else if live.contains k then x else max x level)) e.classPass
      lastServed := SMap.set 0 e.lastServed (shareKey kind c) (j.cmd.fn.toNat + 1) })
    if kind == 0 then s2 else setDeficit s2 j.cmd.fn kind c (deficit s2 j.cmd.fn kind c - quantum * n)

/-! ### Draws at the start (R237, R430) -/

/-- A two-pass job's ephemeral segment-tag key has to be drawn (R377). -/
def tagKeyDue (j : Job) : Bool := j.tags != 0 && j.segs.isEmpty
/-- A draw the job still has to take, where from and how many bytes, and whether it can take it now, or end for the want of it: not while a
reseed waits for its block. -/
def drawDue (j : Job) : Bool := tagKeyDue j || (j.drawNeed != 0 && j.draws.isEmpty)
def drawFrom (j : Job) : Inst × Nat := if tagKeyDue j then (.i 1, 32) else (instOf j.cmd, j.drawNeed)
def drawReady (s : State) (j : Job) : Bool :=
  !drawDue j || (match j.cmd.issuer with | .applet u => (pinnaOf s u).awaits j.cmd | .host => true) &&
    (match generate s (drawFrom j).1 (drawFrom j).2 [] with | .wait => false | _ => true)
/-- The job takes its draw as it is dispatched; the IV of a frond job goes to its SIDE block (R365). False where the draw ends the job. -/
def startDraw (s : State) (j : Job) : State × Bool :=
  if !drawDue j then (s, true)
  else match generate s (drawFrom j).1 (drawFrom j).2 [] with
    | .got bs s1 =>
      if tagKeyDue j then (onJob s1 j.cmd (fun x => { x with segs := [bs] }), true)
      else
        let s2 := onJob s1 j.cmd (fun x => { x with draws := bs })
        (if isFrondOp j.op then bufWrite s2 j.cmd (param j.cmd 48 8) bs else s2, true)
    | .wait => (s, false)
    | .none s1 => (post (giveBack s1 j) j (fail Status.entropyUnavailable), false)

/-! ### Fronds -/

/-- Bind a job to its fronds. -/
def bindTo (s : State) (j : Job) (a : Fin 64) (b : Option (Fin 64)) : State :=
  startPay (onJob s j.cmd (fun x => { x with stage := .running (.frond a), begun := true, twin := b })) j.cmd
/-- Bind a job to the idle fronds it takes. -/
def bindFrond (s : State) (j : Job) : State :=
  match frondsFor s j with
  | none => s
  | some (a, b) => bindTo s j a b

/-! ### Borrowing (R402, R403, R466) -/

/-- Where a Sorus command names its key slot. -/
def sorusSlotAt (op : Nat) : Nat := if op == 0x0506 || op == 0x0508 then 6 else 32
/-- R466: a key of TWIN_REQUIRED takes two fronds in different groups. -/
def borrowsTwin (s : State) (j : Job) : Bool := bitOf (SMap.get {} s.medulla.slots (param j.cmd (sorusSlotAt j.op) 2)).attr.toNat 45

/-- The fronds a borrow takes. -/
def loanFor (s : State) (j : Job) : Option (Fin 64 × Option (Fin 64)) :=
  match idleFronds s with
  | [] => none
  | a :: r =>
    if borrowsTwin s j then (r.find? (fun b => b.val / 4 != a.val / 4)).map (fun b => (a, some b)) else some (a, none)

/-- Lend idle fronds to a Sorus job. -/
def lendFrond (s : State) (j : Job) : State :=
  match loanFor s j with
  | none => s
  | some (a, b) =>
    let j' := { j with borrowed := some a, twin := b }
    startPay (j'.loans.foldl (fun x n => onUnit x (.frond n) (fun u => { u with st := .borrowed }))
      (onJob s j.cmd (fun x => { x with borrowed := some a, twin := b }))) j.cmd

/-! ### Dispatch of fronds -/

/-- Fronds a job asks for now: 0 where it asks for none. -/
def asksFor (s : State) (j : Job) : Nat :=
  if frondReady s j then frondNeed s j else if wantsBorrow j && !sorusOff s then (if borrowsTwin s j then 2 else 1) else 0
/-- A job that asks for fronds may have so many: R200 and R203, and a draw that can be taken. -/
def mayHave (s : State) (j : Job) : Bool :=
  asksFor s j != 0 && belowMax s j.cmd.fn (asksFor s j) && (classOf s j.cmd != 0 || underCap s j.cmd.fn (asksFor s j)) && drawReady s j
/-- The jobs that idle fronds may be given to now: frond jobs and borrow requests. -/
def bindable (s : State) : List Job :=
  s.jobs.filter (fun j => mayHave s j && (if wantsBorrow j then (loanFor s j).isSome else (frondsFor s j).isSome))
/-- Give a job the fronds it asks for. -/
def serveFrond (s : State) (js : List Job) (j : Job) : State :=
  let s1 := countClass s 0 js j (asksFor s j)
  if wantsBorrow j then lendFrond s1 j else bindFrond s1 j

/-- R413, R205: a frond is left idle only when no waiting job may take it. -/
def dispatchFronds : Nat → State → State
  | 0, s => s
  | k + 1, s => match firstJob s 0 (bindable s) with
    | none => s
    | some j => dispatchFronds k (serveFrond s (bindable s) j)

/-- R201: functions with backlog below their effective minimum first. -/
def belowMinimum (s : State) : List Job := (bindable s).filter (fun j => held s j.cmd.fn < effectiveMin s j.cmd.fn)
def serveMinima : Nat → State → State
  | 0, s => s
  | k + 1, s => match firstJob s 0 (belowMinimum s) with
    | none => s
    | some j => serveMinima k (serveFrond s (belowMinimum s) j)

/-- An URGENT job that waits on its function's cap (R200). -/
def waitsOnCap (s : State) (j : Job) : Bool :=
  classOf s j.cmd == 0 && ((asksFor s j != 0 && !underCap s j.cmd.fn (asksFor s j)) ||
    (match j.stage with | .preempted (.frond _) => !underCap s j.cmd.fn j.frondCount | _ => false))
/-- R200: URGENT_CAPPED while URGENT work waits on the cap. -/
def markCapped (s : State) : State :=
  let capped := (s.jobs.filter (waitsOnCap s)).map (·.cmd.fn.toNat)
  let s1 := s.onFns (SMap.mapV {} (fun n x => { x with urgentCapped := capped.contains n }))
  capped.foldl (fun a n => onFn a (BitVec.ofNat 8 n) (fun x => { x with urgentCapped := true })) s1

/-! ### Calyptra units, slices and lattice steps -/

/-- A waiting job takes a unit of its engine. -/
def bindAt (s : State) (j : Job) (u : UnitRef) : State :=
  onJob s j.cmd (fun x => { x with stage := .running u, begun := true, lattice := if isLatticeJob x then .due else .idle })
/-- Bind waiting jobs of a kind, in class and tenant order, to the lowest-numbered idle units (R415, R487). -/
def dispatchUnits (kind : Nat) (p : State → Job → Bool) (us : List UnitRef) : Nat → State → State
  | 0, s => s
  | k + 1, s => match us.find? (idleUnit s) with
    | none => s
    | some u =>
      let js := s.jobs.filter (fun j => p s j && wantsUnit s j && drawReady s j)
      match firstJob s kind js with
      | none => s
      | some j => dispatchUnits kind p us k (bindAt (countClass s kind js j 1) j u)

def calyptras : List UnitRef := (List.finRange 2).map .calyptra
def slices : List UnitRef := (List.finRange 4).map .slice

/-- Scratch banks of a job's granules. -/
def Job.banks (j : Job) : List Nat := (j.granules.map (fun g => 37 + g / 60)).eraseDups
/-- A slice job whose scratch granules are reserved in powered banks (R451, SCRATCH_RESERVE), unless Sorus stands still. -/
def sliceReady (s : State) (j : Job) : Bool := !sorusOff s && isSliceOp j.op && j.reserved && j.banks.all (domainOn s)

/-- R433: no slice is in service, or Sorus stands still: a unit takes lattice steps on its own multiplier. -/
def ownLattice (s : State) : Bool := sorusOff s || slices.all (fun u => (unitOf s u).st != .inService || !clocked s u)
/-- The lattice steps that wait for a slice. -/
def latticeDue (s : State) : List Job := s.jobs.filter (fun j => j.lattice == .due)
/-- The first of them runs on a slice, in the slice's lattice area, and is charged as a service of slices to its function (R432, R451). -/
def latticeAt (s : State) (n : Fin 4) : State :=
  match firstJob s 2 (latticeDue s) with
  | none => s
  | some j => onJob (countClass s 2 (latticeDue s) j 1) j.cmd (fun x => { x with lattice := .on n })
/-- Slices without a job take waiting lattice steps; without Sorus the steps run on the units' own multipliers. -/
def serveLattice (s : State) : State :=
  if ownLattice s then s.onJobs (·.map (fun j => if j.lattice == .due then { j with lattice := .idle } else j))
  else (List.finRange 4).foldl (fun a n => if idleUnit a (.slice n) && !a.jobs.any (fun j => j.lattice == .on n) then latticeAt a n else a) s

/-! ### Jobs that no unit can serve -/

/-- Groups with fronds in service (R318). -/
def groupsServing (s : State) : Nat := ((List.range 16).filter (fun g => (groupFronds g).any (fun n => frondState s n == .inService || frondState s n == .borrowed))).length
/-- A job that waits for units of which every one is FAILED (R444, R496, R855), or for two frond groups in service where there are fewer
(R318). A frond job otherwise stays queued (R413). -/
def hopeless (s : State) (j : Job) : Bool :=
  let failed := fun (us : List UnitRef) => us.all (fun u => (unitOf s u).st == .failed)
  (j.stage == .waiting && ((wantsCalyptra j && failed calyptras) || (isSliceOp j.op && failed slices) ||
    (j.op == 0x0C03 && failed ((List.finRange 8).map .pinna)) || (isFrondOp j.op && wantsTwin s j && groupsServing s < 2))) ||
  (isSliceOp j.op && (j.stage == .waiting || wantsBorrow j) && j.chunks < j.need && borrowsTwin s j && groupsServing s < 2)
/-- They complete with NO_UNIT. -/
def failHopeless (s : State) : State :=
  (s.jobs.filter (hopeless s)).foldl (fun a j => j.onUnits.foldl resumeOn (post (giveBack a j) j (fail Status.noUnit))) s

/-- R213: MINIMA_SCALED when the fronds in service fall below the sum of minima. -/
def noteMinima (s : State) : State :=
  let low := inPool s < sumMinima s
  let s1 := s.onEngines (fun e => { e with scaled := low })
  if low && !s.engines.scaled then poolEvent s1 3 else s1
/-- Hand idle units to waiting jobs (R205): fronds, then Calyptra units, then slices unless they stand still. -/
def place (s : State) : State :=
  let n := s.jobs.length + 64
  let s1 := dispatchUnits 1 (fun _ => wantsCalyptra) calyptras n (dispatchFronds n s)
  dispatchFronds n (dispatchUnits 2 sliceReady slices n s1)
/-- The jobs just placed on units take the slots they fill and their draws; those of one function in ascending pair order (R509). One whose draw has to wait for a
reseed after all goes back to waiting. -/
def drawn (s : State) (j : Job) : State :=
  match takeSlot s j with
  | .error r => post (giveBack s j) j r
  | .ok s0 => match startDraw s0 j with
    | (s1, true) => s1
    | (s1, false) =>
      onJob (stopPay s1 j.cmd) j.cmd (fun x => { x with stage := .waiting, begun := x.rerun, twin := none, lattice := .idle, fills := if x.rerun then x.fills else none })
def placedDue (s : State) (q : Nat) : List Job :=
  s.jobs.filter (fun j => j.cmd.q.toNat == q && (drawDue j || (fillsSlot j.op && j.fills.isNone)) && (match j.stage with | .running _ => true | _ => false))
def takeDraws (s : State) : State := (List.range 4).foldl (fun a q => (placedDue a q).foldl drawn a) s
/-- Units that a job left for want of its draw go to the next. -/
def placeAll : Nat → State → State
  | 0, s => s
  | k + 1, s =>
    let a := takeDraws (place s)
    if a.jobs.length == s.jobs.length then a else placeAll k a
/-- Preempted jobs run on where they may: their units are free again, their function's cap allows it (R200), Sorus works (R492). -/
def resumeAll (s : State) : State :=
  ((s.jobs.filter (fun j => match j.stage with | .preempted _ => true | _ => false)).flatMap Job.onUnits).foldl resumeOn s
/-- Hand units to preempted jobs that wait for theirs, idle units to waiting jobs, and the lattice steps to slices. -/
def dispatch (s : State) : State :=
  if !running s || s.power.quiesced || s.power.state == .doze then s
  else markCapped (serveLattice (placeAll (s.jobs.length + 1) (startForced (failHopeless (noteMinima (settleSelfTests (resumeAll s)))))))

/-- A command that waits for a unit of its engine, where it draws `n` bytes as it starts. -/
def awaitUnit (s : State) (j : Job) (n : Nat) : State × Option Reply := (dispatch (onJob s j.cmd (fun x => { x with drawNeed := n })), none)

/-! ### The epoch (R200 to R204) -/

/-- Functions that have a listed entry or a running job. -/
def activeFns (s : State) : List Nat := (s.jobs.map (·.cmd.fn.toNat)).eraseDups

/-- At a boundary every job that holds fronds is charged for the epoch that begins, and the URGENT windows move on (R200, R206). -/
def chargeEpoch (s : State) : State :=
  let s1 := s.onFns (SMap.mapV {} (fun _ x => { x with urgentHist := if x.urgentHist.all (· == 0) then [] else (0 :: x.urgentHist).take 100 }))
  s1.jobs.foldl (fun a j => if j.paidTo.isSome then payTo a j.cmd (nextEpoch a) else a) s1

/-- A function has backlog of a kind and class. -/
def waitsFor (s : State) (kind c : Nat) (j : Job) : Bool :=
  classOf s j.cmd == c && ((engineKind j == kind && j.stage == .waiting) || (kind == 0 && wantsBorrow j))
/-- The deficits of the code under R206, for each kind of unit; where no function of a class is left with one above zero, rounds of quanta
follow until one has. -/
def topUp (s : State) : State :=
  [0, 1, 2, 3].foldl (fun x kind => [1, 2, 3].foldl (fun y c =>
    let js := y.jobs.filter (waitsFor y kind c)
    let a := ((y.fns.map (·.1) ++ activeFns y).eraseDups).foldl (fun z f =>
      let fn : FnId := BitVec.ofNat 8 f
      let w : Int := ((weightOf z fn * quantum : Nat) : Int)
      setDeficit z fn kind c (if js.any (fun j => j.cmd.fn == fn) then min (deficit z fn kind c + w) (4 * w) else 0)) y
    replenish a kind c (rivals a c js)) x) s

/-- The scheduler at an epoch boundary. -/
def scheduleEpoch (s : State) : State := dispatch (serveMinima 64 (topUp (chargeEpoch s)))

end Sys2Proof.Machine
end

