-- ==== Sys2Proof/Machine/Complete.lean ====
section
/-! DEFINITION. The end of a command in flight: its units are given back, its completion is posted, a KEY_DELETE that waited for it goes on,
and the idle units take the next jobs. -/

namespace Sys2Proof.Machine

/-- Key slots a started job loads over Vein (R326, R333): the frond ciphers, the Calyptra commands with a private or a KEK
slot, and the Sorus commands that stream under a slot. -/
def Job.slotsLoaded (j : Job) : List Nat :=
  if j.stage == .fetched then []
  else if isFrondOp j.op then [param j.cmd 0 2]
  else if [0x0401, 0x0403, 0x0405, 0x0407, 0x040A, 0x040B].contains j.op then [param j.cmd 0 2]
  else if j.op == 0x0502 || j.op == 0x0503 || (j.op == 0x0504 && bitOf (param j.cmd 35 1) 0) then [param j.cmd 32 2]
  else if j.op == 0x0506 || j.op == 0x0508 then [param j.cmd 6 2]
  else if j.op == 0x0C01 && j.stage != .flash then [param j.cmd 12 2]
  else []
/-- A KEY_PERSIST of the slot programs its record (Table 8.12). -/
def beingPersisted (s : State) (n : Nat) : Bool := s.jobs.any (fun j => j.op == 0x0206 && j.stage == .flash && param j.cmd 0 2 == n)
/-- The slot has jobs that a KEY_DELETE waits for. -/
def slotInUse (s : State) (n : Nat) : Bool := s.jobs.any (fun j => j.slotsLoaded.contains n) || beingPersisted s n
/-- Units that a job on its units loads the key to: the fronds it runs on, its Calyptra unit, the fronds lent to a slice (R330). -/
def Job.keyUnits (j : Job) : List UnitRef :=
  match j.stage with
  | .running (.slice _) => if j.slotsLoaded.isEmpty then [] else j.loans.map .frond
  | .running _ => if j.slotsLoaded.isEmpty then [] else j.onUnits
  | _ => []
/-- Each of them has accepted its copy (R331). -/
def Job.keyed (j : Job) : Bool := j.keyUnits.all (fun u => j.copies.any (·.1 == unitKey u))

/-- The attribute word KEY_DELETE returns: zero for a slot whose record was not loaded. -/
def deleteReply (s : State) (n : Nat) : Reply :=
  if attrValid (attrOf s n) then { res0 := attrOf s n % 2 ^ 32, res1 := attrOf s n / 2 ^ 32 } else {}

/-- R326: the slot is free of jobs: its TOMBSTONE where it has a committed record, else the clear. -/
def goDelete (s : State) (j : Job) (n : Nat) : State × Option Reply :=
  match recordFor s n j.cmd.fn.toNat with
  | some (i, _) => (flashCommand s j (recordUnit i), none)
  | none => (emptySlot s n, some (deleteReply s n))

/-- Deletes that waited for jobs and may go on. -/
def settleDeletes (s : State) : State :=
  (s.jobs.filter (fun j => j.op == 0x0204 && j.stage == .waiting && !slotInUse s (j.aux - 1))).foldl
    (fun a j => match goDelete a j (j.aux - 1) with
      | (b, some r) => post b j r
      | (b, none) => b) s

/-- A command that held units or waited for them ends. -/
def complete (s : State) (j : Job) (r : Reply) : State :=
  let us := j.onUnits
  let s1 := (post (giveBack s j) j r).onPower (fun p => { p with idleSince := if us.isEmpty then p.idleSince else s.clocks.seta })
  dispatch (settleDeletes (us.foldl resumeOn s1))

/-- The command in flight of a function, pair and tag that host software submitted. -/
def hostJob (s : State) (f : FnId) (q : PairId) (tag : BitVec 16) : Option Job :=
  s.jobs.find? (fun j => j.cmd.fn == f && j.cmd.q == q && j.cmd.tag == tag && j.cmd.issuer == .host)

/-- A command that waits to start again. -/
def backToQueue (s : State) (c : Cmd) : State × Option Reply := (onJob s c (fun x => { x with stage := .fetched }), none)

end Sys2Proof.Machine
end

