-- ==== Sys2Proof/Machine/Keys.lean ====
section
/-! DEFINITION. The key commands (Table 8.6, R319 to R329, R351, R890). -/

namespace Sys2Proof.Machine

/-- R358: with a wrap unit that has failed no key is made, imported, derived or wrapped. -/
def wrapGone (s : State) : Option Reply := if s.medulla.wrapFailed then some (fail Status.noUnit) else none

/-- The first refusal of a list of checks. -/
def firstOf (l : List (Option Reply)) : Option Reply := (l.find? (·.isSome)).join

/-- Continue when no check refuses. -/
def unlessRefused (s : State) (l : List (Option Reply)) (go : State × Option Reply) : State × Option Reply :=
  match firstOf l with
  | some r => (s, some r)
  | none => go

/-- A refusal when a condition holds. -/
def when (b : Bool) (r : Reply) : Option Reply := if b then some r else none

/-- Checks 1 and 2 of Table 8.5 on a slot a key is to be made in; 0xFFFF names none (R314). -/
def newSlotNamed (s : State) (c : Cmd) (off n : Nat) : Option Reply := if n == 0xFFFF then none else slotNamed s c off n []

/-- Fill the slot a creating command names and answer Table 8.6. -/
def createKey (s : State) (c : Cmd) (n template origin : Nat) (key : Bytes) : State × Option Reply :=
  match slotToFill s c n with
  | .error r => (s, some r)
  | .ok k =>
    let s1 := fillSlot s c k template origin key
    (s1, some (slotReply s1 k))

/-- R314, R315: refusal of the slot before anything is drawn. -/
def slotTaken (s : State) (c : Cmd) (n : Nat) : Option Reply :=
  match slotToFill s c n with
  | .error r => some r
  | .ok _ => none

/-- A new seed stands: its four words, the status word, the KEK (R329). -/
def writeSeed (s : State) (seed : Bytes) : State :=
  let s1 := (List.range 4).foldl (fun a i => setSpore a (44 + i) (BitVec.ofNat 64 (leNat ((seed.drop (8 * i)).take 8)))) s
  let s2 := setStatusBit s1 1 false
  s2.onMedulla (fun m => { m with kek := deriveKek s2, unusable := false, unloadable := [] })
/-- Slot 0, generated from 48 bytes of I7 whenever a seed is written (Table 8.2), with SEED_RENEWED. -/
def renewSlot0 (s : State) (k : Bytes) : State :=
  let attr := newAttr 0 (9 * 2 ^ 10 + 2 ^ 27) 0 (attrVersion (attrOf s 0) + 1) false true ||| (1 <<< 9 : U64)
  let b := setSlot (writeRecord (buryRecords s 0 0) 0 0 attr k) 0 { attr := attr, key := k }
  append b Entry.seedRenewed Src.xemberon (leNat ((Config.sha384 (Config.publicKey 0x11 97 k)).take 4))
/-- The draws of a seed and of slot 0 that goes with it, taken before anything is changed (R163, R329). -/
def withSeedDraws (s : State) (c : Cmd) (body : State → Bytes → State × Option Reply) : State × Option Reply :=
  withOwn s c 0 32 (fun s1 seed => withOwn s1 c 7 48 (fun s2 k => body s2 (seed ++ k)))

/-- R328, R329: DEVICE_SEED: the new seed stands and its KEK; the key-record region is erased by the flash operation the command waits
for. -/
def deviceSeed (s : State) (j : Job) : State × Option Reply :=
  let c := j.cmd
  unlessRefused s [when (c.fn != 0 || !seedErased s || param c 16 1 != 1 || (List.range 56).any (fun k => k != 16 && param c k 1 != 0)) (bad 16), wrapGone s]
    (withSeedDraws s c (fun s1 bs =>
      (onJob (openFlash (writeSeed s1 (bs.take 32)) ⟨2, 18⟩ true (.command c)) c (fun x => { x with stage := .flash, draws := bs.drop 32 }), none)))

/-- KEY_GENERATE (R319, R328). -/
def execKeyGenerate (c : Cmd) (s : State) : Host.Outcome State Fault Refusal :=
  xci 0x0201 c s (fun s j =>
    if bitOf (param c 16 1) 0 then deviceSeed s j
    else
      let n := param c 0 2
      let t := param c 8 8
      unlessRefused s [when (!templateOk t || attrType t > 7) (bad 8), when (param c 16 1 != 0) (bad 16),
          newSlotNamed s c 0 n, slotTaken s c n, wrapGone s]
        (withDraw s j (typeBytes (attrType t) (attrLength t)) [] (fun s bs => createKey s c n t 1 bs)))

/-- Sectors of the key-record region, other than the first, that hold a record. -/
def keySectors (s : State) : List Nat := ((s.medulla.records.map (fun e => 18 + e.1 / 32)).eraseDups).filter (· != 18)
/-- The DEVICE_SEED erase has ended: the records are gone, slot 0 has a new key, SEED_RENEWED is appended (R329). Where a zeroisation has
erased the seed again meanwhile, with the key (Table 8.10), the records alone go. -/
def commitDeviceSeed (s : State) (j : Job) : State × Reply :=
  let s1 := ((keySectors s).foldl (fun a n => eraseWhole a ⟨2, n⟩) s).onMedulla (fun m => { m with records := [] })
  (if j.draws.isEmpty then s1 else renewSlot0 s1 j.draws, {})

/-- Orders of P-256, P-384 and P-521 (FIPS 186-5, PRESUMED). -/
def groupOrder (ty : Nat) : Nat :=
  if ty == 8 then 0xFFFFFFFF00000000FFFFFFFFFFFFFFFFBCE6FAADA7179E84F3B9CAC2FC632551
  else if ty == 9 then
    0xFFFFFFFFFFFFFFFFFFFFFFFFFFFFFFFFFFFFFFFFFFFFFFFFC7634D81F4372DDF581A0DB248B0A77AECEC196ACCC52973
  else
    0x01FFFFFFFFFFFFFFFFFFFFFFFFFFFFFFFFFFFFFFFFFFFFFFFFFFFFFFFFFFFFFFFFFA51868783BF2F966B7FCC0148F709A5D03BB5C9B8899C47AEBB6FB71E91386409

/-- R320: the unwrapped header and key bytes are valid. -/
def blobOk (hdr : Nat) (key : Bytes) : Bool :=
  let ty := attrType hdr
  templateOk hdr && ty ≤ 0x0E && key.length == typeBytes ty (attrLength hdr) &&
    (!(8 ≤ ty && ty ≤ 10) || (beNat key != 0 && beNat key < groupOrder ty))

/-- The attribute word of a key imported to slot 2. -/
def masterAttr (s : State) (hdr : Nat) : U64 := newAttr 0 hdr 2 (attrVersion (attrOf s 2) + 1) false true ||| (1 <<< 9 : U64)
/-- R321: KEY_IMPORT to slot 2 programs the new key's record; a compaction comes first. -/
def importMaster (s : State) (j : Job) (hdr : Nat) (key : Bytes) : State × Option Reply :=
  if attrType hdr != 2 then (s, some (fail Status.unwrapFailed))
  else if seedErased s || s.medulla.kek.isNone then (s, some (fail Status.keyUnusable))
  else if s.medulla.compacting.isSome then backToQueue s j.cmd
  else match freeRecord s with
    | none => (s, some (exhausted 4))
    | some i => (programRecord s j i (newRecord s 2 0 (masterAttr s hdr) key), none)

/-- KEY_IMPORT (R320, R321, R351). -/
def execKeyImport (c : Cmd) (s : State) : Host.Outcome State Fault Refusal :=
  xci 0x0202 c s (fun s j =>
    let n := param c 0 2
    let buf := param c 8 8
    let len := param c 16 1
    let master := n == 2 && c.fn == 0
    unlessRefused s [when (bufBad s c buf len false) (bad 8), when (len < 32 || len > 88 || len % 8 != 0) (bad 16),
        (if master then none else newSlotNamed s c 0 n),
        slotRefusal s c 2 (param c 2 2) (fun a => attrUsage a 6 && (attrType a == 2 || attrType a == 7)),
        (if master then none else slotTaken s c n), wrapGone s]
      (match Config.kwpUnwrap (slotOf s (param c 2 2)).key (bufRead s c buf len) with
      | none => (s, some (fail Status.unwrapFailed))
      | some p =>
        let hdr := leNat (p.take 8)
        let key := p.drop 8
        if p.length < 8 || !blobOk hdr key then (s, some (fail Status.unwrapFailed))
        else if master then importMaster s j hdr key
        else createKey s c n hdr 2 key))

/-- The record of an imported slot 2 has committed: the old record's TOMBSTONE, and the new key into the slot (R321). A zeroisation meanwhile
leaves the record that no KEK opens (Table 8.10). -/
def commitImport (s : State) (j : Job) : State × Reply :=
  let i := j.place.getD 0
  let s1 := buryOthers (commitRecord s i) 2 0 (some i)
  let s2 := match openRecord s1 (SMap.get {} s1.medulla.records i) with
    | some x => setSlot s1 2 x
    | none => emptySlot s1 2
  (s2, slotReply s2 2)

/-- KEY_DERIVE (R322). -/
def execKeyDerive (c : Cmd) (s : State) : Host.Outcome State Fault Refusal :=
  xci 0x0203 c s (fun s _ =>
    let n := param c 0 2
    let b := param c 2 2
    let t := param c 8 8
    unlessRefused s [when (!templateOk t || attrType t > 7) (bad 8), newSlotNamed s c 0 n,
        slotRefusal s c 2 b (fun a => attrUsage a 4 && (attrType a == 2 || attrType a == 6)), slotTaken s c n, wrapGone s]
      (createKey s c n t 3
        (kdf (baseKey (slotOf s b).key (attrLength (attrOf s b))) (paramBytes c 16 32) (typeBytes (attrType t) (attrLength t)))))

/-- Check 4 of Table 8.5 (R316); a slot that holds no key has no APPLET_USE. -/
def appletMay (s : State) (c : Cmd) (n : Nat) : Option Reply := when (isApplet c && !bitOf (attrOf s n) 46) (fail Status.keyUsage)

/-- KEY_DELETE (R326, R327). -/
def execKeyDelete (c : Cmd) (s : State) : Host.Outcome State Fault Refusal :=
  xci 0x0204 c s (fun s j =>
    let n := param c 0 2
    unlessRefused s [slotNamed s c 0 n [], appletMay s c n, when (!occupied s c.fn.toNat n || beingDeleted s n) (fail Status.keyEmpty)]
      (let s1 := onJob s c (fun x => { x with aux := n + 1 })
      if slotInUse s n then (s1, none) else goDelete s1 { j with aux := n + 1 } n))

/-- The TOMBSTONE of a deleted slot is programmed. -/
def commitDelete (s : State) (j : Job) : State × Reply :=
  (emptySlot (buryRecords s (j.aux - 1) j.cmd.fn.toNat) (j.aux - 1), deleteReply s (j.aux - 1))

/-- The slots of the KEY_INFO list: the allotment from index FIRST, at most 1024. -/
def infoList (s : State) (f : FnId) (first : Nat) : List Nat := ((allotment s f).drop first).take 1024

/-- KEY_INFO (R890, Table 8.6). -/
def execKeyInfo (c : Cmd) (s : State) : Host.Outcome State Fault Refusal :=
  xci 0x0205 c s (fun s _ =>
    let n := param c 0 2
    if n == 0xFFFF then
      let l := infoList s c.fn (param c 2 2)
      let buf := param c 8 8
      unlessRefused s [when (bufBad s c buf (2 * l.length) true) (bad 8)]
        (bufWrite s c buf (l.flatMap (leBytes 2)), some { res0 := l.length })
    else
      unlessRefused s [slotNamed s c 0 n [], appletMay s c n]
        (let a := if attrValid (attrOf s n) then attrOf s n else 0
        (s, some { res0 := a % 2 ^ 32, res1 := a / 2 ^ 32, res2 := attrVersion a, res3 := (if (recordFor s n c.fn.toNat).isSome then 1 else 0) + (if s.medulla.unloadable.contains n then 2 else 0) + (if seedErased s then 4 else 0) })))

/-- KEY_PERSIST (R324, R325, R349). -/
def execKeyPersist (c : Cmd) (s : State) : Host.Outcome State Fault Refusal :=
  xci 0x0206 c s (fun s j =>
    let n := param c 0 2
    let now := attrOf s n
    match slotRefusal s c 0 n (fun _ => true) with
    | some r => (s, some r)
    | none =>
      if attrPersistent now then (s, some { res0 := now % 2 ^ 32, res1 := now / 2 ^ 32 })
      else if s.medulla.compacting.isSome && !(seedErased s || s.medulla.kek.isNone) && !s.medulla.wrapFailed then backToQueue s c
      else
        unlessRefused s [when (seedErased s || s.medulla.kek.isNone) (fail Status.keyUnusable), wrapGone s, when (freeRecord s).isNone (exhausted 4)]
          (programRecord s j ((freeRecord s).getD 0) (newRecord s n c.fn.toNat ((slotOf s n).attr ||| (1 <<< 9)) (slotOf s n).key), none))

/-- The record of a persisted slot has committed; the slot is marked, unless a zeroisation has cleared it meanwhile. -/
def commitPersist (s : State) (j : Job) : State × Reply :=
  let n := param j.cmd 0 2
  let s1 := commitRecord s (j.place.getD 0)
  let s2 := if attrValid (attrOf s1 n) then setSlot s1 n { slotOf s1 n with attr := (slotOf s1 n).attr ||| (1 <<< 9) } else s1
  (s2, { res0 := attrOf s2 n % 2 ^ 32, res1 := attrOf s2 n / 2 ^ 32 })
/-- The record could not be programmed: the slot stays volatile, and goes where its function is under reset (R352). -/
def persistFailed (s : State) (j : Job) : State :=
  if (fnOf s j.cmd.fn).resetting && !attrPersistent (attrOf s (param j.cmd 0 2)) then emptySlot s (param j.cmd 0 2) else s

/-- The wrapped form of a key: its template, then its bytes. -/
def wrappedForm (s : State) (n w : Nat) : Bytes :=
  Config.kwpWrap (slotOf s w).key (leBytes 8 (templateOf (attrOf s n) - (if attrType (attrOf s n) == 6 then 0 else attrLength (attrOf s n) * 2 ^ 15)) ++ (slotOf s n).key)

/-- KEY_EXPORT_WRAPPED (R323). -/
def execKeyExportWrapped (c : Cmd) (s : State) : Host.Outcome State Fault Refusal :=
  xci 0x0207 c s (fun s _ =>
    let n := param c 0 2
    let w := param c 2 2
    let buf := param c 8 8
    unlessRefused s [when (bufBad s c buf 88 true) (bad 8), slotRefusal s c 0 n (fun a => bitOf a 44),
        slotRefusal s c 2 w (fun a => attrUsage a 5 && attrType a == 2), wrapGone s]
      (bufWrite s c buf (wrappedForm s n w), some { res0 := (wrappedForm s n w).length }))

end Sys2Proof.Machine
end

