-- ==== Sys2Proof/Machine/Option.lean ====
section
/-! DEFINITION. The CRCs, and the option area: its copies, their choice and the fields of Table 4.4 (R143, R148, R569, R581). -/

namespace Sys2Proof.Machine

/-! ### CRC-32C, CRC-32 and CRC-64 (R885) -/

/-- A reflected 32-bit CRC, from its reversed polynomial. -/
def crcStep (poly c : U32) : U32 := if c.getLsbD 0 then (c >>> 1) ^^^ poly else c >>> 1
def crcByte (poly c : U32) (b : Byte) : U32 :=
  let x := c ^^^ b.setWidth 32
  crcStep poly (crcStep poly (crcStep poly (crcStep poly (crcStep poly (crcStep poly (crcStep poly (crcStep poly x)))))))
/-- CRC-32C, polynomial 0x1EDC_6F41. -/
def crc32c (bs : Bytes) : U32 := ~~~(bs.foldl (crcByte 0x82F63B78) 0xFFFFFFFF)
/-- CRC-32 of IEEE 802.3, polynomial 0x04C1_1DB7. -/
def crc32 (bs : Bytes) : U32 := ~~~(bs.foldl (crcByte 0xEDB88320) 0xFFFFFFFF)

def crc64Step (c : U64) : U64 := if c.getLsbD 63 then (c <<< 1) ^^^ 0x42F0E1EBA9EA3693 else c <<< 1
def crc64Byte (c : U64) (b : Byte) : U64 :=
  let x := c ^^^ (b.setWidth 64 <<< 56)
  crc64Step (crc64Step (crc64Step (crc64Step (crc64Step (crc64Step (crc64Step (crc64Step x)))))))
def crc64 (bs : Bytes) : U64 := bs.foldl crc64Byte 0

/-! ### The copies -/

def optWord (s : State) (copy w : Nat) : U64 := SMap.get erasedWord s.flash.option (128 * copy + w)
def setOptWord (s : State) (copy w : Nat) (v : U64) : State :=
  s.onFlash (fun f => { f with option := SMap.set erasedWord f.option (128 * copy + w) v })

/-- The bytes words 0 to 126 hold. -/
def optBytes (f : Nat → U64) : Bytes := (List.range 127).flatMap (fun w => leBytes 8 (f w).toNat)
/-- R143: magic, layout and CRC. -/
def copyValid (s : State) (c : Nat) : Bool :=
  bitsOf (optWord s c 0).toNat 0 32 == 0x1514B && bitsOf (optWord s c 127).toNat 0 32 == (crc32c (optBytes (optWord s c))).toNat
def generation (s : State) (c : Nat) : Nat := bitsOf (optWord s c 0).toNat 32 32
/-- R143: the copy in use. -/
def copyInUse (s : State) : Option Nat :=
  match copyValid s 0, copyValid s 1 with
  | true, true => some (if generation s 1 > generation s 0 then 1 else 0)
  | true, false => some 0
  | false, true => some 1
  | false, false => none
/-- R148: the copy a change is written to, and its generation. -/
def targetCopy (s : State) : Nat := match copyInUse s with | some c => 1 - c | none => 0
def nextGeneration (s : State) : Nat := match copyInUse s with | some c => (generation s c + 1) % 2 ^ 32 | none => 1

/-- R148, R569: erase, words 1 to 127, word 0 last. -/
def writeCopy (s : State) (changed : Nat → Option U64) : State :=
  let t := targetCopy s
  let base := fun w => match copyInUse s with | some c => optWord s c w | none => 0
  let body := fun w =>
    if w == 0 then BitVec.ofNat 64 (0x1514B + nextGeneration s * 2 ^ 32) else (changed w).getD (base w)
  let s1 := s.onFlash (fun f => { f with option := f.option.filter (fun e => e.1 / 128 != t) })
  let s2 := (List.range 126).foldl (fun a w => setOptWord a t (w + 1) (body (w + 1))) s1
  setOptWord (setOptWord s2 t 127 (BitVec.ofNat 64 (crc32c (optBytes body)).toNat)) t 0 (body 0)

/-! ### Fields in force -/

/-- A word of the option area in force, as ROM loaded it. -/
def optNow (s : State) (w : Nat) : Nat := (SMap.get 0 s.boot.opt w).toNat
/-- A field in force: zero takes its default. -/
def optField (s : State) (w lo n dflt : Nat) : Nat := let v := bitsOf (optNow s w) lo n; if v == 0 then dflt else v

/-- The first failing field of a word (Table 4.4, R276): the number of its lowest bit. -/
def optFail (w v : Nat) : Option Nat :=
  let x := fun lo n => bitsOf v lo n
  let nz := fun lo n mn mx => x lo n != 0 && (x lo n < mn || mx < x lo n)
  if w == 2 then (if nz 0 8 30 115 then some 0 else if nz 8 10 1 1000 then some 8 else none)
  else if w == 3 || w == 4 then (if nz 16 10 1 600 then some 16 else none)
  else if w == 5 then (if nz 4 12 10 200 then some 4 else if nz 16 8 1 50 then some 16 else none)
  else if w == 7 then (if tamperFail v == 0 then none else some (fieldBit .tamper v (tamperFail v)))
  else if w == 8 then (if v == 0 then none else some 0)
  else if w == 10 then (if nz 0 10 10 1000 then some 0 else if x 16 4 > 4 then some 16 else none)
  else if w == 11 then (if x 24 7 > 100 then some 24 else none)
  else none

end Sys2Proof.Machine
end

