-- ==== Sys2Proof/Machine/Spore.lean ====
section
/-! DEFINITION. The Spore island's structures: visit records, the technician credential, the log head ring, the challenge pool, and what
Xemberon does with them (chapter 15). -/

namespace Sys2Proof.Machine

/-! ### Words that may fail ECC (R658) -/

/-- A word of the store has a double-bit error. -/
def wordBad (s : State) (w : Nat) : Bool := s.spore.bad.contains w
/-- The first bad word of a list. -/
def firstBad (s : State) (ws : List Nat) : Option Nat := ws.find? (wordBad s)
/-- Bytes of `n` words, little-endian. -/
def sporeBytes (s : State) (w n : Nat) : Bytes := (List.range n).flatMap (fun i => leBytes 8 (sporeWord s (w + i)).toNat)
/-- Write words in ascending order from one. -/
def setSpores (s : State) (w : Nat) : List U64 → State
  | [] => s
  | v :: r => setSpores (setSpore s w v) (w + 1) r
/-- A value of 32 bits with its complement in [63:32]. -/
def mirrorWord (v : Nat) : U64 := BitVec.ofNat 64 (v % 2 ^ 32 + (2 ^ 32 - 1 - v % 2 ^ 32) * 2 ^ 32)
def mirrorOk (w : U64) : Bool := bitsOf w.toNat 32 32 == 2 ^ 32 - 1 - bitsOf w.toNat 0 32
/-- A mirrored value: the primary word, else its backup (Table 15.1). -/
def mirrorValue (s : State) (w : Nat) : Option Nat :=
  ([w, w + 1].find? (fun k => !wordBad s k && mirrorOk (sporeWord s k))).map (fun k => bitsOf (sporeWord s k).toNat 0 32)
/-- The boot epoch the store last recorded. -/
def fieldEpoch (s : State) : Nat := (mirrorValue s 40).getD 0

/-! ### Visit records (Table 15.8, R646, R647) -/

def visitBase (k : Nat) : Nat := 244 + 9 * k
def visitWord (s : State) (k i : Nat) : U64 := sporeWord s (visitBase k + i)
/-- R646. -/
def visitCounts (s : State) (k : Nat) : Bool :=
  (firstBad s ((List.range 9).map (visitBase k + ·))).isNone && visitWord s k 8 == ~~~(visitWord s k 7) &&
    visitWord s k 7 == crc64 (sporeBytes s (visitBase k) 7)
def visitSerial (s : State) (k : Nat) : Nat := bitsOf (visitWord s k 0).toNat 0 24
/-- R647: the lowest slot that does not count, else the one of the lowest SERIAL. -/
def visitSlot (s : State) : Nat :=
  match (List.range 8).find? (fun k => !visitCounts s k) with
  | some k => k
  | none => (List.range 8).foldl (fun m k => if visitSerial s k < visitSerial s m then k else m) 0

/-- What a visit record is about. -/
structure Visit where
  flags : Nat
  tech : Nat
  epoch : Nat
  kind : Nat
  ticks : Nat
  actions : Nat
  entries : Nat
  remark : Nat
  digest : Bytes
  challengeUse : Nat
  deriving DecidableEq, Repr

/-- W0 to W6 of a record. -/
def visitWords (serial : Nat) (v : Visit) : List U64 :=
  [ BitVec.ofNat 64 (serial % 2 ^ 24 + v.flags % 2 ^ 8 * 2 ^ 24 + v.tech % 2 ^ 32 * 2 ^ 32),
    BitVec.ofNat 64 (v.epoch % 2 ^ 32 + v.kind % 4 * 2 ^ 32), BitVec.ofNat 64 (v.ticks % 2 ^ 56),
    BitVec.ofNat 64 (v.actions % 2 ^ 16 + v.entries % 2 ^ 16 * 2 ^ 16 + v.remark % 2 ^ 32 * 2 ^ 32),
    BitVec.ofNat 64 (leNat (v.digest.take 8)), BitVec.ofNat 64 (leNat ((v.digest.drop 8).take 8)),
    BitVec.ofNat 64 (v.challengeUse % 2 ^ 24) ]

/-- R647: COMMIT cleared, Spore counter 1, W0 to W7, COMMIT. -/
def writeVisitRecord (s : State) (v : Visit) : State :=
  let k := visitSlot s
  let s1 := bumpSpore (setSpore s (visitBase k + 8) 0) 1
  let ws := visitWords (sporeCounter s1 1) v
  let crc := crc64 (ws.flatMap (fun w => leBytes 8 w.toNat))
  setSpores s1 (visitBase k) (ws ++ [crc, ~~~crc])
/-- A Spore counter that refuses increments (R616). -/
def sporeSpent (s : State) (n : Nat) : Bool := sporeCounter s n ≥ 0xFFFFFF

/-! ### Import (R654) -/

def visitMark (s : State) : Nat := bitsOf (sporeWord s 49).toNat 0 24
/-- The counting record of the lowest SERIAL above the mark. -/
def nextVisit (s : State) : Option Nat :=
  ((List.range 8).filter (fun k => visitCounts s k && visitSerial s k > visitMark s)).foldl
    (fun m k => match m with
      | none => some k
      | some j => if visitSerial s k < visitSerial s j then some k else some j) none
/-- The VISIT entry of a record: its own time; a tag-mode record comes from the Spore island. -/
def visitNote (s : State) (k : Nat) : Note :=
  let w0 := (visitWord s k 0).toNat
  let w1 := (visitWord s k 1).toNat
  { epoch := BitVec.ofNat 32 w1, seta := bitsOf (visitWord s k 2).toNat 0 56, kind := bitsOf w1 32 2, type := Entry.visit, source := if bitOf w0 24 then Src.sporeIsland else Src.xemberon, detail := w0 }
def importFrom : Nat → State → State
  | 0, s => s
  | n + 1, s => match nextVisit s with
    | none => s
    | some k => importFrom n (setSpore (appendNote s (visitNote s k)) 49 (mirrorWord (visitSerial s k)))
def importVisits (s : State) : State := importFrom 8 s

/-! ### The credential (Table 15.5, R639, R640) -/

/-- A big-endian field. -/
def credField (b : Bytes) (k n : Nat) : Nat := beNat ((b.drop k).take n)
def credScope (b : Bytes) : Byte := b.getD 5 0
def credTech (b : Bytes) : Nat := credField b 24 4
/-- MAGIC, VERSION and the zero bytes. -/
def credFormed (b : Bytes) : Bool :=
  b.length == 296 && credField b 0 4 == 0x51544331 && credField b 4 1 == 1 && credField b 6 2 == 0 && credField b 290 6 == 0 &&
    (credScope b).toNat < 32 && credTech b != 0
/-- What a proof signs. -/
def proofMessage (challenge ident : Bytes) (mode : Byte) : Bytes := challenge ++ ident ++ [mode]
/-- R639, R640 in the order of the reasons of R642: 0 accepted, else 2 to 8. -/
def credRefusal (s : State) (root ident cred proof challenge : Bytes) (badge : Bool) : Nat :=
  let cust := (cred.drop 97).take 97
  let dev := (cred.drop 8).take 16
  if !credFormed cred then 2
  else if Config.sha384 cust != root then 3
  else if !Config.ecdsaVerify 384 cust (cred.take 194) ((cred.drop 194).take 96) then 4
  else if dev != List.replicate 16 0 && dev != ident then 5
  else if sporeCounter s 1 > credField cred 28 4 then 6
  else if !(credScope cred).getLsbD (if badge then 3 else 4) then 7
  else if !Config.ecdsaVerify 256 ((cred.drop 32).take 65) (proofMessage challenge ident (if badge then 2 else 1)) proof then 8
  else 0

/-! ### What Xemberon keeps in the store -/

/-- R627: an appended entry in its ring slot. -/
def mirrorEntry (s : State) (slot : Nat) : State :=
  match SMap.get .erased s.log.slots slot with
  | .entry q n ch =>
    let b := entryBytes q n ch
    setSpores s (52 + 6 * (q.toNat % 32)) ((List.range 6).map (fun i => BitVec.ofNat 64 (leNat ((b.drop (8 * i)).take 8))))
  | _ => s
def mirrorRing (s : State) : State :=
  (s.log.toMirror.foldl mirrorEntry s).onLog (fun l => { l with toMirror := [] })

/-- SPORE_RING_MIRROR: deferred while a tag session is open. -/
def execSporeRingMirror (s : State) : Host.Outcome State Fault Refusal :=
  if !running s || s.tag.opened then .next s else .next (mirrorRing s)

/-- Table 15.6. -/
def poolWord (c : Nat) : U64 := BitVec.ofNat 64 (c % 2 ^ 24 + (2 ^ 24 - 1 - c % 2 ^ 24) * 2 ^ 32)
def poolBase (k : Nat) : Nat := 316 + 5 * k
/-- USE of a usable entry. -/
def poolUse (s : State) (k : Nat) : Option Nat :=
  let w := (sporeWord s (poolBase k)).toNat
  if (firstBad s ((List.range 5).map (poolBase k + ·))).isSome || bitsOf w 32 24 != 2 ^ 24 - 1 - bitsOf w 0 24 then none
  else some (bitsOf w 0 24)
/-- R644: the entry is unusable or used. -/
def poolStale (s : State) (k : Nat) : Bool := match poolUse s k with | none => true | some u => u < sporeCounter s 3
/-- Refill one entry from I6, its word 0 last. -/
def refillEntry (s : State) (k : Nat) : State :=
  if !poolStale s k then s
  else match drawOwn s 6 32 with
    | (none, s1) => s1
    | (some b, s1) =>
      let c := sporeCounter s 3
      let ws := (List.range 4).map (fun i => BitVec.ofNat 64 (leNat ((b.drop (8 * i)).take 8)))
      setSpore (setSpores s1 (poolBase k + 1) ws) (poolBase k) (poolWord (c + (32 + k - c % 32) % 32))
def refillPool (s : State) : State := (List.range 32).foldl refillEntry s

/-- CHALLENGE_POOL_REFILL. -/
def execChallengePoolRefill (s : State) : Host.Outcome State Fault Refusal :=
  if !running s || s.tag.opened then .next s else .next (refillPool s)

/-! ### Power of the island -/

/-- HEI level: 3 while the Sentinel powers the island (Table 15.3). -/
def heiOf (s : State) : Nat := if s.power.sentinel then 3 else if s.tag.field then s.tag.hei else 0
/-- The island runs. -/
def sporeAlive (s : State) : Bool := s.power.sentinel || s.tag.field

/-- SPORE_WORD_WRITE (R628, R630, R631): one word, whole, with the energy for it; the reserved words of Table 15.1 stay zero. -/
def execSporeWordWrite (word : BitVec 10) (v : U64) (s : State) : Host.Outcome State Fault Refusal :=
  if heiOf s < 1 || word.toNat == 50 || word.toNat == 51 || word.toNat ≥ 540 then .next s else .next (setSpore s word.toNat v)

/-- R658: Xemberon names a word that cannot be read. -/
def logSporeEcc (s : State) (w : Nat) : State := if running s then append s Entry.sporeEcc Src.xemberon w else s

end Sys2Proof.Machine
end

