-- ==== Sys2Proof/Machine/Badge.lean ====
section
/-! DEFINITION. The verdict on a badge, which a Calyptra unit gives (R641 to R643), and the field of the reader. -/

namespace Sys2Proof.Machine

/-- R642: SIGNATURE_INVALID, Spore counter 5, BADGE_REFUSED. -/
def badgeRefused (s : State) (reason sw tech : Nat) : State × Reply :=
  (append (bumpSpore s 5) Entry.badgeRefused Src.xemberon (reason + sw % 2 ^ 16 * 2 ^ 16 + tech * 2 ^ 32), { status := Status.signatureInvalid, detail := reason + sw % 2 ^ 16 * 2 ^ 16 })

/-- The visit record of a badge (R643, R648). -/
def badgeVisit (s : State) (cred : Bytes) (remark : Nat) : Visit :=
  { flags := 4, tech := credTech cred, epoch := (bootEpoch s).toNat, kind := 0, ticks := s.clocks.seta, actions := 0, entries := 0, remark := remark, digest := Config.sha384 cred, challengeUse := 0 }

/-- R643, R656: an accepted badge. -/
def badgeAccepted (s : State) (c : Cmd) (cred : Bytes) : State × Reply :=
  let tech := credTech cred
  let scope := (credScope cred).toNat
  let s1 := append (bumpSpore s 4) Entry.badgeOk Src.xemberon (tech + scope * 2 ^ 32)
  let s2 := if param c 8 8 == 0 then s1 else bufWrite s1 c (param c 8 8) cred
  let r : Reply := { res0 := tech, res1 := scope, res2 := 0xFFFFFFFF, res3 := 1 }
  if !(bitOf (param c 0 1) 0 && bitOf scope 2) then (s2, r)
  else if sporeSpent s2 1 then (s2, { r with status := Status.counterSpent })
  else
    let s3 := writeVisitRecord s2 (badgeVisit s2 cred (param c 4 4))
    (importVisits s3, { r with res2 := sporeCounter s3 1 })

/-- BADGE_VERIFY once the badge has answered: `draws` holds the challenge and the response with its SW. -/
def finishBadge (s : State) (j : Job) : State × Reply :=
  let resp := j.draws.drop 32
  let cred := resp.take 296
  let why := if resp.length != 362 then 2 else credRefusal s (otpHash s 20) (identity s) cred ((resp.drop 296).take 64) (j.draws.take 32) true
  if why == 0 then badgeAccepted s j.cmd cred
  else badgeRefused s why 0x9000 (if why == 2 then 0 else credTech cred)

end Sys2Proof.Machine
end

