-- ==== Sys2Proof/Machine/FnReset.lean ====
section
/-! DEFINITION. What a Function Level Reset does to one function (Table 5.14), what a device reset keeps and clears (Table 4.2), and the
end of a share session and of raw-sample mode that both bring about. -/

namespace Sys2Proof.Machine

/-- SHARE_SESSION of Table 17.16: event 0 opened, 1 SHARE_CLOSE, 2 FLR or release, 3 last gasp, 4 tamper response, 5 memory fault. -/
def shareEntry (s : State) (event : Nat) : State :=
  let x := s.engines.share
  let fns := (x.parties.zipIdx.map (fun e => e.1.toNat * 2 ^ (32 + 8 * e.2))).sum
  append s Entry.shareSession (Src.host (BitVec.ofNat 8 (x.session / 2 ^ 16)))
    (x.session % 2 ^ 24 + event * 2 ^ 24 + x.parties.length * 2 ^ 28 + fns)

/-- Share commands that have started (Table 11.16). -/
def isShareJob (j : Job) : Bool := [0x0506, 0x0507, 0x0508, 0x0509].contains j.op && j.stage != .fetched
/-- R485, R486: the session ends; all four share areas are cleared. Share commands still running answer that it has ended, but in last
gasp, which re-runs them (Table 11.16), and at a close, which waited for them. -/
def endShare (s : State) (event : Nat) : State :=
  if !s.engines.share.isOpen then s
  else
    let s1 := (shareEntry s event).onEngines (fun e => { e with
      share := { opened := e.share.opened, endCause := event, memFault := event == 5 } })
    if event == 1 || event == 3 then s1
    else (s1.jobs.filter isShareJob).foldl
      (fun a j => complete a j { status := Status.shareIncomplete, detail := 2 ^ 62 + flagBit (event == 5) 63 }) s1

/-- Every F and I instance instantiated again (R523, R524). -/
def instantiateAll (s : State) : State := (seededInsts s).foldl instantiate s
/-- R522, R524: raw mode ends, and every instance is reseeded before it generates again; pattern mode ends, and every instance is
instantiated again from the sources. -/
def leaveRaw (s : State) : State :=
  if s.entropy.pattern.isSome then instantiateAll (s.onEntropy (fun e => { e with rawMode := false, pattern := none }))
  else if s.entropy.rawMode then
    s.onEntropy (fun e => { e with rawMode := false, insts := e.insts.map (fun x => (x.1, { x.2 with blocked := true })) })
  else s

/-- R522: an FLR ends raw mode alone. -/
def leaveRawOnly (s : State) : State := if s.entropy.rawMode then leaveRaw s else s
/-- The invocations of a function end without a completion: units, TCM data and save slots cleared. -/
def dropInvocations (s : State) (p : Inv → Bool) : State :=
  let s1 := (List.finRange 8).foldl (fun a u => if (pinnaOf a u).inv.any p then clearUnit a u else a) s
  s1.onPinnas (fun x => { x with saved := x.saved.filter (fun e => !e.2.inv.any p) })

/-- Stop jobs without a completion: their units are free again. -/
def stopJobs (s : State) (p : Job → Bool) : State :=
  let gone := s.jobs.filter p
  let s1 := gone.foldl giveBack s
  let s2 := s1.onJobs (·.filter (fun j => !p j))
  (gone.flatMap Job.onUnits).foldl resumeOn s2

/-- The volatile slots of a function are cleared; persistent slots stay, and one whose record is being written (R352). -/
def clearVolatile (s : State) (f : FnId) : State :=
  (allotment s f).foldl (fun a n => if attrValid (attrOf a n) && !attrPersistent (attrOf a n) && !beingPersisted a n then emptySlot a n else a) s

/-- Registers of a function go back to their after-power-up values. -/
def clearFnRegs (s : State) (f : FnId) : State :=
  let keep := fun (k : Nat) => k < fnKey f 0 || fnKey f 0 + 2 ^ 20 ≤ k
  s.onRegs (fun r => {
    active := r.active.filter (fun e => keep e.1), stage := r.stage.filter (fun e => keep e.1),
    commit := r.commit.filter (fun e => keep e.1), events := r.events.filter (fun e => keep e.1) })

/-- Table 5.14 for one function. A flash operation of the function that is in progress finishes first: until then the function
reads RESETTING, and its command's completion is not posted. -/
def resetFunction (s : State) (f : FnId) : State :=
  let s0 := leaveRawOnly (if f == 0 && s.jobs.any (·.stage == .reader) then fieldDown s else s)
  let s1 := stopJobs s0 (fun j => j.cmd.fn == f && j.stage != .flash)
  let s2 := dropInvocations s1 (fun i => i.fn == f)
  let s3 := if s2.engines.share.parties.contains f then endShare s2 2 else s2
  let s4 := clearVolatile s3 f
  let s5 := onFn s4 f (fun x => { x with
    flrs := x.flrs + 1, violations := [], quarantined := false, quarantineRuns := 0, quarUntil := 0, setaHi := 0, busMaster := false, resetting := s4.jobs.any (·.cmd.fn == f) })
  let s6 := if (drbgOf s5 (.f f)).live && !entropyFailed s5 then reseed s5 (.f f) (flrInput s5 f) else s5
  let s7 := (renewCtxKey s6 f).onLink (fun l => { l with held := l.held.filter (·.1 != f) })
  let s8 := (List.range 4).foldl (fun a q => onPair a f (BitVec.ofNat 2 q) (fun _ => {})) (clearFnRegs s7 f)
  s8.onLink (fun l => { l with
    pba := l.pba.filter (fun e => e.1 / 64 != f.toNat), config := l.config.filter (fun e => e.1 / 4096 != f.toNat),
    bars := if f == 0 then [] else l.bars })

/-- A TENANT_RELEASE of the function is in flight, which absorbs an FLR of it (Table 5.18). -/
def releasing (s : State) (f : FnId) : Bool := s.jobs.any (fun j => j.op == 0x0102 && j.stage == .flash && param j.cmd 0 1 == f.toNat)
def flrOne (s : State) (f : FnId) : State := if releasing s f then s else resetFunction s f
/-- FLR_INITIATE: a VF, or the PF with VF Enable and every VF (R195, R198). The end of a flash operation ends the wait. -/
def execFlrInitiate (fn : FnId) (s : State) : Host.Outcome State Fault Refusal :=
  if !running s then .next s
  else
    let s1 := flrOne s fn
    let s2 := if fn != 0 then s1
      else
        let vfs := (List.range 255).filter (fun n => (fnOf s1 (BitVec.ofNat 8 (n + 1))).enabled)
        let a := vfs.foldl (fun a n => flrOne a (BitVec.ofNat 8 (n + 1))) s1
        let b := vfs.foldl (fun a n => onFn a (BitVec.ofNat 8 (n + 1)) (fun x => { x with enabled := false })) a
        b.onLink (fun l => { l with vfEnable := false, numVfs := 0 })
    .next (dispatch (raise s2 [81]))

/-- R196: the last flash operation of a function under reset has ended. -/
def endWaitingReset (s : State) (f : FnId) : State :=
  if (fnOf s f).resetting && !s.jobs.any (·.cmd.fn == f) then onFn s f (fun x => { x with resetting := false }) else s

/-! ### Device resets -/

/-- A function's record over a device reset: the tenant record (R313, R283), and the configuration space where it is kept. -/
def Fn.overReset (k : ResetKind) (x : Fn) : Fn :=
  { assigned := x.assigned, generation := x.generation, counterCap := x.counterCap, appletCap := x.appletCap, slots := x.slots, label := x.label, tenRecord := x.tenRecord, enabled := k == .pcieKept && x.enabled, busMaster := k == .pcieKept && x.busMaster }

/-- Erases under way stop with their lone ERASE_BEGIN (Table 4.3 step 0). -/
def Flash.overReset (x : Flash) : Flash :=
  { x with ops := [], otpPending := none }

/-- The Sentinel's side of tamper handling goes on; machines leave their safe states (R892) and suspensions end. -/
def Tamper.overReset (k : ResetKind) (x : Tamper) : Tamper :=
  if k == .fresh then {}
  else { latch := x.latch, notices := x.notices, live := x.live, liveSince := x.liveSince, quietSince := x.quietSince, net := x.net, lfsr := x.lfsr, loops := x.loops, vinTicks := x.vinTicks, vbakTicks := x.vbakTicks, seededAt := x.seededAt, retirePending := x.retirePending }

/-- A key of an MSI-X table. -/
def isMsix (k : Nat) : Bool := 2 ^ 20 ≤ k && 0x2000 ≤ k % 2 ^ 20 && k % 2 ^ 20 < 0x3000
/-- A key of CG_TAMPER, which the Sentinel holds. -/
def isPolicy (k : Nat) : Bool := 0x280 ≤ k && k < 0x290
/-- MSI-X tables stay where the configuration space stays, and the tamper policy while the Sentinel is powered. -/
def Regs.overReset (k : ResetKind) (x : Regs) : Regs :=
  { active := x.active.filter (fun e => (k == .pcieKept && isMsix e.1) || (k != .fresh && isPolicy e.1)) }

def Link.overReset (k : ResetKind) (x : Link) : Link :=
  if k == .pcieKept then { x with held := [], rings := 0 }
  else { perst := x.perst, phyGood := x.phyGood, hostMem := x.hostMem, readData := x.readData }

/-- What the regulator and the Sentinel keep. `backupClock` stays over every reset: R87 names no end of the backup oscillator's use (DESIGN
CHOICE, log entry 78). -/
def Power.overReset (k : ResetKind) (x : Power) : Power :=
  { vcore := OpPoint.vcode .safe, allowance := x.allowance, hot := x.hot, temps := x.temps, vinInRange := x.vinInRange, vbak := x.vbak, sentinel := x.sentinel, feedWarn := x.feedWarn, warnAt := x.warnAt, backupClock := x.backupClock, clockNote := x.clockNote, vinStopped := x.vinStopped, lastFeedDip := if k == .fresh then none else x.lastFeedDip, dipsSince := if k == .fresh then 0 else x.dipsSince, phaseOk := x.phaseOk, dipCount := if k == .pcieIncluded || k == .pcieKept then x.dipCount else 0 }

def Clocks.overReset (k : ResetKind) (x : Clocks) : Clocks :=
  if k == .fresh then { gpioIn := x.gpioIn }
  else { seta := x.seta, setaTop := x.setaTop, epochAt := x.seta / 1000 * 1000, rollAt := x.seta / 10000000 * 10000000, quantumAt := x.seta / 100000 * 100000, refLostAt := x.refLostAt, gpioIn := x.gpioIn }

/-- A Stipe boot begins with step 0 of a device reset; one that has not reached READY counts in BOOT_TRIES (R175, Table 4.14). -/
def Boot.overReset (k : ResetKind) (row : Nat) (x : Boot) : Boot :=
  { sentinelFresh := k == .fresh || x.sentinelFresh, lastReset := BitVec.ofNat 4 row, attempt := k == .pcieIncluded || k == .pcieKept, tries := if k == .fresh then 0 else if x.attempt then satAdd 15 x.tries 1 else x.tries, powerUp := if k == .fresh || k == .powerOn then 1 else 3, heldInReset := x.heldInReset && (k == .pcieIncluded || k == .pcieKept), recoveryRequest := row == 9, armedToken := if row == 8 then x.armedToken else none }

/-- The records of the configuration region stay: the roster last written, applied or not, and the progress record (R694, R710, R716). -/
def Update.overReset (u : Update) : Update :=
  { roster := (u.rosterNext.map (·.1)).getD u.roster, rosterGen := (u.rosterNext.map (·.2)).getD u.rosterGen, progress := u.progress }

/-- R138: boot epoch and sequence number of the newest entry; 0 while the log holds none (DESIGN CHOICE, log entry 83). -/
def lastMark (l : Log) : U64 :=
  match (l.slots.filterMap (fun e => match e.2 with | .entry q n _ => some (q, n) | _ => none)).getLast? with
  | some (q, n) => BitVec.ofNat 64 (n.epoch.toNat + q.toNat * 2 ^ 32)
  | none => 0
/-- A device reset: row of Table 4.1, kind of Table 4.2. What the part keeps without power or in the Sentinel stays. -/
def deviceReset (s : State) (k : ResetKind) (row : Nat) : State :=
  { boot := s.boot.overReset k row
    link := s.link.overReset k
    power := s.power.overReset k
    clocks := s.clocks.overReset k
    regs := s.regs.overReset k
    fns := SMap.mapV {} (fun _ x => x.overReset k) s.fns
    medulla := { records := s.medulla.records, arrayOff := k != .fresh && s.medulla.arrayOff }
    entropy := { taken := s.entropy.taken, rawTaken := s.entropy.rawTaken }
    flash := s.flash.overReset
    counters := s.counters
    log := { s.log with writing := none, chained := false, noChain := false, staged := [], gasping := false, held := [], nearFull := false, fullRaised := false, lossMark := if k == .fresh then lastMark s.log else s.log.lossMark }
    spore := s.spore
    tag := s.tag
    update := s.update.overReset
    tamper := s.tamper.overReset k
    pinnas := { split := s.pinnas.split, applets := s.pinnas.applets, store := s.pinnas.store, spareBlock := s.pinnas.spareBlock }
    free := s.free
    pending := s.pending }

end Sys2Proof.Machine
end

