-- ==== Sys2Proof/Machine/SysCmds.lean ====
section
/-! DEFINITION. The system commands that change no device state of a reset (Tables 7.5 and 7.6): NOP, GET_INFO, GET_LIMITS, OPTION_READ,
OPTION_WRITE, CONFIG_SET, CONFIG_GET, RAISE_EVENT. -/

namespace Sys2Proof.Machine

/-- NOP. -/
def execNop (c : Cmd) (s : State) : Host.Outcome State Fault Refusal :=
  xci 0x0001 c s (fun s _ => (s, some { res0 := param c 0 4, res1 := param c 4 4 }))

def resWords (b : Bytes) : Reply :=
  { res0 := leNat (b.take 4), res1 := leNat ((b.drop 4).take 4), res2 := leNat ((b.drop 8).take 4), res3 := leNat ((b.drop 12).take 4) }

/-- GET_INFO. -/
def execGetInfo (c : Cmd) (s : State) : Host.Outcome State Fault Refusal :=
  xci 0x0002 c s (fun s _ =>
    if param c 0 1 == 0 then
      (s, some { res0 := 0x6440 + 0xB1 * 2 ^ 16 + lifecycle s * 2 ^ 24, res1 := s.boot.version.toNat % 2 ^ 24, res2 := s.boot.svn.toNat, res3 := c.fn.toNat + (fnOf s c.fn).generation.toNat * 2 ^ 8 })
    else if param c 0 1 == 1 then (s, some (resWords (identity s)))
    else (s, some (bad 0)))

/-- Counters a function holds. -/
def countersHeld (s : State) (f : FnId) : Nat := (s.counters.owner.filter (fun e => e.2 == f.toNat + 1)).length
/-- Applets of a function, and its cap; the custodian's is what the tenants' caps leave (R835). -/
def appletsOf (s : State) (f : FnId) : List Nat :=
  SMap.keysWhere s.pinnas.applets (fun _ a => a.installed && a.owner == f)
def capSum (s : State) : Nat := (s.fns.map (fun e => if e.1 != 0 && e.2.assigned then e.2.appletCap else 0)).sum
def appletCapOf (s : State) (f : FnId) : Nat := if f == 0 then 64 - capSum s else (fnOf s f).appletCap
/-- QP_ACTIVE (Table 5.3). -/
def qpActive (s : State) (f : FnId) : Nat :=
  ((List.range 4).map (fun q => let p := pairOf s f (BitVec.ofNat 2 q); flagBit (p.active || p.draining) q)).sum

/-- GET_LIMITS. The custodian has no counter cap (R592): its field reads what the counters other than 0 and 1 come to, 510. -/
def execGetLimits (c : Cmd) (s : State) : Host.Outcome State Fault Refusal :=
  xci 0x0003 c s (fun s _ =>
    let f := c.fn
    (s, some {
      res0 := (allotment s f).length + slotsInUse s f * 2 ^ 16
      res1 := (if f == 0 then 510 else (fnOf s f).counterCap) % 2 ^ 10 + countersHeld s f * 2 ^ 16
      res2 := (appletsOf s f).length + appletCapOf s f * 2 ^ 8 + (if f == 0 then 64 else 8) * 2 ^ 16 + qpActive s f * 2 ^ 24
      res3 := inPool s + maxOf s f * 2 ^ 8 + effectiveMin s f * 2 ^ 16 }))

/-- The words OPTION_READ shows. -/
def optionShown (s : State) (copy w : Nat) : Nat :=
  match copy with
  | 1 => (optWord s 0 w).toNat
  | 2 => (optWord s 1 w).toNat
  | _ => match copyInUse s with | some k => (optWord s k w).toNat | none => 0

/-- OPTION_READ. -/
def execOptionRead (c : Cmd) (s : State) : Host.Outcome State Fault Refusal :=
  xci 0x0015 c s (fun s _ =>
    let k := param c 0 1
    let w := param c 1 1
    let n := param c 2 1
    unlessRefused s [when (k > 2) (bad 0), when (w > 127) (bad 1), when (n < 1 || n > 2 || w + n > 128) (bad 2)]
      (let a := optionShown s k w
      let b := if n == 2 then optionShown s k (w + 1) else 0
      (s, some { res0 := a % 2 ^ 32, res1 := a / 2 ^ 32, res2 := b % 2 ^ 32, res3 := b / 2 ^ 32 })))

/-- The word an OPTION_WRITE gives, by number. -/
def optionGiven (c : Cmd) (w : Nat) : Option U64 :=
  if param c 0 1 ≤ w && w < param c 0 1 + param c 1 1 then some (BitVec.ofNat 64 (param c (8 + 8 * (w - param c 0 1)) 8)) else none

/-- R276: the first failing field's byte in PARAMS. -/
def optionRefusal (c : Cmd) : Option Reply :=
  match (List.range (param c 1 1)).findSome? (fun i => (optFail (param c 0 1 + i) (param c (8 + 8 * i) 8)).map (fun b => 8 + 8 * i + b / 8)) with
  | some off => some (bad off)
  | none => none

/-- OPTION_WRITE (R148, R276, R306, R571, R581): one write at a time. -/
def execOptionWrite (c : Cmd) (s : State) : Host.Outcome State Fault Refusal :=
  xci 0x0016 c s (fun s _ =>
    let w := param c 0 1
    let n := param c 1 1
    unlessRefused s [when (w < 1 || w > 11) (bad 0), when (n < 1 || n > 6 || w + n > 12) (bad 1), optionRefusal c,
        when (wornMark s ⟨3, 0⟩ || wornMark s ⟨3, 1⟩) (fail Status.wornBlock)]
      (if s.flash.ops.any (fun o => o.unit.kind == 3) then (onJob s c (fun x => { x with stage := .fetched }), none)
      else (onJob (openFlash s ⟨3, targetCopy s⟩ true (.command c)) c (fun x => { x with stage := .flash }), none)))

/-- The copy is written. -/
def commitOption (s : State) (j : Job) : State × Reply :=
  (writeCopy s (optionGiven j.cmd), { res0 := nextGeneration s })

/-! ### CONFIG_SET and CONFIG_GET (R109, R270, R271) -/

/-- Table 7.6: the group of a GROUP and INSTANCE, its first register and how many. -/
def configTarget (g i : Nat) : Option (CommitGroup × Nat × Nat) :=
  match g with
  | 1 => if h : i < 8 then some (.alarm ⟨i, h⟩, 0, 4) else none
  | 2 => if i == 0 then some (.gpio, 0, 2) else none
  | 3 => if h : i < 2 then some (.turtis ⟨i, h⟩, 0, 1) else none
  | 4 => if i == 0 then some (.cless, 0, 1) else none
  | 5 => if i == 0 then some (.tamper, 0, 4) else none
  | 6 => if i < 4 then some (.hypha, 12 * i, 12) else none
  | _ => none

/-- Write some of a group's staging registers. -/
def stagePart (s : State) (g : CommitGroup) (first n v : Nat) : State :=
  (List.range n).foldl (fun a k => setStage a ((groupRegs g).getD (first + k) 0) (bitsOf v (32 * k) 32)) s

/-- Where a failing field of the group stands in VALUES. -/
def configReply (s : State) (g : CommitGroup) : Reply := groupReply s g 8 true

/-- CONFIG_SET. -/
def execConfigSet (c : Cmd) (s : State) : Host.Outcome State Fault Refusal :=
  xci 0x0017 c s (fun s _ =>
    let g := param c 0 1
    match configTarget g (param c 1 1) with
    | none => (s, some (bad (if 1 ≤ g && g ≤ 6 then 1 else 0)))
    | some (grp, first, n) =>
      if param c 2 1 > 1 then (s, some (bad 2))
      else if (commitReg s (commitKey grp)).busy then (onJob s c (fun x => { x with stage := .fetched }), none)
      else
        let s1 := stagePart s grp first n (param c 8 48)
        if param c 2 1 == 0 then (s1, some { res0 := (commitReg s1 (commitKey grp)).applied.toNat })
        else
          let s2 := commitGo (onCommit s1 (commitKey grp) (fun r => { r with rejected := false })) grp
          if waits s grp then (onJob s2 c (fun x => { x with aux := groupMark grp, aux2 := 8 + 2 ^ 16 }), none)
          else (s2, some (configReply s2 grp)))

/-- CONFIG_GET. -/
def execConfigGet (c : Cmd) (s : State) : Host.Outcome State Fault Refusal :=
  xci 0x0018 c s (fun s _ =>
    let g := param c 0 1
    let off := param c 3 1
    match configTarget g (param c 1 1) with
    | none => (s, some (bad (if 1 ≤ g && g ≤ 6 then 1 else 0)))
    | some (grp, first, n) =>
      if param c 2 1 > 1 then (s, some (bad 2))
      else if off != 0 && off != 16 && off != 32 then (s, some (bad 3))
      else
        let v := (((groupRegs grp).drop first).take n).flatMap (fun k => leBytes 4 (if param c 2 1 == 0 then reg s k else staged s k))
        (s, some (resWords ((v ++ List.replicate 48 0).drop off))))

/-- RAISE_EVENT (R277). -/
def execRaiseEvent (c : Cmd) (s : State) : Host.Outcome State Fault Refusal :=
  xci 0x0019 c s (fun s _ =>
    if param c 0 1 > 15 then (s, some (bad 0)) else (raiseWaking s [112 + param c 0 1], some {}))

end Sys2Proof.Machine
end

