-- ==== Sys2Proof/Machine/TenantCmds.lean ====
section
/-! DEFINITION. The tenant commands (Tables 7.7 and 7.8, R191 to R193, R278 to R284), and the status registers of a function. -/

namespace Sys2Proof.Machine

/-- STATE of FN_STATUS (Table 5.3). -/
def fnState (s : State) (f : FnId) : Nat :=
  if !running s || (fnOf s f).resetting then 0
  else if s.boot.state == .updating then 5
  else if s.power.safeHold.isSome then 4
  else if !isAssigned s f then 2
  else if s.tamper.suspended != 0 && f != 0 then 3
  else 1
/-- FN_STATUS. -/
def fnStatus (s : State) (f : FnId) : Nat :=
  fnState s f + flagBit (fnOf s f).quarantined 4 + qpActive s f * 2 ^ 8 + (fnOf s f).generation.toNat * 2 ^ 16
/-- GL_TEN_STAT (Table 5.12). -/
def tenStat (s : State) (f : FnId) : Nat :=
  held s f + flagBit (isAssigned s f) 7 + flagBit (fnOf s f).quarantined 8 + flagBit (fnOf s f).urgentCapped 9 + urgentUse s f * 2 ^ 16

/-- Another tenant command is writing the configuration region; a TENANT_SET of the function has not completed. -/
def tenantBusy (s : State) : Bool := s.jobs.any (fun j => (j.op == 0x0101 || j.op == 0x0102) && j.stage == .flash)
def settingTenant (s : State) (f : FnId) : Bool :=
  s.jobs.any (fun j => j.op == 0x0103 && param j.cmd 0 1 == f.toNat && (j.stage == .waiting || j.stage == .flash))

/-- TENANT_CREATE (R278 to R280, R312). -/
def execTenantCreate (c : Cmd) (s : State) : Host.Outcome State Fault Refusal :=
  xci 0x0101 c s (fun s j =>
    let f : FnId := BitVec.ofNat 8 (param c 0 1)
    let why := tenantFail s f (param c 8 4)
    if tenantBusy s then backToQueue s c
    else unlessRefused s [when (isAssigned s f) (bad 0), when (param c 2 2 > 4095) (bad 2), when (param c 4 2 > 510) (bad 4),
        when (param c 6 1 > 64) (bad 6), when (why != 0) (bad (7 + why)), when ((freeSlots s).length < param c 2 2) (exhausted 1),
        when (capSum s + param c 6 1 > 64) (exhausted 2)]
      (flashCommand s j (configUnit s), none))

/-- The tenant record is written. -/
def commitCreate (s : State) (j : Job) : State × Reply :=
  let c := j.cmd
  let f : FnId := BitVec.ofNat 8 (param c 0 1)
  let label := paramBytes c 16 16
  let s1 := onFn s f (fun x => { x with
    assigned := true, counterCap := param c 4 2, appletCap := param c 6 1, slots := (freeSlots s).take (param c 2 2), label := label, tenRecord := BitVec.ofNat 32 (param c 8 4) })
  let s2 := instantiate (setReg s1 (glKey (0x2000 + 0x10 * f.toNat)) (param c 8 4)) (.f f)
  let g := (fnOf s2 f).generation.toNat
  (append s2 Entry.tenantCreate (Src.host 0) (f.toNat + g * 2 ^ 8 + leNat ((Config.sha384 label).take 4) * 2 ^ 32), { res0 := g })

/-- TENANT_RELEASE (R191, R282): the function stops as in an FLR when the command starts. -/
def execTenantRelease (c : Cmd) (s : State) : Host.Outcome State Fault Refusal :=
  xci 0x0102 c s (fun s j =>
    let f : FnId := BitVec.ofNat 8 (param c 0 1)
    if tenantBusy s || settingTenant s f then backToQueue s c
    else unlessRefused s [when (f == 0 || !isAssigned s f) (bad 0), when (param c 4 2 != (fnOf s f).generation.toNat) (bad 4)]
      (flashCommand (resetFunction s f) j (configUnit s), none))

/-- R191 to R193: the tenant's record is gone: slots, applets, counters, generation, defaults. -/
def commitRelease (s : State) (j : Job) : State × Reply :=
  let f : FnId := BitVec.ofNat 8 (param j.cmd 0 1)
  let g := (fnOf s f).generation
  let s1 := stopJobs s (fun x => x.cmd.fn == f)
  let s2 := (allotment s1 f).foldl emptySlot s1
  let s3 := s2.onMedulla (fun m => { m with
    records := m.records.filter (fun e => e.2.owner != f.toNat), unloadable := m.unloadable.filter (fun n => !(allotment s1 f).contains n) })
  let mine := appletsOf s3 f
  let s4 := s3.onPinnas (fun p => { p with
    applets := p.applets.filter (fun e => !mine.contains e.1), cache := p.cache.filter (fun a => !mine.contains a),
    store := p.store.map (fun e => if mine.contains (e.2 - 1) then (e.1, 255) else e) })
  let s5 := s4.onCounters (fun k => { k with owner := k.owner.filter (fun e => e.2 != f.toNat + 1) })
  let s6 := onFn s5 f (fun x => { x with
    assigned := false, generation := g + 1, slots := [], label := [], counterCap := 0, appletCap := 0, tenRecord := 0x400010, resetting := false })
  let s7 := setReg s6 (glKey (0x2000 + 0x10 * f.toNat)) 0x400010
  (append s7 Entry.tenantRelease (Src.host 0) (f.toNat + g.toNat * 2 ^ 8), {})

/-- TENANT_SET (R283): through CG_TENANT, then the tenant record. -/
def execTenantSet (c : Cmd) (s : State) : Host.Outcome State Fault Refusal :=
  xci 0x0103 c s (fun s j =>
    let g := CommitGroup.tenant (BitVec.ofNat 8 (param c 0 1))
    if (commitReg s (commitKey g)).busy || releasing s (BitVec.ofNat 8 (param c 0 1)) then backToQueue s c else setGroup s j g (param c 8 4) 8 false)

/-- The record holds the values set; a write that fails leaves those of the last verified write (R306). -/
def commitTenantSet (s : State) (j : Job) : State × Reply :=
  let f : FnId := BitVec.ofNat 8 (param j.cmd 0 1)
  (onFn s f (fun x => { x with tenRecord := BitVec.ofNat 32 (param j.cmd 8 4) }), {})
def undoTenantSet (s : State) (j : Job) : State :=
  let f : FnId := BitVec.ofNat 8 (param j.cmd 0 1)
  setReg s (glKey (0x2000 + 0x10 * f.toNat)) (fnOf s f).tenRecord.toNat

/-- TENANT_STATUS (R284). -/
def execTenantStatus (c : Cmd) (s : State) : Host.Outcome State Fault Refusal :=
  xci 0x0104 c s (fun s _ =>
    let f : FnId := BitVec.ofNat 8 (param c 0 1)
    if c.fn != 0 && f != c.fn then (s, some (fail Status.notPermitted))
    else (s, some { res0 := tenStat s f, res1 := tenCfg s f, res2 := fnState s f + (fnOf s f).generation.toNat * 2 ^ 16, res3 := slotsInUse s f + countersHeld s f * 2 ^ 16 }))

/-- 32 ASSIGNED bits from a function number. -/
def assignedWord (s : State) (base : Nat) : Nat := ((List.range 32).map (fun n => flagBit (isAssigned s (BitVec.ofNat 8 (base + n))) n)).sum

/-- TENANT_LIST. -/
def execTenantList (c : Cmd) (s : State) : Host.Outcome State Fault Refusal :=
  xci 0x0105 c s (fun s _ =>
    let b := 128 * param c 0 1
    if param c 0 1 > 1 then (s, some (bad 0))
    else (s, some { res0 := assignedWord s b, res1 := assignedWord s (b + 32), res2 := assignedWord s (b + 64), res3 := assignedWord s (b + 96) }))

end Sys2Proof.Machine
end

