-- ==== Sys2Proof/Machine/CounterCmds.lean ====
section
/-! DEFINITION. The counter commands (Table 14.4, R591 to R616). -/

namespace Sys2Proof.Machine

def holdsCounter (s : State) (f : FnId) (n : Nat) : Bool := SMap.get 0 s.counters.owner n == f.toNat + 1
/-- Counters that an allocation under way has taken. -/
def allocating (s : State) (n : Nat) : Bool := s.jobs.any (fun j => j.op == 0x0701 && j.stage == .flash && j.aux == n + 1)
def counterFree (s : State) (n : Nat) : Bool := SMap.get 0 s.counters.owner n == 0 && !allocating s n
/-- The data-flash sector of a block (126 on). -/
def blockUnit (i : Nat) : FlashUnit := ⟨2, 126 + blockSector i⟩
/-- The sector the next record write of a counter programs. -/
def counterUnit (s : State) (n : Nat) : FlashUnit :=
  match baseOf s.counters n with
  | some b => if rollsForward s.counters n then blockUnit ((takeBlock s.counters).getD 0) else blockUnit (currentBlock s.counters n b)
  | none => blockUnit ((takeBlock s.counters).getD 0)

/-- COUNTER_ALLOC (R592, R593, R603). -/
def execCounterAlloc (c : Cmd) (s : State) : Host.Outcome State Fault Refusal :=
  xci 0x0701 c s (fun s j =>
    let n := param c 0 2
    let mine := (List.range 512).filter (fun k => 2 ≤ k && counterFree s k)
    let atCap := c.fn != 0 && countersHeld s c.fn + (s.jobs.filter (fun x => x.op == 0x0701 && x.stage == .flash && x.cmd.fn == c.fn)).length ≥ (fnOf s c.fn).counterCap
    let pick := if n == 0xFFFF then mine.head? else some n
    unlessRefused s [when (n != 0xFFFF && (n < 2 || n > 511 || !counterFree s n)) (bad 0), when atCap (exhausted 7),
        when pick.isNone (fail Status.counterPoolEmpty)]
      (let k := pick.getD 0
      if (baseOf s.counters k).isNone && SMap.get 0 s.counters.lost k == 0 && (writeRecords s.counters k 0).isNone then (s, some (exhausted 8))
      else
        let s1 := flashCommand s j (if (baseOf s.counters k).isNone then counterUnit s k else configUnit s)
        (onJob s1 c (fun x => { x with aux := k + 1 }), none)))

/-- The counters with the record that an allocation finds or writes; none where no block and backup slot are left for it (R593). -/
def firstRecord (k : Counters) (n : Nat) : Option Counters :=
  if (baseOf k n).isNone && SMap.get 0 k.lost n == 0 then writeRecords k n 0 else some k
/-- The counter's owner is recorded, and its first record where it has none; the last place may have gone since the command started. -/
def commitAlloc (s : State) (j : Job) : State × Reply :=
  let n := j.aux - 1
  match firstRecord s.counters n with
  | none => (s, exhausted 8)
  | some k =>
    let s1 := s.onCounters (fun _ => { k with owner := SMap.set 0 k.owner n (j.cmd.fn.toNat + 1) })
    (s1, { res0 := n, res1 := counterValue s1.counters n })

/-- Backup equals primary: the records that give B exist in both copies. -/
def backupAgrees (k : Counters) (n : Nat) : Bool := topBase (primaries k n) == topBase (backupsOf k n)

/-- COUNTER_READ (R604, R605). -/
def execCounterRead (c : Cmd) (s : State) : Host.Outcome State Fault Refusal :=
  xci 0x0702 c s (fun s _ =>
    let n := param c 0 2
    let sp := param c 2 1
    unlessRefused s [when (n > (if sp == 1 then 15 else 511)) (bad 0), when (sp > 1) (bad 2),
        when (sp == 1 && (c.fn != 0 || isApplet c)) (fail Status.notPermitted),
        when (sp == 0 && n ≥ 2 && !holdsCounter s c.fn n) (fail Status.counterNotOwned)]
      (if sp == 1 then
        let v := sporeCounter s n
        (s, some { res0 := v, res1 := flagBit (v == 0xFFFFFF) 0 + flagBit (sporeCopy (sporeWord s (2 * n)) == sporeCopy (sporeWord s (2 * n + 1))) 1, res2 := 0xFFFFFF - v })
      else
        let v := counterValue s.counters n
        let spent := counterSpent s.counters n
        (s, some { res0 := v, res1 := flagBit spent 0 + flagBit (backupAgrees s.counters n) 1, res2 := if spent then 0 else budgetEnd - v })))

/-- COUNTER_INCREMENT (R591, R598 to R600, R604, R607, R614): one at a time. -/
def execCounterIncrement (c : Cmd) (s : State) : Host.Outcome State Fault Refusal :=
  xci 0x0703 c s (fun s j =>
    let n := param c 0 2
    unlessRefused s [when (n > 511) (bad 0), when (n < 2) (fail Status.notPermitted),
        when (!holdsCounter s c.fn n) (fail Status.counterNotOwned), when (counterSpent s.counters n) (fail Status.counterSpent)]
      (if s.jobs.any (fun x => x.op == 0x0703 && x.stage == .flash && x.aux == n + 1) then backToQueue s c
      else if rollsForward s.counters n && (incrementCounter s.counters n).isNone then (s, some (exhausted 8))
      else (onJob (flashCommand s j (counterUnit s n)) c (fun x => { x with aux := n + 1 }), none)))

/-- The last word of the increment has verified. -/
def commitIncrement (s : State) (j : Job) : State × Reply :=
  let n := j.aux - 1
  match incrementCounter s.counters n with
  | none => (s, exhausted 8)
  | some k =>
    let s1 := afterIncrement (s.onCounters (fun _ => k)) n
    (s1, { res0 := counterValue s1.counters n })

/-- 32 HELD bits from a counter number. -/
def heldWord (s : State) (f : FnId) (base : Nat) : Nat := ((List.range 32).map (fun n => flagBit (holdsCounter s f (base + n)) n)).sum

/-- COUNTER_LIST (R606). -/
def execCounterList (c : Cmd) (s : State) : Host.Outcome State Fault Refusal :=
  xci 0x0704 c s (fun s _ =>
    let b := 128 * param c 0 1
    let f : FnId := BitVec.ofNat 8 (param c 1 1)
    unlessRefused s [when (param c 0 1 > 3) (bad 0), when (c.fn != 0 && f != c.fn) (fail Status.notPermitted)]
      (s, some { res0 := heldWord s f b, res1 := heldWord s f (b + 32), res2 := heldWord s f (b + 64), res3 := heldWord s f (b + 96) }))

end Sys2Proof.Machine
end

