-- ==== Sys2Proof/Machine/LogTime.lean ====
section
/-! DEFINITION. The log and time commands (Table 7.9, R285 to R289, Table 17.13, R743 to R760). -/

namespace Sys2Proof.Machine

/-- TIME_READ: Seta as the command starts. -/
def execTimeRead (c : Cmd) (s : State) : Host.Outcome State Fault Refusal :=
  xci 0x0801 c s (fun s _ =>
    (s, some { res0 := (bootEpoch s).toNat, res1 := s.clocks.seta % 2 ^ 32, res2 := s.clocks.seta / 2 ^ 32 % 2 ^ 32 }))

/-- R751, R766: class N entries are not written. -/
def noteRefused (s : State) : Option Reply :=
  if s.log.noChain then some { status := Status.logFull, detail := 1 } else when (logFree s == 0) (fail Status.logFull)

/-- ANCHOR_RECORD (R128, R285). -/
def execAnchorRecord (c : Cmd) (s : State) : Host.Outcome State Fault Refusal :=
  xci 0x0802 c s (fun s _ =>
    unlessRefused s [noteRefused s]
      (let n : Note := { note s Entry.anchor (Src.host 0) (param c 0 8) with kind := 2 }
      (appendNote s n, some { res0 := s.log.seq.toNat, res1 := s.clocks.seta % 2 ^ 32, res2 := s.clocks.seta / 2 ^ 32 % 2 ^ 32 })))

/-- LOG_NOTE (R289). -/
def execLogNote (c : Cmd) (s : State) : Host.Outcome State Fault Refusal :=
  xci 0x0807 c s (fun s _ =>
    unlessRefused s [noteRefused s] (append s Entry.note (sourceOf s c) (param c 0 8), some { res0 := s.log.seq.toNat }))

/-- Oldest and newest sequence number (R286): entries are never erased. -/
def oldestSeq (_ : State) : Nat := 0
def newestSeq (s : State) : Nat := (s.log.seq - 1).toNat

/-- LOG_INFO. -/
def execLogInfo (c : Cmd) (s : State) : Host.Outcome State Fault Refusal :=
  xci 0x0803 c s (fun s _ =>
    (s, some {
      res0 := oldestSeq s, res1 := newestSeq s, res2 := logSlots s + logFree s * 2 ^ 16
      res3 := flagBit (noteRefused s).isSome 0 + flagBit (bitOf (sporeWord s 48).toNat 2) 1 + s.flash.extensions * 2 ^ 4 }))

/-- The slot that holds a readable entry of a sequence number. -/
def slotOfSeq (s : State) (q : Nat) : Option (Nat × LogSlot) :=
  s.log.slots.find? (fun e => match e.2 with | .entry n _ _ => n.toNat == q | .damaged n _ => n.toNat == q | _ => false)
/-- A command that reads data flash: while a program is open there it meets BUSY (E079) and is tried again after it (R542, R546); an open erase
is suspended for it (R543). -/
def readingFlash (s : State) (c : Cmd) (h : State → State × Option Reply) : State × Option Reply :=
  if programOn s 2 then backToQueue (raise s [79]) c else h (suspendErase s 2 false)
/-- 48 bytes of an entry, zeros where none is readable. -/
def logBytes (s : State) (q : Nat) : Bytes :=
  match slotOfSeq s q with
  | some (_, .entry n x ch) => entryBytes n x ch
  | _ => List.replicate 48 0
def readable (s : State) (q : Nat) : Bool := match slotOfSeq s q with | some (_, .entry _ _ _) => true | _ => false

/-- R286, R760: the range lies in the log. -/
def rangeRefused (s : State) (first last : Nat) : Option Reply :=
  when (s.log.seq == 0 || first < oldestSeq s || last > newestSeq s || first > last)
    { status := Status.logRange, detail := oldestSeq s + newestSeq s * 2 ^ 32 }

/-- LOG_READ (R286). -/
def execLogRead (c : Cmd) (s : State) : Host.Outcome State Fault Refusal :=
  xci 0x0804 c s (fun s _ =>
    let first := param c 0 4
    let n := param c 4 2
    let buf := param c 8 8
    unlessRefused s [when (n < 1 || n > 1024) (bad 4), when (bufBad s c buf (48 * n) true) (bad 8), rangeRefused s first (first + n - 1)]
      (readingFlash s c (fun s =>
        let qs := (List.range n).map (· + first)
        (bufWrite s c buf (qs.flatMap (logBytes s)), some { res0 := (qs.filter (readable s)).length }))))

/-! ### Signed export -/

/-- The CHAIN of the nearest earlier slot that is not torn: 16 zero bytes before the first, empty where it cannot be read (R744, R746). -/
def chainBehind (s : State) (slot : Nat) : Bytes :=
  match (s.log.slots.filterMap (fun e => match e.2 with
      | .entry _ _ ch | .damaged _ ch => if e.1 < slot then some ch else none
      | _ => none)).getLast? with
  | some ch => ch
  | none => List.replicate 16 0
/-- The CHAIN stored in the nearest earlier slot that is not torn, none where it cannot be read (R744). -/
def chainBefore (s : State) (slot : Nat) : Option Bytes :=
  let ch := chainBehind s slot
  if ch.isEmpty then none else some ch
/-- R746, R757: an entry's CHAIN verifies. -/
def chainHolds (s : State) (q : Nat) : Bool :=
  match slotOfSeq s q with
  | some (k, .entry n x ch) => (chainBefore s k).any (fun p => ch == Config.cmac (chainKey s) (p ++ noteBytes n x))
  | _ => false
/-- FIRST_BREAK. -/
def firstBreak (s : State) (first last : Nat) : Nat :=
  match (List.range (last + 1 - first)).find? (fun i => !chainHolds s (first + i)) with
  | some i => first + i
  | none => 0xFFFFFFFF

/-- Table 17.13 without the signature. -/
def exportBody (s : State) (first last : Nat) (nonce : Bytes) : Bytes :=
  let brk := firstBreak s first last
  leBytes 4 0x51454C58 ++ [1, BitVec.ofNat 8 (flagBit (brk == 0xFFFFFFFF) 0 + flagBit (bitOf (sporeWord s 48).toNat 2) 1), 0, 0] ++
    identity s ++ leBytes 4 first ++ leBytes 4 last ++ leBytes 4 brk ++ leBytes 4 (bootEpoch s).toNat ++ leBytes 8 s.clocks.seta ++
    nonce ++ Config.publicKey 0x11 97 (slotOf s 0).key ++ List.replicate 7 0 ++
    (List.range (last + 1 - first)).flatMap (fun i => logBytes s (first + i)) ++
    (List.range 64).flatMap (fun i => leBytes 8 (sporeWord s (476 + i)).toNat)

/-- LOG_EXPORT (R287, R757 to R760). -/
def execLogExport (c : Cmd) (s : State) : Host.Outcome State Fault Refusal :=
  xci 0x0805 c s (fun s _ =>
    let first := param c 0 4
    let last := param c 4 4
    let buf := param c 8 8
    unlessRefused s [when (bufBad s c buf (param c 16 4) true) (bad 8), when (param c 16 4 < 776 + 48 * (last + 1 - first)) (bad 16),
        rangeRefused s first last, when (!attrValid (attrOf s 0)) (fail Status.keyUnusable),
        when ((List.finRange 2).all (fun n => (unitOf s (.calyptra n)).st == .failed)) (fail Status.noUnit)]
      (if (List.finRange 2).all (fun n => (unitOf s (.calyptra n)).st != .inService) then
        (onJob s c (fun x => { x with stage := .fetched }), none)
      else readingFlash s c (fun s => withOwn s c 7 48 (fun s1 k =>
        let body := exportBody s1 first last (paramBytes c 20 16)
        let out := body ++ Config.ecdsaSign 384 (slotOf s1 0).key k body
        (append (bufWrite s1 c buf out) Entry.logExported Src.xemberon (first + last * 2 ^ 32), some { res0 := out.length })))))

/-- Sectors of the extension pool that serve as replacements (R578). -/
def poolTaken (s : State) : Nat := (s.flash.replaced.filter (fun e => 78 ≤ e.2 && e.2 ≤ 125)).length

/-- LOG_EXTEND (R288): first the count of extensions in option-area word 10. -/
def execLogExtend (c : Cmd) (s : State) : Host.Outcome State Fault Refusal :=
  xci 0x0806 c s (fun s _ =>
    let n := param c 0 1
    let total := s.flash.extensions + n
    unlessRefused s [when (n < 1 || n > 4 || total > 4) (bad 0), when (12 * total + poolTaken s > 48) (exhausted 3)]
      (if s.flash.ops.any (fun o => o.unit.kind == 3) then (onJob s c (fun x => { x with stage := .fetched }), none)
      else (onJob (openFlash s ⟨3, targetCopy s⟩ true (.command c)) c (fun x => { x with stage := .flash }), none)))

/-- Word 10 with the new count; the region grows at once (R288, R754). -/
def commitExtend (s : State) (j : Job) : State × Reply :=
  let total := s.flash.extensions + param j.cmd 0 1
  let old := match copyInUse s with | some k => (optWord s k 10).toNat | none => 0
  let new := old - bitsOf old 16 4 * 2 ^ 16 + total * 2 ^ 16
  let s1 := writeCopy s (fun w => if w == 10 then some (BitVec.ofNat 64 new) else none)
  let s2 := (s1.onFlash (fun f => { f with extensions := total })).onLog (fun l => { l with nearFull := false, fullRaised := false })
  (append s2 Entry.logExtended Src.xemberon (total + logSlots s2 * 2 ^ 16), { res0 := logSlots s2 })

end Sys2Proof.Machine
end

