-- ==== Sys2Proof/Machine/FlashCmds.lean ====
section
/-! DEFINITION. FLASH_WEAR and WORN_OVERRIDE (Table 13.7). -/

namespace Sys2Proof.Machine

/-- Units of a KIND: 32 blocks, 32 blocks, 256 sectors, 2 copies. -/
def unitsOf (kind : Nat) : Nat := if kind < 2 then 32 else if kind == 2 then 256 else 2

/-- FLASH_WEAR (R576, R584). -/
def execFlashWear (c : Cmd) (s : State) : Host.Outcome State Fault Refusal :=
  xci 0x0A05 c s (fun s _ =>
    let k := param c 0 1
    let u : FlashUnit := ⟨k, param c 2 2⟩
    let rep := SMap.get 0 s.flash.replaced u.index
    unlessRefused s [when (k > 3) (bad 0), when (u.index ≥ unitsOf k) (bad 2)]
      (s, some {
        res0 := eraseCount s u, res1 := ratedErases k,
        res2 := flagBit (wornMark s u) 0 + flagBit (SMap.get false s.flash.override (unitKind u)) 1 +
          flagBit (SMap.get false s.flash.wornBad (unitKind u)) 2 + (if k == 2 && rep != 0 then 2 ^ 3 + rep * 2 ^ 8 else 0)
        res3 := ((List.range (unitsOf k)).filter (fun i => wornMark s ⟨k, i⟩)).length + s.flash.spares.length * 2 ^ 16 + (freePool s).length * 2 ^ 24 }))

/-- A CONFIRM field (R269). -/
def confirmBad (c : Cmd) (off op : Nat) : Option Reply := when (param c off 2 != 0xFFFF - op) (bad off)

/-- WORN_OVERRIDE (R583, R584). -/
def execWornOverride (c : Cmd) (s : State) : Host.Outcome State Fault Refusal :=
  xci 0x0A06 c s (fun s j =>
    unlessRefused s [when (param c 0 1 > 31) (bad 0), when (param c 1 1 > 1) (bad 1), confirmBad c 2 0x0A06]
      (flashCommand s j (configUnit s), none))

/-- The override's record is written. -/
def commitOverride (s : State) (j : Job) : State × Reply :=
  let u : FlashUnit := ⟨0, param j.cmd 0 1⟩
  let allow := bitOf (param j.cmd 1 1) 0
  let s1 := (appendConfig s).onFlash (fun f => { f with override := SMap.set false f.override (unitKind u) allow })
  (append s1 Entry.wornOverride (Src.host 0) (u.index + flagBit allow 8 + flagBit (wornMark s u) 9 + eraseCount s u % 2 ^ 32 * 2 ^ 32),
    { res0 := flagBit (wornMark s u) 0 + flagBit allow 1 })

end Sys2Proof.Machine
end

