-- ==== Sys2Proof/Machine/AppletStore.lean ====
section
/-! DEFINITION. Applet images, the applet store in bank B and the installation of an applet (R561 to R564, R833 to R837). -/

namespace Sys2Proof.Machine

/-! ### Images (Table 19.11) -/

/-- A little-endian field of an image. -/
def imgField (b : Bytes) (k n : Nat) : Nat := leNat ((b.drop k).take n)
/-- The first byte of a range that is not zero. -/
def imgNonzero (b : Bytes) (k n : Nat) : Option Nat := ((List.range n).find? (fun i => b.getD (k + i) 0 != 0)).map (k + ·)
/-- R833: offset of the first field of the image that does not meet Table 19.11; a LEN that does not fit the lengths names CODE_LEN, and
a DTCM that does not hold them STACK_LEN. -/
def imgFault (b : Bytes) : Option Nat :=
  let code := imgField b 12 4
  let data := imgField b 16 4
  let bss := imgField b 20 4
  let stack := imgField b 24 4
  if imgField b 0 4 != 0x51415050 then some 0 else if imgField b 4 1 != 1 then some 4
  else if (imgNonzero b 5 3).isSome then imgNonzero b 5 3
  else if code % 4 != 0 || code < 4 || b.length != 160 + code + data then some 12
  else if data % 8 != 0 then some 16 else if bss % 8 != 0 then some 20
  else if stack % 256 != 0 || stack < 256 || data + bss + stack > 65536 then some 24
  else if imgField b 28 4 % 4 != 0 || imgField b 28 4 ≥ code then some 28
  else imgNonzero b 48 16
/-- The applet of an image. -/
def appletOf (b : Bytes) (owner : FnId) (pages : Nat) : Applet :=
  { installed := true, owner := owner, version := BitVec.ofNat 32 (imgField b 8 4), codeLen := imgField b 12 4, dataLen := imgField b 16 4, bssLen := imgField b 20 4, stackLen := imgField b 24 4, entry := imgField b 28 4, name := (b.drop 32).take 16, pages := pages, code := (b.drop 64).take (imgField b 12 4), data := (b.drop (64 + imgField b 12 4)).take (imgField b 16 4) }
/-- Check 5 of Table 8.5 for the slot of an installation (R834). -/
def installKeyOk (a : Nat) : Bool := attrType a == 9 && attrUsage a 3 && attrEngine a 1
/-- R834: SIGNATURE verifies under the public key of a private key. -/
def imgSigned (key b : Bytes) : Bool :=
  Config.ecdsaVerify 384 (Config.publicKey 0x11 97 key) (b.take (b.length - 96)) (b.drop (b.length - 96))

/-- The installed applet of a function with a name. -/
def appletNamed (s : State) (f : FnId) (name : Bytes) : Option Nat :=
  (s.pinnas.applets.find? (fun e => e.2.installed && e.2.owner == f && e.2.name == name)).map (·.1)
def installedCount (s : State) : Nat := (s.pinnas.applets.filter (fun e => e.2.installed)).length

/-! ### The store -/

/-- Pages of an image with its trailer (R561). -/
def pagesOf (len : Nat) : Nat := (len + 511) / 512 + 1
/-- Blocks that hold applets: 4 to 31 but the compaction block, WORN ones left out (R580). -/
def storeBlocks (s : State) : List Nat :=
  ((List.range 28).map (· + 4)).filter (fun b => b != s.pinnas.spareBlock && !wornMark s ⟨1, b⟩)
def storePage (s : State) (b i : Nat) : Nat := SMap.get 0 s.pinnas.store (256 * b + i)
/-- Erased pages, in the order they are taken. -/
def erasedPages (s : State) : List Nat :=
  (storeBlocks s).flatMap (fun b => ((List.range 256).filter (fun i => storePage s b i == 0)).map (256 * b + ·))
def livePages (s : State) : Nat := (s.pinnas.store.filter (fun e => e.2 != 255)).length
def deadIn (s : State) (b : Nat) : Nat := ((List.range 256).filter (fun i => storePage s b i == 255)).length
/-- R562: the pages of an applet are dead. -/
def killPages (s : State) (a : Nat) : State :=
  s.onPinnas (fun p => { p with store := p.store.map (fun e => if e.2 == a + 1 then (e.1, 255) else e) })
/-- R564: the store cannot hold the image beside all live pages; those of the applet it replaces stay live until it counts. -/
def storeFull (s : State) (need : Nat) : Bool := need + livePages s > 256 * (storeBlocks s).length

/-- The block with the most dead pages, the lowest of them. -/
def compactVictim (s : State) : Option Nat :=
  (storeBlocks s).foldl (fun m b => match m with
    | none => if deadIn s b == 0 then none else some b
    | some x => if deadIn s b > deadIn s x then some b else some x) none
/-- R563: the live pages of a block are copied into the compaction block, and its erase is requested. -/
def compactBlock (s : State) (b : Nat) : State :=
  let live := (List.range 256).map (storePage s b) |>.filter (fun v => v != 0 && v != 255)
  let spare := s.pinnas.spareBlock
  let s1 := s.onPinnas (fun p => { p with
    store := (live.zipIdx.foldl (fun m e => SMap.set 0 m (256 * spare + e.2) e.1) p.store).map (fun e => if e.1 / 256 == b then (e.1, 255) else e) })
  openFlash s1 ⟨1, b⟩ true (.appletErase b)
/-- The block is erased and is the new compaction block. -/
def compacted (s : State) (b : Nat) : State :=
  s.onPinnas (fun p => { p with store := p.store.filter (fun e => e.1 / 256 != b), spareBlock := b })

/-! ### Installation -/

/-- The image is programmed, after as many compactions as it takes; a store that has become too small for it refuses it. -/
def storeImage (s : State) (j : Job) : State :=
  let need := pagesOf j.draws.length
  match (erasedPages s)[need - 1]?, (erasedPages s).head? with
  | some _, some p => onJob (openFlash s ⟨1, p / 256⟩ false (.command j.cmd)) j.cmd (fun x => { x with stage := .flash })
  | _, _ => match compactVictim s with
    | some b => onJob (compactBlock s b) j.cmd (fun x => { x with stage := .flash })
    | none => complete s j (exhausted 6)
/-- After a compaction: the installation that waits for it goes on. -/
def resumeInstall (s : State) : State :=
  match s.jobs.find? (fun j => j.op == 0x0C01 && j.stage == .flash) with
  | some j => storeImage s j
  | none => s

/-- R834: the unit has derived the public key and checked the signature. -/
def verifyImage (s : State) (j : Job) (u : UnitRef) : State :=
  if imgSigned (jobKey s j.cmd) j.draws then dispatch (settleDeletes (resumeOn (storeImage s j) u))
  else complete s j (fail Status.appletSignature)

/-- R835, R836: the trailer page verifies and the directory takes the applet: the ID of the one it replaces, else the lowest free. -/
def commitInstall (s : State) (j : Job) : State × Reply :=
  let f := j.cmd.fn
  let b := j.draws
  let n := pagesOf b.length
  let old := appletNamed s f ((b.drop 32).take 16)
  let id := old.getD (((List.range 64).find? (fun i => !(SMap.get {} s.pinnas.applets i).installed)).getD 0)
  let s1 := match old with | some a => killPages s a | none => s
  let s2 := (appendConfig s1).onPinnas (fun p => { p with
    store := ((erasedPages s).take n).foldl (fun m k => SMap.set 0 m k (id + 1)) p.store
    applets := SMap.set {} p.applets id (appletOf b f n), cache := p.cache.filter (· != id) })
  (s2, { res0 := id, res1 := imgField b 8 4, res2 := n })

/-- R562, R839: the applet is gone from the directory. -/
def commitRemove (s : State) (j : Job) : State × Reply :=
  let a := j.aux - 1
  let s1 := (appendConfig (killPages s a)).onPinnas (fun p => { p with applets := SMap.set {} p.applets a {}, cache := p.cache.filter (· != a) })
  (s1, {})

end Sys2Proof.Machine
end

