-- ==== Sys2Proof/Machine/PoolCmds.lean ====
section
/-! DEFINITION. The frond-pool, power and health commands (Tables 7.10 to 7.12, R290 to R303). -/

namespace Sys2Proof.Machine

/-- Four-bit state codes of a list of units, the first lowest. -/
def codes (s : State) (us : List UnitRef) : Nat := leNat4 (us.map (fun u => (unitOf s u).st.code))
where
  /-- Digits of 4 bits. -/
  leNat4 : List Nat → Nat
    | [] => 0
    | x :: r => x + 16 * leNat4 r

/-- POOL_STATUS. -/
def execPoolStatus (c : Cmd) (s : State) : Host.Outcome State Fault Refusal :=
  xci 0x0901 c s (fun s _ =>
    let k := param c 0 1
    let w := fun i => codes s (((fronds.map .frond).drop (32 * k + 8 * i)).take 8)
    if k > 2 then (s, some (bad 0))
    else if k == 2 then (s, some { res0 := codes s (calyptras ++ slices), res1 := codes s ((List.finRange 8).map .pinna) })
    else (s, some { res0 := w 0, res1 := w 1, res2 := w 2, res3 := w 3 }))

/-- KIND and INDEX in range. -/
def unitNamed (kind index : Nat) : Option Reply :=
  if kind > 3 then some (bad 0) else when (unitsOfKind kind index).isEmpty (bad 1)

/-- R290: fronds left in service without the named ones. -/
def frondsLeft (s : State) (us : List UnitRef) : Nat :=
  (fronds.filter (fun n => !us.contains (.frond n) && (frondState s n == .inService || frondState s n == .borrowed))).length

/-- UNIT_OUT (R290, R291, Table 7.14); a group left empty is powered off at the next epoch boundary (R48, R292). -/
def execUnitOut (c : Cmd) (s : State) : Host.Outcome State Fault Refusal :=
  xci 0x0902 c s (fun s _ =>
    let kind := param c 0 1
    let us := unitsOfKind kind (param c 1 1)
    let st := fun u => (unitOf s u).st
    let before := (us.head?.map (fun u => (st u).code)).getD 0
    unlessRefused s [unitNamed kind (param c 1 1), when (us.any (fun u => st u == .out || st u == .shed)) (fail Status.poolState),
        when (kind < 2 && frondsLeft s us == 0) (fail Status.poolMinimum)]
      (if us.any (fun u => (unitOf s u).forced || inSlot s u) then backToQueue s c
      else
        let s1 := us.foldl takeOut s
        let s2 := dispatch (if kind < 2 then poolChanged s1 else s1)
        (s2, some { res0 := before, res1 := poolStatus s2 })))

/-- UNIT_RETURN (R293, R294); a group that is off is powered at an epoch boundary with headroom (R48, Table 7.14). -/
def execUnitReturn (c : Cmd) (s : State) : Host.Outcome State Fault Refusal :=
  xci 0x0903 c s (fun s _ =>
    let kind := param c 0 1
    let us := unitsOfKind kind (param c 1 1)
    unlessRefused s [unitNamed kind (param c 1 1), when (us.any (fun u => (unitOf s u).st != .out)) (fail Status.poolState)]
      (let s1 := us.foldl (fun a u => startTest a u .returning) s
      (onJob s1 c (fun x => { x with stage := .testing, aux := kind + 256 * param c 1 1 }), none)))

/-- POWER_SET (R84, R296). -/
def execPowerSet (c : Cmd) (s : State) : Host.Outcome State Fault Refusal :=
  xci 0x0904 c s (fun s j =>
    let cap := param c 0 2
    let idle := param c 2 2
    unlessRefused s [when (cap < 30 || cap > 115) (bad 0), when (idle < 1 || idle > 1000) (bad 2), when (param c 4 1 > 1) (bad 4)]
      (if (commitReg s (commitKey .power)).busy then backToQueue s c
      else setGroup s j .power (cap + idle * 2 ^ 8 + param c 4 1 * 2 ^ 18) 0 false))

/-- SCHED_SET. -/
def execSchedSet (c : Cmd) (s : State) : Host.Outcome State Fault Refusal :=
  xci 0x0907 c s (fun s j =>
    if (commitReg s (commitKey .sched)).busy then backToQueue s c else setGroup s j .sched (param c 0 4) 0 false)

/-- GL_RHZ_STATUS without DIP_COUNT (Table 2.6). -/
def rhzStatus (s : State) : Nat :=
  s.power.phaseOk.toNat + s.power.phasesLost % 4 * 2 ^ 4 + flagBit s.power.safeHold.isSome 6 + flagBit s.power.feedWarn 7 + s.power.vcore * 2 ^ 8

/-- The junction temperature, 0.1 °C: the highest of the eight sensors (R62). -/
def junction (s : State) : Int := s.power.temps.foldl (fun m e => max m e.2) (SMap.get 0 s.power.temps 0)

/-- POWER_STATUS. -/
def execPowerStatus (c : Cmd) (s : State) : Host.Outcome State Fault Refusal :=
  xci 0x0905 c s (fun s _ =>
    (s, some {
      res0 := rhzStatus s
      res1 := effectiveCap s + custodianCap s * 2 ^ 8 + budgetMw s / 100 % 256 * 2 ^ 16 + s.power.allowance * 2 ^ 24
      res2 := (junction s % 2 ^ 16).toNat
      res3 := ((List.range 16).map (fun g => flagBit (domainOn s g) g)).sum }))

/-- R297: bits DOMAIN_SET may set. -/
def mayKeepOff (d : Nat) : Bool := d ≤ 23 || (31 ≤ d && d ≤ 36) || d == 45 || d == 46
/-- The lowest refused bit of an OFF mask. -/
def offFail (s : State) (m : Nat) : Option Nat :=
  (List.range 64).find? (fun d => bitOf m d && (!mayKeepOff d ||
    (!s.pinnas.split && 16 ≤ d && d ≤ 23 && !bitOf m (if d % 2 == 0 then d + 1 else d - 1))))

/-- DOMAIN_SET (R297): it completes when the set is in force, at the next epoch boundary. -/
def execDomainSet (c : Cmd) (s : State) : Host.Outcome State Fault Refusal :=
  xci 0x0906 c s (fun s _ =>
    match offFail s (param c 0 8) with
    | some d => (s, some (bad (d / 8)))
    | none =>
      if s.power.offNext.isSome then backToQueue s c
      else (s.onPower (fun p => { p with offNext := some (BitVec.ofNat 64 (param c 0 8)) }), none))

/-! ### Health and self test -/

def countFailed (s : State) (us : List UnitRef) : Nat := (us.filter (fun u => (unitOf s u).st == .failed)).length

/-- HEALTH_STATUS (R26, R300). -/
def execHealthStatus (c : Cmd) (s : State) : Host.Outcome State Fault Refusal :=
  xci 0x0D01 c s (fun s _ =>
    let ist := !s.health.istDisabled
    let paired := !s.pinnas.split
    let vin := s.power.vinInRange
    let oldest := (fronds.filter (fun n => frondState s n == .inService)).foldl (fun m n => max m (s.clocks.seta - (unitOf s (.frond n)).lastTest)) 0
    (s, some {
      detail := s.clocks.retransmissions % 2 ^ 32 + s.health.doubles % 2 ^ 32 * 2 ^ 32
      res0 := countFailed s (fronds.map .frond) + countFailed s calyptras * 2 ^ 8 + countFailed s slices * 2 ^ 10 + flagBit ist 16 +
        flagBit paired 17 + flagBit vin 18 + flagBit (ist && paired && vin) 19 + countFailed s ((List.finRange 8).map .pinna) * 2 ^ 20
      res1 := oldest / 100 % 2 ^ 32, res2 := s.health.scrubPasses % 2 ^ 32, res3 := min (2 ^ 32 - 1) s.health.corrections }))

/-- Units a SELF_TEST names: those in service, and those in a test slot, which counts (R793). -/
def selfTested (s : State) (kind index : Nat) : List UnitRef :=
  let all := if kind < 4 then unitsOfKind kind index else if kind == 4 then [.entropy]
    else fronds.map .frond ++ calyptras ++ slices ++ [UnitRef.entropy]
  all.filter (fun u => (unitOf s u).st == .inService || (unitOf s u).st == .borrowed || inSlot s u)

/-- A forced test slot is due: at once on an idle unit, else at its next preemption point. -/
def forceTest (s : State) (u : UnitRef) : State :=
  if (unitOf s u).st == .testing then s else onUnit s u (fun x => { x with forced := true, why := .selfTest })

/-- SELF_TEST (R301, R302): `aux` the units still to answer, one bit each; `aux2` tested, failed, and the first that failed. -/
def execSelfTest (c : Cmd) (s : State) : Host.Outcome State Fault Refusal :=
  xci 0x0D02 c s (fun s _ =>
    let kind := param c 0 1
    let us := selfTested s kind (param c 1 1)
    unlessRefused s [when (kind > 5) (bad 0), (if kind ≤ 3 then unitNamed kind (param c 1 1) else when (param c 1 1 != 0) (bad 1)),
        when us.isEmpty (fail Status.poolState)]
      (let s1 := us.foldl forceTest s
      (startForced (onJob s1 c (fun x => { x with stage := .testing, aux := (us.map (fun u => 2 ^ unitKey u)).sum })), none)))

/-- IST_CONTROL (R27, R303). -/
def execIstControl (c : Cmd) (s : State) : Host.Outcome State Fault Refusal :=
  xci 0x0D03 c s (fun s _ =>
    unlessRefused s [when (param c 0 1 > 1) (bad 0), when (lifecycle s != 1) (fail Status.testLocked)]
      (s.onHealth (fun h => { h with istDisabled := bitOf (param c 0 1) 0 }), some { res0 := if bitOf (param c 0 1) 0 then 0 else 1 }))

end Sys2Proof.Machine
end

