-- ==== Sys2Proof/Machine/Cipher.lean ====
section
/-! DEFINITION. The frond commands (chapter 9): the checks of CIPHER, AEAD_ENCRYPT, AEAD_DECRYPT and MAC, padding, context records, and
CONTEXT_SAVE and CONTEXT_RESTORE. -/

namespace Sys2Proof.Machine

/-! ### The descriptor (Tables 9.1 to 9.5) -/

/-- PARAMS of a frond command, read. -/
structure Piece where
  slot : Nat
  mode : Nat
  flags : Nat
  pad : Nat
  tagLen : Nat
  ivLen : Nat
  src : Nat
  dst : Nat
  len : Nat
  aad : Nat
  aadLen : Nat
  du : Nat
  side : Nat
  deriving DecidableEq, Repr

def pieceOf (c : Cmd) : Piece :=
  { slot := param c 0 2, mode := param c 2 1, flags := param c 3 1, pad := param c 4 1, tagLen := param c 5 1, ivLen := param c 6 1, src := param c 8 8, dst := param c 16 8, len := param c 24 8, aad := param c 32 8, aadLen := param c 40 4, du := param c 44 4, side := param c 48 8 }

def Piece.flag (p : Piece) (k : Nat) : Bool := bitOf p.flags k
def Piece.final (p : Piece) : Bool := p.flag 4
/-- Modes of a command (Table 9.1). -/
def modesOf (op : Nat) : List Nat := if op == 0x0301 then [1, 2, 3, 4] else if op == 0x0304 then [6, 8] else [5, 7, 9]
/-- A decryption or a verification. -/
def isDecrypt (op : Nat) (p : Piece) : Bool := op == 0x0303 || ((op == 0x0301 || op == 0x0304) && p.flag 0)

/-- IV_LEN values of a mode. -/
def ivLenOk (p : Piece) : Bool :=
  match p.mode with
  | 1 | 8 => p.ivLen == 0
  | 2 | 3 | 4 => p.ivLen == 16
  | 5 => if p.flag 1 then p.ivLen == 12 else 1 ≤ p.ivLen && p.ivLen ≤ 64
  | 6 => 1 ≤ p.ivLen && p.ivLen ≤ 64
  | 7 => 7 ≤ p.ivLen && p.ivLen ≤ 13
  | _ => p.ivLen == 12
/-- TAG_LEN values of a mode. -/
def tagLenOk (p : Piece) : Bool :=
  match p.mode with
  | 1 | 2 | 3 | 4 => p.tagLen == 0
  | 5 | 6 => [4, 8, 12, 13, 14, 15, 16].contains p.tagLen
  | 7 => [4, 6, 8, 10, 12, 14, 16].contains p.tagLen
  | 8 => 4 ≤ p.tagLen && p.tagLen ≤ 16
  | _ => p.tagLen == 16
/-- R365, R367 and the reserved flags. -/
def flagsBad (op : Nat) (p : Piece) : Bool :=
  p.flags ≥ 128 || (op != 0x0301 && op != 0x0304 && p.flag 0) ||
    (p.flag 1 && (isDecrypt op p || !List.contains [2, 3, 5, 7, 9] p.mode)) || (!p.final && !p.flag 3) ||
    (op == 0x0303 && (!p.final || p.flag 2 || p.flag 3))

/-- Output bytes of a piece (Table 9.5); a stripped padding shortens them at the end. -/
def outLen (op : Nat) (p : Piece) : Nat :=
  if op == 0x0304 then 0
  else if isDecrypt op p || p.mode > 2 || p.pad == 0 then p.len
  else if p.pad == 3 then (p.len + 15) / 16 * 16
  else p.len / 16 * 16 + 16

/-- Two buffers share a byte. -/
def overlap (a n b m : Nat) : Bool := n != 0 && m != 0 && a < b + m && b < a + n
/-- R366. -/
def overlaps (op : Nat) (p : Piece) : Bool :=
  let o := outLen op p
  overlap p.src p.len p.dst o || overlap p.src p.len p.aad p.aadLen || overlap p.src p.len p.side 624 || overlap p.dst o p.aad p.aadLen ||
    overlap p.dst o p.side 624 || overlap p.aad p.aadLen p.side 624

/-- R369: Table 9.5. -/
def lengthBad (op : Nat) (p : Piece) : Bool :=
  (p.pad != 0 && (p.mode > 2 || !p.final)) ||
  (!p.final && p.len % (if p.mode == 9 then 64 else if p.mode == 4 then (if p.du == 0 then p.len + 1 else p.du) else 16) != 0) ||
  (match p.mode with
    | 1 | 2 =>
      if isDecrypt op p then p.len % 16 != 0 || ((p.pad == 1 || p.pad == 2) && p.len < 16) else p.pad == 0 && p.len % 16 != 0
    | 4 => p.len < 16 || (p.du == 0 && p.len > 2 ^ 24) || (p.du != 0 && (p.du < 16 || p.du > 2 ^ 24)) ||
        (p.du != 0 && p.len % p.du != 0 && p.len % p.du < 16)
    | 5 => op == 0x0302 && p.len > 2 ^ 36 - 32
    | 7 => p.len ≥ 2 ^ (8 * (15 - p.ivLen))
    | _ => false)

/-- MODES bit of a mode (Table 8.3). -/
def modeBit (m : Nat) : Nat := if m ≤ 5 then m - 1 else m - 2
/-- Check 5 of Table 8.5 for a frond job (R362, R364). -/
def frondKeyOk (op : Nat) (p : Piece) (a : Nat) : Bool :=
  let ty := attrType a
  attrEngine a 0 && attrMode a (modeBit p.mode) &&
    (if p.mode == 4 then ty == 3 || ty == 4 else if p.mode == 9 then ty == 5 else ty ≤ 2) &&
    attrUsage a (if op == 0x0304 then (if p.flag 0 then 3 else 2) else if isDecrypt op p then 1 else 0)

/-- Every check of a frond command before it may run, in the order of Table 7.3. -/
def frondChecks (s : State) (op : Nat) (c : Cmd) : List (Option Reply) :=
  let p := pieceOf c
  [when (!(modesOf op).contains p.mode) (bad 2), when (flagsBad op p) (bad 3), when (p.pad > 3) (bad 4), when (!tagLenOk p) (bad 5),
    when (!ivLenOk p) (bad 6), when (p.len != 0 && bufBad s c p.src p.len false) (bad 8),
    when (if op == 0x0304 then p.dst != 0 else outLen op p != 0 && bufBad s c p.dst (outLen op p) true) (bad 16),
    when (overlaps op p) (bad 16), when (p.len ≥ 2 ^ 36) (bad 24), when (p.aadLen != 0 && bufBad s c p.aad p.aadLen false) (bad 32),
    when (p.aadLen != 0 && (p.flag 2 || !List.contains [5, 7, 9] p.mode)) (bad 40), when (p.du != 0 && p.mode != 4) (bad 44),
    when (bufBad s c p.side 624 true) (bad 48), when (op == 0x0303 && p.len > 2 ^ 26) (fail Status.tooLongForHold),
    when (p.flag 5 && p.mode > 4) (fail Status.contextMustWrap), slotRefusal s c 0 p.slot (frondKeyOk op p),
    when (lengthBad op p) (fail Status.lengthInvalid),
    when ((p.flag 6 || bitOf (attrOf s p.slot) 45) && groupsServing s < 2) (fail Status.noUnit)]

/-- The body of the four commands: the checks, and the wait for a frond with the IV that the device draws then (R237, R365). -/
def frondStart (op : Nat) (c : Cmd) (s : State) (j : Job) : State × Option Reply :=
  let p := pieceOf c
  unlessRefused s (frondChecks s op c)
    (awaitUnit s j (if p.flag 1 then p.ivLen else 0))

/-- CIPHER. -/
def execCipher (c : Cmd) (s : State) : Host.Outcome State Fault Refusal := xci 0x0301 c s (frondStart 0x0301 c)
/-- AEAD_ENCRYPT. -/
def execAeadEncrypt (c : Cmd) (s : State) : Host.Outcome State Fault Refusal := xci 0x0302 c s (frondStart 0x0302 c)
/-- AEAD_DECRYPT: above 16 KiB it waits for its segment tags (R381). -/
def execAeadDecrypt (c : Cmd) (s : State) : Host.Outcome State Fault Refusal := xci 0x0303 c s (frondStart 0x0303 c)
/-- MAC. -/
def execMac (c : Cmd) (s : State) : Host.Outcome State Fault Refusal := xci 0x0304 c s (frondStart 0x0304 c)

/-! ### Padding (Table 9.5, R370) -/

def padded (p : Piece) (d : Bytes) : Bytes :=
  let n := 16 - d.length % 16
  match p.pad with
  | 1 => d ++ List.replicate n (BitVec.ofNat 8 n)
  | 2 => d ++ [0x80] ++ List.replicate (n - 1) 0
  | 3 => d ++ List.replicate (n % 16) 0
  | _ => d
/-- The final block of a decryption without its padding; absent when the check fails. -/
def unpadded (pad : Nat) (b : Bytes) : Option Bytes :=
  if pad == 1 then
    let n := (b.getLast?.getD 0).toNat
    if 1 ≤ n && n ≤ 16 && (b.drop (16 - n)).all (· == BitVec.ofNat 8 n) then some (b.take (16 - n)) else none
  else if pad == 2 then
    let body := (b.reverse.dropWhile (· == 0))
    match body with
    | x :: r => if x == 0x80 then some r.reverse else none
    | [] => none
  else some b

/-! ### Context records (Table 9.7, R383 to R389) -/

/-- The clear form. -/
def contextRecord (mode type state slot version data aad : Nat) (chain : Bytes) : Bytes :=
  let b := leBytes 4 0x51584354 ++ [1, BitVec.ofNat 8 mode, BitVec.ofNat 8 type, BitVec.ofNat 8 state] ++ leBytes 2 slot ++ leBytes 2 0 ++
    leBytes 2 version ++ leBytes 2 0 ++ leBytes 8 data ++ leBytes 8 aad ++ chain ++ List.replicate 136 0
  b ++ leBytes 8 (crc64 b).toNat
def recField (r : Bytes) (k n : Nat) : Nat := leNat ((r.drop k).take n)
/-- MAGIC, FORMAT and CHECK. -/
def recordSound (r : Bytes) : Bool :=
  recField r 0 4 == 0x51584354 && recField r 4 1 == 1 && recField r 248 8 == (crc64 (r.take 248)).toNat
/-- A record that fits a slot's present key. -/
def recordFits (s : State) (r : Bytes) : Bool :=
  let a := attrOf s (recField r 8 2)
  recField r 6 1 == attrType a && recField r 12 2 % 4096 == attrVersion a
/-- The wrapped form under a function's context-wrapping key. -/
def wrapRecord (s : State) (f : FnId) (r : Bytes) : Bytes := leBytes 8 (ctxId s f) ++ Config.kwpWrap (fnOf s f).ctxKey r
/-- The clear form of a wrapped record, or why it is refused (R344, R386). -/
def unwrapRecord (s : State) (f : FnId) (w : Bytes) : Except Reply Bytes :=
  let id := recField w 0 8
  if id != ctxId s f then .error { status := Status.contextStale, detail := id }
  else match Config.kwpUnwrap (fnOf s f).ctxKey (w.drop 8) with
    | some r => if recordSound r && r.length == 256 then .ok r else .error (fail Status.contextBad)
    | none => .error (fail Status.contextBad)

/-- CONTEXT_SAVE (R388). -/
def execContextSave (c : Cmd) (s : State) : Host.Outcome State Fault Refusal :=
  xci 0x0305 c s (fun s _ =>
    let src := param c 8 8
    let dst := param c 16 8
    let r := bufRead s c src 256
    unlessRefused s [when (bufBad s c src 256 false) (bad 8), when (bufBad s c dst 272 true) (bad 16), wrapGone s,
        when (!recordSound r || !List.contains [1, 2, 3, 4] (recField r 5 1)) (fail Status.contextBad),
        slotRefusal s c 8 (recField r 8 2) (fun _ => true), when (!recordFits s r) (fail Status.contextBad)]
      (bufWrite s c dst (wrapRecord s c.fn r), some { res0 := ctxId s c.fn % 2 ^ 32, res1 := ctxId s c.fn / 2 ^ 32 }))

/-- CONTEXT_RESTORE (R389). -/
def execContextRestore (c : Cmd) (s : State) : Host.Outcome State Fault Refusal :=
  xci 0x0306 c s (fun s _ =>
    let src := param c 8 8
    let dst := param c 16 8
    unlessRefused s [when (bufBad s c src 272 false) (bad 8), when (dst != 0 && bufBad s c dst 256 true) (bad 16), wrapGone s]
      (match unwrapRecord s c.fn (bufRead s c src 272) with
      | .error r => (s, some r)
      | .ok r =>
        unlessRefused s [slotRefusal s c 8 (recField r 8 2) (fun _ => true), when (!recordFits s r) (fail Status.contextBad),
            when (dst != 0 && recField r 5 1 > 4) (fail Status.contextMustWrap)]
          (let s1 := if dst == 0 then s else bufWrite s c dst r
          let n := recField r 16 8
          (s1, some { res0 := recField r 5 1 + recField r 6 1 * 2 ^ 8 + recField r 8 2 * 2 ^ 16, res1 := n % 2 ^ 32, res2 := n / 2 ^ 32, res3 := recField r 12 2 % 4096 }))))

end Sys2Proof.Machine
end

