-- ==== Sys2Proof/Machine/FrondEvents.lean ====
section
/-! DEFINITION. What happens to a job on a frond: its segment tags, its end, a twin mismatch, the loss of the frond
(chapter 9). -/

namespace Sys2Proof.Machine

/-- A unit may go on with a job: not in last gasp, and its DMA may run (R211). -/
def mayRun (s : State) (j : Job) : Bool := !s.power.quiesced && (isApplet j.cmd || (fnOf s j.cmd.fn).busMaster)

/-! ### One pass over the data -/

/-- What a frond works on: key, IV, additional data, input, chaining state. -/
structure Pass where
  key : Bytes
  iv : Bytes
  aad : Bytes
  input : Bytes
  chain : Bytes

def Pass.list (x : Pass) : List Bytes := [x.key, x.iv, x.aad, x.input, x.chain]

/-- The inputs of a job as they stand in memory; under IV_GEN the drawn IV (R399). `old` is the record of CTX_IN, if any. -/
def frondPass (s : State) (j : Job) (old : Option Bytes) : Pass :=
  let p := pieceOf j.cmd
  let data := bufRead s j.cmd p.src p.len
  { key := jobKey s j.cmd, iv := if p.flag 1 then j.draws else bufRead s j.cmd p.side p.ivLen, aad := bufRead s j.cmd p.aad p.aadLen, input := if isDecrypt j.op p || !p.final then data else padded p data, chain := match old with | some r => (r.drop 32).take 80 | none => [] }

/-- The output of a pass. -/
def outputOf (j : Job) (x : Pass) : Bytes :=
  let p := pieceOf j.cmd
  Config.bytes x.input.length (Config.cipherByte p.mode (isDecrypt j.op p) x.list)
/-- The tag over a pass: over the ciphertext for the AEAD modes, over SRC for the MAC modes. -/
def tagOf (j : Job) (x : Pass) : Bytes :=
  let p := pieceOf j.cmd
  let data := if j.op == 0x0302 then outputOf j x else x.input
  Config.bytes p.tagLen (Config.tagByte p.mode [x.key, x.iv, x.aad, data, x.chain])

/-- The CTX_OUT record of a piece. -/
def recordOf (s : State) (j : Job) (x : Pass) (old : Option Bytes) : Bytes :=
  let p := pieceOf j.cmd
  let a := attrOf s p.slot
  let data := p.len + (match old with | some r => recField r 16 8 | none => 0)
  let aad := p.aadLen + (match old with | some r => recField r 24 8 | none => 0)
  contextRecord p.mode (attrType a) (flagBit (isDecrypt j.op p) 0 + flagBit (aad != 0) 1) p.slot (attrVersion a) (data % 2 ^ 64)
    (aad % 2 ^ 64) (Config.bytes 80 (Config.contextByte p.mode (isDecrypt j.op p) x.list))

/-- CTX_OUT, clear or wrapped. -/
def writeRecordOut (s : State) (j : Job) (x : Pass) (old : Option Bytes) : State :=
  let p := pieceOf j.cmd
  if !p.flag 3 then s
  else
    let r := recordOf s j x old
    bufWrite s j.cmd (p.side + 352) (if p.flag 5 then r else wrapRecord s j.cmd.fn r)

/-- The record of CTX_IN, checked (R386). -/
def recordIn (s : State) (j : Job) : Except Reply (Option Bytes) :=
  let p := pieceOf j.cmd
  if !p.flag 2 then .ok none
  else
    let got := if p.flag 5 then
        let r := bufRead s j.cmd (p.side + 80) 256
        if recordSound r then .ok r else .error (fail Status.contextBad)
      else unwrapRecord s j.cmd.fn (bufRead s j.cmd (p.side + 80) 272)
    match got with
    | .error r => .error r
    | .ok r =>
      if recField r 5 1 == p.mode && recField r 8 2 == p.slot && bitOf (recField r 7 1) 0 == isDecrypt j.op p && recordFits s r then .ok (some r)
      else .error (fail Status.contextBad)

def released (n : Nat) (matched : Bool) : Reply := { res0 := n % 2 ^ 32, res1 := n / 2 ^ 32, res2 := flagBit matched 0 }

/-- CIPHER: output in units; the final block of a padded decryption after its check (R370, R371, R374). -/
def runCipher (s : State) (j : Job) (x : Pass) (old : Option Bytes) : State × Reply :=
  let p := pieceOf j.cmd
  let out := outputOf j x
  if isDecrypt j.op p && p.final && (p.pad == 1 || p.pad == 2) then
    let body := out.take (out.length - 16)
    match unpadded p.pad (out.drop (out.length - 16)) with
    | none => (bufWrite s j.cmd p.dst body, { released body.length false with status := Status.padInvalid })
    | some e => (writeRecordOut (bufWrite s j.cmd p.dst (body ++ e)) j x old, released (body ++ e).length false)
  else (writeRecordOut (bufWrite s j.cmd p.dst out) j x old, released out.length false)

/-- AEAD_ENCRYPT: output, tag, record. -/
def runEncrypt (s : State) (j : Job) (x : Pass) (old : Option Bytes) : State × Reply :=
  let p := pieceOf j.cmd
  let s1 := bufWrite s j.cmd p.dst (outputOf j x)
  let s2 := if p.final then bufWrite s1 j.cmd (p.side + 64) (tagOf j x) else s1
  (writeRecordOut s2 j x old, released p.len false)

/-- MAC generation and verification. -/
def runMac (s : State) (j : Job) (x : Pass) (old : Option Bytes) : State × Reply :=
  let p := pieceOf j.cmd
  if !p.final then (writeRecordOut s j x old, released 0 false)
  else if p.flag 0 then
    if bufRead s j.cmd (p.side + 64) p.tagLen == tagOf j x then (writeRecordOut s j x old, released 0 true)
    else (s, fail Status.authFailed)
  else (writeRecordOut (bufWrite s j.cmd (p.side + 64) (tagOf j x)) j x old, released 0 false)

/-! ### Authenticated decryption (R375 to R381) -/

/-- A segment of the ciphertext and its segment tag (R377). -/
def segment (d : Bytes) (i : Nat) : Bytes := (d.drop (16384 * i)).take 16384
def segmentTags (key d : Bytes) (n : Nat) : List Bytes := (List.range n).map (fun i => Config.cmac key (leBytes 8 i ++ segment d i))

/-- Pass one reads the ciphertext, checks the message tag and keeps the segment tags with the key they were made under. -/
def passOne (s : State) (j : Job) : State :=
  let x := frondPass s j none
  let p := pieceOf j.cmd
  let key := j.segs.headD []
  let ok := bufRead s j.cmd (p.side + 64) p.tagLen == tagOf j x
  onJob s j.cmd (fun y => { y with segs := key :: segmentTags key x.input (segments j), passOne := some ok })

/-- Pass two: segments are released while their tags match. -/
def passTwo (s : State) (j : Job) : State × Reply :=
  let p := pieceOf j.cmd
  let x := frondPass s j none
  let n := segments j
  let now := segmentTags (j.segs.headD []) x.input n
  match (List.range n).find? (fun i => now.getD i [] != (j.segs.tail.getD i [])) with
  | some i =>
    let out := (outputOf j x).take (16384 * i)
    (bufWrite s j.cmd p.dst out, { released out.length false with status := Status.authFailed, detail := i + 2 ^ 63 })
  | none => (bufWrite s j.cmd p.dst (outputOf j x), released p.len true)

/-- AEAD_DECRYPT. -/
def runDecrypt (s : State) (j : Job) (x : Pass) : State × Reply :=
  let p := pieceOf j.cmd
  if segments j == 0 then
    if bufRead s j.cmd (p.side + 64) p.tagLen == tagOf j x then (bufWrite s j.cmd p.dst (outputOf j x), released p.len true)
    else (s, fail Status.authFailed)
  else
    let s1 := if j.passOne.isNone then passOne s j else s
    let j1 := (jobOf s1 j.cmd).getD j
    if j1.passOne == some true then passTwo s1 j1 else (s1, fail Status.authFailed)

/-- A frond job's data, tag and records. -/
def runFrond (s : State) (j : Job) : State × Reply :=
  match recordIn s j with
  | .error r => (s, r)
  | .ok old =>
    let x := frondPass s j old
    if j.op == 0x0301 then runCipher s j x old
    else if j.op == 0x0302 then runEncrypt s j x old
    else if j.op == 0x0303 then runDecrypt s j x
    else runMac s j x old

/-- FROND_JOB_DONE: the frond that took the job and its key (R331) ends it; the second partner of a twin job ends with it (R391). -/
def execFrondJobDone (frond : Fin 64) (s : State) : Host.Outcome State Fault Refusal :=
  match jobOn s (.frond frond) with
  | none => .next s
  | some j =>
    if !mayRun s j || !isFrondOp j.op || !j.keyed then .next s
    else
      let (s1, r) := runFrond s j
      .next (complete s1 ((jobOf s1 j.cmd).getD j) r)

/-- SEGMENT_TAG_RESERVE (R381): the tags of a waiting two-pass job, when the pool of 65,536 has them. -/
def execSegmentTagReserve (fn : FnId) (q : PairId) (tag : BitVec 16) (s : State) : Host.Outcome State Fault Refusal :=
  match hostJob s fn q tag with
  | none => .next s
  | some j =>
    if j.stage != .waiting || j.tags != 0 || segments j == 0 || tagsInUse s + segments j > 65536 then .next s
    else .next (dispatch (onJob s j.cmd (fun x => { x with tags := segments j })))

/-- R394: a partner after its known-answer set. -/
def afterMismatch (s : State) (n : Fin 64) (pass : Bool) : State :=
  if pass then onUnit s (.frond n) (fun x => { x with st := .inService, lastTest := s.clocks.seta, passed := false, forced := testWanted s (.frond n) })
  else failFrond s n 2

/-- TWIN_MISMATCH (R394, R395): at a release unit the partners' copies differ. -/
def execTwinMismatch (frond : Fin 64) (unit : BitVec 16) (firstPass secondPass : Bool) (s : State) : Host.Outcome State Fault Refusal :=
  match jobOn s (.frond frond) with
  | none => .next s
  | some j => match j.twin with
    | none => .next s
    | some m =>
      let s1 := onJob s j.cmd (fun x => { x with pairs := x.pairs + 1 })
      let s2 := afterMismatch (afterMismatch s1 frond firstPass) m secondPass
      let s3 := if firstPass && secondPass then
          append s2 Entry.twinMismatch (Src.frond frond.val) (frond.val + m.val * 2 ^ 8 + unit.toNat * 2 ^ 16 + 2 ^ 32)
        else s2
      let s4 := abandon s3 j
      .next (if j.pairs + 1 ≥ 3 then complete s4 { j with stage := .waiting, twin := none, rerun := true } { status := Status.noUnit, detail := 1 }
        else dispatch s4)

/-- FROND_FAILED (R397, R411): a fault of Table 9.13 retires a frond in service or under test. -/
def execFrondFailed (frond : Fin 64) (cause : Fin 8) (s : State) : Host.Outcome State Fault Refusal :=
  let st := frondState s frond
  if cause.val == 0 || !(st == .inService || st == .testing || st == .borrowed) then .next s
  else .next (dispatch (failFrond s frond cause.val))

end Sys2Proof.Machine
end

