-- ==== Sys2Proof/Machine/Calyptra.lean ====
section
/-! DEFINITION. The public-key commands and the end of a job on a Calyptra unit (chapter 10). -/

namespace Sys2Proof.Machine

/-! ### Algorithms (Table 10.1) -/

def modulusBytes (alg : Nat) : Nat := if alg == 1 then 256 else if alg == 2 then 384 else 512
def pubBytes (alg : Nat) : Nat :=
  match alg with
  | 0x01 | 0x02 | 0x03 => modulusBytes alg + 32
  | 0x10 => 65 | 0x11 => 97 | 0x12 => 133 | 0x20 => 32 | 0x21 => 57 | 0x28 => 32 | 0x29 => 56
  | 0x30 => 800 | 0x31 => 1184 | 0x32 => 1568 | 0x38 => 1312 | 0x39 => 1952 | _ => 2592
/-- Signature, or ML-KEM ciphertext. -/
def sigBytes (alg : Nat) : Nat :=
  match alg with
  | 0x01 | 0x02 | 0x03 => modulusBytes alg
  | 0x10 => 64 | 0x11 => 96 | 0x12 => 132 | 0x20 => 64 | 0x21 => 114
  | 0x30 => 768 | 0x31 => 1088 | 0x32 => 1568 | 0x38 => 2420 | 0x39 => 3309 | _ => 4627
/-- The private-key TYPE of an algorithm. -/
def keyTypeOf (alg : Nat) : Nat :=
  match alg with
  | 0x10 => 0x08 | 0x11 => 0x09 | 0x12 => 0x0A | 0x20 => 0x0B | 0x21 => 0x0C | 0x28 => 0x0D | 0x29 => 0x0E
  | 0x30 | 0x31 | 0x32 => 0x0F | _ => 0x10
def blobBytes (alg : Nat) : Nat := if alg == 1 then 952 else if alg == 2 then 1400 else 1848
def digestBytes (scheme : Nat) : Nat := match scheme / 16 with | 1 => 32 | 2 => 48 | _ => 64

/-- Algorithms a command takes (R422). -/
def algsOf (op : Nat) : List Nat :=
  if op ≤ 0x0402 then [1, 2, 3] else if op ≤ 0x0404 then [0x10, 0x11, 0x12] else if op ≤ 0x0406 then [0x20, 0x21]
  else if op == 0x0407 then [0x10, 0x11, 0x12, 0x28, 0x29]
  else if op == 0x0408 then [0x10, 0x11, 0x12, 0x20, 0x21, 0x28, 0x29, 0x30, 0x31, 0x32, 0x38, 0x39, 0x3A]
  else if op ≤ 0x040A then [0x30, 0x31, 0x32] else [0x38, 0x39, 0x3A]

/-- PARAMS (Table 10.2), read. -/
structure PkJob where
  slot : Nat
  alg : Nat
  scheme : Nat
  flags : Nat
  ctxLen : Nat
  outSlot : Nat
  msg : Nat
  msgLen : Nat
  outLen : Nat
  pub : Nat
  sig : Nat
  out : Nat
  ctx : Nat
  deriving DecidableEq, Repr

def pkOf (c : Cmd) : PkJob :=
  { slot := param c 0 2, alg := param c 2 1, scheme := param c 3 1, flags := param c 4 1, ctxLen := param c 5 1, outSlot := param c 6 2, msg := param c 8 8, msgLen := param c 16 4, outLen := param c 20 4, pub := param c 24 8, sig := param c 32 8, out := param c 40 8, ctx := param c 48 8 }

def isOaep (op : Nat) (p : PkJob) : Bool := op ≤ 0x0402 && p.scheme % 16 == 2
/-- Commands that name a private key or KEK slot (Table 10.4, R424). -/
def namesSlot (op : Nat) : Bool := [0x0401, 0x0403, 0x0405, 0x0407, 0x040A, 0x040B].contains op
def isVerify (op : Nat) (p : PkJob) : Bool := [0x0404, 0x0406, 0x040C].contains op || (op == 0x0402 && p.scheme % 16 != 2)
/-- Commands that read MSG. -/
def readsMsg (op : Nat) : Bool := !List.contains [0x0407, 0x0408, 0x0409, 0x040A] op

/-- Bytes at PUB and at SIG. -/
def pubLen (op : Nat) (p : PkJob) : Nat :=
  if op == 0x0401 then blobBytes p.alg else if op == 0x040A then sigBytes p.alg
  else if namesSlot op && op != 0x0407 || op == 0x0408 then 0 else pubBytes p.alg
def sigLen (op : Nat) (p : PkJob) : Nat :=
  if isVerify op p then sigBytes p.alg else if op == 0x0402 then digestBytes p.scheme else 0
/-- Bytes written to OUT; OAEP decryption's are known only from the result. -/
def outBytes (op : Nat) (p : PkJob) : Nat :=
  if isVerify op p || op == 0x0407 || op == 0x040A || (op == 0x0401 && isOaep op p) then 0
  else if op == 0x0408 then pubBytes p.alg else sigBytes p.alg

/-- SCHEME and FLAGS. -/
def schemeBad (op : Nat) (p : PkJob) : Bool :=
  let h := p.scheme / 16
  if op ≤ 0x0402 then p.scheme % 16 > 2 || h < 1 || h > 3 else if op ≤ 0x0404 then p.scheme % 16 != 0 || h < 1 || h > 3 else p.scheme != 0
def pkFlagsBad (op : Nat) (p : PkJob) : Bool := p.flags > 1 || (p.flags == 1 && op > 0x0404)
/-- R440. -/
def ctxLenBad (op : Nat) (p : PkJob) : Bool :=
  p.ctxLen != 0 && !(isOaep op p || op ≥ 0x040B || ((op == 0x0405 || op == 0x0406) && p.alg == 0x21))
def msgLenBad (op : Nat) (p : PkJob) : Bool :=
  readsMsg op && (p.msgLen > 2 ^ 26 || (p.flags == 1 && p.msgLen != digestBytes p.scheme))

/-- Check 5 of Table 8.5 for a Calyptra job (R420). -/
def pkKeyOk (op : Nat) (p : PkJob) (a : Nat) : Bool :=
  attrEngine a 1 &&
    (if op == 0x0401 then attrType a == 7 && attrUsage a 6
    else attrType a == keyTypeOf p.alg && attrUsage a (if op == 0x0407 || op == 0x040A then 7 else 2) &&
      (p.alg < 0x30 || bitsOf a 33 2 == p.alg % 8))

/-- R429, for so many bytes at OUT: what OAEP decryption writes may fill OUT_LEN. -/
def outOverlaps (op : Nat) (p : PkJob) (k : Nat) : Bool :=
  let n := if op == 0x0401 && isOaep op p then p.outLen else k
  overlap p.out n p.msg (if readsMsg op then p.msgLen else 0) || overlap p.out n p.pub (pubLen op p) ||
    overlap p.out n p.sig (sigLen op p) || overlap p.out n p.ctx p.ctxLen

/-- R314, R315, R427 before the command waits for its unit; it takes its slot as it starts. -/
def outSlotTaken (s : State) (op : Nat) (c : Cmd) (p : PkJob) : Option Reply :=
  if !fillsSlot op || sameSecretSlot s op c || sharedSlot s op c then none else slotTaken s c p.outSlot

/-- Both units are FAILED (R444). -/
def calyptraGone (s : State) : Option Reply := when (calyptras.all (fun u => (unitOf s u).st == .failed)) (fail Status.noUnit)

/-- Every check of a Calyptra command before it may run. -/
def pkChecks (s : State) (op : Nat) (c : Cmd) : List (Option Reply) :=
  let p := pkOf c
  let n := outBytes op p
  let t := param c 8 8
  [when (!namesSlot op && p.slot != 0xFFFF) (bad 0), when (!(algsOf op).contains p.alg) (bad 2), when (schemeBad op p) (bad 3),
    when (pkFlagsBad op p) (bad 4), when (ctxLenBad op p) (bad 5),
    when (op == 0x0408 && (!templateOk t || attrType t != keyTypeOf p.alg)) (bad 8),
    when (readsMsg op && p.msgLen != 0 && bufBad s c p.msg p.msgLen false) (bad 8), when (msgLenBad op p) (bad 16),
    when (p.outLen < n) (bad 20), when (pubLen op p != 0 && bufBad s c p.pub (pubLen op p) false) (bad 24),
    when (sigLen op p != 0 && bufBad s c p.sig (sigLen op p) false) (bad 32),
    when (n != 0 && bufBad s c p.out n true || op == 0x0401 && isOaep op p && bufBad s c p.out p.outLen true) (bad 40),
    when (outOverlaps op p n) (bad 40), when (p.ctxLen != 0 && bufBad s c p.ctx p.ctxLen false) (bad 48),
    (if namesSlot op then slotRefusal s c 0 p.slot (pkKeyOk op p) else none),
    (if fillsSlot op then newSlotNamed s c 6 p.outSlot else none), outSlotTaken s op c p, (if fillsSlot op then wrapGone s else none), calyptraGone s]

/-- Bytes drawn at the start (R430). -/
def drawBytes (op : Nat) (p : PkJob) : Nat :=
  if op == 0x0401 then (if p.scheme % 16 == 0 then digestBytes p.scheme else 0)
  else if op == 0x0403 then secretBytes p.alg
  else if op == 0x0408 then typeBytes (keyTypeOf p.alg) 0
  else if op == 0x0409 || op == 0x040B then 32 else 0

/-- The body of the twelve commands: the checks, and the wait for a unit with the draw taken then (R430). -/
def pkStart (op : Nat) (c : Cmd) (s : State) (j : Job) : State × Option Reply :=
  unlessRefused s (pkChecks s op c) (awaitUnit s j (drawBytes op (pkOf c)))

/-- RSA_PRIVATE. -/
def execRsaPrivate (c : Cmd) (s : State) : Host.Outcome State Fault Refusal := xci 0x0401 c s (pkStart 0x0401 c)
/-- RSA_PUBLIC. -/
def execRsaPublic (c : Cmd) (s : State) : Host.Outcome State Fault Refusal := xci 0x0402 c s (pkStart 0x0402 c)
/-- ECDSA_SIGN. -/
def execEcdsaSign (c : Cmd) (s : State) : Host.Outcome State Fault Refusal := xci 0x0403 c s (pkStart 0x0403 c)
/-- ECDSA_VERIFY. -/
def execEcdsaVerify (c : Cmd) (s : State) : Host.Outcome State Fault Refusal := xci 0x0404 c s (pkStart 0x0404 c)
/-- EDDSA_SIGN. -/
def execEddsaSign (c : Cmd) (s : State) : Host.Outcome State Fault Refusal := xci 0x0405 c s (pkStart 0x0405 c)
/-- EDDSA_VERIFY. -/
def execEddsaVerify (c : Cmd) (s : State) : Host.Outcome State Fault Refusal := xci 0x0406 c s (pkStart 0x0406 c)
/-- ECDH. -/
def execEcdh (c : Cmd) (s : State) : Host.Outcome State Fault Refusal := xci 0x0407 c s (pkStart 0x0407 c)
/-- PK_KEYGEN. -/
def execPkKeygen (c : Cmd) (s : State) : Host.Outcome State Fault Refusal := xci 0x0408 c s (pkStart 0x0408 c)
/-- ML_KEM_ENCAPS. -/
def execMlKemEncaps (c : Cmd) (s : State) : Host.Outcome State Fault Refusal := xci 0x0409 c s (pkStart 0x0409 c)
/-- ML_KEM_DECAPS. -/
def execMlKemDecaps (c : Cmd) (s : State) : Host.Outcome State Fault Refusal := xci 0x040A c s (pkStart 0x040A c)
/-- ML_DSA_SIGN. -/
def execMlDsaSign (c : Cmd) (s : State) : Host.Outcome State Fault Refusal := xci 0x040B c s (pkStart 0x040B c)
/-- ML_DSA_VERIFY. -/
def execMlDsaVerify (c : Cmd) (s : State) : Host.Outcome State Fault Refusal := xci 0x040C c s (pkStart 0x040C c)

/-! ### The end of a job -/

/-- The RSA key of a blob, or why it is refused (R423). -/
def blobKey (s : State) (c : Cmd) (p : PkJob) : Except Reply Bytes :=
  match Config.kwpUnwrap (jobKey s c) (bufRead s c p.pub (blobBytes p.alg)) with
  | none => .error (fail Status.unwrapFailed)
  | some b =>
    if recField b 0 4 != 0x52514B42 || recField b 4 1 != p.alg || recField b 6 1 != c.fn.toNat || recField b 8 2 != (fnOf s c.fn).generation.toNat then
      .error (fail Status.unwrapFailed)
    else if !bitOf (recField b 5 1) (if p.scheme % 16 == 2 then 1 else 0) then .error (fail Status.keyUsage)
    else .ok (b.drop 16)

/-- The private key a job works with. -/
def pkKey (s : State) (op : Nat) (c : Cmd) (p : PkJob) : Except Reply Bytes :=
  if op == 0x0401 then blobKey s c p else if namesSlot op then .ok (jobKey s c) else .ok []

/-- PUB, MSG, SIG and CTX as they stand in memory. -/
def pkInputs (s : State) (op : Nat) (c : Cmd) (p : PkJob) : List Bytes :=
  [bufRead s c p.pub (pubLen op p), bufRead s c p.msg (if readsMsg op then p.msgLen else 0), bufRead s c p.sig (sigLen op p),
    bufRead s c p.ctx p.ctxLen]

/-- R421 on n ‖ e of a public key or of a blob. -/
def exponentBad (op : Nat) (p : PkJob) (key pub : Bytes) : Bool :=
  let e := beNat (((if op == 0x0401 then key else pub).drop (modulusBytes p.alg)).take 32)
  op ≤ 0x0402 && (e % 2 == 0 || e < 65537)

/-- Table 10.8: range and point checks of the operands. The outside standards decide; a point check answers POINT_INVALID. -/
def operandRefused (op : Nat) (p : PkJob) (key : Bytes) (ins : List Bytes) : Option Reply :=
  if exponentBad op p key (ins.headD []) then some (fail Status.operandRange)
  else if Config.pkOperandStatus op p.alg p.scheme key ins == 0 then none
  else if [0x0401, 0x0402, 0x0409].contains op then some (fail Status.operandRange)
  else if [0x0404, 0x0406, 0x0407].contains op then some (fail Status.pointInvalid)
  else none

/-- Write an agreed secret into the slot taken at the start, or compare it with the one the slot named holds: one that it held before, or
that another agreement has written meanwhile (R426, R427, Table 10.7). -/
def writeSecret (s : State) (j : Job) (p : PkJob) (sec : Bytes) : Except Reply (State × Nat) :=
  let same := if sameSecretSlot s j.op j.cmd && (slotOf s p.outSlot).key == sec then .ok (s, p.outSlot) else .error (bad 0)
  match j.fills with
  | some (some k) =>
    if attrValid (attrOf s k) then same else .ok (fillSlot s j.cmd k (6 * 2 ^ 10 + 8 * secretBytes p.alg * 2 ^ 15 + 2 ^ 29) 4 sec, k)
  | _ => same

/-- A completion with bytes at OUT. -/
def pkReply (n slot : Nat) : Reply := { res0 := n, res1 := slot }

/-- Commands with a key or a secret slot (Table 10.4). -/
def runAgreement (s : State) (op : Nat) (j : Job) (p : PkJob) (key : Bytes) (ins : List Bytes) : State × Reply :=
  let c := j.cmd
  if op == 0x0408 then
    let n := typeBytes (keyTypeOf p.alg) 0
    let k := Config.bytes n (Config.pkSecretByte op p.alg [] j.draws [])
    let i := (j.fills.getD none).getD p.outSlot
    (bufWrite (fillSlot s c i (param c 8 8) 1 k) c p.out (Config.publicKey p.alg (pubBytes p.alg) k), pkReply (pubBytes p.alg) i)
  else
    let sec := Config.bytes (secretBytes p.alg) (Config.pkSecretByte op p.alg key j.draws ins)
    match writeSecret s j p sec with
    | .error r => (s, r)
    | .ok (s1, i) =>
      if op == 0x0409 then
        (bufWrite s1 c p.out (Config.bytes (sigBytes p.alg) (Config.pkByte op p.alg 0 key j.draws ins)), pkReply (sigBytes p.alg) i)
      else (s1, pkReply 0 i)

/-- OAEP decryption (Table 10.8): a failed decode writes nothing. -/
def runOaep (s : State) (j : Job) (p : PkJob) (key : Bytes) (ins : List Bytes) : State × Reply :=
  let n := Config.pkLength 0x0401 p.alg p.scheme key [] ins % modulusBytes p.alg
  if !Config.pkVerify 0x0401 p.alg p.scheme (key :: ins) then (s, fail Status.padInvalid)
  else if p.outLen < n then (s, bad 20)
  else (bufWrite s j.cmd p.out (Config.bytes n (Config.pkByte 0x0401 p.alg p.scheme key [] ins)), pkReply n 0xFFFF)

/-- The result of a job whose result check passed (R428, R442). -/
def runPk (s : State) (j : Job) : State × Reply :=
  let c := j.cmd
  let op := j.op
  let p := pkOf c
  match pkKey s op c p with
  | .error r => (s, r)
  | .ok key =>
    let ins := pkInputs s op c p
    match operandRefused op p key ins with
    | some r => (s, r)
    | none =>
      if isVerify op p then
        if Config.pkVerify op p.alg p.scheme ([BitVec.ofNat 8 p.flags] :: ins) then (s, { res1 := 0xFFFF, res2 := 1 })
        else (s, { status := Status.signatureInvalid, res1 := 0xFFFF })
      else if fillsSlot op then runAgreement s op j p key ins
      else if op == 0x0401 && isOaep op p then runOaep s j p key ins
      else
        let n := outBytes op p
        (bufWrite s c p.out (Config.bytes n (Config.pkByte op p.alg (p.scheme + 256 * p.flags) key j.draws ins)), pkReply n 0xFFFF)

/-- CALYPTRA_JOB_DONE (R428, R442, R443): a failed result check releases nothing; the unit runs its known-answer set, and the job
is re-run. A job whose lattice step still waits for a slice has not ended (R432),
nor one whose key has not arrived (R331). -/
def execCalyptraJobDone (unit : Fin 2) (checkOk pass : Bool) (s : State) : Host.Outcome State Fault Refusal :=
  match jobOn s (.calyptra unit) with
  | none => .next s
  | some j =>
    if !mayRun s j || !wantsCalyptra j || j.lattice == .due || !j.keyed then .next s
    else if checkOk && j.op == 0x0C01 then .next (verifyImage s j (.calyptra unit))
    else if checkOk then
      let (s1, r) := if j.op == 0x0B04 then finishBadge s j else runPk s j
      .next (complete s1 j r)
    else if pass then
      .next (dispatch (backInService (abandon s j) (.calyptra unit)))
    else .next (dispatch (failUnit s (.calyptra unit) 2))

end Sys2Proof.Machine
end

