-- ==== Sys2Proof/Machine/Reader.lean ====
section
/-! DEFINITION. Reader mode: its commands, and what a card or its silence does to them (R622 to R638, R641, R655). -/

namespace Sys2Proof.Machine

/-- The reader command at work, and the state without a reader in use. -/
def readerJob (s : State) : Option Job := s.jobs.find? (fun j => j.stage == .reader)

/-- R660, Table 15.14: why reader commands cannot run at all. -/
def readerGone (s : State) : Option Reply :=
  firstOf [when (s.clocks.refLostAt.isSome) { status := Status.readerOff, detail := 2 }, when (s.reader.fault != 0) { status := Status.readerOff, detail := 3 }]
/-- R623, R624: the field may not be switched on while another field is present or a tag session is open. -/
def fieldRefused (s : State) : Option Reply := when (!s.reader.fieldOn && (s.tag.field || s.tag.opened)) { status := Status.readerOff, detail := 1 }
/-- R636: no active layer-4 card. -/
def noLayer4 (s : State) : Option Reply := when (!s.reader.layer4) { status := Status.noCard, detail := 1 }

/-- CG_CLESS as it will be in force: a GO that waits for the field-on applies there (Table 3.5). -/
def clessWord (s : State) : Nat :=
  if !s.reader.fieldOn && (commitReg s (commitKey .cless)).busy && groupFail s .cless == 0 then staged s (glKey 0x260) else reg s (glKey 0x260)
/-- R632: types that remain, as bits A and B, and the highest rate. -/
def pollTypes (s : State) (c : Cmd) : Nat := (if bitsOf (clessWord s) 0 2 == 0 then 3 else bitsOf (clessWord s) 0 2) &&& param c 0 1
def pollRate (s : State) (c : Cmd) : Nat := min (param c 1 1) (bitsOf (clessWord s) 2 2)

/-- A command at work on the reader. -/
def toReader (s : State) (c : Cmd) : State := onJob s c (fun x => { x with stage := .reader })
/-- The field on after its off time, with CG_CLESS applied (R633, R637). -/
def fieldUp (s : State) : State :=
  if s.reader.fieldOn then s
  else
    let s1 := applyDeferred (atInstant s s.reader.offUntil) .cless
    s1.onReader (fun r => { r with fieldOn := true })

/-- A poll waits for the governor to power PD47, or for its PLL (R48, R136). -/
def pollWaits (s : State) : Bool := !s.reader.fieldOn && (readerJob s).any (fun j => j.op == 0x0B01)
/-- The field goes on for a poll that waits, once the front end runs; the antenna is sampled just before (R623). -/
def raiseField (s : State) : State :=
  if !pollWaits s || !islandWorks s 16 then s
  else match readerJob s, fieldRefused s with
    | some j, some r => complete s j r
    | _, _ => fieldUp s
/-- The reader's front end works with its field on (R622). -/
def readerWorks (s : State) : Bool := s.reader.fieldOn && islandWorks s 16
/-- READER_POLL (R623, R624, R632, R633): the poll runs until a card answers or TIMEOUT expires. -/
def execReaderPoll (c : Cmd) (s : State) : Host.Outcome State Fault Refusal :=
  xci 0x0B01 c s (fun s _ =>
    if (readerJob s).isSome then backToQueue s c
    else unlessRefused s [when (param c 0 1 > 3 || pollTypes s c == 0) (bad 0), when (param c 1 1 > 3) (bad 1), when (param c 2 1 > 1) (bad 2),
        when (param c 4 2 < 1 || param c 4 2 > 1000) (bad 4), when (bufBad s c (param c 8 8) 64 true) (bad 8), readerGone s, fieldRefused s]
      (raiseField (toReader (s.onReader (fun r => { r with card := false, layer4 := false, retries := 0, badBlocks := false })) c), none))

/-- READER_EXCHANGE (R636). -/
def execReaderExchange (c : Cmd) (s : State) : Host.Outcome State Fault Refusal :=
  xci 0x0B02 c s (fun s _ =>
    let n := param c 16 2
    let m := param c 32 2
    if (readerJob s).isSome then backToQueue s c
    else unlessRefused s [when (bufBad s c (param c 8 8) n false) (bad 8), when (n < 4 || n > 261) (bad 16), when (bufBad s c (param c 24 8) m true) (bad 24),
        when (m < 2 || m > 258) (bad 32), readerGone s, noLayer4 s]
      (toReader (s.onReader (fun r => { r with retries := 0, badBlocks := false })) c, none))

/-- READER_FIELD_OFF (R637). -/
def execReaderFieldOff (c : Cmd) (s : State) : Host.Outcome State Fault Refusal :=
  xci 0x0B03 c s (fun s _ => if (readerJob s).isSome then backToQueue s c else unlessRefused s [readerGone s] (fieldDown s, some {}))

/-- BADGE_VERIFY (R641): a challenge from I6, and the SELECT of the badge application. -/
def execBadgeVerify (c : Cmd) (s : State) : Host.Outcome State Fault Refusal :=
  xci 0x0B04 c s (fun s _ =>
    let buf := param c 8 8
    if (readerJob s).isSome then backToQueue s c
    else unlessRefused s [when (param c 0 1 > 1) (bad 0), when (buf != 0 && bufBad s c buf 296 true) (bad 8), readerGone s, noLayer4 s, calyptraGone s]
      (withOwn s c 6 32 (fun s1 b =>
        let s2 := s1.onReader (fun r => { r with badgeStep := 1, challenge := b, retries := 0, badBlocks := false })
        (onJob (toReader s2 c) c (fun x => { x with draws := b }), none))))

/-- VISIT_READ: Spore counter 1 and the imported-visit mark beside the record. -/
def execVisitRead (c : Cmd) (s : State) : Host.Outcome State Fault Refusal :=
  xci 0x0B05 c s (fun s _ =>
    let k := param c 0 1
    let buf := param c 8 8
    unlessRefused s [when (k > 7) (bad 0), when (buf != 0 && bufBad s c buf 72 true) (bad 8)]
      (let ok := visitCounts s k
      let n := visitSerial s k
      (if buf == 0 then s else bufWrite s c buf (sporeBytes s (visitBase k) 9),
        some { res0 := if ok then n else 0xFFFFFFFF, res1 := flagBit ok 0 + flagBit (ok && n ≤ visitMark s) 1, res2 := sporeCounter s 1, res3 := visitMark s })))

/-! ### The card -/

/-- The command fails and the field is reset (R655, Table 15.12). -/
def readerFails (s : State) (j : Job) (st : Nat) : State := raise (complete (fieldDown s) j (fail st)) [75]

/-- R633 to R635: a card answers a poll. The rate rises with layer 4 alone. -/
def pollAnswered (s : State) (j : Job) (typeB layer4 collision : Bool) (cascade rate : BitVec 2) (uid : Bytes) (sak : BitVec 32) (ats : Bytes) : State :=
  let c := j.cmd
  if !bitOf (pollTypes s c) (if typeB then 1 else 0) then s
  else
    let l4 := layer4 && bitOf (param c 2 1) 0
    let rate4 := if l4 then min rate.toNat (pollRate s c) else 0
    let extra := if typeB || l4 then ats else []
    let s1 := bufWrite (s.onReader (fun r => { r with card := true, layer4 := l4 })) c (param c 8 8) ((uid ++ extra).take 64)
    raise (complete s1 j {
      res0 := (if typeB then 2 else 1) + (if typeB then 0 else cascade.toNat * 4) + flagBit l4 4 + flagBit collision 5 + rate4 * 64 + uid.length % 256 * 256
      res1 := sak.toNat }) [73]

/-- SW1‖SW2 of a response. -/
def swOf (b : Bytes) : Nat := beNat (b.drop (b.length - 2))

/-- A response APDU (R636, R641). -/
def cardAnswered (s : State) (j : Job) (b : Bytes) : State :=
  let c := j.cmd
  let s1 := raise (s.onReader (fun r => { r with retries := 0, badBlocks := false })) [74]
  if j.op == 0x0B02 then
    if b.length > param c 32 2 then complete s1 j (bad 32)
    else complete (bufWrite s1 c (param c 24 8) b) j { res0 := b.length, res1 := swOf b }
  else if j.op != 0x0B04 then s
  else
    let s2 := s1.onReader (fun r => { r with badgeStep := if r.badgeStep == 1 then 2 else 0 })
    if swOf b != 0x9000 then
      let (s3, r) := badgeRefused (s1.onReader (fun r => { r with badgeStep := 0 })) 1 (swOf b) 0
      complete s3 j r
    else if s.reader.badgeStep == 1 then s2
    else dispatch (onJob s2 c (fun x => { x with stage := .waiting, aux := 3, draws := s.reader.challenge ++ b }))

/-- R655: a retransmission, or after three the end of the command. -/
def retransmit (s : State) (j : Job) (badBlock : Bool) : State :=
  let s1 := s.onReader (fun r => { r with badBlocks := r.badBlocks || badBlock })
  if s.reader.retries < 3 then s1.onReader (fun r => { r with retries := r.retries + 1 })
  else readerFails s1 j (if s1.reader.badBlocks then Status.cardProtocol else Status.cardTimeout)

/-- CARD_FRAME (R634 to R636, R641, R655): a response too short for an SW is an invalid block. -/
def execCardFrame (reply : CardReply) (s : State) : Host.Outcome State Fault Refusal :=
  match (readerJob s).filter (fun _ => readerWorks s) with
  | none => .next s
  | some j =>
    match reply with
    | .activated typeB cascade layer4 collision rate uid sak ats =>
      .next (if j.op == 0x0B01 then pollAnswered s j typeB layer4 collision cascade rate uid sak ats else s)
    | .response b => .next (if j.op == 0x0B01 then s else if b.length < 2 then retransmit s j true else cardAnswered s j b)
    | .invalidBlock => .next (if j.op == 0x0B01 then s else retransmit s j true)
    | .malformedAts => .next (if j.op == 0x0B01 then readerFails s j Status.cardProtocol else s)

/-- READER_FRAME_TIMEOUT (R655); during a poll the next cycle runs (R633). -/
def execReaderFrameTimeout (s : State) : Host.Outcome State Fault Refusal :=
  match (readerJob s).filter (fun _ => readerWorks s) with
  | none => .next s
  | some j => .next (if j.op == 0x0B01 then s else retransmit s j false)

/-- CARD_WTX_REQUEST (R638): the reader answers with the same WTXM and waits that much longer. -/
def execCardWtxRequest (wtxm : BitVec 6) (s : State) : Host.Outcome State Fault Refusal :=
  match (readerJob s).filter (fun _ => readerWorks s) with
  | none => .next s
  | some j => .next (if j.op == 0x0B01 then s else s.onReader (fun r => { r with wtx := wtxm.toNat }))

/-- POLL_TIMEOUT (R633): NO_CARD, and the field stays on. -/
def execPollTimeout (s : State) : Host.Outcome State Fault Refusal :=
  match (readerJob s).filter (fun _ => readerWorks s) with
  | none => .next s
  | some j => .next (if j.op == 0x0B01 then complete s j (fail Status.noCard) else s)

/-- The 25 MHz reference is lost: the field goes off, and the reader command at work ends (Table 15.14). -/
def readerRefLost (s : State) : State :=
  let s1 := fieldDown s
  match readerJob s with
  | some j => complete s1 j { status := Status.readerOff, detail := 2 }
  | none => s1

end Sys2Proof.Machine
end

