-- ==== Sys2Proof/Machine/Tag.lean ====
section
/-! DEFINITION. Tag mode: the session of a handheld and the APDUs of the Spore application (R622, R624, R644 to R656, Table 15.7,
Table 15.9). -/

namespace Sys2Proof.Machine

/-! ### The session -/

/-- Table 15.10: the answers of a new activation: the UID, 0x08 and three random bytes drawn at the field-on. -/
def tagUid (s : State) : Bytes := 0x08 :: (List.range 3).map (Config.tagUidByte s.tag.fieldOns)
/-- A session without state. -/
def Tag.fresh (x : Tag) (isOpen : Bool) : Tag := { field := x.field, hei := x.hei, fieldOns := x.fieldOns, opened := isOpen }
/-- R649, R654: a session ends; Xemberon imports new visit records. -/
def endSession (s : State) : State :=
  if !s.tag.opened then s
  else
    let s1 := s.onTag (fun x => x.fresh false)
    if running s then importVisits s1 else s1

/-- TAG_FIELD_ON (R625, R661): the island runs from the field; counters are recovered as they are read (R611). A field that is present
already only moves its energy level. -/
def execTagFieldOn (hei : Fin 4) (s : State) : Host.Outcome State Fault Refusal :=
  let s1 := s.onTag (fun x => { x with field := true, hei := hei.val, fieldOns := if x.field then x.fieldOns else x.fieldOns + 1 })
  .next (if s.tag.field || !running s then s1 else raise s1 [72])

/-- TAG_ACTIVATION (R624, R649): a new activation ends the session before it; tag mode does not answer the reader's own field. -/
def execTagActivation (s : State) : Host.Outcome State Fault Refusal :=
  if !s.tag.field || s.reader.fieldOn then .next s
  else .next ((endSession s).onTag (fun x => { x.fresh true with answer := tagUid s }))

/-- TAG_SESSION_END (R649). -/
def execTagSessionEnd (fieldLost : Bool) (s : State) : Host.Outcome State Fault Refusal :=
  let s1 := endSession s
  .next (if fieldLost then s1.onTag (fun x => { fieldOns := x.fieldOns }) else s1)

/-! ### Answers -/

/-- A status word alone, or after data. -/
def swBytes (sw : Nat) : Bytes := beBytes 2 sw
def answer (s : State) (data : Bytes) (sw : Nat) : State := s.onTag (fun x => { x with answer := data ++ swBytes sw })
def refuse (s : State) (sw : Nat) : State := answer s [] sw
/-- R658: a word that must be read is uncorrectable. -/
def refuseEcc (s : State) (w : Nat) : State := refuse (logSporeEcc s w) 0x6581

/-- CLA and INS of Table 15.7 (R652 checks 1 and 2). -/
def apduFail (a : Apdu) : Option Nat :=
  if a.cla != 0 && a.cla != 0x80 then some 0x6E00
  else if (a.cla == 0 && (a.ins == 0xA4 || a.ins == 0x84)) || (a.cla == 0x80 && [0x10, 0x20, 0x22, 0x32, 0x30].contains a.ins) then none
  else some 0x6D00
/-- An APDU of one row. -/
def isApdu (a : Apdu) (cla ins : Byte) : Bool := a.cla == cla && a.ins == ins
/-- Le as Table 15.7 writes it, and no data. -/
def leIs (a : Apdu) (n : Nat) : Bool := a.data.isEmpty && a.le == some (BitVec.ofNat 16 n)
def sporeAid : Bytes := [0xF0, 0x49, 0x42, 0x4B, 0x01]

/-- The first check of a list that fails answers (R652). -/
def firstSw : List (Bool × Nat) → Option Nat
  | [] => none
  | (b, sw) :: r => if b then some sw else firstSw r
/-- Run an APDU in an open session when no check fails. -/
def apdu (s : State) (checks : List (Bool × Nat)) (go : State) : Host.Outcome State Fault Refusal :=
  if !s.tag.opened || s.reader.fieldOn then .next s
  else match firstSw checks with
    | some sw => .next (refuse s sw)
    | none => .next go

/-- SCOPE has a bit, in an authenticated session. -/
def scopeHas (s : State) (b : Nat) : Bool := match s.tag.scope with | some x => x.getLsbD b | none => false

/-! ### SELECT and GET CHALLENGE -/

/-- Entries the pool can still serve: usable, and not below Spore counter 3. -/
def entriesLeft (s : State) : Nat := ((List.range 32).filter (fun k => !poolStale s k)).length
/-- The 24 bytes of SELECT. -/
def selectData (s : State) : Bytes :=
  sporeBytes s 38 2 ++ [1, BitVec.ofNat 8 ((sporeWord s 48).toNat % 8), BitVec.ofNat 8 (entriesLeft s), BitVec.ofNat 8 (heiOf s),
    if s.power.sentinel then 1 else 0, 0, 0, 0]

/-- SELECT of the Spore application. -/
def execSelectApdu (a : Apdu) (s : State) : Host.Outcome State Fault Refusal :=
  if !isApdu a 0 0xA4 then .next s
  else apdu s [(a.p1 != 4 || a.p2 != 0, 0x6A86), (a.data.length < 5 || a.data.length > 16 || a.le != some 0, 0x6700), (a.data != sporeAid, 0x6A82)]
    (match firstBad s [38, 39, 48] with
    | some w => refuseEcc s w
    | none => answer (s.onTag (fun x => { x with selected := true })) (selectData s) 0x9000)

/-- GET CHALLENGE (R644, R645, R656): the counter first, then the challenge. -/
def execGetChallenge (a : Apdu) (s : State) : Host.Outcome State Fault Refusal :=
  if !isApdu a 0 0x84 then .next s
  else
    let c := sporeCounter s 3
    let k := c % 32
    apdu s [(a.p1 != 0 || a.p2 != 0, 0x6A86), (!leIs a 0x20, 0x6700), (!s.tag.selected, 0x6985), (heiOf s < 2, 0x6400), (sporeSpent s 3, 0x6A84)]
      (match firstBad s ((List.range 5).map (poolBase k + ·)) with
      | some w => refuseEcc s w
      | none =>
        if poolUse s k != some c then refuse s 0x6A84
        else
          let b := sporeBytes s (poolBase k + 1) 4
          answer ((bumpSpore s 3).onTag (fun x => { x with challenge := some (c, b) })) b 0x9000)

/-! ### AUTHENTICATE (R639, R640, R649 to R653, R659) -/

/-- A failed attempt: Spore counter 2, and SW 6300. -/
def authFails (s : State) : State := refuse ((bumpSpore s 2).onTag (fun x => { x with fails := x.fails + 1 })) 0x6300
/-- An accepted one: Spore counter 0 before the state is granted. -/
def authGranted (s : State) (use : Nat) (cred : Bytes) : State :=
  if sporeSpent s 0 then refuse s 0x6A84
  else refuse ((bumpSpore s 0).onTag (fun x => { x with
    scope := some (credScope cred), techId := BitVec.ofNat 32 (credTech cred), credDigest := Config.sha384 cred, usedChallenge := use })) 0x9000
/-- The decision over the credential and the proof. -/
def authDecide (s : State) (use : Nat) (challenge : Bytes) (data : Bytes) : State :=
  let cred := data.take 296
  match firstBad s [32, 33, 34, 35, 36, 37, 38, 39] with
  | some w => refuseEcc s w
  | none =>
    if credRefusal s (sporeBytes s 32 6) (sporeBytes s 38 2) cred (data.drop 296) challenge false == 0 then authGranted s use cred
    else authFails s

/-- AUTHENTICATE: any one in an open session uses up the challenge served last, whatever it is answered (R651); with Spore counter 3 spent it is
refused for good (R656). -/
def execAuthenticate (a : Apdu) (s : State) : Host.Outcome State Fault Refusal :=
  if !isApdu a 0x80 0x10 then .next s
  else
    let s1 := if s.tag.opened && !s.reader.fieldOn then s.onTag (fun x => { x with challenge := none }) else s
    apdu s1 [(a.p1 != 0 || a.p2 != 0, 0x6A86), (a.data.length != 360, 0x6700), (!s.tag.selected, 0x6985)]
      (match s.tag.challenge with
      | none => refuse s1 0x6985
      | some (use, b) =>
        if s.tag.fails ≥ 3 then refuse s1 0x6983
        else if heiOf s < 2 then refuse s1 0x6400
        else if sporeSpent s 3 then refuse s1 0x6A84
        else authDecide s1 use b a.data)

/-! ### Reads -/

/-- SEQ an entry of the ring carries, where the slot holds one. -/
def ringSeq (s : State) (k : Nat) : Option Nat :=
  let q := bitsOf (sporeWord s (52 + 6 * k)).toNat 0 32
  if (List.range 6).all (fun i => sporeWord s (52 + 6 * k + i) == 0) || q % 32 != k then none else some q
/-- The newest entry of the ring. -/
def ringNewest (s : State) : Nat := ((List.range 32).filterMap (ringSeq s)).foldl max 0
/-- The ring slot of the entry `i` places before the newest. -/
def ringSlot (s : State) (i : Nat) : Nat := (ringNewest s + 64 - i) % 32

/-- READ LOG HEAD: `p2` entries, from `p1` before the newest. -/
def execReadLogHead (a : Apdu) (s : State) : Host.Outcome State Fault Refusal :=
  if !isApdu a 0x80 0x20 then .next s
  else
    let n := a.p2.toNat
    let slots := (List.range n).map (fun i => ringSlot s (a.p1.toNat + i))
    apdu s [(a.p1.toNat > 31 || n < 1 || n > 5, 0x6A86), (!leIs a 0, 0x6700), (!s.tag.selected, 0x6985), (!scopeHas s 0, 0x6982)]
      (match firstBad s (slots.flatMap (fun k => (List.range 6).map (52 + 6 * k + ·))) with
      | some w => refuseEcc s w
      | none =>
        answer (s.onTag (fun x => { x with actions := x.actions ||| 1, entriesRead := x.entriesRead + n }))
          (slots.flatMap (fun k => sporeBytes s (52 + 6 * k) 6)) 0x9000)

/-- A counter neither of whose copies can be read. -/
def counterWordBad (s : State) : Option Nat := ((List.range 16).find? (fun n => wordBad s (2 * n) && wordBad s (2 * n + 1))).map (2 * ·)

/-- The first word READ COUNTERS must read and cannot: a counter's, a mirror's or the status word. -/
def countersUnreadable (s : State) : Option Nat :=
  [counterWordBad s, if (mirrorValue s 40).isNone then firstBad s [40, 41] else none, if (mirrorValue s 42).isNone then firstBad s [42, 43] else none,
    firstBad s [48]].findSome? id

/-- READ COUNTERS. -/
def execReadCounters (a : Apdu) (s : State) : Host.Outcome State Fault Refusal :=
  if !isApdu a 0x80 0x22 then .next s
  else
    apdu s [(a.p1 != 0 || a.p2 != 0, 0x6A86), (!leIs a 0x39, 0x6700), (!s.tag.selected, 0x6985), (!scopeHas s 1, 0x6982)]
      (match countersUnreadable s with
      | some w => refuseEcc s w
      | none =>
        answer (s.onTag (fun x => { x with actions := x.actions ||| 2 }))
          ((List.range 16).flatMap (fun n => beBytes 3 (sporeCounter s n)) ++ beBytes 4 (fieldEpoch s) ++ beBytes 4 ((mirrorValue s 42).getD 0) ++
            [BitVec.ofNat 8 ((sporeWord s 48).toNat % 8)]) 0x9000)

/-- READ VISITS. -/
def execReadVisits (a : Apdu) (s : State) : Host.Outcome State Fault Refusal :=
  if !isApdu a 0x80 0x32 then .next s
  else
    let k := a.p1.toNat
    apdu s [(k > 7 || a.p2 != 0, 0x6A86), (!leIs a 0x48, 0x6700), (!s.tag.selected, 0x6985), (!scopeHas s 1, 0x6982)]
      (match firstBad s ((List.range 9).map (visitBase k + ·)) with
      | some w => refuseEcc s w
      | none => answer (s.onTag (fun x => { x with actions := x.actions ||| 4 })) (sporeBytes s (visitBase k) 9) 0x9000)

/-! ### WRITE VISIT (R647, R648, R656) -/

/-- The record of a session: POWERED while the Sentinel powers the island, FIELD otherwise. -/
def tagVisit (s : State) (remark : Nat) : Visit :=
  let on := s.power.sentinel
  { flags := 1 + (if on then 4 else 2), tech := s.tag.techId.toNat, epoch := if on then (bootEpoch s).toNat else fieldEpoch s, kind := if on then 0 else 1, ticks := if on then s.clocks.seta else 0, actions := s.tag.actions, entries := s.tag.entriesRead, remark := remark, digest := s.tag.credDigest, challengeUse := s.tag.usedChallenge }

/-- WRITE VISIT. -/
def execWriteVisit (a : Apdu) (s : State) : Host.Outcome State Fault Refusal :=
  if !isApdu a 0x80 0x30 then .next s
  else
    apdu s [(a.p1 != 0 || a.p2 != 0, 0x6A86), (a.data.length != 4, 0x6700), (!s.tag.selected || s.tag.visitDone, 0x6985), (!scopeHas s 2, 0x6982),
        (heiOf s < 2, 0x6400), (sporeSpent s 1, 0x6A84)]
      (let s1 := writeVisitRecord s (tagVisit s (beNat a.data))
      answer (s1.onTag (fun x => { x with visitDone := true })) (beBytes 3 (sporeCounter s1 1)) 0x9000)

/-- UNSUPPORTED_APDU: a CLA, an INS or an AID that Table 15.7 does not have. -/
def execUnsupportedApdu (a : Apdu) (s : State) : Host.Outcome State Fault Refusal :=
  match apduFail a with
  | some sw => apdu s [(true, sw)] s
  | none =>
    if isApdu a 0 0xA4 && a.data != sporeAid then
      apdu s [(a.p1 != 4 || a.p2 != 0, 0x6A86), (a.data.length < 5 || a.data.length > 16 || a.le != some 0, 0x6700)] (refuse s 0x6A82)
    else .next s

end Sys2Proof.Machine
end

