-- ==== Sys2Proof/Machine/Applet.lean ====
section
/-! DEFINITION. The applet commands, and how invocations come to their units, leave them and return (R833 to R856). -/

namespace Sys2Proof.Machine

/-! ### Commands -/

/-- An installed applet of the issuer that is not being removed (R838, R839). -/
def appletHere (s : State) (f : FnId) (a : Nat) : Bool :=
  let x := SMap.get {} s.pinnas.applets a
  x.installed && x.owner == f && !x.removing

/-- R835, R836: an ID is at hand, within the caps; a replacement needs a higher version. -/
def installRefused (s : State) (f : FnId) (b : Bytes) : Option Reply :=
  match appletNamed s f ((b.drop 32).take 16) with
  | some a => when (imgField b 8 4 ≤ (SMap.get {} s.pinnas.applets a).version.toNat) { status := Status.badParameter, detail := 0x8000000000000008 }
  | none => firstOf [when (installedCount s ≥ 64) (fail Status.appletLimit), when ((appletsOf s f).length ≥ appletCapOf s f) { status := Status.appletLimit, detail := 1 }]

/-- APPLET_INSTALL (R833 to R837): one installation at a time; the signature is checked on a Calyptra unit. -/
def execAppletInstall (c : Cmd) (s : State) : Host.Outcome State Fault Refusal :=
  xci 0x0C01 c s (fun s _ =>
    let len := param c 8 4
    let b := hostRead s c.fn (param c 0 8) (min len 131072)
    if s.jobs.any (fun j => j.op == 0x0C01 && j.stage != .fetched && !j.isFor c) then backToQueue s c
    else unlessRefused s [when (bufBad s c (param c 0 8) len false) (bad 0), when (len > 131072) (fail Status.appletTooLarge),
        (imgFault b).map (fun k => { status := Status.badParameter, detail := 2 ^ 63 + k }),
        slotRefusal s c 12 (param c 12 2) installKeyOk, installRefused s c.fn b,
        when (storeFull s (pagesOf len)) (exhausted 6), calyptraGone s]
      (dispatch (onJob s c (fun x => { x with draws := b })), none))

/-- APPLET_REMOVE (R838, R839): once its started invocations have ended. -/
def execAppletRemove (c : Cmd) (s : State) : Host.Outcome State Fault Refusal :=
  xci 0x0C02 c s (fun s j =>
    let a := param c 0 1
    unlessRefused s [when (!appletHere s c.fn a) (fail Status.appletAbsent)]
      (let s1 := onJob (s.onPinnas (fun p => { p with applets := SMap.mod {} p.applets a (fun x => { x with removing := true }) })) c
        (fun x => { x with aux := a + 1 })
      (if startedOf s1 a then s1 else flashCommand s1 j (configUnit s1), none)))

/-- R855: every core is FAILED. -/
def coresGone (s : State) : Option Reply := when ((List.finRange 8).all (fun n => (unitOf s (.pinna n)).st == .failed)) (fail Status.noUnit)

/-- APPLET_INVOKE (R510, R838, R851): it waits for INVOCATION_DISPATCH, which starts it and draws its seed. -/
def execAppletInvoke (c : Cmd) (s : State) : Host.Outcome State Fault Refusal :=
  xci 0x0C03 c s (fun s j =>
    let q := param c 2 2
    unlessRefused s [when (param c 0 1 > 63) (bad 0), when (q < 1 || q > 60000) (bad 2), when (bufBad s c (param c 8 8) (param c 16 4) false) (bad 8),
        when (bufBad s c (param c 24 8) (param c 32 4) true) (bad 24), when (param c 32 4 > 65536) (bad 32), when (!appletHere s c.fn (param c 0 1)) (fail Status.appletAbsent), coresGone s]
      (onJob s j.cmd (fun x => { x with drawNeed := 32 }), none))

/-- An entry of APPLET_LIST. -/
def listEntry (e : Nat × Applet) : Bytes :=
  [BitVec.ofNat 8 e.1, 0, 0, 0] ++ leBytes 4 e.2.version.toNat ++ leBytes 2 e.2.pages ++ List.replicate 6 0 ++ e.2.name
/-- APPLET_LIST (R840). -/
def execAppletList (c : Cmd) (s : State) : Host.Outcome State Fault Refusal :=
  xci 0x0C04 c s (fun s _ =>
    let f : FnId := BitVec.ofNat 8 (param c 0 1)
    let l := s.pinnas.applets.filter (fun e => e.2.installed && e.2.owner == f)
    unlessRefused s [when (bufBad s c (param c 8 8) 2048 true) (bad 8), when (c.fn != 0 && f != c.fn) (fail Status.notPermitted)]
      (bufWrite s c (param c 8 8) (l.flatMap listEntry), some { res0 := l.length }))

/-- PINNA_MODE (R849): no invocation in flight or suspended. -/
def execPinnaMode (c : Cmd) (s : State) : Host.Outcome State Fault Refusal :=
  xci 0x0C05 c s (fun s j =>
    unlessRefused s [when (param c 0 1 > 1) (bad 0), confirmBad c 2 0x0C05, when (s.jobs.any (·.op == 0x0C03)) (fail Status.notIdle)]
      (flashCommand s j (configUnit s), none))
/-- The mode is recorded: TCMs and cache are cleared, and every core that is neither FAILED nor off runs its known-answer set; the command
completes when they have joined. -/
def commitPinnaMode (s : State) (j : Job) : State :=
  let s1 := (appendConfig s).onPinnas (fun p => { p with split := param j.cmd 0 1 == 1, units := [], cache := [] })
  let s2 := (List.finRange 8).foldl (fun a n =>
    if (unitOf a (.pinna n)).st == .failed || (unitOf a (.pinna n)).st == .out || !domainOn a (16 + n.val) then a else startTest a (.pinna n) .join) s1
  settleReturns (onJob s2 j.cmd (fun x => { x with stage := .testing }))

/-! ### Units -/

/-- The cores of a unit. -/
def coresOf (s : State) (u : Fin 8) : List (Fin 8) := if s.pinnas.split then [u] else (List.finRange 8).filter (fun n => n.val / 2 == u.val)
/-- The unit can run invocations: it exists, its cores are in service and powered, and nothing stops them. -/
def unitServes (s : State) (u : Fin 8) : Bool :=
  unitExists s u && (coresOf s u).all (fun n => (unitOf s (.pinna n)).st == .inService && domainOn s (16 + n.val) && clocked s (.pinna n)) &&
    running s && !s.power.quiesced && s.power.safeHold.isNone && s.power.state != .doze
def unitFree (s : State) (u : Fin 8) : Bool := unitServes s u && (pinnaOf s u).inv.isNone

/-- Invocations that have not come to a unit. -/
def waitingInvokes (s : State) : List Job := s.jobs.filter (fun j => j.op == 0x0C03 && wantsUnit s j && drawReady s j)
/-- A suspended invocation of the same class and function goes first on its unit (R845). -/
def resumesFirst (s : State) (u : Fin 8) (cls : Nat) (f : FnId) : Bool :=
  s.pinnas.saved.any (fun e => e.1 == u.val && e.2.inv.any (fun i => i.cls == cls && i.fn == f))

/-- The applet cache of 448 KiB: the applet just run first, the least recently used dropped. -/
def cacheTake (s : State) (room : Nat) : List Nat → List Nat
  | [] => []
  | a :: r =>
    let n := 512 * (SMap.get {} s.pinnas.applets a).pages
    if n ≤ room then a :: cacheTake s (room - n) r else []
def touchCache (s : State) (a : Nat) : State :=
  s.onPinnas (fun p => { p with cache := cacheTake s (448 * 1024) (a :: p.cache.filter (· != a)) })

/-- R804, R818, R820, R842: the unit as an invocation finds it. -/
def startUnit (s : State) (j : Job) (x : Applet) : Pinna :=
  let c := j.cmd
  let a := param c 0 1
  let regs : List (Nat × Nat) := [(1, param c 4 4), (2, param c 36 4), (3, param c 16 4), (4, param c 32 4), (29, 0x10010000)]
  { inv := some { fn := c.fn, q := c.q, tag := c.tag, applet := a, cls := classOf s c, inAddr := param c 8 8, inLen := param c 16 4, outAddr := param c 24 8, outLen := param c 32 4, quanta := param c 2 2, codeLen := x.codeLen, dataLen := x.dataLen + x.bssLen, stackLen := x.stackLen, since := s.clocks.seta }
    g := regs.foldl (fun m e => SMap.set 0 m e.1 (BitVec.ofNat 32 e.2)) [], pc := BitVec.ofNat 32 x.entry
    itcm := Memory.write 0 [] 0 x.code, dtcm := Memory.write 0 [] 0 x.data, image := some (a, x.version) }

/-- An invocation starts on a unit, with its own DRBG instance seeded by its function's (R237, R510). -/
def startInvocation (s : State) (j : Job) (u : Fin 8) : State :=
  let a := param j.cmd 0 1
  let x := SMap.get {} s.pinnas.applets a
  if !x.installed || x.owner != j.cmd.fn then complete s j (fail Status.appletAbsent)
  else match startDraw s j with
    | (s0, false) => s0
    | (s0, true) =>
      let s1 := onJob s0 j.cmd (fun y => { y with stage := .running (.pinna u), begun := true })
      let s2 := onPinna (touchCache s1 a) u (fun _ => startUnit s j x)
      instantiateInv s2 u (coreOf s u) j.cmd.tag (((jobOf s2 j.cmd).map (·.draws)).getD [])

/-- INVOCATION_DISPATCH (R841, R842): the first invocation in class and tenant order, on the lowest-numbered idle unit. -/
def execInvocationDispatch (s : State) : Host.Outcome State Fault Refusal :=
  match firstJob s 3 (waitingInvokes s) with
  | none => .next s
  | some j =>
    match (List.finRange 8).find? (fun u => unitFree s u && !resumesFirst s u (classOf s j.cmd) j.cmd.fn) with
    | none => .next s
    | some u => .next (startInvocation (countClass s 3 (waitingInvokes s) j 1) j u)

/-! ### Suspension and resumption -/

/-- Running invocations, and the units they run on. -/
def runningUnits (s : State) : List (Fin 8) := (List.finRange 8).filter (fun u => (pinnaOf s u).inv.isSome)
/-- R844: after a suspension the free save slots are at least as many as the running invocations. -/
def maySuspend (s : State) : Bool := s.pinnas.saved.length + (runningUnits s).length ≤ 8
/-- Suspend at once, or when the SYS service in progress ends. -/
def suspendSoon (s : State) (u : Fin 8) : State :=
  if (pinnaOf s u).blocked then onPinna s u (fun p => { p with suspendDue := true }) else suspendUnit s u

/-- R843: it has held its unit for 1 ms since it last started or resumed, and its class is not higher than the waiting one's. -/
def suspendable (s : State) (cls : Nat) (u : Fin 8) : Bool :=
  match (pinnaOf s u).inv with
  | some i => s.clocks.seta ≥ i.since + 100000 && i.cls ≥ cls
  | none => false
/-- The lowest in class and tenant order: the lowest class, and within it the function served last. -/
def lowestInOrder (s : State) (us : List (Fin 8)) : Option (Fin 8) :=
  let rank : Fin 8 → Nat × Nat := fun u => match (pinnaOf s u).inv with
    | some i => (i.cls, rrDistance s 3 i.cls i.fn.toNat)
    | none => (0, 0)
  us.foldl (fun m u => match m with
    | none => some u
    | some v => if (rank u).1 > (rank v).1 || ((rank u).1 == (rank v).1 && (rank u).2 > (rank v).2) then some u else some v) none

/-- The class of the first invocation that waits: one not started, or a suspended one. -/
def waitingClass (s : State) : Option Nat :=
  let cs := (waitingInvokes s).map (fun j => classOf s j.cmd) ++ s.pinnas.saved.filterMap (fun e => e.2.inv.map (·.cls))
  cs.foldl (fun m c => match m with | none => some c | some b => some (min b c)) none

/-- QUANTUM_BOUNDARY (R843, R844). -/
def execQuantumBoundary (s : State) : Host.Outcome State Fault Refusal :=
  let t := nextBoundary s.clocks.quantumAt 100000
  let s1 := (atInstant s t).onClocks (fun c => { c with quantumAt := t })
  match waitingClass s1 with
  | none => .next s1
  | some cls =>
    if (List.finRange 8).any (unitFree s1) || !maySuspend s1 then .next s1
    else match lowestInOrder s1 ((runningUnits s1).filter (suspendable s1 cls)) with
      | none => .next s1
      | some u => .next (suspendSoon s1 u)

/-- The suspended invocation of a unit that comes first: the highest class, the oldest of it. -/
def savedFor (s : State) (u : Fin 8) : Option Pinna :=
  ((s.pinnas.saved.filter (fun e => e.1 == u.val)).map (·.2)).foldl (fun m p => match m with
    | none => some p
    | some b => if (p.inv.map (·.cls)).getD 9 < (b.inv.map (·.cls)).getD 9 then some p else some b) none

/-- INVOCATION_RESUME (R845): its state, its DRBG instance and its code come back. -/
def execInvocationResume (unit : Fin 8) (s : State) : Host.Outcome State Fault Refusal :=
  match savedFor s unit with
  | none => .next s
  | some p =>
    match p.inv with
    | none => .next s
    | some i =>
      if !unitFree s unit then .next s
      else
        let s1 := onPinna s unit (fun _ => { p with inv := some { i with since := s.clocks.seta }, drbg := {} })
        let s2 := s1.onPinnas (fun x => { x with saved := x.saved.filter (fun e => !(e.1 == unit.val && e.2 == p)) })
        let s3 := onDrbg s2 (.inv unit) (fun _ => p.drbg)
        .next (match invokeJob s3 i with
          | some j => onJob s3 j.cmd (fun y => { y with stage := .running (.pinna unit) })
          | none => s3)

/-- BUDGET_EXPIRY (R846): a command in flight completes first. -/
def execBudgetExpiry (unit : Fin 8) (s : State) : Host.Outcome State Fault Refusal :=
  let p := pinnaOf s unit
  match p.inv with
  | none => .next s
  | some i =>
    if p.blocked then .next s
    else
      let s1 := atInstant s (i.since + (i.quanta * 100000 - i.usedTicks))
      .next (trap s1 unit i p.pc 7 0)

/-! ### Wake -/

/-- WAKECMP_MATCH (R823): at the instant Seta reaches the compare value. -/
def execWakecmpMatch (unit : Fin 8) (s : State) : Host.Outcome State Fault Refusal :=
  let p := pinnaOf s unit
  if p.inv.isNone || !p.en then .next s
  else
    let s1 := atInstant s (p.cmpLo.toNat + p.cmpHi.toNat * 2 ^ 32)
    let hit := fun (p : Pinna) => { p with matched := true, en := false }
    .next (if p.asleep then awaken s1 unit.val hit else onPinna s1 unit (fun p => { hit p with wakePending := true }))

/-- WAKE_TASK (R824, R825): an activation of T48 + n. -/
def execWakeTask (core : Fin 8) (s : State) : Host.Outcome State Fault Refusal :=
  let t := 48 + core.val
  let (x, fired) := (taskOf s t).reach 1 true
  let s1 := onTask s t (fun _ => x)
  .next (if fired then taskAction appendNote s1 t 0 else s1)

end Sys2Proof.Machine
end

