-- ==== Sys2Proof/Machine/EntropyCmds.lean ====
section
/-! DEFINITION. The random commands (Table 12.3, R508 to R524) and the events of the noise sources (R525 to R530). -/

namespace Sys2Proof.Machine

/-- RANDOM (R516, R517). -/
def execRandom (c : Cmd) (s : State) : Host.Outcome State Fault Refusal :=
  xci 0x0601 c s (fun s j =>
    let buf := param c 0 8
    let n := param c 8 4
    let add := if param c 12 1 == 1 then paramBytes c 16 32 else []
    unlessRefused s [when (bufBad s c buf n true) (bad 0), when (n < 1 || n > 65536) (bad 8), when (param c 12 1 > 1) (bad 12)]
      (withDraw s j n add (fun s bs => (bufWrite s c buf bs, some { res0 := n }))))

/-- RESEED (R518). -/
def execReseed (c : Cmd) (s : State) : Host.Outcome State Fault Refusal :=
  xci 0x0602 c s (fun s _ =>
    unlessRefused s [when (param c 0 1 > 1) (bad 0), when (isApplet c) (fail Status.notPermitted),
        when (entropyFailed s || s.entropy.rawMode) (fail Status.entropyUnavailable)]
      (if !blockReady s then backToQueue s c
      else
        let s1 := reseed s (.f c.fn) (if param c 0 1 == 1 then paramBytes c 8 32 else [])
        (s1, some { res0 := (drbgOf s1 (.f c.fn)).reseeds % 2 ^ 32 })))

/-- A mask of sources. -/
def sourceMask (l : List Nat) : Nat := (l.map (fun n => 2 ^ n)).sum
def retiredSources (s : State) : List Nat := (List.range 4).filter (fun n => (sourceState s n).retired)

/-- ENTROPY_STATUS. -/
def execEntropyStatus (c : Cmd) (s : State) : Host.Outcome State Fault Refusal :=
  xci 0x0603 c s (fun s _ =>
    let d := drbgOf s (instOf c)
    (s, some {
      res0 := sourceMask (feeding s) + sourceMask (retiredSources s) * 2 ^ 4 + flagBit s.entropy.rawMode 8 +
        flagBit s.entropy.pattern.isSome 9 + flagBit (entropyFailed s || s.entropy.rawMode) 10
      res1 := s.entropy.healthFailures % 2 ^ 32, res2 := d.requests % 2 ^ 32, res3 := (s.clocks.seta - d.lastReseed) / 100000 % 2 ^ 32 }))

/-- R519: raw sampling is open in FACTORY, and in FIELD under debug with scope bit 1. -/
def rawAllowed (s : State) : Bool := lifecycle s == 1 || (lifecycle s == 2 && s.boot.debug && s.boot.debugScope.getLsbD 1)

/-- RAW_MODE (R519, R522 to R524). -/
def execRawMode (c : Cmd) (s : State) : Host.Outcome State Fault Refusal :=
  xci 0x0604 c s (fun s _ =>
    let m := param c 0 1
    let pat := param c 8 8
    unlessRefused s [when (m > 3) (bad 0), when (m ≥ 2 && bufBad s c pat 64 false) (bad 8),
        when (m ≥ 2 && lifecycle s != 1 || m == 1 && !rawAllowed s) (fail Status.serviceLimited)]
      (if m ≥ 2 then
        (instantiateAll (s.onEntropy (fun e => { e with rawMode := false, pattern := some (bufRead s c pat 64) })), some {})
      else if m == 1 then ((leaveRaw s).onEntropy (fun e => { e with rawMode := true }), some {})
      else (leaveRaw s, some {})))

/-- RAW_READ (R521): the raw bits, and how often each test failed on them, are free values. -/
def execRawRead (c : Cmd) (s : State) : Host.Outcome State Fault Refusal :=
  xci 0x0605 c s (fun s _ =>
    let buf := param c 8 8
    let n := param c 16 4
    unlessRefused s [when (param c 0 1 > 3) (bad 0), when (bufBad s c buf n true) (bad 8), when (n < 1 || n > 65536) (bad 16),
        when (!s.entropy.rawMode) (fail Status.serviceLimited)]
      (let bs := Config.bytes n (Config.rawByte s.entropy.rawTaken)
      let (a, s1) := takeFree (s.onEntropy (fun e => { e with rawTaken := e.rawTaken + 1 }))
      let (b, s2) := takeFree s1
      (bufWrite s2 c buf bs, some { res0 := n, res1 := a.toNat % 2 ^ 32, res2 := b.toNat % 2 ^ 32 })))

/-! ### Events of the sources -/

def onSource (s : State) (n : Nat) (h : Source → Source) : State :=
  s.onEntropy (fun e => { e with sources := SMap.mod {} e.sources n h })

/-- ENTROPY_HEALTH entry (R527). -/
def healthEntry (s : State) (n test : Nat) (retired : Bool) : State :=
  append s Entry.entropyHealth (Src.entropy n) (n + test * 2 ^ 8 + flagBit retired 16)

/-- ENTROPY_BLOCK (R500, R501): a source ends a conditioning block: the next source feeds, and a block that saw a failure is discarded. -/
def execEntropyBlock (src : Fin 4) (s : State) : Host.Outcome State Fault Refusal :=
  if !(sourceState s src.val).inService || s.entropy.rawMode || !islandWorks s 12 then .next s
  else .next (s.onEntropy (fun e => { e with
    badBlock := e.badBlock &&& ~~~((1 : BitVec 4) <<< src.val), next := (src.val + 1) % 4,
    taken := if e.badBlock.getLsbD src.val then e.taken + 1 else e.taken }))

/-- ENTROPY_HEALTH (R527, R528): out of service for the start-up test; retired at once by the third failure within 1 s. -/
def execEntropyHealth (src : Fin 4) (adaptive : Bool) (s : State) : Host.Outcome State Fault Refusal :=
  let x := sourceState s src.val
  if x.retired || !x.inService || !islandWorks s 12 then .next s
  else
    let test := if adaptive then 2 else 1
    let recent := s.clocks.seta :: x.failures.filter (fun t => s.clocks.seta < t + 100000000)
    let gone := recent.length ≥ 3
    let s1 := onSource s src.val (fun x => { x with inService := false, retired := gone, failures := recent, failing := test })
    let s2 := s1.onEntropy (fun e => { e with
      healthFailures := e.healthFailures + 1, repFails := e.repFails + (if adaptive then 0 else 1), adaptFails := e.adaptFails + (if adaptive then 1 else 0),
      badBlock := if e.rawMode then e.badBlock else e.badBlock ||| ((1 : BitVec 4) <<< src.val) })
    let s3 := raiseWaking s2 [62]
    .next (if gone then healthEntry s3 src.val test true else s3)

/-- START_UP_TEST_DONE (R527, R528): back in service, or retired; the entry names the failure that led to the test. -/
def execStartUpTestDone (src : Fin 4) (pass : Bool) (s : State) : Host.Outcome State Fault Refusal :=
  let x := sourceState s src.val
  if x.retired || x.inService || !running s || !islandWorks s 12 then .next s
  else
    let s1 := onSource s src.val (fun x => { x with inService := pass, retired := !pass, failing := 0 })
    if x.failing != 0 then .next (healthEntry s1 src.val x.failing (!pass))
    else if pass then .next s1
    else .next (healthEntry (raiseWaking (s1.onEntropy (fun e => { e with healthFailures := e.healthFailures + 1 })) [62]) src.val 3 true)

/-- RESEED_DUE (R505, R529): taken when a source feeds; it waits for its block; FAILED or raw mode blocks the instance and
raises E063. -/
def execReseedDue (inst : Inst) (s : State) : Host.Outcome State Fault Refusal :=
  let d := drbgOf s inst
  let isInv := match inst with | .inv _ => true | _ => false
  if !d.live || isInv then .next s
  else
    let s1 := if d.requests ≥ 65536 || d.blocked then s else atInstant s (d.lastReseed + 100000000)
    if entropyFailed s1 || s1.entropy.rawMode then
      .next (if d.blocked then s1 else raiseWaking (onDrbg s1 inst (fun d => { d with blocked := true })) [63])
    else if !blockReady s1 then .next s1
    else .next (reseed s1 inst [])

end Sys2Proof.Machine
end

