-- ==== Sys2Proof/Machine/SorusMath.lean ====
section
/-! DEFINITION. The arithmetic of Sorus (chapter 11): modulus sets, number-theoretic transforms, the kernels of Table 11.3 on limbs, and
the expansion of R475. A limb is its list of N coefficients. -/

namespace Sys2Proof.Machine

/-- One limb of a polynomial: its coefficients, or its values in NTT form. -/
abbrev Limb := List Nat

/-! ### Modular arithmetic -/

/-- `b ^ e mod m`, over the bits of the exponent, at most `fuel` of them. -/
def powLoop (m : Nat) : Nat → Nat → Nat → Nat → Nat
  | 0, _, _, acc => acc
  | k + 1, b, e, acc => if e == 0 then acc else powLoop m k (b * b % m) (e / 2) (if e % 2 == 1 then acc * b % m else acc)
def powMod (b e m : Nat) : Nat := powLoop m 128 (b % m) e (1 % m)
/-- The inverse modulo a prime. -/
def invMod (a q : Nat) : Nat := powMod a (q - 2) q
def subMod (a b q : Nat) : Nat := (a % q + (q - b % q)) % q

/-- `n = 2^s * d` with `d` odd. -/
def twos : Nat → Nat → Nat × Nat
  | 0, n => (0, n)
  | k + 1, n => if n % 2 == 1 || n == 0 then (0, n) else let (s, d) := twos k (n / 2); (s + 1, d)
/-- One Miller–Rabin base: `x` is a power of the base, squared at most `s - 1` times. -/
def rabinLoop (n : Nat) : Nat → Nat → Bool
  | 0, _ => false
  | k + 1, x => x == n - 1 || rabinLoop n k (x * x % n)
def rabinBase (n a : Nat) : Bool :=
  let (s, d) := twos 64 (n - 1)
  let x := powMod a d n
  x == 1 || rabinLoop n s x
/-- R453. -/
def isPrime (n : Nat) : Bool :=
  n > 37 && n % 2 == 1 && [2, 3, 5, 7, 11, 13, 17, 19, 23, 29, 31, 37].all (rabinBase n)

/-! ### Modulus sets (Table 11.2) -/

structure ModSet where
  logN : Nat
  l : Nat
  k : Nat
  q : List Nat
  psi : List Nat
  deriving DecidableEq, Repr

def ModSet.size (m : ModSet) : Nat := 2 ^ m.logN
def ModSet.prime (m : ModSet) (j : Nat) : Nat := m.q.getD j 2
def ModSet.root (m : ModSet) (j : Nat) : Nat := m.psi.getD j 1

/-- Why a limb fails R452: 3 bit length, 4 congruence, 5 not prime, 6 repeated, 7 ψ. -/
def limbFail (m : ModSet) (j : Nat) : Nat :=
  let q := m.prime j
  let n := m.size
  if q < 2 ^ 29 || q ≥ 2 ^ 60 then 3 else if q % (2 * n) != 1 then 4 else if !isPrime q then 5
  else if (m.q.take j).contains q then 6 else if powMod (m.root j) n q != q - 1 then 7 else 0

/-- R452, R454: DETAIL of the first failure, limb after limb, the header before them. -/
def modSetFail (magic : Nat) (m : ModSet) : Option Nat :=
  if magic != 0x51534D53 then some (0xFF + 8 * 2 ^ 8)
  else if m.logN < 10 || m.logN > 16 then some (0xFF + 1 * 2 ^ 8)
  else if m.l < 1 || m.l > 32 || m.k > 16 || m.l + m.k > 32 then some (0xFF + 2 * 2 ^ 8)
  else ((List.range (m.l + m.k)).find? (fun j => limbFail m j != 0)).map (fun j => j + limbFail m j * 2 ^ 8)

/-! ### Transforms (R457) -/

/-- Reversal of the `n` low bits. -/
def brv : Nat → Nat → Nat
  | 0, _ => 0
  | n + 1, k => k % 2 * 2 ^ n + brv n (k / 2)
def sumMod (q : Nat) (xs : List Nat) : Nat := xs.foldl (fun a x => (a + x) % q) 0

def ntt (m : ModSet) (j : Nat) (a : Limb) : Limb :=
  let q := m.prime j
  (List.range m.size).map (fun k => sumMod q (a.zipIdx.map (fun e => e.1 * powMod (m.root j) ((2 * brv m.logN k + 1) * e.2) q)))
def intt (m : ModSet) (j : Nat) (a : Limb) : Limb :=
  let q := m.prime j
  let r := invMod (m.root j) q
  let f := invMod m.size q
  (List.range m.size).map (fun i => f * sumMod q (a.zipIdx.map (fun e => e.1 * powMod r ((2 * brv m.logN e.2 + 1) * i) q)) % q)

/-! ### Kernels on one limb (Table 11.3) -/

def mulLimb (q : Nat) (a b : Limb) : Limb := (a.zip b).map (fun e => e.1 * e.2 % q)
def addLimb (q : Nat) (a b : Limb) : Limb := (a.zip b).map (fun e => (e.1 + e.2) % q)
def subLimb (q : Nat) (a b : Limb) : Limb := (a.zip b).map (fun e => subMod e.1 e.2 q)
def negLimb (q : Nat) (a : Limb) : Limb := a.map (fun x => subMod 0 x q)
def scaleLimb (q c : Nat) (a : Limb) : Limb := a.map (fun x => x * (c % q) % q)
def reduceLimb (q : Nat) (a : Limb) : Limb := a.map (· % q)
def zeroLimb (m : ModSet) : Limb := List.replicate m.size 0

/-- A(X^k) in coefficient form: `a_i X^(ik)` with `X^N = -1`. -/
def autoLimb (m : ModSet) (j k : Nat) (a : Limb) : Limb :=
  let q := m.prime j
  let n := m.size
  a.zipIdx.foldl (fun r e =>
    let i := e.2 * k % (2 * n)
    if i < n then r.set i e.1 else r.set (i - n) (subMod 0 e.1 q)) (zeroLimb m)
/-- AUTO in either form. -/
def autoForm (m : ModSet) (j k : Nat) (nttForm : Bool) (a : Limb) : Limb :=
  if nttForm then ntt m j (autoLimb m j k (intt m j a)) else autoLimb m j k a

/-- BCONV of source limbs (number and coefficients) to limb `t`: exact fast base conversion without correction. -/
def bconv (m : ModSet) (src : List (Nat × Limb)) (t : Nat) : Limb :=
  let q := m.prime t
  (List.range m.size).map (fun x => sumMod q (src.map (fun e =>
    let qi := m.prime e.1
    let others := (src.filter (fun o => o.1 != e.1)).map (fun o => m.prime o.1)
    let y := e.2.getD x 0 * invMod (others.foldl (fun p o => p * o % qi) 1) qi % qi
    y * others.foldl (fun p o => p * o % q) 1)))

/-- RESCALE of limb `j` by the last limb `l`, in NTT form. -/
def rescaleLimb (m : ModSet) (j l : Nat) (aj al : Limb) : Limb :=
  let q := m.prime j
  scaleLimb q (invMod (m.prime l) q) (subLimb q aj (ntt m j (reduceLimb q (intt m l al))))

/-! ### Layout (R455, R456) -/

/-- Coefficients of 8 bytes each. -/
def limbOfBytes (q : Nat) (n : Nat) (bs : Bytes) : Limb := (List.range n).map (fun i => leNat ((bs.drop (8 * i)).take 8) % q)
def limbBytes (a : Limb) : Bytes := a.flatMap (fun x => leBytes 8 x)

/-! ### Noise (R475) -/

/-- Sum of `n` bits of a stream from bit `i`. -/
def bitSum (bs : Bytes) (i n : Nat) : Nat := ((List.range n).filter (fun k => (bs.getD ((i + k) / 8) 0).getLsbD ((i + k) % 8))).length
/-- A coefficient as the difference of two bit sums, its value modulo a prime. -/
def noise (bs : Bytes) (i half q : Nat) : Nat := subMod (bitSum bs i half) (bitSum bs (i + half) half) q
/-- `n` coefficients of `2 * half` bits from bit `i`. -/
def noiseLimb (bs : Bytes) (i half n q : Nat) : Limb := (List.range n).map (fun k => noise bs (i + 2 * half * k) half q)

end Sys2Proof.Machine
end

