-- ==== Sys2Proof/Machine/SorusCmds.lean ====
section
/-! DEFINITION. The ring commands of Sorus: their descriptors, the checks before a job is dispatched, and the programs they run
(chapter 11). -/

namespace Sys2Proof.Machine

/-- R461: descriptor 1 MODSET, 2 step list, 3 operand table, 4 refresh descriptor, 5 share program; a byte offset in it. -/
def badDesc (d off : Nat) : Reply := { status := Status.badParameter, detail := 2 ^ 63 + d * 2 ^ 32 + off }
/-- R496. -/
def slicesGone (s : State) : Option Reply := when (slices.all (fun u => (unitOf s u).st == .failed)) (fail Status.noUnit)

/-! ### Descriptors (R225) -/

/-- The part of a read that a descriptor already holds. -/
def descPart (a n : Nat) (d : Nat × Bytes) : Option Bytes := if d.1 ≤ a && a + n ≤ d.1 + d.2.length then some ((d.2.drop (a - d.1)).take n) else none
/-- Bytes of a descriptor: as read when the command started, or from its buffer while it starts. -/
def descRead (s : State) (c : Cmd) (a n : Nat) : Bytes := (((jobOf s c).bind (fun j => j.descs.findSome? (descPart a n)))).getD (bufRead s c a n)
/-- Keep the descriptors of a command that starts: addresses and lengths. -/
def keepDescs (s : State) (c : Cmd) (ds : List (Nat × Nat)) : State :=
  onJob s c (fun j => { j with descs := ds.map (fun d => (d.1, bufRead s c d.1 d.2)) })

/-! ### Modulus sets -/

/-- The modulus set at an address, and its MAGIC. -/
def modSetAt (s : State) (c : Cmd) (a : Nat) : Nat × ModSet :=
  let h := descRead s c a 16
  let n := min 48 (recField h 5 1 + recField h 6 1)
  let body := descRead s c (a + 16) (16 * n)
  (recField h 0 4, { logN := recField h 4 1, l := recField h 5 1, k := recField h 6 1, q := (List.range n).map (fun j => recField body (16 * j) 8), psi := (List.range n).map (fun j => recField body (16 * j + 8) 8) })
def modSet (s : State) (c : Cmd) : ModSet := (modSetAt s c (param c 0 8)).2
/-- R452, R454; bytes 7 to 15 of the header are zero (Table 11.2, R461). -/
def ringRefused (s : State) (c : Cmd) : Option Reply :=
  let (g, m) := modSetAt s c (param c 0 8)
  match modSetFail g m with
  | some d => some { status := Status.ringUnsupported, detail := d }
  | none => ((List.range 9).find? (fun i => recField (descRead s c (param c 0 8) 16) (7 + i) 1 != 0)).map (fun i => badDesc 1 (7 + i))

/-- Bytes of one limb. -/
def limbSize (m : ModSet) : Nat := 8 * m.size
/-- R448, Table 11.13: granules of a working set. -/
def granulesFor (bytes : Nat) : Nat := (bytes + 65535) / 65536
/-- R488. -/
def scratchRefused (bytes : Nat) : Option Reply := when (granulesFor bytes > 240) (fail Status.scratchFull)

/-! ### Operands and programs (Table 11.5) -/

structure Opnd where
  addr : Nat
  first : Nat
  limbs : Nat
  load : Bool
  store : Bool
  ntt : Bool
  deriving DecidableEq, Repr

structure KStep where
  code : Nat
  dst : Nat
  a : Nat
  b : Nat
  arg : Nat
  first : Nat
  count : Nat
  deriving DecidableEq, Repr

def opndAt (s : State) (c : Cmd) (i : Nat) : Opnd :=
  let e := descRead s c (param c 24 8 + 16 * i) 16
  { addr := recField e 0 8, first := recField e 8 1, limbs := recField e 9 1, load := bitOf (recField e 10 1) 0, store := bitOf (recField e 10 1) 1, ntt := bitOf (recField e 10 1) 2 }
def stepAt (s : State) (c : Cmd) (i : Nat) : KStep :=
  let e := descRead s c (param c 8 8 + 8 * i) 8
  { code := recField e 0 1, dst := recField e 1 1, a := recField e 2 1, b := recField e 3 1, arg := recField e 4 1, first := recField e 5 1, count := recField e 6 1 }
def opnds (s : State) (c : Cmd) : List Opnd := (List.range (param c 18 1)).map (opndAt s c)
def ksteps (s : State) (c : Cmd) : List KStep := (List.range (param c 16 2)).map (stepAt s c)
def consts (s : State) (c : Cmd) : List Nat := (List.range (param c 19 1)).map (fun i => leNat (descRead s c (param c 32 8 + 8 * i) 8))

def opndOf (os : List Opnd) (n : Nat) : Opnd := os.getD n ⟨0, 0, 0, false, false, false⟩
def Opnd.has (o : Opnd) (j : Nat) : Bool := o.first ≤ j && j < o.first + o.limbs

/-- Key of an operand's limb. -/
def limbKey (o j : Nat) : Nat := 64 * o + j
/-- The limbs a step acts on. -/
def KStep.acts (x : KStep) : List Nat := (List.range x.count).map (· + x.first)
/-- Kernels that read B; that use CONST[ARG]. -/
def readsB (code : Nat) : Bool := [3, 4, 5, 6].contains code
def usesConst (code : Nat) : Bool := code == 8 || code == 9

/-- First fault of an operand entry: its byte offset. -/
def opndFail (m : ModSet) (o : Opnd) : Option Nat :=
  if (o.load || o.store) && (o.addr == 0 || o.addr % 8 != 0) then some 0
  else if o.first ≥ m.l + m.k then some 8
  else if o.limbs == 0 || o.first + o.limbs > m.l + m.k then some 9
  else none

/-- Limbs a step writes. -/
def stepWrites (os : List Opnd) (x : KStep) : List Nat :=
  if x.code == 0x0A then (List.range (opndOf os x.dst).limbs).map (· + (opndOf os x.dst).first) else x.acts

/-- Forms so far: 0 nothing held, 1 coefficient, 2 NTT; per operand limb. -/
abbrev Forms := SMap Nat

/-- The form a kernel asks of its sources, 0 any. -/
def wantsForm (code : Nat) : Nat := if code == 1 || code == 0x0A then 1 else if [2, 3, 4, 0x0B].contains code then 2 else 0

/-- A source is held, in the form wanted, on every limb of a list. -/
def sourceOk (f : Forms) (code o : Nat) (ls : List Nat) : Bool :=
  ls.all (fun j => let g := SMap.get 0 f (limbKey o j); g != 0 && (wantsForm code == 0 || g == wantsForm code))

/-- First fault of a step: its byte offset. -/
def stepFail (m : ModSet) (os : List Opnd) (cs : List Nat) (f : Forms) (x : KStep) : Option Nat :=
  let n := os.length
  let a := opndOf os x.a
  let last := a.first + a.limbs - 1
  if x.code < 1 || x.code > 0x0B then some 0
  else if x.dst ≥ n then some 1 else if x.a ≥ n then some 2 else if readsB x.code && x.b ≥ n then some 3
  else if usesConst x.code && x.arg ≥ cs.length then some 4
  else if x.code == 9 && (cs.getD x.arg 0 % 2 == 0 || cs.getD x.arg 0 ≥ 2 * m.size) then some 4
  else if x.count == 0 || !(x.acts.all a.has) || (readsB x.code && !(x.acts.all (opndOf os x.b).has)) ||
      (x.code != 0x0A && !(x.acts.all (opndOf os x.dst).has)) || (x.code == 0x0B && !(x.acts.all (· < last))) then some 5
  else if !sourceOk f x.code x.a x.acts || (x.code == 0x0B && !sourceOk f x.code x.a [last]) then some 2
  else if readsB x.code && !(sourceOk f x.code x.b x.acts && x.acts.all (fun j => SMap.get 0 f (limbKey x.a j) == SMap.get 0 f (limbKey x.b j))) then some 3
  else if x.code == 4 && !sourceOk f x.code x.dst x.acts then some 1
  else none

/-- The forms after a step. -/
def stepForms (os : List Opnd) (f : Forms) (x : KStep) : Forms :=
  (stepWrites os x).foldl (fun g j =>
    let v := if x.code == 1 then 2 else if x.code == 2 || x.code == 0x0A then 1 else SMap.get 0 f (limbKey x.a j)
    SMap.set 0 g (limbKey x.dst j) (if x.code == 0x0B then 2 else v)) f

/-- R460 over the steps: the fault of the first that has one. -/
def stepsFail (m : ModSet) (os : List Opnd) (cs : List Nat) : List KStep → Nat → Forms → Except Nat Forms
  | [], _, f => .ok f
  | x :: r, i, f => match stepFail m os cs f x with
    | some o => .error (8 * i + o)
    | none => stepsFail m os cs r (i + 1) (stepForms os f x)

def Opnd.form (o : Opnd) : Nat := if o.ntt then 2 else 1
def Opnd.range (o : Opnd) : List Nat := (List.range o.limbs).map (· + o.first)
/-- The forms the IN operands start with. -/
def startForms (os : List Opnd) : Forms :=
  os.zipIdx.foldl (fun f e => if e.1.load then e.1.range.foldl (fun g j => SMap.set 0 g (limbKey e.2 j) e.1.form) f else f) []

/-- R460, R461 for a SORUS_KERNEL program. -/
def programRefused (s : State) (c : Cmd) : Option Reply :=
  let m := modSet s c
  let os := opnds s c
  match os.zipIdx.find? (fun e => (opndFail m e.1).isSome) with
  | some e => some (badDesc 3 (16 * e.2 + (opndFail m e.1).getD 0))
  | none => match stepsFail m os (consts s c) (ksteps s c) 0 (startForms os) with
    | .error o => some (badDesc 2 o)
    | .ok f => match os.zipIdx.find? (fun e => e.1.store && !(e.1.range.all (fun j => SMap.get 0 f (limbKey e.2 j) == e.1.form))) with
      | some e => some (badDesc 3 (16 * e.2 + 10))
      | none => none

/-- Where the modulus set of a command lies. -/
def modSetSpan (s : State) (c : Cmd) : Nat × Nat := (param c 0 8, 16 + 16 * (modSet s c).q.length)
/-- Hold a started ring job, its descriptors read, until its working set is reserved: `n` chunks it needs. -/
def awaitScratch (s : State) (j : Job) (need : Nat) (ds : List (Nat × Nat)) : State × Option Reply :=
  (onJob (keepDescs s j.cmd (modSetSpan s j.cmd :: ds)) j.cmd (fun x => { x with need := need }), none)

/-- SORUS_KERNEL (R460 to R462). -/
def execSorusKernel (c : Cmd) (s : State) : Host.Outcome State Fault Refusal :=
  xci 0x0501 c s (fun s j =>
    unlessRefused s [when (bufBad s c (param c 0 8) 16 false) (bad 0), when (bufBad s c (param c 8 8) 8 false) (bad 8),
        when (param c 16 2 < 1 || param c 16 2 > 64) (bad 16), when (param c 18 1 < 1 || param c 18 1 > 16) (bad 18),
        when (param c 19 1 > 16) (bad 19), when (bufBad s c (param c 24 8) 16 false) (bad 24),
        when (param c 19 1 != 0 && bufBad s c (param c 32 8) 8 false) (bad 32), ringRefused s c, programRefused s c,
        scratchRefused (((opnds s c).map (·.limbs)).sum * limbSize (modSet s c)), slicesGone s]
      (awaitScratch s j 0 [(param c 8 8, 8 * param c 16 2), (param c 24 8, 16 * param c 18 1), (param c 32 8, 8 * param c 19 1)]))

/-! ### Key switching (R464 to R472) -/

/-- P of Table 11.7, and segments per limb. -/
def chunkPayload (m : ModSet) : Nat := min (limbSize m) 16384
def segsOf (m : ModSet) : Nat := limbSize m / chunkPayload m
/-- Chunks of one key switch at `l` main limbs and `d` digits. -/
def switchChunks (m : ModSet) (l d : Nat) : Nat := d * 2 * (l + m.k) * segsOf m
def keyBytes (m : ModSet) (l d : Nat) : Nat := switchChunks m l d * (48 + chunkPayload m)

/-- R466: the slot that decrypts key chunks. -/
def streamSlot (usage : Nat) (a : Nat) : Bool := attrEngine a 2 && attrType a == 2 && attrUsage a usage && attrMode a 4

/-- SORUS_KEYSWITCH. -/
def execSorusKeyswitch (c : Cmd) (s : State) : Host.Outcome State Fault Refusal :=
  xci 0x0502 c s (fun s j =>
    let m := modSet s c
    let l := param c 34 1
    let d := param c 35 1
    unlessRefused s [when (bufBad s c (param c 0 8) 16 false) (bad 0), when (bufBad s c (param c 8 8) 8 false) (bad 8),
        when (bufBad s c (param c 16 8) 8 true) (bad 16), when (bufBad s c (param c 24 8) 8 false) (bad 24), ringRefused s c,
        when (l < 1 || l > m.l) (bad 34), when (d < 1 || d > l) (bad 35), when (param c 40 8 != keyBytes m l d) (bad 40),
        slotRefusal s c 32 (param c 32 2) (streamSlot 1), scratchRefused ((4 * l + 3 * m.k) * limbSize m + 65536), slicesGone s]
      (awaitScratch s j (switchChunks m l d) []))

/-! ### Refresh descriptors (Table 11.8) -/

structure ROp where
  op : Nat
  phase : Nat
  dst : Nat
  src : Nat
  arg : Nat
  addr : Nat
  kskId : Nat
  len : Nat
  deriving DecidableEq, Repr

structure RDesc where
  magic : Nat
  ops : Nat
  d : Nat
  lTop : Nat
  table : Nat
  deriving DecidableEq, Repr

def rdesc (s : State) (c : Cmd) : RDesc :=
  let h := descRead s c (param c 24 8) 16
  { magic := recField h 0 4, ops := recField h 4 2, d := recField h 6 1, lTop := recField h 7 1, table := recField h 8 8 }
def ropAt (s : State) (c : Cmd) (i : Nat) : ROp :=
  let e := descRead s c (param c 24 8 + 16 + 32 * i) 32
  { op := recField e 0 1, phase := recField e 1 1, dst := recField e 2 1, src := recField e 3 1, arg := recField e 4 4, addr := recField e 8 8, kskId := recField e 16 4, len := recField e 24 8 }
def rops (s : State) (c : Cmd) : List ROp := (List.range (rdesc s c).ops).map (ropAt s c)

/-- Ops that switch keys. -/
def ROp.switches (o : ROp) : Bool := o.op == 2 || o.op == 6
/-- Ops that read SRC; that read DST. -/
def ROp.readsSrc (o : ROp) : Bool := [2, 3, 4, 5, 6].contains o.op
def ROp.readsDst (o : ROp) : Bool := [5, 6, 7].contains o.op

/-- Levels of C0 and C1 before an op; 0 nothing held. -/
abbrev Levels := Nat × Nat
def levelOf (v : Levels) (r : Nat) : Nat := if r == 0 then v.1 else v.2
def setLevel (v : Levels) (r x : Nat) : Levels := if r == 0 then (x, v.2) else (v.1, x)
/-- The levels after an op. -/
def ROp.levels (o : ROp) (lTop : Nat) (v : Levels) : Levels :=
  if o.op == 1 then setLevel v 0 lTop
  else if o.op == 2 || o.op == 3 || o.op == 4 then setLevel v o.dst (levelOf v o.src)
  else if o.op == 7 then setLevel v o.dst (levelOf v o.dst - 1)
  else v
/-- The level at which an op switches keys. -/
def ROp.switchLevel (o : ROp) (v : Levels) : Nat := if o.op == 2 then levelOf v o.src else levelOf v o.dst

/-- First fault of an op (R471): its byte offset. -/
def ropFail (m : ModSet) (h : RDesc) (v : Levels) (i phase : Nat) (isEnd : Bool) (o : ROp) : Option Nat :=
  if o.op > 7 || (o.op == 0) != isEnd || (o.op == 1) != (i == 0) then some 0
  else if o.phase < 1 || o.phase > 4 || o.phase < phase then some 1
  else if o.op == 0 then none
  else if o.dst > 1 || (o.readsDst && levelOf v o.dst == 0) || (o.op == 1 && o.dst != 0) then some 2
  else if o.op == 7 && levelOf v o.dst < 2 then some 2
  else if o.readsSrc && (o.src > 1 || levelOf v o.src == 0 || ((o.op == 5 || o.op == 6) && levelOf v o.src != levelOf v o.dst)) then some 3
  else if o.op == 2 && (o.arg % 2 == 0 || o.arg ≥ 2 * m.size) then some 4
  else if (o.switches || o.op == 3) && o.addr % 8 != 0 then some 8
  else if o.switches && o.len != keyBytes m (o.switchLevel v) h.d then some 24
  else none

/-- R471 over the ops. -/
def ropsFail (m : ModSet) (h : RDesc) : List ROp → Nat → Nat → Levels → Option Nat
  | [], _, _, _ => none
  | o :: r, i, phase, v => match ropFail m h v i phase r.isEmpty o with
    | some x => some (16 + 32 * i + x)
    | none => ropsFail m h r (i + 1) o.phase (o.levels h.lTop v)

/-- Table 11.8, R471. -/
def refreshRefused (s : State) (c : Cmd) : Option Reply :=
  let m := modSet s c
  let h := rdesc s c
  if h.magic != 0x51524652 then some (badDesc 4 0)
  else if h.ops < 1 || h.ops > 4096 then some (badDesc 4 4)
  else if h.d < 1 || h.d > h.lTop then some (badDesc 4 6)
  else if h.lTop < 2 || h.lTop > m.l then some (badDesc 4 7)
  else if h.table % 8 != 0 then some (badDesc 4 8)
  else (ropsFail m h (rops s c) 0 0 (0, 0)).map (badDesc 4)

/-- The key switches of a descriptor in order: level, key address, KSK_ID. -/
def switchesOf (lTop : Nat) : List ROp → Levels → List (Nat × Nat × Nat)
  | [], _ => []
  | o :: r, v => (if o.switches then [(o.switchLevel v, o.addr, o.kskId)] else []) ++ switchesOf lTop r (o.levels lTop v)
def refreshSwitches (s : State) (c : Cmd) : List (Nat × Nat × Nat) := switchesOf (rdesc s c).lTop (rops s c) (0, 0)

/-- SORUS_REFRESH. -/
def execSorusRefresh (c : Cmd) (s : State) : Host.Outcome State Fault Refusal :=
  xci 0x0503 c s (fun s j =>
    let m := modSet s c
    let h := rdesc s c
    unlessRefused s [when (bufBad s c (param c 0 8) 16 false) (bad 0), when (bufBad s c (param c 8 8) 8 false) (bad 8),
        when (bufBad s c (param c 16 8) 8 true) (bad 16), when (bufBad s c (param c 24 8) 16 false) (bad 24), ringRefused s c,
        refreshRefused s c, slotRefusal s c 32 (param c 32 2) (streamSlot 1),
        scratchRefused ((8 * h.lTop + 3 * m.k) * limbSize m + 65536), slicesGone s]
      (awaitScratch s j ((refreshSwitches s c).map (fun x => switchChunks m x.1 h.d)).sum [(param c 24 8, 16 + 32 * h.ops)]))

/-- FLAGS [0] SEALED of SORUS_ENCRYPT. -/
def isSealed (c : Cmd) : Bool := bitOf (param c 35 1) 0
/-- Chunks of a sealed message. -/
def sealedChunks (m : ModSet) (l : Nat) : Nat := l * segsOf m

/-- SORUS_ENCRYPT (R474 to R476). -/
def execSorusEncrypt (c : Cmd) (s : State) : Host.Outcome State Fault Refusal :=
  xci 0x0504 c s (fun s j =>
    let m := modSet s c
    let l := param c 34 1
    let n := if isSealed c then sealedChunks m l else 0
    unlessRefused s [when (bufBad s c (param c 0 8) 16 false) (bad 0), when (bufBad s c (param c 8 8) 8 false) (bad 8),
        when (bufBad s c (param c 16 8) 8 false) (bad 16), when (bufBad s c (param c 24 8) 8 true) (bad 24), ringRefused s c,
        when (l < 1 || l > m.l) (bad 34), when (param c 35 1 > 1) (bad 35),
        when (isSealed c && param c 36 4 != n * (48 + chunkPayload m)) (bad 36),
        (if isSealed c then slotRefusal s c 32 (param c 32 2) (streamSlot 1) else none),
        scratchRefused (6 * l * limbSize m + 65536), slicesGone s]
      (awaitScratch (onJob s c (fun x => { x with drawNeed := 32 })) j n []))

end Sys2Proof.Machine
end

