-- ==== Sys2Proof/Machine/SorusRun.lean ====
section
/-! DEFINITION. What the ring jobs of Sorus compute: kernel programs, fused key switches over streamed key chunks, refreshes and
encryptions (chapter 11). Results are functions of host memory and of the keys as they stand when the job ends. -/

namespace Sys2Proof.Machine

/-! ### Kernel programs -/

/-- General scratch of a job: its operands' limbs. -/
abbrev Scratch := SMap Limb
def scratchGet (x : Scratch) (o j : Nat) : Limb := SMap.get [] x (limbKey o j)
def scratchSet (x : Scratch) (o j : Nat) (v : Limb) : Scratch := SMap.set [] x (limbKey o j) v

/-- A polynomial's limbs in host memory from limb `f` (R455, R456). -/
def loadLimbs (s : State) (c : Cmd) (m : ModSet) (addr f n : Nat) : List Limb :=
  (List.range n).map (fun i => limbOfBytes (m.prime (f + i)) m.size (bufRead s c (addr + limbSize m * i) (limbSize m)))

/-- R462: load the IN operands. -/
def loadOpnds (s : State) (c : Cmd) (m : ModSet) (os : List Opnd) : Scratch :=
  os.zipIdx.foldl (fun x e => if e.1.load then
    ((loadLimbs s c m e.1.addr e.1.first e.1.limbs).zipIdx).foldl (fun y l => scratchSet y e.2 (e.1.first + l.2) l.1) x else x) []

/-- One limb of a step's result (Table 11.3). `f` is the form of the source. -/
def kernelLimb (m : ModSet) (os : List Opnd) (cs : List Nat) (x : Scratch) (f : Forms) (t : KStep) (j : Nat) : Limb :=
  let q := m.prime j
  let a := scratchGet x t.a j
  let b := scratchGet x t.b j
  let k := cs.getD t.arg 0
  let last := (opndOf os t.a).first + (opndOf os t.a).limbs - 1
  match t.code with
  | 0x01 => ntt m j a
  | 0x02 => intt m j a
  | 0x03 => mulLimb q a b
  | 0x04 => addLimb q (scratchGet x t.dst j) (mulLimb q a b)
  | 0x05 => addLimb q a b
  | 0x06 => subLimb q a b
  | 0x07 => negLimb q a
  | 0x08 => scaleLimb q k a
  | 0x09 => autoForm m j k (SMap.get 0 f (limbKey t.a j) == 2) a
  | 0x0A => bconv m (t.acts.map (fun i => (i, scratchGet x t.a i))) j
  | _ => rescaleLimb m j last a (scratchGet x t.a last)

/-- A step on all its limbs. -/
def runStep (m : ModSet) (os : List Opnd) (cs : List Nat) (x : Scratch) (f : Forms) (t : KStep) : Scratch :=
  (stepWrites os t).foldl (fun y j => scratchSet y t.dst j (kernelLimb m os cs x f t j)) x

def runSteps (m : ModSet) (os : List Opnd) (cs : List Nat) : List KStep → Scratch → Forms → Scratch
  | [], x, _ => x
  | t :: r, x, f => runSteps m os cs r (runStep m os cs x f t) (stepForms os f t)

/-- R462: store the OUT operands; the bytes written. -/
def storeOpnds (s : State) (c : Cmd) (m : ModSet) (os : List Opnd) (x : Scratch) : State × Nat :=
  os.zipIdx.foldl (fun a e => if e.1.store then
    (bufWrite a.1 c e.1.addr (e.1.range.flatMap (fun j => limbBytes (scratchGet x e.2 j))), a.2 + e.1.limbs * limbSize m) else a) (s, 0)

/-- SORUS_KERNEL. -/
def runKernel (s : State) (c : Cmd) : State × Reply :=
  let m := modSet s c
  let os := opnds s c
  let (s1, n) := storeOpnds s c m os (runSteps m os (consts s c) (ksteps s c) (loadOpnds s c m os) (startForms os))
  (s1, { res0 := n })

/-! ### Key chunks (Table 11.7) -/

/-- What a chunk's header must hold. -/
structure Expect where
  kskId : Option Nat
  digit : Nat
  poly : Nat
  limb : Nat
  seg : Nat
  l : Nat
  d : Option Nat
  deriving DecidableEq, Repr

/-- Bytes 0 to 15 and 28 to 31 of a chunk are the ones the job expects (R465). -/
def headerOk (m : ModSet) (e : Expect) (h : Bytes) : Bool :=
  let x := recField h
  (e.kskId.getD (x 0 4) == x 0 4) && x 4 1 == e.digit && x 5 1 == e.poly && x 6 1 == e.limb && x 7 1 == 1 && x 8 2 == e.seg &&
    x 10 2 == segsOf m && x 12 1 == m.logN && x 13 1 == e.l && x 14 1 == m.k && e.d.getD (x 15 1) == x 15 1 && x 28 4 == 0

/-- R404, R465: header and tag of a chunk under a key. -/
def chunkOk (m : ModSet) (key : Bytes) (e : Expect) (b : Bytes) : Bool :=
  let p := chunkPayload m
  headerOk m e b && (b.drop (32 + p)).take 16 ==
    Config.bytes 16 (Config.tagByte 5 [key, (b.drop 16).take 12, b.take 16, (b.drop 32).take p, []])
/-- Its coefficients. -/
def chunkData (m : ModSet) (key : Bytes) (q : Nat) (b : Bytes) : Limb :=
  let p := chunkPayload m
  limbOfBytes q (p / 8) (Config.bytes p (Config.cipherByte 5 true [key, (b.drop 16).take 12, b.take 16, (b.drop 32).take p, []]))

/-- Where chunk `i` of a key of `l` main limbs stands in the order of R464: digit, limb, poly, segment. -/
def chunkPlace (m : ModSet) (l i : Nat) : Nat × Nat × Nat × Nat :=
  let sg := segsOf m
  (i / (sg * 2 * (l + m.k)), i / (sg * 2) % (l + m.k), i / sg % 2, i % sg)
/-- Chunk `i` of a key at an address. -/
def chunkBytes (s : State) (c : Cmd) (m : ModSet) (addr i : Nat) : Bytes :=
  bufRead s c (addr + (48 + chunkPayload m) * i) (48 + chunkPayload m)
def switchExpect (m : ModSet) (l d kskId i : Nat) : Expect :=
  let (g, t, p, sg) := chunkPlace m l i
  { kskId := some kskId, digit := g, poly := p, limb := t, seg := sg, l := l, d := some d }

/-- The key polynomial of a digit, limb and poly. -/
def keyLimb (s : State) (c : Cmd) (m : ModSet) (key : Bytes) (addr l q g t p : Nat) : Limb :=
  let sg := segsOf m
  (List.range sg).flatMap (fun i => chunkData m key q (chunkBytes s c m addr (((g * (l + m.k) + t) * 2 + p) * sg + i)))

/-! ### Fused key switching -/

/-- Prime index of position `t` among `l` main limbs and the special limbs. -/
def primeAt (m : ModSet) (l t : Nat) : Nat := if t < l then t else m.l + (t - l)
/-- Limbs of a digit: α = ⌈l / d⌉ each, the last may be shorter. -/
def digitLimbs (l d g : Nat) : List Nat :=
  let a := (l + d - 1) / d
  (List.range l).filter (fun i => i / a == g)

/-- Sequence step 1: a digit at every position. -/
def digitAt (m : ModSet) (l d g : Nat) (x : List Limb) (t : Nat) : Limb :=
  if (digitLimbs l d g).contains t then x.getD t []
  else ntt m (primeAt m l t) (bconv m ((digitLimbs l d g).map (fun i => (i, intt m i (x.getD i [])))) (primeAt m l t))

/-- An accumulator at a position after all digits. -/
def accAt (s : State) (c : Cmd) (m : ModSet) (key : Bytes) (addr l d : Nat) (x : List Limb) (p t : Nat) : Limb :=
  let q := m.prime (primeAt m l t)
  (List.range d).foldl (fun a g => addLimb q a (mulLimb q (digitAt m l d g x t) (keyLimb s c m key addr l q g t p))) (zeroLimb m)

/-- Sequence step 2: from an accumulator's positions to the main limbs. -/
def modDown (m : ModSet) (l : Nat) (acc : Nat → Limb) : List Limb :=
  let special := (List.range m.k).map (fun i => (m.l + i, intt m (m.l + i) (acc (l + i))))
  (List.range l).map (fun j =>
    let q := m.prime j
    let prod := (List.range m.k).foldl (fun p i => p * m.prime (m.l + i) % q) 1
    scaleLimb q (invMod prod q) (subLimb q (acc j) (ntt m j (bconv m special j))))

/-- One key switch of `x` at `l` limbs: u0 and u1. -/
def keySwitch (s : State) (c : Cmd) (m : ModSet) (key : Bytes) (addr l d : Nat) (x : List Limb) : List Limb × List Limb :=
  (modDown m l (accAt s c m key addr l d x 0), modDown m l (accAt s c m key addr l d x 1))

/-- A list of limbs as bytes. -/
def polyBytes (x : List Limb) : Bytes := x.flatMap limbBytes
/-- The key a Sorus job streams under. -/
def streamKey (s : State) (c : Cmd) : Bytes := jobKey s c

/-- SORUS_KEYSWITCH. -/
def runKeyswitch (s : State) (j : Job) : State × Reply :=
  let c := j.cmd
  let m := modSet s c
  let l := param c 34 1
  let u := keySwitch s c m (streamKey s c) (param c 24 8) l (param c 35 1) (loadLimbs s c m (param c 8 8) 0 l)
  (bufWrite s c (param c 16 8) (polyBytes u.1 ++ polyBytes u.2), { res0 := j.chunks })

/-! ### Refresh -/

/-- A ciphertext register: two polynomials in NTT form; its level is their length. -/
abbrev CReg := List Limb × List Limb
/-- The registers C0 and C1. -/
abbrev CRegs := CReg × CReg
def cReg (v : CRegs) (r : Nat) : CReg := if r == 0 then v.1 else v.2
def setCReg (v : CRegs) (r : Nat) (x : CReg) : CRegs := if r == 0 then (x, v.2) else (v.1, x)

/-- Limb by limb, with the limb's number. -/
def mapLimbs (x : List Limb) (f : Nat → Limb → Limb) : List Limb := x.zipIdx.map (fun e => f e.2 e.1)
def bothLimbs (x : CReg) (f : Nat → Limb → Limb) : CReg := (mapLimbs x.1 f, mapLimbs x.2 f)
def zipLimbs (m : ModSet) (f : Nat → Limb → Limb → Limb) (x y : List Limb) : List Limb :=
  (x.zip y).zipIdx.map (fun e => f (m.prime e.2) e.1.1 e.1.2)

/-- MODRAISE: each coefficient as an integer into limbs 0 to `lTop` - 1. -/
def modRaise (m : ModSet) (lTop : Nat) (a : Limb) : List Limb :=
  (List.range lTop).map (fun j => ntt m j (reduceLimb (m.prime j) a))

/-- One op of a refresh descriptor (Table 11.8). -/
def runOp (s : State) (c : Cmd) (m : ModSet) (h : RDesc) (v : CRegs) (o : ROp) : CRegs :=
  let x := cReg v o.src
  let y := cReg v o.dst
  let key := streamKey s c
  match o.op with
  | 1 =>
    let inp := loadLimbs s c m (param c 8 8) 0 1
    let inp2 := loadLimbs s c m (param c 8 8 + limbSize m) 0 1
    setCReg v 0 (modRaise m h.lTop (inp.headD []), modRaise m h.lTop (inp2.headD []))
  | 2 =>
    let r := bothLimbs x (fun j a => autoForm m j o.arg true a)
    let u := keySwitch s c m key o.addr r.2.length h.d r.2
    setCReg v o.dst (zipLimbs m addLimb r.1 u.1, u.2)
  | 3 =>
    let pt := loadLimbs s c m o.addr 0 x.1.length
    setCReg v o.dst (bothLimbs x (fun j a => mulLimb (m.prime j) a (pt.getD j [])))
  | 4 =>
    let k := leNat (bufRead s c (h.table + 8 * o.arg) 8)
    setCReg v o.dst (bothLimbs x (fun j a => scaleLimb (m.prime j) k a))
  | 5 => setCReg v o.dst (zipLimbs m addLimb y.1 x.1, zipLimbs m addLimb y.2 x.2)
  | 6 =>
    let d0 := zipLimbs m mulLimb y.1 x.1
    let d1 := zipLimbs m addLimb (zipLimbs m mulLimb y.1 x.2) (zipLimbs m mulLimb y.2 x.1)
    let d2 := zipLimbs m mulLimb y.2 x.2
    let u := keySwitch s c m key o.addr d2.length h.d d2
    setCReg v o.dst (zipLimbs m addLimb d0 u.1, zipLimbs m addLimb d1 u.2)
  | 7 =>
    let l := y.1.length - 1
    let f := fun (z : List Limb) => mapLimbs (z.take l) (fun j a => rescaleLimb m j l a (z.getD l []))
    setCReg v o.dst (f y.1, f y.2)
  | _ => v

/-- SORUS_REFRESH: C0 after END (R473). -/
def runRefresh (s : State) (j : Job) : State × Reply :=
  let c := j.cmd
  let m := modSet s c
  let v := (rops s c).foldl (runOp s c m (rdesc s c)) (([], []), ([], []))
  (bufWrite s c (param c 16 8) (polyBytes v.1.1 ++ polyBytes v.1.2), { res0 := (refreshSwitches s c).length, res1 := j.chunks })

/-! ### Encryption -/

/-- R475: the stream of a seed, AES-256-CTR from counter block zero. -/
def noiseStream (seed : Bytes) (n : Nat) : Bytes :=
  Config.bytes n (Config.cipherByte 3 false [seed, List.replicate 16 0, [], List.replicate n 0, []])

/-- m in coefficient form, as given or opened from its sealed chunks (R476). -/
def plainLimb (s : State) (c : Cmd) (m : ModSet) (j : Nat) : Limb :=
  if isSealed c then
    (List.range (segsOf m)).flatMap (fun i => chunkData m (streamKey s c) (m.prime j) (chunkBytes s c m (param c 16 8) (j * segsOf m + i)))
  else limbOfBytes (m.prime j) m.size (bufRead s c (param c 16 8 + limbSize m * j) (limbSize m))

/-- R474 on one limb: the polynomial of `pk` at an address, the noise from bit `at`, and what is added. -/
def encryptLimb (s : State) (c : Cmd) (m : ModSet) (stream : Bytes) (pk e : Nat) (j : Nat) (msg : Option Limb) : Limb :=
  let q := m.prime j
  let n := m.size
  let p := limbOfBytes q n (bufRead s c (pk + limbSize m * j) (limbSize m))
  let u := ntt m j (noiseLimb stream 0 1 n q)
  let v := addLimb q (mulLimb q p u) (ntt m j (noiseLimb stream e 21 n q))
  match msg with
  | some a => addLimb q v (ntt m j a)
  | none => v

/-- SORUS_ENCRYPT. -/
def runRingEncrypt (s : State) (j : Job) : State × Reply :=
  let c := j.cmd
  let m := modSet s c
  let n := m.size
  let l := param c 34 1
  let st := noiseStream j.draws ((2 * n + 84 * n + 7) / 8)
  let pk := param c 8 8
  let ct0 := (List.range l).map (fun i => encryptLimb s c m st pk (2 * n) i (some (plainLimb s c m i)))
  let ct1 := (List.range l).map (fun i => encryptLimb s c m st (pk + limbSize m * l) (44 * n) i none)
  (bufWrite s c (param c 24 8) (polyBytes ct0 ++ polyBytes ct1), {})

/-! ### The chunk a job streams next -/

/-- The key switch a refresh is in, and where its chunks begin, given chunks verified. -/
def refreshPlace (m : ModSet) (d : Nat) : List (Nat × Nat × Nat) → Nat → Nat → Option ((Nat × Nat × Nat) × Nat)
  | [], _, _ => none
  | x :: r, k, base =>
    let n := switchChunks m x.1 d
    if k < base + n then some (x, base) else refreshPlace m d r k (base + n)

/-- What the next chunk of a job is: its bytes, what its header must hold, and the first chunk after its step. -/
def nextChunk (s : State) (j : Job) : Option (Bytes × Expect × Nat) :=
  let c := j.cmd
  let m := modSet s c
  if j.op == 0x0502 then
    let l := param c 34 1
    let d := param c 35 1
    some (chunkBytes s c m (param c 24 8) j.chunks, switchExpect m l d (param c 36 4) j.chunks, j.need)
  else if j.op == 0x0503 then
    let d := (rdesc s c).d
    match refreshPlace m d (refreshSwitches s c) j.chunks 0 with
    | none => none
    | some ((l, addr, id), base) =>
      some (chunkBytes s c m addr (j.chunks - base), switchExpect m l d id (j.chunks - base), base + switchChunks m l d)
  else if j.op == 0x0504 then
    some (chunkBytes s c m (param c 16 8) j.chunks,
      { kskId := none, digit := 0, poly := 2, limb := j.chunks / segsOf m, seg := j.chunks % segsOf m, l := param c 34 1, d := none }, j.need)
  else none

end Sys2Proof.Machine
end

