-- ==== Sys2Proof/Machine/Share.lean ====
section
/-! DEFINITION. Share sessions (Tables 11.11 and 11.12, R477 to R486). A register of the session is held as its value: the four
additive shares sum to it, no output depends on the masks, and none of them can be read (R484; log entry 40). -/

namespace Sys2Proof.Machine

/-- SHA-384 of the program. -/
def shareDigest (s : State) : Bytes := s.engines.share.digest
/-- The instructions of a program, 8 bytes each. -/
def progWords (bs : Bytes) : List U64 := (List.range (bs.length / 8)).map (fun i => BitVec.ofNat 64 (recField bs (8 * i) 8))
/-- OP, DST, A, B, IMM. -/
def insOp (w : U64) : Nat := bitsOf w.toNat 0 8
def insDst (w : U64) : Nat := bitsOf w.toNat 8 8
def insA (w : U64) : Nat := bitsOf w.toNat 16 8
def insB (w : U64) : Nat := bitsOf w.toNat 24 8
def insImm (w : U64) : Nat := bitsOf w.toNat 32 32
def onShare (s : State) (h : Share → Share) : State := s.onEngines (fun e => { e with share := h e.share })

/-! ### Program checks (R479, R461) -/

/-- Operations that write DST; that read A; that read B. -/
def insWrites (op : Nat) : Bool := [1, 2, 3, 4, 5, 6, 0x10].contains op
def insReadsA (op : Nat) : Bool := [1, 2, 3, 4, 5, 6, 0x20].contains op
def insReadsB (op : Nat) : Bool := [1, 2, 4].contains op

/-- First fault of an instruction, given the registers written and those an INPUT has named. -/
def insFail (parties : Nat) (wr inp : List Nat) (isLast : Bool) (w : U64) : Option Nat :=
  let op := insOp w
  if !(insWrites op || op == 0x20 || op == 0) || (op == 0) != isLast then some 0
  else if insWrites op && (insDst w > 15 || inp.contains (insDst w)) then some 1
  else if insReadsA op && !wr.contains (insA w) then some 2
  else if insReadsB op && !wr.contains (insB w) then some 3
  else if (op == 0x10 || op == 0x20) && insImm w ≥ parties then some 4
  else none
def shareProgFail (parties : Nat) : List U64 → Nat → List Nat → List Nat → Option Nat
  | [], _, _, _ => none
  | w :: r, i, wr, inp => match insFail parties wr inp r.isEmpty w with
    | some o => some (8 * i + o)
    | none => shareProgFail parties r (i + 1) (if insWrites (insOp w) then insDst w :: wr else wr)
        (if insOp w == 0x10 then insDst w :: inp else inp)

/-! ### Parties and sessions -/

/-- PARTY functions of SHARE_OPEN. -/
def openParties (c : Cmd) : List FnId := (List.range (param c 0 1)).map (fun i => BitVec.ofNat 8 (param c (1 + i) 1))
/-- R478: the first PARTY byte that is not distinct and assigned, or an unused one that is not zero. -/
def partiesRefused (s : State) (c : Cmd) : Option Reply :=
  let ps := openParties c
  ((List.range 4).find? (fun i =>
    if i < ps.length then (ps.take i).contains (ps.getD i 0) || !isAssigned s (ps.getD i 0) else param c (1 + i) 1 != 0)).map (fun i => bad (1 + i))

/-- R485: the session named has ended; with [63] where a memory fault ended the last one (R483). -/
def sessionEnded (s : State) : Reply :=
  { status := Status.shareIncomplete, detail := 2 ^ 62 + flagBit s.engines.share.memFault 63 }
/-- The session a command names is the open one, and the issuer is a party (R478, R485). -/
def sessionRefused (s : State) (c : Cmd) : Option Reply :=
  let x := s.engines.share
  if x.isOpen && param c 0 4 == x.session then when (!x.parties.contains c.fn) (fail Status.notPermitted)
  else if x.opened < 65536 && (param c 0 2 == 0 || param c 0 2 > x.opened) then some (bad 0)
  else some (sessionEnded s)

/-- Party index of a function. -/
def partyIndex (s : State) (f : FnId) : Nat := (s.engines.share.parties.idxOf? f).getD 0
/-- The party indices an INPUT, or the OUTPUTs, of a register name. -/
def inputParty (s : State) (r : Nat) : Option Nat := (s.engines.share.prog.find? (fun w => insOp w == 0x10 && insDst w == r)).map insImm
def outputParties (s : State) (r : Nat) : List Nat := (s.engines.share.prog.filter (fun w => insOp w == 0x20 && insA w == r)).map insImm
/-- R483 [3:0]: party indices whose input is missing. -/
def missingInputs (s : State) : Nat :=
  let x := s.engines.share
  let ps := ((x.prog.filter (fun w => insOp w == 0x10 && !x.filled.contains (insDst w))).map insImm).eraseDups
  (ps.map (fun p => 2 ^ p)).sum

/-- A started share command other than a close. -/
def shareRunning (s : State) : Bool := s.jobs.any (fun j => (j.op == 0x0506 || j.op == 0x0507 || j.op == 0x0508) && j.stage != .fetched)

/-- R480: AAD of an input or an output. -/
def shareAad (s : State) (c : Cmd) : Bytes :=
  leBytes 4 (param c 0 4) ++ [BitVec.ofNat 8 (param c 4 1), BitVec.ofNat 8 (partyIndex s c.fn)] ++ (shareDigest s).take 32
/-- Bytes at BUF. -/
def shareBuf (s : State) : Nat := 28 + 8 * s.engines.share.vlen

/-- SHARE_OPEN. -/
def execShareOpen (c : Cmd) (s : State) : Host.Outcome State Fault Refusal :=
  xci 0x0505 c s (fun s _ =>
    let n := param c 0 1
    let len := param c 16 2
    let bytes := bufRead s c (param c 8 8) len
    unlessRefused s [when (n < 2 || n > 4) (bad 0), partiesRefused s c, when (param c 6 2 < 1 || param c 6 2 > 1024) (bad 6),
        when (bufBad s c (param c 8 8) len false) (bad 8), when (len < 16 || len > 2048 || len % 8 != 0) (bad 16),
        when (!(openParties c).contains c.fn) (fail Status.notPermitted),
        (shareProgFail n (progWords bytes) 0 [] []).map (badDesc 5), when s.engines.share.isOpen (exhausted 5), slicesGone s]
      (withOwn s c 4 32 (fun s1 seed =>
        let k := s1.engines.share.opened + 1
        let dg := Config.sha384 bytes
        let s2 := onShare s1 (fun _ => { isOpen := true, session := k % 2 ^ 16 + c.fn.toNat * 2 ^ 16, opened := k, parties := openParties c, vlen := param c 6 2, prog := progWords bytes, digest := dg, seed := seed })
        (shareEntry s2 0, some { res0 := s2.engines.share.session, res1 := recField dg 0 4, res2 := recField dg 4 4, res3 := recField dg 8 4 }))))

/-- A share job that goes to a slice: it reserves no general scratch; `n` is 1 where a borrowed frond carries its data. -/
def awaitSlice (s : State) (j : Job) (n : Nat) : State × Option Reply :=
  (dispatch (onJob s j.cmd (fun x => { x with reserved := true, need := n })), none)

/-- SHARE_INPUT (R480). -/
def execShareInput (c : Cmd) (s : State) : Host.Outcome State Fault Refusal :=
  xci 0x0506 c s (fun s j =>
    let r := param c 4 1
    let x := s.engines.share
    if x.closing then backToQueue s c
    else unlessRefused s [sessionRefused s c, when (r > 15 || (inputParty s r).isNone) (bad 4), when (bufBad s c (param c 8 8) (shareBuf s) false) (bad 8),
        when (param c 16 4 != shareBuf s) (bad 16), when (paramBytes c 20 32 != (shareDigest s).take 32) (bad 20),
        when (inputParty s r != some (partyIndex s c.fn)) (fail Status.notPermitted),
        when (x.filled.contains r || s.jobs.any (fun k => k.op == 0x0506 && k.stage != .fetched && !k.isFor c && param k.cmd 4 1 == r)) (bad 4),
        slotRefusal s c 6 (param c 6 2) (streamSlot 1), slicesGone s]
      (awaitSlice s j 1))

/-- SHARE_COMPUTE (R481). -/
def execShareCompute (c : Cmd) (s : State) : Host.Outcome State Fault Refusal :=
  xci 0x0507 c s (fun s j =>
    let x := s.engines.share
    if x.closing then backToQueue s c
    else unlessRefused s [sessionRefused s c,
        when (x.computed || s.jobs.any (fun k => k.op == 0x0507 && k.stage != .fetched && !k.isFor c)) (bad 0),
        when (missingInputs s != 0) { status := Status.shareIncomplete, detail := missingInputs s }, slicesGone s]
      (awaitSlice s j 0))

/-- SHARE_REVEAL (R482). -/
def execShareReveal (c : Cmd) (s : State) : Host.Outcome State Fault Refusal :=
  xci 0x0508 c s (fun s j =>
    let r := param c 4 1
    let x := s.engines.share
    if x.closing then backToQueue s c
    else unlessRefused s [sessionRefused s c, when (r > 15 || (outputParties s r).isEmpty) (bad 4),
        when (bufBad s c (param c 8 8) (shareBuf s) true) (bad 8), when (!(outputParties s r).contains (partyIndex s c.fn)) (fail Status.notPermitted),
        when (!x.computed) { status := Status.shareIncomplete, detail := missingInputs s + 2 ^ 61 },
        slotRefusal s c 6 (param c 6 2) (streamSlot 0), slicesGone s]
      (awaitSlice (onJob s c (fun x => { x with drawNeed := 12 })) j 1))

/-- SHARE_CLOSE (R485): it waits for running share commands. -/
def execShareClose (c : Cmd) (s : State) : Host.Outcome State Fault Refusal :=
  xci 0x0509 c s (fun s _ =>
    unlessRefused s [sessionRefused s c]
      (if shareRunning s then (onShare s (fun x => { x with closing := true }), none) else (endShare s 1, some {})))

/-- A close that waited ends the session once no share command runs; it is told so where the session has ended by another cause. -/
def settleCloses (s : State) : State :=
  (s.jobs.filter (fun j => j.op == 0x0509 && j.stage == .waiting)).foldl (fun a j =>
    if !a.engines.share.isOpen then post a j (sessionEnded a) else if shareRunning a then a else post (endShare a 1) j {}) s

/-! ### What they compute -/

/-- A vector of the session. -/
def shareReg (x : Share) (r : Nat) : List U64 := let v := SMap.get [] x.regs r; if v.isEmpty then List.replicate x.vlen 0 else v
def setShareReg (x : Share) (r : Nat) (v : List U64) : Share := { x with regs := SMap.set [] x.regs r v }
/-- IMM as a 64-bit value. -/
def insSx (w : U64) : U64 := (BitVec.ofNat 32 (insImm w)).signExtend 64

/-- One instruction of a share program (Table 11.12), modulo 2^64. -/
def runIns (x : Share) (w : U64) : Share :=
  let a := shareReg x (insA w)
  let b := shareReg x (insB w)
  match insOp w with
  | 0x01 => setShareReg x (insDst w) ((a.zip b).map (fun e => e.1 + e.2))
  | 0x02 => setShareReg x (insDst w) ((a.zip b).map (fun e => e.1 - e.2))
  | 0x03 => setShareReg x (insDst w) (a.map (· * insSx w))
  | 0x04 => setShareReg x (insDst w) ((a.zip b).map (fun e => e.1 * e.2))
  | 0x05 => setShareReg x (insDst w) (a.foldl (· + ·) 0 :: List.replicate (x.vlen - 1) 0)
  | 0x06 => setShareReg x (insDst w) (a.map (· + insSx w))
  | _ => x

/-- SHARE_COMPUTE at its end. -/
def runCompute (s : State) : State × Reply :=
  let n := s.engines.share.prog.length
  (onShare s (fun x => { x.prog.foldl runIns x with computed := true }), { res0 := n })

/-- SHARE_INPUT at its end: IV, ciphertext, tag. -/
def runInput (s : State) (j : Job) : State × Reply :=
  let c := j.cmd
  let n := 8 * s.engines.share.vlen
  let b := bufRead s c (param c 8 8) (28 + n)
  let key := jobKey s c
  let inp := [key, b.take 12, shareAad s c, (b.drop 12).take n, []]
  if b.drop (12 + n) != Config.bytes 16 (Config.tagByte 5 inp) then (s, fail Status.authFailed)
  else
    let v := progWords (Config.bytes n (Config.cipherByte 5 true inp))
    (onShare s (fun x => { setShareReg x (param c 4 1) v with filled := param c 4 1 :: x.filled }), {})

/-- SHARE_REVEAL at its end. -/
def runReveal (s : State) (j : Job) : State × Reply :=
  let c := j.cmd
  let v := (shareReg s.engines.share (param c 4 1)).flatMap (fun w => leBytes 8 w.toNat)
  let key := jobKey s c
  let ct := Config.bytes v.length (Config.cipherByte 5 false [key, j.draws, shareAad s c, v, []])
  let tag := Config.bytes 16 (Config.tagByte 5 [key, j.draws, shareAad s c, ct, []])
  (bufWrite s c (param c 8 8) (j.draws ++ ct ++ tag), { res0 := 28 + v.length })

end Sys2Proof.Machine
end

