-- ==== Sys2Proof/Machine/SorusEvents.lean ====
section
/-! DEFINITION. What happens to a job of a Sorus slice: its scratch, its borrowed frond, its key chunks and its end (chapter 11). -/

namespace Sys2Proof.Machine

/-- Table 11.13: bytes of the working set of a ring job. -/
def workingSet (s : State) (j : Job) : Nat :=
  let c := j.cmd
  let m := modSet s c
  if j.op == 0x0501 then ((opnds s c).map (·.limbs)).sum * limbSize m
  else if j.op == 0x0502 then (4 * param c 34 1 + 3 * m.k) * limbSize m + 65536
  else if j.op == 0x0503 then (8 * (rdesc s c).lTop + 3 * m.k) * limbSize m + 65536
  else if j.op == 0x0504 then 6 * param c 34 1 * limbSize m + 65536
  else 0

/-- R448: granules no job holds and none withdrawn, lowest first. -/
def freeGranules (s : State) : List Nat :=
  let taken := s.jobs.flatMap (·.granules) ++ s.engines.scratchGone
  (List.range 240).filter (fun g => !taken.contains g)

/-- Reserve a waiting ring job's working set, where it can be reserved; its banks are powered at the next epoch boundary (R48). -/
def reserveScratch (s : State) (j : Job) : State :=
  let free := freeGranules s
  let n := granulesFor (workingSet s j)
  if j.stage != .waiting || !isSliceOp j.op || j.reserved || free.length < n then s
  else
    let gs := free.take n
    onJob s j.cmd (fun x => { x with granules := gs, reserved := true })

/-- SCRATCH_RESERVE (R448, R487): a job is dispatched once its whole working set is reserved. -/
def execScratchReserve (fn : FnId) (q : PairId) (tag : BitVec 16) (s : State) : Host.Outcome State Fault Refusal :=
  match hostJob s fn q tag with
  | none => .next s
  | some j => .next (dispatch (reserveScratch s j))

/-- FROND_BORROW (R402, R403, R466, R467): a slice asks for its frond, which it gets in class and tenant order from the idle ones. -/
def execFrondBorrow (slice : Fin 4) (s : State) : Host.Outcome State Fault Refusal :=
  match jobOn s (.slice slice) with
  | none => .next s
  | some j => if wantsBorrow j && mayRun s j then .next (dispatch s) else .next s

/-- The borrowed fronds carry the job's data now: they have its key (R331), and none is preempted (R470). -/
def loanAtWork (s : State) (j : Job) : Bool := j.borrowed.isSome && j.keyed && j.loans.all (fun n => frondState s n == .borrowed && (jobOn s (.frond n)).isNone)

/-- A key-switch step stands, and the frond time it took (R467). -/
def stepEnds (s : State) (c : Cmd) (stop : Nat) : State := onJob s c (fun x => { x with aux2 := stop, stepSpent := x.spent })
/-- A macro-step boundary of a slice (R463): while Sorus stands still its job stops there (R492), else a lattice step runs there (R491). -/
def macroStep (s : State) (j : Job) (n : Fin 4) : State :=
  if sorusOff s then onJob s j.cmd (fun x => { x with stage := match x.stage with | .running v => .preempted v | st => st })
  else if ownLattice s then s
  else latticeAt s n
/-- KSK_CHUNK (R404, R405, R465): the next chunk passes, or the job ends with KSK_AUTH_FAILED. After a step's last chunk the frond is
returned (R467), and after any chunk while Sorus stands still (R492). -/
def execKskChunk (slice : Fin 4) (s : State) : Host.Outcome State Fault Refusal :=
  match jobOn s (.slice slice) with
  | none => .next s
  | some j =>
    if !loanAtWork s j || !mayRun s j || j.chunks ≥ j.need then .next s
    else match nextChunk s j with
      | none => .next s
      | some (b, e, stop) =>
        if !chunkOk (modSet s j.cmd) (streamKey s j.cmd) e b then
          .next (complete s j { status := Status.kskAuthFailed, detail := j.chunks })
        else
          let s1 := onJob s j.cmd (fun x => { x with chunks := j.chunks + 1 })
          if j.chunks + 1 == stop then .next (dispatch (macroStep (stepEnds (giveBack s1 j) j.cmd stop) j slice))
          else if sorusOff s then .next (dispatch (macroStep (giveBack s1 j) j slice))
          else .next (macroStep s1 j slice)

/-- A job on a slice has all it needs to end. -/
def sliceJobReady (s : State) (j : Job) : Bool :=
  if j.op == 0x0506 || j.op == 0x0508 then loanAtWork s j else j.chunks ≥ j.need

/-- The result of a slice job. A share command whose session has ended answers so (R485). -/
def runSlice (s : State) (j : Job) : State × Reply :=
  if j.op == 0x0501 then runKernel s j.cmd
  else if j.op == 0x0502 then runKeyswitch s j
  else if j.op == 0x0503 then runRefresh s j
  else if j.op == 0x0504 then runRingEncrypt s j
  else if !s.engines.share.isOpen || param j.cmd 0 4 != s.engines.share.session then (s, sessionEnded s)
  else if j.op == 0x0506 then runInput s j
  else if j.op == 0x0507 then runCompute s
  else runReveal s j

/-- SORUS_JOB_DONE (R449, R462, Table 11.17): the results, or after a residue mismatch the slice's known-answer set and a re-run that
keeps the granules. -/
def execSorusJobDone (slice : Fin 4) (residueOk pass : Bool) (s : State) : Host.Outcome State Fault Refusal :=
  match jobOn s (.slice slice) with
  | none => .next s
  | some j =>
    if !mayRun s j || !isSliceOp j.op || sorusOff s then .next s
    else if !residueOk then
      if pass then
        .next (dispatch (backInService (abandon s j) (.slice slice)))
      else .next (dispatch (failUnit s (.slice slice) 2))
    else if !sliceJobReady s j then .next s
    else
      let (s1, r) := runSlice s j
      .next (settleCloses (complete s1 j r))

end Sys2Proof.Machine
end

