-- ==== Sys2Proof/Machine/Manifest.lean ====
section
/-! DEFINITION. The image in bank A: its manifest (Table 13.5), its chunks (Table 16.6) and its checks (R144, R559, R560). -/

namespace Sys2Proof.Machine

structure Manifest where
  ok : Bool
  svn : Nat
  version : Nat
  size : Nat
  digest : Bytes
  deriving DecidableEq, Repr

/-- R560: MAGIC, FORMAT, reserved bytes, FIRST_BLOCK, BLOCKS, SIZE. -/
def manifestOf (b : Bytes) : Manifest :=
  let z := fun k n => (List.range n).all (fun i => b.getD (k + i) 0 == 0)
  let x := recField b
  { ok := x 0 4 == 0x514B4D46 && x 4 1 == 1 && z 5 3 && x 15 1 == 0 && 1 ≤ x 16 4 && x 16 4 ≤ 3932160 && x 20 1 == 0 && x 21 1 == 30 && z 22 42 && z 112 400
    svn := x 8 4, version := x 12 4, size := x 16 4, digest := (b.drop 64).take 48 }

/-- Bank A bytes; an erased byte reads 0xFF (R533). -/
def bankRead (s : State) (a n : Nat) : Bytes := Memory.read 0xFF s.flash.bankA a n
def bankWrite (s : State) (a : Nat) (bs : Bytes) : State := s.onFlash (fun f => { f with bankA := Memory.write 0xFF f.bankA a bs })
/-- Erase bank A block `b`: its listed bytes go. -/
def bankErase (s : State) (b : Nat) : State := s.onFlash (fun f => { f with bankA := f.bankA.filter (fun e => e.1 / 131072 != b) })
/-- The manifest page, block 30 page 0. -/
def runningManifest (s : State) : Manifest := manifestOf (bankRead s (30 * 131072) 512)

/-- P and CHUNKS of Table 16.6. -/
def imagePages (size : Nat) : Nat := (size + 511) / 512
def chunksOf (size : Nat) : Nat := imagePages size + 13
/-- Bank A address of a chunk. -/
def chunkAddr (size c : Nat) : Nat :=
  let p := imagePages size
  if c < p then 512 * c else if c < p + 11 then 31 * 131072 + 512 * (c - p) else 30 * 131072 + 512 * (c - p - 11)
/-- Offset of a chunk in an update package. -/
def packageOffset (size c : Nat) : Nat :=
  let p := imagePages size
  if c < p then 6656 + 512 * c else if c < p + 11 then 1024 + 512 * (c - p) else 512 * (c - p - 11)
/-- A chunk of the package at an address: a short last page is filled with 0xFF. -/
def packageChunk (s : State) (addr size c : Nat) : Bytes :=
  let n := if c + 1 == imagePages size then size - 512 * c else 512
  let b := hostRead s 0 (addr + packageOffset size c) n
  b ++ List.replicate (512 - n) 0xFF

/-- R144: the digest over blocks 0 to 29. -/
def imageDigest (s : State) : Bool := Config.sha384 (bankRead s 0 3932160) == (runningManifest s).digest
/-- R144, R559: the ECDSA P-384 key against OTP words 2 to 7, and its signature over the manifest. -/
def imageEcdsa (s : State) : Bool :=
  let k := bankRead s (30 * 131072 + 512) 97
  Config.sha384 k == otpHash s 2 && Config.ecdsaVerify 384 k (bankRead s (30 * 131072) 512) (bankRead s (30 * 131072 + 609) 96)
/-- R144, R559: the ML-DSA-65 key against OTP words 8 to 13, and its signature over the manifest. -/
def imageMlDsa (s : State) : Bool :=
  let k := bankRead s (31 * 131072) 1952
  Config.sha384 k == otpHash s 8 && Config.mlDsaVerify k (bankRead s (30 * 131072) 512) (bankRead s (31 * 131072 + 4 * 512) 3309)
def imageSigned (s : State) : Bool := imageDigest s && imageEcdsa s && imageMlDsa s

/-- A bank A block that is WORN without a standing override (R582). -/
def bankWorn (s : State) : Bool := (List.range 32).any (fun b => wornUnit s ⟨0, b⟩)
/-- The firmware floor, Lichen counter 1. -/
def floorValue (s : State) : Nat := counterValue s.counters 1
def floorSpent (s : State) : Bool := counterSpent s.counters 1
/-- R144, R147: the SVN against the firmware floor. -/
def svnOk (s : State) (svn : Nat) : Bool := if floorSpent s then svn == floorValue s else floorValue s ≤ svn
/-- R144: ROM accepts the image in bank A. -/
def imageAccepted (s : State) : Bool := (runningManifest s).ok && svnOk s (runningManifest s).svn && imageSigned s

end Sys2Proof.Machine
end

