-- ==== Sys2Proof/Machine/Turtis.lean ====
section
/-! DEFINITION. A Turtis port: roster, slots, frames and their MAC, what a node sends in its own slots, beacons, neighbours and their loss
(chapter 16). -/

namespace Sys2Proof.Machine

/-! ### Roster, address, buses (Table 16.5, R682, R683) -/

/-- ADDRESS and BRIDGE of a port's CG_TURTIS word (Table 4.4). -/
def portAddr (x : Port) : Byte := BitVec.ofNat 8 (bitsOf x.word.toNat 8 6)
def portBridge (x : Port) : Bool := bitOf x.word.toNat 26
/-- Long mode; guard in 100 ns units (Table 16.10). -/
def portLong (x : Port) : Bool := bitOf x.word.toNat 1
def guardBand (x : Port) : Int := if portLong x then 400 else 80

def entryOfAddr (s : State) (a : Byte) : Option RosterEntry := s.update.roster.find? (·.address == a)
/-- The roster entry with this node's own identity. -/
def ownEntry (s : State) : Option RosterEntry := s.update.roster.find? (·.identity == identity s)
def RosterEntry.bus (e : RosterEntry) (p : Fin 2) : Byte := if p == 0 then e.busTa else e.busTb
/-- Whether an entry is attached to a bus. -/
def RosterEntry.attached (e : RosterEntry) (b : Byte) : Bool := b != 0xFF && (e.busTa == b || e.busTb == b)
/-- The bus of a port, 0xFF when not attached. -/
def busOf (s : State) (p : Fin 2) : Byte := match ownEntry s with | some e => e.bus p | none => 0xFF
/-- Insertion into an ascending list. -/
def insertAsc (x : Nat) : List Nat → List Nat
  | [] => [x]
  | y :: r => if x ≤ y then x :: y :: r else y :: insertAsc x r
def sortAsc (l : List Nat) : List Nat := l.foldr insertAsc []
/-- Members of a port's bus by ascending address. -/
def busMembers (s : State) (p : Fin 2) : List Byte :=
  (sortAsc ((s.update.roster.filter (fun e => e.attached (busOf s p))).map (·.address.toNat))).map (BitVec.ofNat 8)
/-- R682: the roster lists the source on this bus. -/
def enrolled (s : State) (p : Fin 2) (a : Byte) : Bool := (busMembers s p).contains a
/-- R683: no own entry, or slot 2 empty. -/
def silent (s : State) : Bool := (ownEntry s).isNone || !attrValid (attrOf s 2)
/-- 0 Xemberon, 1 Crozier, 2 ROM. -/
def nodeState (s : State) : Nat := if s.update.crozier then 1 else if s.boot.state == .recoveryLoading || s.boot.state == .recoveryWait then 2 else 0

/-! ### Slots (R667 to R672) -/

def isMaster (x : Port) : Bool := x.master == portAddr x
/-- The owner of a slot in the layout in force. -/
def slotOwner (s : State) (p : Fin 2) (k : Nat) : Option Byte :=
  let x := portOf s p
  if k == 0 then (if x.master == 0xFF then none else some x.master)
  else if !x.layoutUpdate then ((busMembers s p).filter (· != x.master))[k - 1]?
  else if k ≤ 8 then (if x.grant == 0xFF then none else some x.grant)
  else
    let others := (busMembers s p).filter (· != x.grant)
    let m := others.length
    if m ≤ 7 then others[k - 9]? else others[(7 * x.sfn.toNat + (k - 9)) % m]?
/-- Rank of this node among its bus's members. -/
def ownRank (s : State) (p : Fin 2) : Nat := ((busMembers s p).idxOf? (portAddr (portOf s p))).getD 0

/-- A port is at work: started, with its power and its clock (R133, R136, R712). -/
def portWorks (s : State) (p : Fin 2) : Bool := (portOf s p).running && islandWorks s (14 + p.val)
/-- Slot 2 permits the CMAC jobs of the frames on a frond: USAGE SIGN for those sent, VERIFY for those heard, MODES CMAC, ENGINES frond (R666). -/
def macKeyOk (s : State) (usage : Nat) : Bool :=
  let a := attrOf s 2
  attrValid a && attrUsage a usage && attrMode a 6 && attrEngine a 0
/-- The frond that a frame's MAC runs on: one in service, in ROM recovery frond 0 of group G0 (R666). -/
def macFrond (s : State) : Option (Fin 64) :=
  if nodeState s == 2 then (if domainOn s 0 then some 0 else none)
  else fronds.find? (fun n => frondState s n == .inService && domainOn s (groupOf n) && clocked s (.frond n))
/-- The internal CMAC job of a frame can run. -/
def macRuns (s : State) (usage : Nat) : Bool := macKeyOk s usage && (macFrond s).isSome

/-- R666, R669, R675, R680, R683, R686, R712, R716: whether a port may transmit in a slot it owns; a frame whose MAC has no frond waits for the next. -/
def mayTransmit (s : State) (p : Fin 2) : Bool :=
  let x := portOf s p
  macRuns s 2 && portWorks s p && !silent s && !x.nonce.isEmpty && x.listen == 0 && (x.synced || isMaster x) && x.mutedFor == 0 && !x.busFault && s.clocks.refLostAt.isNone

/-! ### Frames (Table 16.1, R665) -/

/-- Bytes from DST to the end of the payload. -/
def frameBytes (dst src : Byte) (pid : Nat) (flags : Byte) (seq : BitVec 16) (payload : Bytes) : Bytes :=
  [dst, src, BitVec.ofNat 8 pid, flags] ++ leBytes 2 seq.toNat ++ leBytes 2 payload.length ++ payload
/-- The MAC of a frame: `nonce` the sender's, `sfn` and `slot` where it is sent, SESSION for DATA and ACK. -/
def frameMac (key nonce : Bytes) (sfn slot : Nat) (sess : Bytes) (frame : Bytes) : Bytes :=
  (Config.cmac key (nonce ++ leBytes 4 sfn ++ leBytes 1 slot ++ sess ++ frame)).take 8
/-- The bytes of a frame on the line (Table 16.1): preamble, SFD, the frame, its MAC and the CRC-32 over DST to the end of the MAC (R885). -/
def frameCrc (frame mac : Bytes) : U32 := crc32 (frame ++ mac)
def frameLine (frame mac : Bytes) : Bytes := [0x55, 0x55, 0x55, 0xD5] ++ frame ++ mac ++ leBytes 4 (frameCrc frame mac).toNat
def withSession (s : State) (pid : Nat) : Bytes := if pid == 0x12 || pid == 0x13 then leBytes 8 s.update.session.toNat else []

/-- What a port has on the line in the present slot. -/
def lineOf (s : State) (p : Fin 2) : Bytes :=
  let x := portOf s p
  match x.sent with
  | none => []
  | some (pid, flags, seq, dst, payload) =>
    let b := frameBytes dst (portAddr x) pid (BitVec.ofNat 8 flags) (BitVec.ofNat 16 seq) payload
    frameLine b (frameMac x.key x.nonce x.sfn.toNat x.slot (withSession s pid) b)

/-- Hypha sources of a port: 0 beacon, 1 own slot start, 2 frame received, 3 neighbour lost. -/
def portEvent (s : State) (p : Fin 2) (k : Nat) : State := raise s [64 + 4 * p.val + k]
def nbrOf (x : Port) (a : Byte) : Nbr := SMap.get {} x.nbrs a.toNat
def onNbr (s : State) (p : Fin 2) (a : Byte) (h : Nbr → Nbr) : State := onPort s p (fun x => { x with nbrs := SMap.mod {} x.nbrs a.toNat h })

/-- R686: the link nonce, drawn from I5, in ROM from counter 0 and Seta. -/
def drawNonce (s : State) (p : Fin 2) : State :=
  if !(portOf s p).nonce.isEmpty then s
  else if nodeState s == 2 then
    onPort s p (fun x => { x with nonce := leBytes 4 (bootEpoch s).toNat ++ leBytes 4 s.clocks.seta, hello := true })
  else match drawOwn s 5 8 with
    | (some n, s1) => onPort s1 p (fun x => { x with nonce := n, hello := true })
    | (none, s1) => s1

/-- R716: a port starts, listens, and takes the key of slot 2. -/
def startPort (s : State) (p : Fin 2) (word : U64) : State :=
  drawNonce (onPort s p (fun x => { restartPort x with running := true, word := word, key := (slotOf s 2).key })) p

/-! ### Neighbours (R678 to R689) -/

/-- Detail of NEIGHBOUR_LOST, NEIGHBOUR_RETURNED and NEIGHBOUR_GONE. -/
def nbrDetail (s : State) (p : Fin 2) (a : Byte) (hw : Nat) : Nat :=
  p.val + a.toNat * 2 ^ 8 + (if s.update.state != 0 then hw * 2 ^ 16 else 0)
def receiverOf (s : State) (p : Fin 2) (a : Byte) : Option Receiver :=
  if (s.update.receivers.any (·.1 == 256 * p.val + a.toNat)) then some (SMap.get {} s.update.receivers (256 * p.val + a.toNat)) else none
def setReceiver (s : State) (p : Fin 2) (a : Byte) (r : Receiver) : State :=
  s.onUpdate (fun u => { u with receivers := SMap.put (256 * p.val + a.toNat) r u.receivers })
def ackedBy (s : State) (p : Fin 2) (a : Byte) : Nat := match receiverOf s p a with | some r => r.highWater | none => 0

/-- NEIGHBOUR_RETURNED (R688, R689). -/
def logReturned (s : State) (p : Fin 2) (a : Byte) (hw : Nat) : State :=
  append (onNbr s p a (fun n => { n with returning := false })) Entry.neighbourReturned (Src.port p.val) (nbrDetail s p a hw)
/-- The return of a neighbour whose HIGH_WATER was awaited is logged with it, or with the last one known when it is lost again. -/
def settleReturned (s : State) (p : Fin 2) (a : Byte) (hw : Nat) : State := if (nbrOf (portOf s p) a).returning then logReturned s p a hw else s
/-- R688: a known address that announces a new nonce opens a new link session; its retry timer is cancelled. In an update session its return is
logged once it has reported its HIGH_WATER. -/
def openLink (s : State) (p : Fin 2) (a : Byte) (nonce : Bytes) : State :=
  let old := nbrOf (portOf s p) a
  let fresh := old.known && old.nonce != nonce
  let s1 := onNbr s p a (fun n => { n with known := true, nonce := nonce, lost := n.lost && !fresh, gone := n.gone && !fresh, empty := 0 })
  if !fresh then s1
  else if (portOf s p).feed.on && (receiverOf s p a).any (fun r => r.status != 1 && r.status != 2) then onNbr s1 p a (fun n => { n with returning := true })
  else logReturned s1 p a (ackedBy s p a)

/-- R687: three consecutive empty slots. A lost master loses the nonce its frames were sent under (R686); a lost feeder its grant (R697). -/
def loseNbr (s : State) (p : Fin 2) (a : Byte) : State :=
  let s1 := onNbr (settleReturned s p a (ackedBy s p a)) p a (fun n => { n with lost := true })
  let s2 := onPort s1 p (fun x => { x with
    nonce := if x.master == a then [] else x.nonce, grant := if isMaster x && x.grant == a then 0xFF else x.grant,
    grantQueue := x.grantQueue.filter (· != a) })
  append (portEvent s2 p 3) Entry.neighbourLost (Src.port p.val) (nbrDetail s p a (ackedBy s p a))

/-- A slot of a neighbour ended without a frame from it. -/
def emptySlotOf (s : State) (p : Fin 2) (a : Byte) : State :=
  let n := nbrOf (portOf s p) a
  let s1 := onNbr s p a (fun n => { n with empty := n.empty + 1 })
  if n.known && !n.lost && n.empty + 1 ≥ 3 then loseNbr s1 p a else s1

/-- Count one intrusion of a source on the master (R678 to R680): at most one per superframe; 4 within 64 earn a TRIM, 4 more within 64 after it a
MUTE. -/
def countIntrusion (s : State) (p : Fin 2) (a : Byte) : State :=
  let x := portOf s p
  let n := nbrOf x a
  let now := x.sfn.toNat
  if !isMaster x || n.intrusions.head? == some now then s
  else
    let recent := (now :: n.intrusions).filter (fun k => now < k + 64)
    if recent.length < 4 then onNbr s p a (fun n => { n with intrusions := recent })
    else if n.trimmedAt == 0 || n.trimmedAt + 63 ≤ now then
      let s1 := onNbr s p a (fun n => { n with intrusions := [], trimmedAt := now + 1 })
      append (onPort s1 p (fun x => { x with trims := (x.trims ++ [(a, n.offset)]).take 4 })) Entry.turtisTrim (Src.port p.val)
        (a.toNat * 2 ^ 8 + (n.offset % 2 ^ 16).toNat * 2 ^ 16)
    else
      let s1 := onNbr s p a (fun n => { n with intrusions := [], trimmedAt := 0 })
      append (onPort s1 p (fun x => { x with mutes := (x.mutes.filter (fun (e : Byte × Nat) => e.1 != a) ++ [(a, 1024)]).take 4 })) Entry.turtisMute (Src.port p.val)
        (a.toNat * 2 ^ 8 + 1024 * 2 ^ 16)

/-- An intrusion this node has seen itself: counted for its next report, and at once where it is the master. -/
def seeIntrusion (s : State) (p : Fin 2) (a : Byte) (offset : Int) : State :=
  let s1 := onPort s p (fun x => { x with intrusionCount := satAdd 0xFFFF x.intrusionCount 1 })
  countIntrusion (onNbr s1 p a (fun n => { n with seen := min 255 (n.seen + 1), offset := offset })) p a

/-- R684: an unenrolled source; STRANGER at most once a minute per port. -/
def seeStranger (s : State) (p : Fin 2) (a : Byte) : State :=
  let x := portOf s p
  let since := x.strangersSince + 1
  let due := match x.strangerAt with | none => true | some t => s.clocks.seta ≥ t + 6000000000
  let s1 := onPort s p (fun x => { x with
    strangers := satAdd 0xFFFF x.strangers 1, strangersSince := if due then 0 else since, strangerAt := if due then some s.clocks.seta else x.strangerAt })
  if due then append s1 Entry.stranger (Src.port p.val) (a.toNat + min 0xFFFFFFFF since * 2 ^ 16) else s1

/-- R685. -/
def checkRosterGen (s : State) (p : Fin 2) (a : Byte) (gen : Nat) : State :=
  if gen == s.update.rosterGen.toNat || (nbrOf (portOf s p) a).mismatch then s
  else append (onNbr s p a (fun n => { n with mismatch := true })) Entry.rosterMismatch (Src.port p.val) (a.toNat * 2 ^ 8 + gen * 2 ^ 32)

/-! ### What a node sends -/

/-- The intrusion report: at most four sources seen since the last one. -/
def reportOf (x : Port) : Bytes :=
  let l := (x.nbrs.filter (fun e => e.2.seen != 0)).take 4
  BitVec.ofNat 8 l.length :: l.flatMap (fun e => [BitVec.ofNat 8 e.1, BitVec.ofNat 8 e.2.seen])
def clearReport (s : State) (p : Fin 2) : State :=
  let l := ((portOf s p).nbrs.filter (fun e => e.2.seen != 0)).take 4
  l.foldl (fun a e => onNbr a p (BitVec.ofNat 8 e.1) (fun n => { n with seen := 0 })) s

/-- Table 16.3. -/
def beaconPayload (s : State) (p : Fin 2) : Bytes :=
  let x := portOf s p
  leBytes 4 x.sfn.toNat ++ [x.heir.getD (portAddr x), (if x.layoutUpdate then 1 else 0), x.grant, BitVec.ofNat 8 x.trims.length, BitVec.ofNat 8 x.mutes.length, 0] ++
    x.nonce ++ leBytes 4 s.update.rosterGen.toNat ++ x.trims.flatMap (fun e => e.1 :: leBytes 2 (e.2 % 2 ^ 16).toNat) ++
    x.mutes.flatMap (fun e => e.1 :: leBytes 2 e.2)
/-- HELLO. -/
def helloPayload (s : State) (p : Fin 2) : Bytes :=
  let x := portOf s p
  x.nonce ++ identity s ++ leBytes 4 s.update.rosterGen.toNat ++ leBytes 4 s.boot.svn.toNat ++ leBytes 4 s.boot.version.toNat ++
    [BitVec.ofNat 8 (nodeState s)] ++ leBytes 8 (if s.update.state == 0 then 0 else s.update.session.toNat) ++ reportOf x
/-- OFFER: the session's image, or the running one. -/
def offerPayload (s : State) (p : Fin 2) : Bytes :=
  let u := s.update
  let m := runningManifest s
  let own := nodeState s == 1 || u.isLocal
  let sz := if own then u.size else m.size
  leBytes 8 u.session.toNat ++ leBytes 4 (if own then u.svn.toNat else m.svn) ++ leBytes 4 (if own then u.version.toNat else m.version) ++ leBytes 4 sz ++
    leBytes 2 (chunksOf sz) ++ [BitVec.ofNat 8 ((if own then 0 else 1) + (if (portOf s p).feed.pull then 2 else 0)), 0] ++
    (if own then u.digest else m.digest) ++ leBytes 2 (if own then u.highWater else chunksOf m.size)
/-- ACK of a receiver. -/
def ackPayload (s : State) (p : Fin 2) : Bytes :=
  let l := s.update.acks.take 16
  leBytes 8 s.update.session.toNat ++ leBytes 2 s.update.highWater ++ [BitVec.ofNat 8 l.length] ++
    l.flatMap (fun e => leBytes 2 e.1 ++ [BitVec.ofNat 8 e.2]) ++ reportOf (portOf s p)

/-- Put a frame on the line in the present slot. -/
def send (s : State) (p : Fin 2) (pid flags : Nat) (dst : Byte) (payload : Bytes) : State :=
  onPort s p (fun x => { x with sent := some (pid, flags, x.seq.toNat, dst, payload), seq := x.seq + 1 })
/-- A half of a chunk: its SEQ is the chunk index (Table 16.1). -/
def sendHalf (s : State) (p : Fin 2) (c k : Nat) (payload : Bytes) : State :=
  onPort s p (fun x => { x with sent := some (0x12, 1 + 2 * k, c, 0xFF, payload), seq := x.seq + 1 })

/-! ### Feeding (R696 to R704) -/

/-- The image a node feeds: CHUNKS, and how far it may feed (R703). -/
def feedChunks (s : State) : Nat := if nodeState s == 1 then s.update.chunks else chunksOf (runningManifest s).size
def feedLimit (s : State) : Nat := if nodeState s == 1 then s.update.highWater else feedChunks s
def feedSize (s : State) : Nat := if nodeState s == 1 then s.update.size else (runningManifest s).size
/-- Receivers of a port, and those in progress. -/
def portReceivers (s : State) (p : Fin 2) : List (Nat × Receiver) := s.update.receivers.filter (fun e => e.1 / 256 == p.val)
def lowestHigh (s : State) (p : Fin 2) : Option Nat :=
  ((portReceivers s p).filter (fun e => e.2.status == 0)).foldl (fun m e => match m with | none => some e.2.highWater | some k => some (min k e.2.highWater)) none
/-- Every receiver has reached CHUNKS, declined or gone, and the node holds the whole image. -/
def feedDone (s : State) (p : Fin 2) : Bool :=
  (portReceivers s p).all (fun e => e.2.status != 0 && e.2.status != 4) && feedLimit s == feedChunks s
/-- R702: chunks not acknowledged for 8 superframes. -/
def overdue (x : Port) : List Nat := (x.feed.sentAt.filter (fun e => e.2 + 7 ≤ x.sfn.toNat)).map (·.1)
/-- The chunk to send next. -/
def nextToFeed (s : State) (p : Fin 2) : Option Nat :=
  let x := portOf s p
  match lowestHigh s p with
  | none => none
  | some low => match (x.feed.resend ++ overdue x).head? with
    | some c => some c
    | none => if x.feed.next < low + 32 && x.feed.next < feedLimit s then some x.feed.next else none
def onFeed (s : State) (p : Fin 2) (h : Feed → Feed) : State := onPort s p (fun x => { x with feed := h x.feed })
/-- One half of a chunk as it stands in bank A (R699). -/
def halfChunk (s : State) (c k : Nat) : Bytes := bankRead s (chunkAddr (feedSize s) c + 256 * k) 256

/-- R697: ask for a grant; the master of the bus queues itself. -/
def askGrant (s : State) (p : Fin 2) : State :=
  let x := portOf s p
  if isMaster x then onPort s p (fun x => { x with grantQueue := x.grantQueue ++ [portAddr x] })
  else onPort s p (fun x => { x with toSend := x.toSend ++ [(0x04, x.master, leBytes 8 s.update.session.toNat)] })
/-- R696: begin to feed a port whose word and whose roster entry allow the bridge. -/
def beginFeed (s : State) (p : Fin 2) (pull : Bool) : State :=
  let x := portOf s p
  if !x.running || silent s || x.feed.on || (!pull && (!portBridge x || !((ownEntry s).any (·.bridge)) || busOf s p == 0xFF)) then s
  else askGrant (onFeed s p (fun _ => { on := true, pull := pull })) p

/-- Frames of the grant holder in slots 1 to 8: OFFER, END once every receiver is done, which ends the grant (R697), else a chunk in the two slots of
a pair (R699). -/
def sendGranted (s : State) (p : Fin 2) : State :=
  let x := portOf s p
  if !x.feed.offered then
    let members := (busMembers s p).filter (fun a => a != portAddr x && (nbrOf x a).known && !(nbrOf x a).lost)
    let s1 := onFeed s p (fun f => { f with offered := true })
    let s2 := (members.filter (fun m => match receiverOf s p m with | some r => r.status == 3 | none => true)).foldl (fun a m => setReceiver a p m {}) s1
    send s2 p 0x10 1 0xFF (offerPayload s p)
  else if feedDone s p then
    onPort (send s p 0x15 1 0xFF (leBytes 8 s.update.session.toNat)) p (fun x => { x with
      feed := { x.feed with on := false }, grant := if isMaster x then 0xFF else x.grant })
  else match x.feed.half with
    | some c => onFeed (sendHalf s p c 1 (halfChunk s c 1)) p (fun f => { f with half := none })
    | none => match (if x.slot % 2 == 1 then nextToFeed s p else none) with
      | none => send s p 0x02 1 0xFF (helloPayload s p)
      | some c =>
        onFeed (sendHalf s p c 0 (halfChunk s c 0)) p (fun f => { f with
          half := some c, resend := f.resend.filter (· != c), sentAt := SMap.set 0 f.sentAt c (x.sfn.toNat + 1), next := if c == f.next then c + 1 else f.next })

/-- What a node sends in a slot of its own: CLAIM, HELLO of a new session, a waiting frame, an ACK of chunks, and a HELLO when it has nothing
else (log entry 42). -/
def sendOwn (s : State) (p : Fin 2) : State :=
  let x := portOf s p
  if x.claimDue then send (onPort s p (fun x => { x with claimDue := false })) p 0x03 1 x.master x.nonce
  else if x.hello then clearReport (send (onPort s p (fun x => { x with hello := false })) p 0x02 1 0xFF (helloPayload s p)) p
  else match x.toSend with
    | (pid, dst, pl) :: r => send (onPort s p (fun x => { x with toSend := r })) p pid 1 dst pl
    | [] =>
      if !s.update.acks.isEmpty && p == s.update.srcPort then
        clearReport ((send s p 0x13 1 s.update.source (ackPayload s p)).onUpdate (fun u => { u with acks := u.acks.drop 16 })) p
      else if s.update.pulling && p == s.update.srcPort && s.update.source == 0xFF then
        send s p 0x14 1 (if optField s 9 2 6 0x3F == 0x3F then 0xFF else BitVec.ofNat 8 (optField s 9 2 6 0x3F))
          (leBytes 4 (floorValue s) ++ leBytes 2 s.update.highWater ++ (match s.update.progress with | some r => r.digest | none => List.replicate 48 0))
      else clearReport (send s p 0x02 1 0xFF (helloPayload s p)) p

/-- The frame of the present slot. -/
def sendInSlot (s : State) (p : Fin 2) : State :=
  let x := portOf s p
  if x.slot == 0 then
    let s1 := send s p 0x01 1 0xFF (beaconPayload s p)
    onPort s1 p (fun x => { x with trims := [], master := x.heir.getD x.master, heir := none })
  else if x.layoutUpdate && x.slot ≤ 8 && x.feed.on then sendGranted s p
  else sendOwn s p

/-! ### The slot timer -/

/-- R681, R669: beacons missed; a node stops at 8, and becomes master after its rank in further superframes. -/
def missBeacon (s : State) (p : Fin 2) : State :=
  let s1 := onPort s p (fun x => { x with
    missed := x.missed + 1, beacons := 0, synced := x.synced && x.missed + 1 < 8, nonce := if x.missed + 1 == 8 && x.synced then [] else x.nonce })
  let x := portOf s1 p
  if x.missed ≥ 8 + ownRank s p && x.listen ≤ 1 && !silent s then
    onPort (drawNonce s1 p) p (fun x => { x with master := portAddr x, missed := 0, heir := none })
  else s1

/-- The slot that ends is charged to its owner (R687). -/
def closeSlot (s : State) (p : Fin 2) : State :=
  let x := portOf s p
  let s1 := if x.slot == 0 && !isMaster x && !x.heard then missBeacon s p else s
  match slotOwner s p x.slot with
  | some a => if a == portAddr x || x.heard then s1 else emptySlotOf s1 p a
  | none => s1

/-- R697: the master grants the feeder that asked first, once the one before has ended or is lost. -/
def grantNext (x : Port) : Port :=
  if x.grant != 0xFF && !(nbrOf x x.grant).lost then x
  else match x.grantQueue with
    | a :: r => { x with grant := a, grantQueue := r, layoutUpdate := true }
    | [] => { x with grant := 0xFF, layoutUpdate := false }

/-- R710: the new roster applies; a source that becomes unenrolled is dropped. -/
def applyRoster (s : State) : State :=
  match s.update.rosterNext with
  | none => s
  | some (r, g) =>
    let s1 := s.onUpdate (fun u => { u with roster := r, rosterGen := g, rosterNext := none })
    (List.finRange 2).foldl (fun a p =>
      onPort a p (fun x => { x with nbrs := x.nbrs.filter (fun e => enrolled s1 p (BitVec.ofNat 8 e.1)) })) s1

/-- A superframe starts on a port: deferred CG_TURTIS and roster, the key of slot 2, mutes, grants, a fault's retry. -/
def startSuperframe (s : State) (p : Fin 2) : State :=
  let s1 := applyRoster (applyDeferred s (.turtis p))
  let y := portOf s1 p
  let s2 := if y.nonce.isEmpty && y.running && (y.synced || isMaster y || y.listen != 0) then drawNonce s1 p else s1
  onPort s2 p (fun x =>
    let y := if isMaster x then grantNext { x with mutes := (x.mutes.map (fun e => (e.1, e.2 - 1))).filter (fun e => e.2 != 0) } else x
    { y with sfn := y.sfn + 1, listen := y.listen - 1, mutedFor := y.mutedFor - 1, key := (slotOf s 2).key, shift := 0, busFault := y.busFault && (y.sfn.toNat + 1) % 64 != 0 })

end Sys2Proof.Machine
end

