-- ==== Sys2Proof/Machine/Update.lean ====
section
/-! DEFINITION. The field update: its commands, the hand-over to Crozier and what Crozier and ROM write to bank A (R690 to R708). -/

namespace Sys2Proof.Machine

/-! ### Commands -/

/-- The reply of UPDATE_START. -/
def updateReply (s : State) : Reply :=
  { res0 := s.update.session.toNat % 2 ^ 32, res1 := s.update.session.toNat / 2 ^ 32, res2 := s.update.chunks }
/-- Xemberon stops fetching and drains (R692, R693); the ports keep their link sessions. -/
def beginHandover (s : State) : State :=
  (s.onUpdate (fun u => { u with state := 1, handoverAt := s.clocks.seta })).onBoot (fun b => { b with state := .updating })
/-- R696: offer the session on every port but the one it came in by. -/
def relayFeeds (s : State) (except : Option (Fin 2)) : State :=
  (List.finRange 2).foldl (fun a p => if except == some p then a else beginFeed a p false) s

/-- SESSION (R690). -/
def newSession (s : State) : U64 :=
  BitVec.ofNat 64 ((bootEpoch s).toNat + (s.update.starts + 1) % 2 ^ 16 * 2 ^ 32 + bitsOf (reg s (glKey 0x220)) 8 6 * 2 ^ 48)

/-- UPDATE_START (R691, R709). -/
def execUpdateStart (c : Cmd) (s : State) : Host.Outcome State Fault Refusal :=
  xci 0x0A01 c s (fun s _ =>
    let pkg := param c 0 8
    let isLocal := bitOf (param c 8 1) 0
    let relay := bitOf (param c 8 1) 1
    let m := if isLocal then manifestOf (hostRead s 0 pkg 512) else runningManifest s
    unlessRefused s [when (pkg % 8 != 0 || (!isLocal && pkg != 0)) (bad 0), when (param c 8 1 > 3 || (!isLocal && !relay)) (bad 8), confirmBad c 10 0x0A01,
        when (s.update.state != 0) (fail Status.updateActive), when (floorSpent s) (fail Status.floorSpent), when (!m.ok) (fail Status.manifestBad),
        when (m.svn < floorValue s) (fail Status.belowFloor), when s.flash.crozierTorn (fail Status.flashFailed), when (bankWorn s) (fail Status.wornBlock),
        when (relay && silent s) (fail Status.notEnrolled)]
      (let s1 := s.onUpdate (fun u => { u with
        session := newSession s, starts := u.starts + 1, svn := BitVec.ofNat 32 m.svn, version := BitVec.ofNat 32 m.version, size := m.size, chunks := chunksOf m.size, digest := m.digest, highWater := if isLocal then 0 else chunksOf m.size, isLocal := isLocal, relay := relay, pkg := pkg, receivers := [], acks := [], erased := [], held := [], chunkData := [], progress := none, state := 3 })
      let s2 := if isLocal then beginHandover s1 else s1
      (if relay then relayFeeds s2 none else s2, none)))

/-- Receivers in a status. -/
def countReceivers (s : State) (p : Nat → Bool) : Nat := (s.update.receivers.filter (fun e => p e.2.status)).length
/-- STATE of UPDATE_STATUS: FEEDING once the node holds every chunk. -/
def updateState (s : State) : Nat := let u := s.update; if u.state == 2 && u.highWater == u.chunks then 3 else u.state

/-- UPDATE_STATUS. -/
def execUpdateStatus (c : Cmd) (s : State) : Host.Outcome State Fault Refusal :=
  xci 0x0A02 c s (fun s _ =>
    let u := s.update
    (s, some { res0 := updateState s + u.cause % 256 * 2 ^ 8 + u.highWater % 2 ^ 16 * 2 ^ 16, res1 := u.chunks, res2 := u.session.toNat % 2 ^ 32, res3 := countReceivers s (· == 1) + countReceivers s (fun k => k == 0 || k == 4) * 2 ^ 8 + countReceivers s (· == 2) * 2 ^ 16 + countReceivers s (· == 3) * 2 ^ 24 }))

/-- Addresses heard in the last 64 superframes. -/
def heardMask (x : Port) : Nat := ((x.nbrs.filter (fun e => e.2.heardAt != 0 && x.sfn.toNat + 1 < e.2.heardAt + 64 && e.1 < 64)).map (fun e => 2 ^ e.1)).sum

/-- CHAIN_STATUS. -/
def execChainStatus (c : Cmd) (s : State) : Host.Outcome State Fault Refusal :=
  xci 0x0A03 c s (fun s _ =>
    unlessRefused s [when (param c 0 1 > 1) (bad 0), when (param c 1 1 > 1) (bad 1)]
      (let p : Fin 2 := if param c 0 1 == 0 then 0 else 1
      let x := portOf s p
      let own := ((List.range 16).find? (fun k => slotOwner s p k == some (portAddr x))).getD 0
      if param c 1 1 == 0 then
        (s, some {
          res0 := (portAddr x).toNat + flagBit (isMaster x) 6 + flagBit (x.synced || isMaster x) 7 + x.master.toNat % 64 * 2 ^ 8 + own * 2 ^ 16 +
            flagBit (x.mutedFor != 0) 20 + flagBit x.layoutUpdate 21
          res1 := heardMask x % 2 ^ 32, res2 := heardMask x / 2 ^ 32, res3 := min 0xFFFF x.edge + min 0xFFFF x.intrusionCount * 2 ^ 16 })
      else
        (s, some { res0 := min 0xFFFFFFFF x.crcErrors, res1 := min 0xFFFFFFFF x.macFails, res2 := min 0xFFFFFFFF x.badPids, res3 := min 0xFFFF x.strangers + min 0xFFFF x.collisions * 2 ^ 16 })))

/-- A roster as its bytes give it. -/
def rosterOf (bs : Bytes) : List RosterEntry :=
  (List.range (bs.length / 24)).map (fun i =>
    let e := (bs.drop (24 * i)).take 24
    { address := e.getD 0 0, busTa := e.getD 1 0, busTb := e.getD 2 0, bridge := (e.getD 3 0).getLsbD 0, identity := e.drop 8 })
/-- R713: an address, or bytes that must be zero, outside Table 16.5. -/
def rosterBad (bs : Bytes) : Bool :=
  (List.range (bs.length / 24)).any (fun i =>
    let e := (bs.drop (24 * i)).take 24
    (e.getD 0 0).toNat > 0x3F || (e.getD 3 0).toNat > 1 || (e.drop 4).take 4 != [0, 0, 0, 0])

/-- ROSTER_SET (R710, R713). -/
def execRosterSet (c : Cmd) (s : State) : Host.Outcome State Fault Refusal :=
  xci 0x0A04 c s (fun s j =>
    let n := param c 8 1
    let bs := hostRead s 0 (param c 0 8) (24 * n)
    let r := rosterOf bs
    unlessRefused s [when (param c 0 8 % 8 != 0 || rosterBad bs) (bad 0), when (n < 1 || n > 64 || decide (¬ (r.map (·.address)).Nodup)) (bad 8), confirmBad c 16 0x0A04,
        when (s.update.state != 0) (fail Status.updateActive)]
      (onJob (flashCommand s j (configUnit s)) c (fun x => { x with draws := bs }), none))

/-- The roster's record is written; it applies at the next superframe start, at once when no port runs. -/
def commitRoster (s : State) (j : Job) : State × Reply :=
  let s1 := (appendConfig s).onUpdate (fun u => { u with rosterNext := some (rosterOf j.draws, BitVec.ofNat 32 (param j.cmd 12 4)) })
  let s2 := if (List.finRange 2).any (fun p => (portOf s1 p).running) then s1 else applyRoster s1
  (s2, { res0 := leNat ((Config.sha384 j.draws).take 4) })

/-! ### Writing bank A (R694, R695, R700, R703, R704) -/

/-- The bytes of a chunk to be programmed: from the package, or as received. -/
def chunkBytesNow (s : State) (c : Nat) : Bytes :=
  let u := s.update
  if u.isLocal then packageChunk s u.pkg u.size c else Memory.read 0xFF u.chunkData (512 * c) 512
/-- A chunk is at hand. -/
def chunkHere (s : State) (c : Nat) : Bool := s.update.isLocal || SMap.get 0 s.update.held c == 3
def writingBank (s : State) : Bool := s.update.crozier || s.update.pulling
def openErase (s : State) : Bool := s.flash.ops.any (fun o => match o.use with | .crozierErase _ => true | _ => false)
def openPage (s : State) : Bool := s.flash.ops.any (fun o => match o.use with | .crozierPage _ => true | _ => false)

/-- The next block to erase: 30, 31 and 0 first, then the one after the block being programmed (R695). -/
def blockToErase (s : State) : Option Nat :=
  let u := s.update
  let ahead := if u.highWater < imagePages u.size then u.highWater / 256 + 1 else 29
  ([30, 31, 0] ++ (List.range 29).map (· + 1)).find? (fun b => !u.erased.contains b && (b ≥ 30 || b ≤ ahead))
/-- The page programmed next may be programmed: its block is erased, and for block 30 every image block too. -/
def mayProgram (s : State) (c : Nat) : Bool :=
  let u := s.update
  let b := chunkAddr u.size c / 131072
  u.erased.contains b && u.erased.contains 30 && u.erased.contains 31 && u.erased.contains 0 &&
    (b != 30 || (List.range 30).all u.erased.contains)

/-- R698: the ACCEPT of a receiver once its first blocks are erased. -/
def sendAccept (s : State) (p : Fin 2) (dst : Byte) (sess result hw : Nat) : State :=
  onPort s p (fun x => { x with toSend := x.toSend ++ [(0x11, dst, leBytes 8 sess ++ [BitVec.ofNat 8 result, 0] ++ leBytes 2 hw)] })

/-- R706: the member stops and resets into recovery. -/
def updateFailed (s : State) (cause : Nat) : State :=
  let u := s.update
  let s1 := append s Entry.updateFailed Src.crozier (cause + u.highWater % 2 ^ 16 * 2 ^ 16 + u.session.toNat % 2 ^ 32 * 2 ^ 32)
  deviceReset s1 .pcieKept 5

/-- R706: the manifest chunk must be the image the OFFER named. -/
def manifestDiffers (s : State) (bs : Bytes) : Bool :=
  let u := s.update
  let m := manifestOf bs
  !m.ok || m.svn != u.svn.toNat || m.version != u.version.toNat || m.size != u.size || m.digest != u.digest

/-- R161: ROM closes the Turtis path: its port and the fronds of its MACs lose their power, and the PCIe path stays open. -/
def closeTurtisPath (s : State) : State :=
  let p := s.update.srcPort
  let s1 := setDomain (setDomain (onPort s p (fun _ => {})) (45 + p.val) false) 0 false
  (s1.onUpdate (fun u => { u with pulling := false, source := 0xFF, chunks := 0 })).onBoot (fun b => { b with
    rcvTurtis := false, rcvPcieOnly := true, state := .recoveryWait })
/-- R159: the image of a source is not accepted: the source is skipped, and the pull asks the others; the path keeps the recovery (R158). -/
def pullFailed (s : State) : State :=
  (s.onUpdate (fun u => { u with skip := u.source :: u.skip, source := 0xFF, chunks := 0, size := 0, highWater := 0, erased := [], held := [], chunkData := [], progress := none })).onBoot
    (fun b => { b with state := .recoveryWait, rcvResult := 6 })
/-- R159: the whole image is pulled; ROM applies R144 before it boots it. -/
def pullFinished (s : State) : State :=
  if imageAccepted s then
    (s.onUpdate (fun u => { u with pulling := false })).onBoot (fun b => { b with state := .romChecks, verified := true, powerUp := 3, rcvResult := 0 })
  else pullFailed s
/-- R704: everything is written and fed. Crozier appends UPDATE_WRITTEN and resets; an Xemberon that only fed closes the session. -/
def finishUpdate (s : State) : State :=
  let u := s.update
  let feeding := (List.finRange 2).any (fun p => (portOf s p).feed.on)
  if u.pulling then (if u.chunks != 0 && u.highWater == u.chunks then pullFinished s else s)
  else if u.crozier && u.highWater == u.chunks && !feeding then
    deviceReset (append s Entry.updateWritten Src.crozier (u.chunks + u.session.toNat % 2 ^ 32 * 2 ^ 32)) .pcieKept 5
  else if u.state == 3 && !u.crozier && !feeding && !(s.jobs.any (fun j => j.op == 0x0A01 && j.stage == .waiting)) then
    s.onUpdate (fun u => { u with state := 0 })
  else s

/-- What Crozier, or ROM in a pull, does next: an erase ahead, and the page at HIGH_WATER. -/
def writeNext (s : State) : State :=
  if !writingBank s || s.update.chunks == 0 then s
  else
    let u := s.update
    let s1 := match blockToErase s with
      | some b => if openErase s then s else openFlash s ⟨0, b⟩ true (.crozierErase b)
      | none => s
    let s2 := if u.acceptDue && u.erased.contains 0 && u.erased.contains 30 && u.erased.contains 31 then
        (sendAccept s1 u.srcPort u.source u.session.toNat 0 u.highWater).onUpdate (fun u => { u with acceptDue := false })
      else s1
    if u.highWater < u.chunks && chunkHere s2 u.highWater && mayProgram s2 u.highWater && !openPage s2 then
      if u.highWater == imagePages u.size + 11 && !u.isLocal && manifestDiffers s2 (chunkBytesNow s2 u.highWater) then
        (if u.crozier then updateFailed s2 0x0A else pullFailed s2)
      else openFlash s2 ⟨0, chunkAddr u.size u.highWater / 131072⟩ false (.crozierPage u.highWater)
    else s2

/-- A bank A block is erased. -/
def crozierErased (s : State) (b : Nat) : State := writeNext ((bankErase s b).onUpdate (fun u => { u with erased := b :: u.erased }))
/-- The page of chunk `c` is programmed and verified. -/
def pageProgrammed (s : State) (c : Nat) : State :=
  let s1 := bankWrite s (chunkAddr s.update.size c) (chunkBytesNow s c)
  writeNext (s1.onUpdate (fun u => { u with
    highWater := c + 1, held := SMap.del c u.held, chunkData := u.chunkData.filter (fun e => e.1 / 512 != c), acks := if u.isLocal then u.acks else u.acks ++ [(c, 0)], progress := u.progress.map (fun r => { r with highWater := c + 1 }) }))

/-- The progress record of a session (R694). -/
def progressOf (u : Update) : Progress := ⟨u.session, u.svn, u.version, u.size, u.chunks, u.digest, u.highWater⟩
/-- CROZIER_HANDOVER (R692): commands still running after the drain complete with SERVICE_LIMITED and release nothing; Crozier starts with
the progress record and the first erases. -/
def execCrozierHandover (s : State) : Host.Outcome State Fault Refusal :=
  if s.update.state != 1 || s.boot.state != .updating then .next s
  else
    let left := s.jobs.filter (fun j => j.op != 0x0A01 && !(j.cmd.fn == 0 && [0x00, 0x08, 0x0A, 0x0D].contains (range j.op)))
    let s1 := if left.isEmpty then s else atInstant s (s.update.handoverAt + 10000000)
    let s2 := left.foldl (fun a j => complete a j (fail Status.serviceLimited)) s1
    let s3 := dropInvocations s2 (fun _ => true)
    let s4 := (appendConfig s3).onUpdate (fun u => { u with
      state := 2, crozier := true, progress := some (progressOf u) })
    let s5 := match s4.jobs.find? (fun j => j.op == 0x0A01 && j.stage == .waiting) with
      | some j => post s4 j (updateReply s4)
      | none => s4
    .next (writeNext s5)

end Sys2Proof.Machine
end

