-- ==== Sys2Proof/Machine/TurtisFrames.lean ====
section
/-! DEFINITION. Frames heard on Turtis, frames discarded, slots and the retry timer (chapter 16). -/

namespace Sys2Proof.Machine

/-- A frame discarded for a bad MAC (Table 16.13). -/
def badMac (s : State) (p : Fin 2) : State := onPort s p (fun x => { x with macFails := x.macFails + 1 })

/-- The bytes of a frame heard, from DST to the end of the payload. -/
def heardBytes (f : Frame) (pid : Nat) : Bytes := frameBytes f.dst f.src pid f.flags f.seq f.payload
/-- The MAC a frame must carry. -/
def expectedMac (s : State) (f : Frame) (pid : Nat) (nonce : Bytes) (sfn : Nat) (sess : Bytes) : Bytes :=
  frameMac (portOf s f.port).key nonce sfn f.slot.val sess (heardBytes f pid)

/-- Heard in a slot: the neighbour is present, and the slot is not empty where it is the owner's. -/
def markHeard (s : State) (f : Frame) : State :=
  onNbr (onPort s f.port (fun x => { x with heard := x.heard || slotOwner s f.port x.slot == some f.src })) f.port f.src
    (fun n => { n with empty := 0, heardAt := (portOf s f.port).sfn.toNat + 1 })

/-- A frame heard (R664, R676, R677, R680): CRC, enrolment, MAC, which takes a frond (R666), the guard band, and then what it says. A frame to
another node is not acted on. -/
def hear (s : State) (f : Frame) (pid : Nat) (nonce : Bytes) (sfn : Nat) (sess : Bytes) (body : State → State) : Host.Outcome State Fault Refusal :=
  let p := f.port
  let x := portOf s p
  let g := guardBand x
  if !portWorks s p then .next s
  else if f.crc != frameCrc (heardBytes f pid) f.mac then .next (onPort s p (fun x => { x with crcErrors := x.crcErrors + 1 }))
  else if !enrolled s p f.src then .next (seeStranger s p f.src)
  else if (x.mutes.any (·.1 == f.src)) then .next s
  else if nonce.isEmpty || !macRuns s 3 || f.mac != expectedMac s f pid nonce sfn sess then .next (badMac s p)
  else if f.offset < -g || g < f.offset then .next (seeIntrusion s p f.src f.offset)
  else
    let s1 := if 4 * f.offset < -g || g < 4 * f.offset then onPort s p (fun x => { x with edge := satAdd 0xFFFF x.edge 1 }) else s
    let s2 := portEvent (markHeard s1 f) p (if pid == 0x01 then 0 else 2)
    if f.dst == 0xFF || f.dst == portAddr x then .next (body s2) else .next s2

/-- The nonce a node has announced. -/
def heardNonce (s : State) (f : Frame) : Bytes := (nbrOf (portOf s f.port) f.src).nonce
/-- A frame of a link session that is open. -/
def hearKnown (s : State) (f : Frame) (pid : Nat) (sess : Bytes) (body : State → State) : Host.Outcome State Fault Refusal :=
  hear s f pid (heardNonce s f) (portOf s f.port).sfn.toNat sess body

/-- Intrusions a node reports to the master (R678): the report begins at byte `k`. -/
def takeReport (s : State) (f : Frame) (k : Nat) : State :=
  let n := min 4 (recField f.payload k 1)
  (List.range n).foldl (fun a i => if recField f.payload (k + 2 + 2 * i) 1 == 0 then a
    else countIntrusion a f.port (BitVec.ofNat 8 (recField f.payload (k + 1 + 2 * i) 1))) s

/-! ### Beacon and enrolment -/

/-- A 16-bit two's complement value. -/
def int16 (n : Nat) : Int := if n ≥ 2 ^ 15 then (n : Int) - 2 ^ 16 else n

/-- What a beacon sets (Table 16.3, R668, R669, R674, R675, R679, R680): the superframe starts with it, it names its sender's link nonce, and a node that
may transmit again draws its own (R686). A node that beacons itself yields to a lower address alone. -/
def takeBeacon (s : State) (f : Frame) : State :=
  let b := f.payload
  let p := f.port
  let x := portOf s p
  let me := portAddr x
  let master := BitVec.ofNat 8 (recField b 4 1)
  let nt := min 4 (recField b 7 1)
  let nm := min 4 (recField b 8 1)
  let trims := (List.range nt).map (fun i => (BitVec.ofNat 8 (recField b (22 + 3 * i) 1), int16 (recField b (23 + 3 * i) 2)))
  let mutes := (List.range nm).map (fun i => (BitVec.ofNat 8 (recField b (22 + 3 * nt + 3 * i) 1), recField b (23 + 3 * nt + 3 * i) 2))
  if isMaster x && me.toNat < f.src.toNat then s
  else
    let s1 := onPort s p (fun x => { x with
      slot := 0, heard := true, sfn := BitVec.ofNat 32 (recField b 0 4), master := master, heir := none, layoutUpdate := recField b 5 1 == 1, grant := BitVec.ofNat 8 (recField b 6 1), beacons := x.beacons + 1, missed := 0, synced := x.synced || x.beacons + 1 ≥ 2, mutes := mutes.filter (fun e => e.1 != me), mutedFor := match mutes.find? (fun e => e.1 == me) with | some e => e.2 | none => x.mutedFor, shift := match trims.find? (fun e => e.1 == me) with | some e => e.2 | none => x.shift, claimDue := decide (me.toNat < master.toNat) && x.listen == 0 })
    let s2 := openLink s1 p f.src ((b.drop 10).take 8)
    let s3 := if (portOf s2 p).synced && (portOf s2 p).nonce.isEmpty then drawNonce s2 p else s2
    checkRosterGen s3 p f.src (recField b 18 4)

/-- BEACON. -/
def execBeacon (f : Frame) (s : State) : Host.Outcome State Fault Refusal :=
  hear s f 0x01 ((f.payload.drop 10).take 8) (recField f.payload 0 4) [] (fun s => takeBeacon s f)

/-- HELLO (R682, R685, R688): a new nonce of a known address opens a new link session; a returned neighbour is offered the session again. -/
def takeHello (s : State) (f : Frame) : State :=
  let b := f.payload
  let p := f.port
  let old := nbrOf (portOf s p) f.src
  let nonce := b.take 8
  if (entryOfAddr s f.src).any (fun e => e.identity == (b.drop 8).take 16) then
    let fresh := old.known && old.nonce != nonce
    let s2 := openLink s p f.src nonce
    let s3 := if (portOf s2 p).feed.on && !(receiverOf s2 p f.src).any (fun r => r.status == 1 || r.status == 2) && (fresh || (receiverOf s2 p f.src).isNone) then
        onFeed (setReceiver s2 p f.src {}) p (fun x => { x with offered := false })
      else s2
    takeReport (checkRosterGen s3 p f.src (recField b 24 4)) f 45
  else seeStranger s p f.src
/-- HELLO. -/
def execHello (f : Frame) (s : State) : Host.Outcome State Fault Refusal :=
  hear s f 0x02 (f.payload.take 8) (portOf s f.port).sfn.toNat [] (fun s => takeHello s f)

/-- CLAIM (R668): the master names the lower address in its next beacon. -/
def execTurtisClaim (f : Frame) (s : State) : Host.Outcome State Fault Refusal :=
  hear s f 0x03 (f.payload.take 8) (portOf s f.port).sfn.toNat [] (fun s =>
    onPort s f.port (fun x => if isMaster x && f.src.toNat < (portAddr x).toNat then { x with heir := some f.src } else x))

/-! ### Update frames -/

/-- GRANT_REQ (R697): requests are granted in the order they arrive. -/
def execGrantReq (f : Frame) (s : State) : Host.Outcome State Fault Refusal :=
  hearKnown s f 0x04 [] (fun s =>
    onPort s f.port (fun x => if isMaster x && x.grant != f.src && !x.grantQueue.contains f.src then { x with grantQueue := x.grantQueue ++ [f.src] } else x))

/-- END (R697): the grant is over. -/
def execTurtisEnd (f : Frame) (s : State) : Host.Outcome State Fault Refusal :=
  hearKnown s f 0x15 [] (fun s =>
    onPort s f.port (fun x => if isMaster x && x.grant == f.src then { x with grant := 0xFF } else x))

/-- The fields of an OFFER. -/
structure Offered where
  session : U64
  svn : Nat
  version : Nat
  size : Nat
  chunks : Nat
  flags : Nat
  digest : Bytes
def offeredOf (b : Bytes) : Offered :=
  { session := BitVec.ofNat 64 (recField b 0 8), svn := recField b 8 4, version := recField b 12 4, size := recField b 16 4, chunks := recField b 20 2, flags := recField b 22 1, digest := (b.drop 24).take 48 }

/-- The same image runs. -/
def isCurrent (s : State) (o : Offered) : Bool :=
  let m := runningManifest s
  s.boot.svn.toNat == o.svn && s.boot.version.toNat == o.version && m.digest == o.digest
/-- R698, Table 16.7: the first result that applies. -/
def offerResult (s : State) (o : Offered) : Nat :=
  if s.update.state != 0 && s.update.session == o.session && s.update.crozier then 0
  else if isCurrent s o then 1
  else if s.update.state != 0 || s.power.safeHold.isSome then 4
  else if floorSpent s then 3
  else if o.size < 1 || o.size > 3932160 || o.chunks != chunksOf o.size then 7
  else if o.svn < floorValue s then 2
  else if s.flash.crozierTorn then 6
  else if bankWorn s then 5
  else 0

/-- The session's fields from an accepted OFFER. -/
def joinSession (s : State) (f : Frame) (o : Offered) (hw : Nat) : State :=
  s.onUpdate (fun u => { u with
    session := o.session, svn := BitVec.ofNat 32 o.svn, version := BitVec.ofNat 32 o.version, size := o.size, chunks := o.chunks, digest := o.digest, highWater := hw, isLocal := false, relay := true, receivers := [], acks := [], held := [], chunkData := [], source := f.src, srcPort := f.port, acceptDue := true })

/-- The page of a chunk reads as programmed: a byte of it is not erased. -/
def pageThere (s : State) (size c : Nat) : Bool := (bankRead s (chunkAddr size c) 512).any (· != 0xFF)
/-- R708: where ROM resumes a pull: at the recorded HIGH_WATER where every page below it reads as programmed. -/
def pullHigh (s : State) (o : Offered) : Nat :=
  match s.update.progress with
  | some r =>
    if r.digest == o.digest && (s.boot.cause == 1 || s.boot.cause == 7) && (List.range (min r.highWater o.chunks)).all (pageThere s o.size) then
      min r.highWater o.chunks
    else 0
  | none => 0
/-- R159, R708: ROM takes the source that answered its pull; a source below the floor is skipped. -/
def takePull (s : State) (f : Frame) (o : Offered) : State :=
  let want := optField s 9 2 6 0x3F
  if s.update.source != 0xFF || s.update.skip.contains f.src || (want != 0x3F && f.src.toNat != want) then s
  else if o.svn < floorValue s || o.size < 1 || o.size > 3932160 || o.chunks != chunksOf o.size || bankWorn s then
    s.onUpdate (fun u => { u with skip := f.src :: u.skip })
  else
    let hw := pullHigh s o
    let s1 := joinSession s f o hw
    let done := if hw == 0 then [] else (List.range 32).filter (fun b => b ≥ 30 || b < (hw + 255) / 256)
    writeNext ((s1.onUpdate (fun u => { u with erased := done })).onBoot (fun b => { b with rcvTurtis := true, state := .recoveryLoading }))

/-- An OFFER to a running node (R698). -/
def takeOffer (s : State) (f : Frame) (o : Offered) : State :=
  let r := offerResult s o
  if r != 0 then
    append (sendAccept s f.port f.src o.session.toNat r 0) Entry.updateDeclined Src.xemberon
      (r + f.src.toNat * 2 ^ 8 + o.session.toNat % 2 ^ 32 * 2 ^ 32)
  else if s.update.crozier then
    sendAccept (s.onUpdate (fun u => { u with source := f.src, srcPort := f.port })) f.port f.src o.session.toNat 0 s.update.highWater
  else relayFeeds (beginHandover ((joinSession s f o 0).onUpdate (fun u => { u with erased := [] }))) (some f.port)

/-- OFFER. -/
def execOffer (f : Frame) (s : State) : Host.Outcome State Fault Refusal :=
  hearKnown s f 0x10 [] (fun s =>
    let o := offeredOf f.payload
    if s.update.pulling then (if bitOf o.flags 1 then takePull s f o else s)
    else if bitOf o.flags 1 || !(xemberon s || s.update.crozier) then s
    else takeOffer s f o)

/-- ACCEPT (R698): the receiver's result and its HIGH_WATER. -/
def execAcceptFrame (f : Frame) (s : State) : Host.Outcome State Fault Refusal :=
  hearKnown s f 0x11 [] (fun s =>
    let p := f.port
    if !(portOf s p).feed.on || recField f.payload 0 8 != s.update.session.toNat then s
    else
      let hw := recField f.payload 10 2
      let ok := recField f.payload 8 1 == 0
      let st := if !ok then 2 else if hw == feedChunks s then 1 else 0
      let s1 := setReceiver (settleReturned s p f.src hw) p f.src { highWater := hw, status := st }
      if ok then onFeed s1 p (fun x => { x with next := (lowestHigh s1 p).getD x.next, half := none }) else s1)

/-- The bytes of a chunk already programmed. -/
def programmedHalf (s : State) (c k : Nat) : Bytes := bankRead s (chunkAddr s.update.size c + 256 * k) 256
def addAck (s : State) (c st : Nat) : State := s.onUpdate (fun u => { u with acks := u.acks.filter (fun e => e.1 != c) ++ [(c, st)] })

/-- A half chunk at a receiver (R700, R701). -/
def takeData (s : State) (f : Frame) : State :=
  let u := s.update
  let c := f.seq.toNat
  let k := if f.flags.getLsbD 1 then 1 else 0
  if c ≥ u.chunks || f.payload.length != 256 then s
  else if c < u.highWater then
    if f.payload != programmedHalf s c k then addAck s c 3
    else if k == 1 && !(u.acks.any (fun e => e.1 == c && e.2 == 3)) then addAck s c 0 else s
  else if c ≥ u.highWater + 32 then s
  else
    let mask := SMap.get 0 u.held c ||| (k + 1)
    let s1 := s.onUpdate (fun u => { u with held := SMap.set 0 u.held c mask, chunkData := Memory.write 0xFF u.chunkData (512 * c + 256 * k) f.payload })
    let s2 := if k == 1 && mask != 3 then addAck s1 c 2 else if mask == 3 && c > u.highWater then addAck s1 c 1 else s1
    writeNext s2

/-- DATA. -/
def execTurtisData (f : Frame) (s : State) : Host.Outcome State Fault Refusal :=
  hearKnown s f 0x12 (withSession s 0x12) (fun s =>
    if writingBank s && !s.update.isLocal && f.src == s.update.source && f.port == s.update.srcPort then takeData s f else s)

/-- One chunk's status in an ACK (R701, R702). -/
def takeStatus (s : State) (p : Fin 2) (c st : Nat) : State :=
  onFeed s p (fun x =>
    if st == 2 then { x with resend := if x.resend.contains c then x.resend else x.resend ++ [c], sentAt := SMap.set 0 x.sentAt c 0 }
    else if st == 0 || st == 1 then { x with sentAt := SMap.set 0 x.sentAt c 0, resend := x.resend.filter (· != c) }
    else x)

/-- ACK: what a receiver has, the statuses of its chunks, and the intrusions it saw (R702, R704). A MISMATCH ends a session of this node, not a pull that
it serves (R706, R707). -/
def takeAck (s : State) (f : Frame) : State :=
  let b := f.payload
  let p := f.port
  let n := min 16 (recField b 10 1)
  let l := (List.range n).map (fun i => (recField b (11 + 3 * i) 2, recField b (13 + 3 * i) 1))
  let s0 := takeReport s f (11 + 3 * n)
  if !(portOf s p).feed.on || recField b 0 8 != s.update.session.toNat then s0
  else
    let hw := recField b 8 2
    let s1 := setReceiver s0 p f.src { highWater := hw, status := if hw == feedChunks s then 1 else 0 }
    let s2 := l.foldl (fun a e => takeStatus a p e.1 e.2) s1
    if s.update.state != 0 && l.any (fun e => e.2 == 3) then updateFailed s2 9 else finishUpdate s2
/-- ACK. -/
def execTurtisAck (f : Frame) (s : State) : Host.Outcome State Fault Refusal :=
  hearKnown s f 0x13 (withSession s 0x13) (fun s => takeAck s f)

/-- PULL_REQ (R707): the node offers its running image, or Crozier the session's, in a grant. -/
def execPullReq (f : Frame) (s : State) : Host.Outcome State Fault Refusal :=
  hearKnown s f 0x14 [] (fun s =>
    if !(xemberon s || s.update.crozier) then s else onFeed (beginFeed s f.port true) f.port (fun x => { x with offered := false }))

/-! ### Discards, slots, timers -/

/-- DISCARDED_FRAME (R664, R673, R676, R677, Table 16.13). -/
def execDiscardedFrame (port : Fin 2) (why : Discard) (s : State) : Host.Outcome State Fault Refusal :=
  if !portWorks s port then .next s
  else match why with
  | .crc => .next (onPort s port (fun x => { x with crcErrors := x.crcErrors + 1 }))
  | .stranger a => .next (seeStranger s port a)
  | .mac _ => .next (badMac s port)
  | .pid => .next (onPort s port (fun x => { x with badPids := x.badPids + 1 }))
  | .slotWindow a d => .next (if enrolled s port a then seeIntrusion s port a d else seeStranger s port a)
  | .collision => .next (onPort s port (fun x => { x with collisions := satAdd 0xFFFF x.collisions 1, sent := none }))
  | .lineBusy =>
    let n := (portOf s port).busy + 1
    let s1 := onPort s port (fun x => { x with busy := n, busyMark := true })
    if n ≥ 16 && !(portOf s port).busFault then
      .next (append (onPort s1 port (fun x => { x with busFault := true })) Entry.busFault (Src.port port.val) (n * 2 ^ 8))
    else .next s1

/-- R709: an UPDATE_START with LOCAL = 0 completes after its first OFFER is sent. -/
def offerSent (s : State) (p : Fin 2) : State :=
  match (portOf s p).sent with
  | some (0x10, _) => match s.jobs.find? (fun j => j.op == 0x0A01 && j.stage == .waiting) with
    | some j => if s.update.isLocal then s else post s j (updateReply s)
    | none => s
  | _ => s

/-- SLOT_START (R667, R670 to R675, R681, R687): the slot that ends is charged, a superframe begins at slot 0, and the owner transmits. -/
def execSlotStart (port : Fin 2) (echoOk : Bool) (s : State) : Host.Outcome State Fault Refusal :=
  if !portWorks s port then .next s
  else
    let s1 := closeSlot s port
    let k := ((portOf s1 port).slot + 1) % 16
    let s2 := onPort s1 port (fun x => { x with slot := k, heard := false, sent := none, busy := if x.busyMark then x.busy else 0, busyMark := false })
    let s3 := if k == 0 then startSuperframe s2 port else s2
    let x := portOf s3 port
    if !x.running || slotOwner s3 port k != some (portAddr x) || !mayTransmit s3 port then .next s3
    else
      let s4 := portEvent s3 port 1
      if !echoOk then .next (onPort s4 port (fun x => { x with collisions := satAdd 0xFFFF x.collisions 1 }))
      else .next (finishUpdate (offerSent (sendInSlot s4 port) port))

/-- R689, Table 16.12: a node of the roster that may bridge to the gone node's other bus. -/
def takenOver (s : State) (p : Fin 2) (a : Byte) : Bool :=
  match entryOfAddr s a with
  | none => false
  | some e =>
    let d := if e.busTa == busOf s p then e.busTb else e.busTa
    s.update.roster.any (fun x => x.address != a && x.bridge && x.attached d)

/-- RETRY_TIMER_EXPIRY (R689). -/
def execRetryTimerExpiry (port : Fin 2) (addr : Byte) (s : State) : Host.Outcome State Fault Refusal :=
  let n := nbrOf (portOf s port) addr
  if !n.lost || n.gone then .next s
  else
    let s1 := onNbr s port addr (fun n => { n with gone := true })
    let s2 := match receiverOf s1 port addr with
      | some r => setReceiver s1 port addr { r with status := 3 }
      | none => s1
    .next (finishUpdate (append s2 Entry.neighbourGone (Src.port port.val)
      (nbrDetail s port addr (ackedBy s port addr) + (if s.update.state != 0 && takenOver s port addr then 2 ^ 32 else 0))))

end Sys2Proof.Machine
end

