-- ==== Sys2Proof/Machine/Vein.lean ====
section
/-! DEFINITION. Vein: the frame of a key load, the requesters in turn, Medulla's check at the load, acceptance and retry (R317, R330 to R333,
R353, R354). -/

namespace Sys2Proof.Machine

/-! ### The frame (R330) -/

/-- The parity bits of a word, one for each byte: 1 where the byte has an odd number of ones (DESIGN CHOICE, log entry 85). -/
def parityOf (w : U64) : Byte :=
  BitVec.ofNat 8 ((List.range 8).map (fun i =>
    if ((List.range 8).filter (fun k => w.getLsbD (8 * i + k))).length % 2 == 1 then 2 ^ i else 0)).sum
def VeinBeat.ok (b : VeinBeat) : Bool := b.parity == parityOf b.data
def beatOf (w : U64) : VeinBeat := ⟨w, parityOf w⟩

/-- Payload beats of a key's TYPE; a TYPE 0x06 key always has nine. -/
def payloadBeats (ty : Nat) : Nat := if ty == 6 then 9 else (typeBits ty 0 + 63) / 64
/-- The key in beats, byte 0 in bits [7:0] of the first (DESIGN CHOICE, log entry 85), with zeros after LENGTH. -/
def payloadWords (n : Nat) (key : Bytes) : List U64 :=
  (List.range n).map (fun i => BitVec.ofNat 64 (leNat ((key.drop (8 * i)).take 8)))
def wordBytes (ws : List U64) : Bytes := ws.flatMap (fun w => leBytes 8 w.toNat)
/-- The check word: over the payload, the slot (2 bytes), the destination (1 byte) and the sequence number (4 bytes), little-endian (log entry 85). -/
def veinCheck (ws : List U64) (slot : Nat) (u : UnitRef) (seq : U32) : U64 :=
  crc64 (wordBytes ws ++ leBytes 2 slot ++ leBytes 1 (unitKey u) ++ leBytes 4 seq.toNat)
/-- What Medulla sends for a slot: the payload beats, and the check beat. -/
def slotWords (s : State) (slot : Nat) : List U64 := payloadWords (payloadBeats (attrType (attrOf s slot))) (slotOf s slot).key
def veinPayload (s : State) (slot : Nat) : List VeinBeat := (slotWords s slot).map beatOf
def veinTail (s : State) (slot : Nat) (u : UnitRef) : VeinBeat := beatOf (veinCheck (slotWords s slot) slot u s.medulla.veinSeq)
/-- R331: what the engine makes of the beats that arrived: the key, where every parity and the check word agree. -/
def veinAccepts (s : State) (slot : Nat) (u : UnitRef) (payload : List VeinBeat) (check : VeinBeat) : Option Bytes :=
  let a := attrOf s slot
  let ws := payload.map (·.data)
  if payload.length == payloadBeats (attrType a) && payload.all VeinBeat.ok && VeinBeat.ok check && check.data == veinCheck ws slot u s.medulla.veinSeq then
    some ((wordBytes ws).take (typeBytes (attrType a) (attrLength a)))
  else none

/-! ### Requesters (R332) -/

/-- The job whose key a unit asks for. -/
def veinJob (s : State) (u : UnitRef) : Option Job := s.jobs.find? (fun j => j.keyUnits.contains u && !j.copies.any (·.1 == unitKey u))
/-- Fronds, Calyptra units and slices from the one whose turn it is. -/
def veinOrder (s : State) : List UnitRef :=
  let us := allUnits.take 70
  us.drop (s.medulla.veinTurn % 70) ++ us.take (s.medulla.veinTurn % 70)
/-- The load that Medulla grants next. -/
def veinNext (s : State) : Option (UnitRef × Job) := (veinOrder s).findSome? (fun u => (veinJob s u).map (fun j => (u, j)))

/-! ### The load -/

/-- Check 5 of Table 8.5 for a job (R317). -/
def keyUse (j : Job) : Nat → Bool :=
  if isFrondOp j.op then frondKeyOk j.op (pieceOf j.cmd) else if j.op == 0x0C01 then installKeyOk
  else if isSliceOp j.op then streamSlot (if j.op == 0x0508 then 0 else 1) else pkKeyOk j.op (pkOf j.cmd)
/-- The slot a job loads, and Medulla's check of it. -/
def keySlot (j : Job) : Nat := j.slotsLoaded.headD 0
def loadRefused (s : State) (j : Job) : Option Reply := slotChecks s j.cmd 0 (keySlot j) false (keyUse j)

/-- R353, R354: an attempt to a unit failed; the third retires the unit, and the job is re-run on another. -/
def veinFailed (s : State) (u : UnitRef) (j : Job) : State :=
  if SMap.get 0 j.veinFails (unitKey u) + 1 ≥ 3 then dispatch (failUnit s u 3)
  else onJob s j.cmd (fun x => { x with veinFails := SMap.mod 0 x.veinFails (unitKey u) (· + 1) })
/-- The unit has its copy; a two-pass job whose units all have theirs goes on to its pass one (R376). -/
def veinLoaded (s : State) (u : UnitRef) (j : Job) (key : Bytes) : State :=
  let j1 := { j with copies := (unitKey u, key) :: j.copies, veinFails := SMap.set 0 j.veinFails (unitKey u) 0 }
  let s1 := onJob s j.cmd (fun _ => j1)
  if j1.keyed && segments j1 != 0 && j1.passOne.isNone && mayRun s1 j1 then passOne s1 j1 else s1
/-- Vein moves on: the turn goes to the unit after the one served, and the next load has the next sequence number. -/
def veinServed (s : State) (u : UnitRef) : State :=
  s.onMedulla (fun m => { m with veinTurn := (unitKey u + 1) % 70, veinSeq := m.veinSeq + 1 })
/-- VEIN_LOAD: the load granted next, and the beats that reached its engine. A slot that Medulla refuses ends the job (R317). -/
def execVeinLoad (payload : List VeinBeat) (check : VeinBeat) (s : State) : Host.Outcome State Fault Refusal :=
  match veinNext s with
  | none => .next s
  | some (u, j) =>
    if s.clocks.lost.getLsbD 11 || s.clocks.isolated.getLsbD 11 then .next s
    else match loadRefused s j with
      | some r => .next (complete s j r)
      | none => match veinAccepts s (keySlot j) u payload check with
        | some key => .next (veinLoaded (veinServed s u) u j key)
        | none => .next (veinFailed (veinServed s u) u j)

/-- The Medulla port forced to IDLE abandons the load under way, which the engine retries (R892). -/
def abandonLoad (s : State) : State :=
  match veinNext s with
  | none => s
  | some (u, j) => veinFailed (veinServed s u) u j

end Sys2Proof.Machine
end

