-- ==== Sys2Proof/Machine/Tamper.lean ====
section
/-! DEFINITION. Tamper alarms, the responses of Table 17.3, the latch, escalation and the end of a suspension, and the critical state
machines (chapter 17). -/

namespace Sys2Proof.Machine

/-! ### Streams of the shield and of the loops (R717 to R719, R722) -/

/-- A 31-stage LFSR with feedback x^31 + x^28 + 1, after so many steps. -/
def lfsrAfter : Nat → BitVec 31 → BitVec 31
  | 0, x => x
  | n + 1, x => lfsrAfter n ((x <<< 1) ||| (if x.getLsbD 30 ^^ x.getLsbD 27 then 1 else 0))
/-- Steps of the streams since their seeding: one each 10 ns with VIN in range, one each 1 µs on VBAK alone. -/
def streamSteps (s : State) : Nat := s.tamper.vinTicks - s.tamper.seededAt.1 + (s.tamper.vbakTicks - s.tamper.seededAt.2) / 100
/-- A stream's register, and what drives a net: stream n mod 4. -/
def stream (s : State) (i : Nat) : BitVec 31 := lfsrAfter (streamSteps s) (SMap.get 0 s.tamper.lfsr i)
def netDrive (s : State) (n : Nat) : Bool := (stream s (n % 4)).getLsbD 30
/-- The pin TAMPER_OUTn: its own register, one step each 10 µs, or each 1 ms on VBAK alone. -/
def tamperOut (s : State) (n : Fin 4) : Bool :=
  (lfsrAfter (s.tamper.vinTicks / 1000 + s.tamper.vbakTicks / 100000) (SMap.get 0 s.tamper.loops n.val)).getLsbD 30

/-! ### Levels and the latch -/

/-- The level in force of a source: its CG_TAMPER field, 0 for the default of Table 17.1 (R724). -/
def policyLevel (s : State) (n : Nat) : Nat :=
  let v := bitsOf (reg s (glKey 0x280) + reg s (glKey 0x284) * 2 ^ 32) (3 * n) 3
  if v == 0 then defaultLevel n else v
/-- JTAG is locked in FIELD and RETIRED (Table 4.10), but for a token whose scope opens it. -/
def jtagLocked (s : State) : Bool := 2 ≤ lifecycle s && !(s.boot.debug && s.boot.debugScope.getLsbD 0)
/-- Sources watched (Table 17.7): some of them on VBAK alone; authorised JTAG is no TEST_ACCESS. -/
def watched (s : State) (n : Nat) : Bool :=
  s.power.sentinel && (n != 7 || jtagLocked s) && (s.power.state != .off || [0, 1, 4, 5, 8, 9, 10, 11, 12].contains n)

/-- Fields of the latch word (Table 17.4). -/
def latchFirst (w : U64) : Nat := bitsOf w.toNat 24 8
def latchLevel (w : U64) : Nat := bitsOf w.toNat 16 3
def latchSources (w : U64) : Nat := bitsOf w.toNat 0 13
def latchLogged (w : U64) : Bool := w.getLsbD 14
/-- R733: a source latches with its level; the first one is named. -/
def latchWith (w : U64) (n lvl : Nat) : U64 :=
  let first := if latchSources w == 0 && !w.getLsbD 13 then n else latchFirst w
  let top := max lvl (latchLevel w)
  BitVec.ofNat 64 (bitsOf (w ||| (1 <<< n : U64)).toNat 0 16 + top * 2 ^ 16 + bitsOf w.toNat 19 5 * 2 ^ 19 + first * 2 ^ 24)
def setLatchBit (s : State) (b : Nat) : State := s.onTamper (fun t => { t with latch := t.latch ||| (1 <<< b : U64) })
def latchAlarm (s : State) (n lvl : Nat) : State :=
  setStatusBit (s.onTamper (fun t => { t with latch := latchWith t.latch n lvl })) 0 true
/-- R733, R735: a level-1 alarm or a notice waits for READY. -/
def holdNotice (s : State) (n lvl : Nat) : State :=
  s.onTamper (fun t => { t with notices := t.notices ||| (1 <<< (2 * n + (if lvl == 5 then 1 else 0)) : BitVec 26) })

/-- State code of TAMPER (Table 17.12). -/
def alarmState (s : State) : Nat :=
  if s.power.state == .off then 4 else if s.power.state == .hibernate then 3
  else if s.boot.state == .updating && s.update.crozier then 7
  else if !running s then 5 else if s.power.quiesced then 6
  else if s.power.state == .doze then 2 else if s.power.state == .trim then 1 else 0
/-- DETAIL of TAMPER and TAMPER_NOTICE; the entry is made in the tick of the alarm. -/
def tamperDetail (n lvl : Nat) (esc : Bool) (st aborted : Nat) : Nat :=
  n + lvl * 2 ^ 8 + flagBit esc 11 + st * 2 ^ 16 + min 255 aborted * 2 ^ 24

/-- R735: one entry per bit of the pending-notice register. -/
def heldEntry (s : State) (i : Nat) : State :=
  if !s.tamper.notices.getLsbD i then s
  else
    let lvl := if i % 2 == 0 then 1 else 5
    append s (if lvl == 1 then Entry.tamper else Entry.tamperNotice) (Src.tamper (i / 2)) (tamperDetail (i / 2) lvl false 8 0 + 0xFFFFFFFF * 2 ^ 32)
def logHeld (s : State) : State := ((List.range 26).foldl heldEntry s).onTamper (fun t => { t with notices := 0 })

/-! ### Level 1 and 2 -/

/-- A job of an engine that holds a unit. -/
def onEngine (j : Job) : Bool := j.onUnits.any (fun u => match u with | .pinna _ => false | _ => true)
/-- A key made or imported whose slot is not written yet (Table 17.8). -/
def slotUnwritten (j : Job) : Bool := (j.op == 0x0201 || j.op == 0x0202) && j.stage == .flash
/-- A test slot under way ends; its unit is as before the slot and due for it again (Table 18.8). -/
def cutSlots (s : State) : State :=
  (allUnits ++ [UnitRef.entropy, UnitRef.wrap]).foldl (fun a u =>
    if inSlot a u then onUnit a u (fun x => { x with st := .inService, forced := true }) else a) s
/-- Table 17.8 at level 1 or 2: running and preempted jobs are aborted and not re-run. -/
def abortJobs (s : State) (src : Nat) : State × Nat :=
  let l := s.jobs.filter (fun j => onEngine j || slotUnwritten j)
  (l.foldl (fun a j => fnEvent (complete a j { status := Status.tamperAbort, detail := src }) j.cmd.fn 4) (cutSlots s), l.length)
/-- Jobs fetched and not yet started on a unit that a suspension refuses. -/
def notStarted (s : State) (j : Job) : Bool :=
  j.stage == .waiting && (isFrondOp j.op || wantsCalyptra j || isSliceOp j.op || j.op == 0x0C03) && isSuspended s j.op j.cmd.fn
/-- Level 2 takes effect: the suspension, the end of the share session, the refusals. -/
def suspendFns (s : State) (n : Nat) : State :=
  let s1 := (endShare s 4).onTamper (fun t => { t with suspended := t.suspended ||| (1 <<< n : BitVec 13) })
  (s1.jobs.filter (notStarted s1)).foldl (fun a j => complete a j (fail Status.suspended)) s1

/-! ### Level 3 and 4 -/

/-- The key copies of a job's units, and the key material that a DEVICE_SEED or a PROVISION holds, are cleared (R333, R348). -/
def Job.cleared (j : Job) : Job :=
  { j with copies := [], draws := if j.op == 0x0201 then [] else if j.op == 0x0013 then j.draws.take 97 else j.draws }
/-- R348, R738, R740, R762, R763: the zeroise clear of Medulla and of every key register, and the row-OR verify, up to three times. -/
def zeroiseClear (s : State) (z : ZeroEnv) : State :=
  let s1 := (s.onMedulla (fun m => { m with slots := [], kek := none, arrayOff := m.arrayOff || z.clears.val == 3 })).onLog (fun l => { l with chained := false })
  let s2 := s1.onJobs (·.map Job.cleared)
  let s3 := s2.onFns (SMap.mapV {} (fun _ x => { x with ctxKey := [] }))
  (if z.clears.val == 3 then s3 else setLatchBit s3 20).onTag (fun x => { x with scope := none })
/-- R740, R764: the four seed words are erased together and the status word says so; words that do not read back zero three times over
hold what the manual does not state. -/
def eraseSeed (s : State) (z : ZeroEnv) : State :=
  if z.seeds.val == 3 then (List.range 4).foldl (fun a i => let (v, b) := takeFree a; setSpore b (44 + i) v) s
  else setLatchBit (setStatusBit (setSpores s 44 [0, 0, 0, 0]) 1 true) 19
/-- ZEROISE, and ZEROISE_FAILED after a third failure; the time from breach to verify is not stated as a number (log entry 2). -/
def zeroiseEntries (s : State) (z : ZeroEnv) (seed : Bool) : State :=
  let (v, s1) := takeFree s
  let d := v.toNat % 2 ^ 16 + (min 2 z.clears.val + 1) * 2 ^ 16 + flagBit (z.clears.val < 3) 18 + flagBit (seed && z.seeds.val < 3) 19
  let s2 := append s1 Entry.zeroise Src.sentinel d
  if z.clears.val == 3 || (seed && z.seeds.val == 3) then append s2 Entry.zeroiseFailed Src.sentinel d else s2
/-- A third failure applies level 4 (R763, R764). -/
def zeroiseFailed (z : ZeroEnv) (seed : Bool) : Bool := z.clears.val == 3 || (seed && z.seeds.val == 3)

/-- Table 17.3 level 3: a function reset as by FLR steps 1 to 7, with its configuration space as it was. -/
def resetInside (s : State) (f : FnId) : State :=
  let x := fnOf s f
  let r := resetFunction s f
  let table := s.regs.active.filter (fun e => isMsix e.1 && fnKey f 0 ≤ e.1 && e.1 < fnKey f 0 + 2 ^ 20)
  let r1 := onFn r f (fun y => { y with busMaster := x.busMaster })
  let r2 := r1.onRegs (fun g => { g with active := table.foldl (fun m e => SMap.set 0 m e.1 e.2) g.active })
  r2.onLink (fun l => { l with pba := s.link.pba })
def resetAllInside (s : State) : State := (List.range 256).foldl (fun a n => resetInside a (BitVec.ofNat 8 n)) s

/-- Slot 1 again, from Xemberon or ROM (R153, R731); without power for the array it cannot be had (R766). -/
def renewChainKey (s : State) : State :=
  if s.log.noChain then s
  else if s.medulla.arrayOff then s.onLog (fun l => { l with noChain := true })
  else (loadChainKey s).onLog (fun l => { l with chained := true })

/-- OTP word 32 and the reset to RETIRED (R164, R732). -/
def retireNow (s : State) : State :=
  let s1 := append (s.onFlash (fun f => { f with otp := SMap.set 0 f.otp 32 1 })) Entry.lifecycle Src.xemberon 3
  deviceReset (s1.onTamper (fun t => { t with retirePending := false })) .pcieKept 5
/-- It waits for FEED_WARN to clear (R573), or for the next boot when VIN is absent. -/
def retireSoon (s : State) : State :=
  if s.power.feedWarn || s.power.state == .off || s.power.state == .hibernate then
    s.onTamper (fun t => { t with retirePending := true }) |>.onFlash (fun f => { f with otpPending := some 32 })
  else retireNow s

/-- The clear with every function reset (Table 17.3, R891). -/
def zeroiseAll (s : State) (z : ZeroEnv) (seed : Bool) : State :=
  let s1 := endShare (stopJobs (cutSlots s) (fun j => j.stage != .flash)) 4
  let s2 := if seed then eraseSeed (zeroiseClear s1 z) z else zeroiseClear s1 z
  renewChainKey (resetAllInside (renewChainKey s2))

/-! ### The response -/

/-- The level at which a source's alarm was answered last. -/
def appliedLevel (s : State) (n : Nat) : Nat := if s.tamper.escalated.getLsbD n then max 3 (policyLevel s n) else policyLevel s n
/-- Another source's alarm at level 3 or 4 is in force: its effects are not applied a second time (R730, Table 17.15). -/
def zeroisedInForce (s : State) (n : Nat) : Bool :=
  (List.range 13).any (fun m => m != n && s.tamper.live.getLsbD m && s.tamper.latch.getLsbD m && 3 ≤ appliedLevel s m && appliedLevel s m ≤ 4)
/-- Level 3: the clear, with its entries, or under one in force the TAMPER entry alone. -/
def applyZeroise (s : State) (n lvl : Nat) (esc : Bool) (st k : Nat) (z : ZeroEnv) : State :=
  let tamper := fun (a : State) => append a Entry.tamper (Src.tamper n) (tamperDetail n lvl esc st k)
  if zeroisedInForce s n then tamper s else zeroiseEntries (tamper (zeroiseAll s z true)) z true
/-- Levels 1 to 4 while Xemberon runs. -/
def respondRunning (s : State) (n lvl : Nat) (esc : Bool) (z : ZeroEnv) : State :=
  let st := alarmState s
  let s0 := dozeWake s
  if lvl ≤ 2 then
    let (s1, k) := abortJobs (if lvl == 2 then latchAlarm s0 n 2 else s0) n
    let s2 := if lvl == 2 then suspendFns s1 n else s1
    let s3 := append s2 Entry.tamper (Src.tamper n) (tamperDetail n lvl esc st k)
    fnEvent (if lvl == 2 then setLatchBit s3 14 else s3) 0 4
  else
    let k := (s0.jobs.filter onEngine).length
    let s1 := (latchAlarm s0 n lvl).onTamper (fun t => { t with suspended := t.suspended ||| (1 <<< n : BitVec 13) })
    let s2 := applyZeroise s1 n lvl esc st k z
    let s3 := fnEvent (setLatchBit s2 14) 0 4
    if lvl == 4 || (zeroiseFailed z true && !zeroisedInForce s1 n) then retireSoon s3 else s3

/-- What the Sentinel does alone: the latch, and at level 3 or 4 the clear and the seed. -/
def respondSentinel (s : State) (n lvl : Nat) (z : ZeroEnv) : State :=
  if lvl == 1 then holdNotice s n 1
  else
    let s1 := latchAlarm s n lvl
    if lvl ≤ 2 then s1
    else
      let s2 := if zeroisedInForce s1 n then s1 else eraseSeed (zeroiseClear s1 z) z
      if lvl == 4 || (zeroiseFailed z true && !zeroisedInForce s1 n) then retireSoon s2 else s2

/-- R742: TAMPER_BOOT once, from ROM. -/
def logLatch (s : State) : State :=
  if latchLogged s.tamper.latch then s else setLatchBit (append s Entry.tamperBoot Src.rom s.tamper.latch.toNat) 14
/-- R149: ROM stops at TAMPERED, with three domains on. -/
def enterTampered (s : State) : State :=
  let s1 := logLatch s
  (s1.onBoot (fun b => { b with state := .tampered, cause := BitVec.ofNat 8 (latchFirst s1.tamper.latch), rcvClaim := false, rcvBusy := false })).onPower
    (fun p => { p with domains := (1#50 <<< 24) ||| (1#50 <<< 43) ||| (1#50 <<< 44), retained := 0 })
/-- ROM is at work or waits. -/
def romRuns (s : State) : Bool :=
  [BootState.romChecks, .verifying, .starting, .recoveryWait, .recoveryLoading, .recoveryVerifying, .powerFault, .otpFault, .keyFault].contains s.boot.state

/-- ROM waits, in TAMPERED as well, where it has an acknowledgement to log (R152, R153): a cleared slot 1 is derived again. -/
def romChainKey (s : State) : State :=
  if (romRuns s || s.boot.state == .tampered) && !s.log.chained then renewChainKey s else s

/-- R741: in HIBERNATE the Sentinel starts the Stipe, ROM derives slot 1 and logs, and HIBERNATE goes on. -/
def logInHibernate (s : State) : State :=
  let s1 := renewChainKey s
  let s2 := if latchSources s1.tamper.latch != 0 then logLatch s1 else logHeld s1
  (s2.onLog (fun l => { l with chained := false })).onMedulla (fun m => { m with slots := [] })

/-- The response at a level (Table 17.3, Table 17.7). -/
def respond (s : State) (n lvl : Nat) (esc : Bool) (z : ZeroEnv) : State :=
  if lvl == 7 then s
  else if s.power.state == .hibernate then logInHibernate (if lvl == 5 then holdNotice s n 5 else respondSentinel s n lvl z)
  else if s.power.state == .off || !running s then
    let s1 := romChainKey (if lvl == 5 then holdNotice s n 5 else respondSentinel s n lvl z)
    if romRuns s1 && latchSources s1.tamper.latch != 0 then enterTampered s1 else s1
  else if s.boot.state == .updating && s.update.crozier then
    if lvl == 5 then holdNotice s n 5
    else
      let s1 := respondSentinel s n lvl z
      if s1.boot.state == .updating then updateFailed (if lvl ≥ 3 then renewChainKey s1 else s1) 0x0B else s1
  else if lvl == 5 then append (dozeWake s) Entry.tamperNotice (Src.tamper n) (tamperDetail n 5 false (alarmState s) 0)
  else respondRunning s n lvl esc z

/-- The Hypha source of a tamper source (Table 17.1). -/
def tamperNotice (n : Nat) : List Nat := if n == 0 then [61] else if n == 12 then [56] else if 8 ≤ n && n ≤ 11 then [49 + n] else []
/-- An alarm of a source (R727, R730): the source is live until SOURCE_INACTIVE. The response takes effect before any task its
notice fires (R39). -/
def alarm (s : State) (n : Nat) (z : ZeroEnv) : State :=
  if !watched s n || policyLevel s n == 7 then s
  else
    let s1 := s.onTamper (fun t => { t with
      live := t.live ||| (1 <<< n : BitVec 13)
      liveSince := if t.live.getLsbD n then t.liveSince else SMap.set 0 t.liveSince n (s.clocks.seta + 1) })
    let s2 := respond s1 n (policyLevel s n) false z
    if running s && running s2 && s.power.state != .hibernate && s.power.state != .off then raise s2 (tamperNotice n) else s2

/-- TAMPER_ALARM. -/
def execTamperAlarm (src : Fin 13) (z : ZeroEnv) (s : State) : Host.Outcome State Fault Refusal := .next (alarm s src.val z)

/-- SHIELD_FORCED_CHECK (R721): the nets in rotation; a check the comparator misses is a breach. -/
def execShieldForcedCheck (reported : Bool) (z : ZeroEnv) (s : State) : Host.Outcome State Fault Refusal :=
  if !s.power.sentinel then .next s
  else
    let s1 := s.onTamper (fun t => { t with net := (t.net + 1) % 128 })
    .next (if reported then s1 else alarm s1 0 z)

/-- SOURCE_INACTIVE. -/
def execSourceInactive (src : Fin 13) (s : State) : Host.Outcome State Fault Refusal :=
  if !s.tamper.live.getLsbD src.val then .next s
  else .next (s.onTamper (fun t => { t with
    live := t.live &&& ~~~(1 <<< src.val : BitVec 13), liveSince := SMap.set 0 t.liveSince src.val 0, quietSince := SMap.set 0 t.quietSince src.val (s.clocks.seta + 1) }))

/-- TAMPER_ESCALATE (R729): a level-2 alarm of a source that escalates, live for 1 ms. -/
def execTamperEscalate (src : Fin 13) (z : ZeroEnv) (s : State) : Host.Outcome State Fault Refusal :=
  let n := src.val
  let t := s.tamper
  if n < 2 || n > 5 || policyLevel s n != 2 || !t.live.getLsbD n || !t.latch.getLsbD n || t.escalated.getLsbD n || !s.power.sentinel then .next s
  else
    let s1 := (atInstant s (SMap.get 0 t.liveSince n - 1 + 100000)).onTamper (fun t => { t with escalated := t.escalated ||| (1 <<< n : BitVec 13) })
    let s2 := if running s1 && s1.power.state != .hibernate && s1.power.state != .off then append s1 Entry.tamperEscalate (Src.tamper n) (n + 3 * 2 ^ 8) else s1
    .next (respond s2 n 3 true z)

/-- TAMPER_END (R728): 10 ms after every source that suspended has been inactive. -/
def execTamperEnd (s : State) : Host.Outcome State Fault Refusal :=
  let t := s.tamper
  if t.suspended == 0 || t.suspended &&& t.live != 0 || !running s then .next s
  else
    let last := ((List.range 13).map (fun n => if t.suspended.getLsbD n then SMap.get 0 t.quietSince n - 1 else 0)).foldl max 0
    let s1 := (atInstant s (last + 1000000)).onTamper (fun t => { t with suspended := 0, escalated := 0 })
    .next (dispatch (append s1 Entry.tamperEnd Src.xemberon t.suspended.toNat))

/-! ### Critical state machines (R737, R891, R892, Table 17.5) -/

/-- What a machine forced to its safe state does. -/
def forceSafe (s : State) (m : Fsm) (z : ZeroEnv) : State :=
  match m with
  | .alarm | .lifecycle | .sporeSeq => s
  | .zeroiser =>
    let s1 := if running s then zeroiseAll s z false else romChainKey (zeroiseClear s z)
    let s2 := s1.onMedulla (fun x => { x with unusable := true })
    let s3 := if z.clears.val == 3 && running s then zeroiseEntries s2 z false else s2
    if z.clears.val == 3 then retireSoon s3 else s3
  | .debugGate => setDomain (s.onBoot (fun b => { b with debug := false, debugScope := 0 })) 49 false
  | .bankGate => if s.update.crozier then updateFailed s 0x08 else s
  | .medullaPort => abandonLoad s
  | .gateFrond n => dispatch (failUnit s (.frond n) 5)
  | .gateCalyptra n => dispatch (failUnit s (.calyptra n) 5)
/-- Machines that raise source 6. -/
def raisesSix : Fsm → Bool
  | .gateFrond _ | .gateCalyptra _ => false
  | _ => true

/-- The legal values of a machine's 8-bit register, its safe state first (R736, Table 17.5). -/
def fsmCodes : Fsm → List Byte
  | .alarm => [0x96, 0x5A, 0x3C, 0x66, 0xA5]
  | .zeroiser => [0x33, 0x0F, 0x55, 0x99, 0xC3]
  | .lifecycle => [0x66, 0x3C, 0x5A, 0x96]
  | .debugGate => [0xC3, 0x99, 0x55]
  | .bankGate => [0x0F, 0x33, 0x69, 0xAA]
  | .medullaPort => [0xCC, 0xF0, 0xAA, 0x3C, 0x5A]
  | .sporeSeq => [0x55, 0x96, 0xA5]
  | .gateFrond _ | .gateCalyptra _ => [0x66, 0x99]
/-- What a machine's register holds between steps (R736): its safe state where it was forced (R892), else the state that the rest of the
device shows (log entry 86). -/
def fsmRegister (s : State) (m : Fsm) : Byte :=
  if s.tamper.forced.contains m then (fsmCodes m).headD 0
  else match m with
    | .alarm => if latchSources s.tamper.latch != 0 then 0xA5 else 0x5A
    | .zeroiser => 0x0F
    | .lifecycle => [0x3C, 0x5A, 0x66, 0x96].getD (lifecycle s) 0x66
    | .debugGate => if s.boot.debug then 0x55 else 0xC3
    | .bankGate =>
      let writing := fun (k : Nat) => s.flash.ops.any (fun o => o.begun && o.unit.kind == k)
      if writing 0 then 0x33 else if writing 1 then 0x69 else if s.flash.crozierLock then 0x0F else 0xAA
    | .medullaPort => 0xCC
    | .sporeSeq => 0x55
    | .gateFrond _ | .gateCalyptra _ => 0x66

/-- FSM_INVALID: a machine's register is found at a value; one that is no legal code sends the machine to its safe state, where it stays until
the next Stipe boot (R737, R892). -/
def execFsmInvalid (x : FsmValue) (z : ZeroEnv) (s : State) : Host.Outcome State Fault Refusal :=
  if !s.power.sentinel || (fsmCodes x.fsm).contains x.value then .next s
  else
    let s1 := s.onTamper (fun t => { t with forced := if t.forced.contains x.fsm then t.forced else x.fsm :: t.forced })
    let s2 := forceSafe s1 x.fsm z
    .next (if raisesSix x.fsm then alarm s2 6 z else s2)

end Sys2Proof.Machine
end

