-- ==== Sys2Proof/Machine/ResetCmds.lean ====
section
/-! DEFINITION. The commands that end in a device reset, in the lifecycle RETIRED or in HIBERNATE (Table 7.5, R272 to R275, R299). -/

namespace Sys2Proof.Machine

/-- R272: the completion first, then the action; no completion of another command in flight follows (R234). -/
def thenAct (s : State) (j : Job) (act : State → State) : State × Option Reply := (act (post s j {}), none)

/-- DEVICE_RESET: row 5 of Table 4.1. -/
def execDeviceReset (c : Cmd) (s : State) : Host.Outcome State Fault Refusal :=
  xci 0x0010 c s (fun s j => unlessRefused s [confirmBad c 0 0x0010] (thenAct s j (fun a => deviceReset a .pcieKept 5)))

/-- RECOVERY_REQUEST: row 9; ROM enters recovery with CAUSE 0x09. -/
def execRecoveryRequest (c : Cmd) (s : State) : Host.Outcome State Fault Refusal :=
  xci 0x0011 c s (fun s j => unlessRefused s [confirmBad c 0 0x0011] (thenAct s j (fun a => deviceReset a .pcieKept 9)))

/-- A little-endian field of a debug token. -/
def tokenField (b : Bytes) (k n : Nat) : Nat := leNat ((b.drop k).take n)
/-- What DEBUG_ARM checks of the token (R273): magic, version, identity, counter value, duration, zero tail; and the scope of
Table 4.11. -/
def tokenFormed (s : State) (b : Bytes) : Bool :=
  tokenField b 0 4 == 0x47424451 && tokenField b 4 4 == 1 && (b.drop 8).take 16 == identity s &&
    tokenField b 24 4 == (bootEpoch s).toNat && tokenField b 28 4 < 16 && tokenField b 32 8 ≤ 8640000000000 &&
    (b.drop 426).take 6 == List.replicate 6 0

/-- DEBUG_ARM: the token waits for ROM. -/
def execDebugArm (c : Cmd) (s : State) : Host.Outcome State Fault Refusal :=
  xci 0x0012 c s (fun s j =>
    let a := param c 0 8
    let token := hostRead s 0 a 432
    unlessRefused s [when (a % 8 != 0) (bad 0), confirmBad c 8 0x0012, when (!tokenFormed s token) (bad 0)]
      (thenAct s j (fun x => deviceReset (x.onBoot (fun b => { b with armedToken := some token })) .pcieKept 8)))

/-! ### PROVISION (R163, R274, R573 to R575) -/

/-- Words 20 to 25 that a custodian key asks for. -/
def rootWords (key : Bytes) : List U64 := (List.range 6).map (fun i => BitVec.ofNat 64 (leNat (((Config.sha384 key).drop (8 * i)).take 8)))
def rootNow (s : State) : List U64 := (List.range 6).map (fun i => otp s (20 + i))
/-- The value programmed for an OTP word: the root hash of the key that PROVISION holds before its draws, or the word of a lifecycle. -/
def otpValue (j : Job) (w : Nat) : U64 := if w ≥ 30 then 1 else (rootWords (j.draws.take 97)).getD (w - 20) 0
/-- Ask for the program of an OTP word: it begins while FEED_WARN is clear. -/
def programOtp (s : State) (c : Cmd) (w : Nat) : State :=
  s.onFlash (fun f => { f with ops := f.ops ++ [{ unit := ⟨5, w⟩, erase := false, use := .command c, begun := !s.power.feedWarn, startedAt := s.clocks.seta }] })

/-- PROVISION: words 20 to 25 unless they hold the hash already, then word 31. The new seed and slot 0 are drawn first (R163). -/
def execProvision (c : Cmd) (s : State) : Host.Outcome State Fault Refusal :=
  xci 0x0013 c s (fun s _ =>
    let a := param c 0 8
    let key := hostRead s 0 a 97
    let done := rootNow s == rootWords key
    unlessRefused s [when (a % 8 != 0) (bad 0), confirmBad c 8 0x0013, when (lifecycle s != 1) (fail Status.serviceLimited),
        when (!done && rootNow s != List.replicate 6 0) (bad 0)]
      (withSeedDraws s c (fun s1 bs =>
        (onJob (programOtp s1 c (if done then 31 else 20)) c (fun x => { x with stage := .flash, draws := key ++ bs }), none))))

/-- R163: the seed is erased and a new one written; keys made in FACTORY stay under the old one. -/
def renewSeed (s : State) (bs : Bytes) : State :=
  renewSlot0 (writeSeed (setStatusBit (setSpores s 44 [0, 0, 0, 0]) 1 true) (bs.take 32)) (bs.drop 32)
/-- An OTP word of a PROVISION is programmed and verified: the next one, or after word 31 the move to FIELD, the completion and the
reset; after a zeroisation meanwhile the seed stays erased, its draws gone with every key (Table 8.10). LAST_RESET names row 5 of Table 4.1,
DEVICE_RESET: the table has no row for the reset of PROVISION or of RETIRE (DESIGN CHOICE, log entry 83). -/
def otpProgrammed (s : State) (j : Job) (w : Nat) : State :=
  let s1 := s.onFlash (fun f => { f with otp := SMap.set 0 f.otp w (otpValue j w) })
  if w == 31 then
    let s2 := append (if (j.draws.drop 97).isEmpty then s1 else renewSeed s1 (j.draws.drop 97)) Entry.lifecycle Src.xemberon 2
    deviceReset (post s2 j {}) .pcieKept 5
  else programOtp s1 j.cmd (if w == 25 then 31 else w + 1)
/-- R574: the word stays as it was programmed, which the manual does not state. -/
def otpFailed (s : State) (j : Job) (w : Nat) : State :=
  let (v, s1) := takeFree s
  post (s1.onFlash (fun f => { f with otp := SMap.set 0 f.otp w v, otpBad := w :: f.otpBad })) j (fail Status.flashFailed)

/-! ### RETIRE and HIBERNATE -/

/-- RETIRE (R164, R275): the level 4 clear and the seed, then OTP word 32 and the reset to RETIRED. -/
def execRetire (c : Cmd) (s : State) : Host.Outcome State Fault Refusal :=
  xci 0x0014 c s (fun s j =>
    unlessRefused s [confirmBad c 0 0x0014]
      (thenAct s j (fun a => retireSoon (zeroiseEntries (zeroiseAll a ⟨0, 0⟩ true) ⟨0, 0⟩ true))))

/-- HIBERNATE is entered (Table 2.4): VCORE and every switched domain off, the link down; the wake is a Stipe boot that clears the rest. -/
def enterHibernate (s : State) : State :=
  let s1 := fieldDown s
  { s1 with
    boot := { s1.boot with state := .resetting, cause := 0 }
    power := { s1.power with state := .hibernate, vcore := 0, op := .safe, target := none, domains := 0, retained := 0, dozeDomains := 0, offNext := none }
    link := { s1.link with up := false, degraded := false }
    log := { s1.log with chained := false }
    ports := [] }

/-- HIBERNATE (R53, R299): refused while any other command is in flight. -/
def execHibernate (c : Cmd) (s : State) : Host.Outcome State Fault Refusal :=
  xci 0x0908 c s (fun s j =>
    unlessRefused s [confirmBad c 0 0x0908, when (s.jobs.any (fun x => !x.isFor c)) (fail Status.notIdle)] (thenAct s j enterHibernate))

end Sys2Proof.Machine
end

