-- ==== Sys2Proof/Machine/FlashEvents.lean ====
section
/-! DEFINITION. The end of flash operations and the work Xemberon does on data flash by itself: retries, the commands that wait for their
program, compaction of the key-record region, the switch of the configuration region, relocation of counter records, and OTP programs
that waited (chapter 13, R340, R567, R573, R577, R586, R601, R888). -/

namespace Sys2Proof.Machine

/-! ### Answers of commands that waited for flash -/

/-- The completion of a command whose flash work has ended; in last gasp it is held until the resume, and a reset drops it (R234). -/
def flashAnswer (s : State) (j : Job) (r : Reply) : State :=
  if s.power.quiesced then onJob s j.cmd (fun x => { x with outcome := some r })
  else endWaitingReset (dispatch (settleDeletes (post s j r))) j.cmd.fn
/-- Completions held in last gasp. -/
def answerHeld (s : State) : State :=
  s.jobs.foldl (fun a j => match j.outcome with | some r => flashAnswer a j r | none => a) s

/-- COUNTER_INCREMENT (R598, R599, R888): a cell, or the primary of a roll-forward and then its backup. -/
def increment (s : State) (j : Job) : State :=
  let n := j.aux - 1
  if j.aux2 != 0 then
    match writeBackup s.counters n (counterValue s.counters n) (j.aux2 - 1) with
    | some k =>
      let s1 := afterIncrement (s.onCounters (fun _ => k)) n
      flashAnswer s1 j { res0 := counterValue s1.counters n }
    | none => flashAnswer (s.onCounters (fun k => { k with owed := n :: k.owed })) j { status := Status.flashFailed, detail := counterValue s.counters n }
  else if rollsForward s.counters n then
    match baseOf s.counters n with
    | none => let (s1, r) := commitIncrement s j; flashAnswer s1 j r
    | some b => match writePrimary s.counters n (b + 65) with
      | none => flashAnswer s j (exhausted 8)
      | some (k, blk) =>
        let s1 := onJob (s.onCounters (fun _ => k)) j.cmd (fun x => { x with aux2 := blk + 1 })
        openFlash s1 ⟨2, 126 + backupSector ((takeBackup k blk).getD 0)⟩ false (.command j.cmd)
  else let (s1, r) := commitIncrement s j; flashAnswer s1 j r
/-- R888: a backup pair that fails twice: the next erased slot, or FLASH_FAILED with the new value. -/
def backupFailed (s : State) (j : Job) : State :=
  let n := j.aux - 1
  let s1 := s.onCounters (fun k => spoilBackup k (j.aux2 - 1))
  match takeBackup s1.counters (j.aux2 - 1) with
  | some t => openFlash s1 ⟨2, 126 + backupSector t⟩ false (.command j.cmd)
  | none =>
    flashAnswer (afterIncrement (s1.onCounters (fun k => { k with owed := n :: k.owed })) n) j { status := Status.flashFailed, detail := counterValue s1.counters n }

/-- Commands whose program writes a record of the configuration region (R566). -/
def writesConfig (op : Nat) : Bool := [0x0101, 0x0102, 0x0103, 0x0701].contains op
/-- What a verified program or erase means for the command it belongs to. -/
def commitOf (s : State) (j : Job) : State × Reply :=
  if j.op == 0x0016 then commitOption s j else if j.op == 0x0101 then commitCreate s j else if j.op == 0x0102 then commitRelease s j
  else if j.op == 0x0103 then commitTenantSet s j else if j.op == 0x0201 then commitDeviceSeed s j else if j.op == 0x0202 then commitImport s j
  else if j.op == 0x0204 then commitDelete s j else if j.op == 0x0206 then commitPersist s j else if j.op == 0x0701 then commitAlloc s j
  else if j.op == 0x0806 then commitExtend s j else if j.op == 0x0A04 then commitRoster s j else if j.op == 0x0A06 then commitOverride s j
  else if j.op == 0x0C01 then commitInstall s j else if j.op == 0x0C02 then commitRemove s j else (s, {})
/-- R536: a command's operation is done and verified. -/
def commandDone (s : State) (j : Job) (u : FlashUnit) : State :=
  if j.op == 0x0013 then otpProgrammed s j u.index
  else if j.op == 0x0703 then increment s j
  else if j.op == 0x0C05 then commitPinnaMode s j
  else
    let (s1, r) := commitOf (if writesConfig j.op then appendConfig s else s) j
    flashAnswer s1 j r
/-- R306, R574, R586: it failed twice. -/
def commandFailed (s : State) (j : Job) (u : FlashUnit) : State :=
  if j.op == 0x0013 then otpFailed s j u.index
  else if j.op == 0x0703 && j.aux2 != 0 then backupFailed s j
  else flashAnswer (if j.op == 0x0103 then undoTenantSet s j else if j.op == 0x0206 then persistFailed s j else s) j (fail Status.flashFailed)

/-! ### Work of Xemberon's own -/

/-- A copied sector of the key-record region is erased. -/
def keySectorErased (s : State) (sec : Nat) : State :=
  s.onMedulla (fun m => { m with records := m.records.filter (fun e => e.1 / 32 != sec), compacting := none })
/-- One sector of the old configuration half is erased; the next one of its eight follows. -/
def configErased (s : State) (sec : Nat) : State :=
  if sec % 8 == 1 then s.onFlash (fun f => { f with configCopying := false }) else openFlash s ⟨2, sec + 1⟩ true (.configHalf (sec + 1))
/-- Backups that wait for a slot (R888). -/
def payOwed (s : State) : State :=
  s.counters.owed.foldl (fun a c =>
    match baseOf a.counters c with
    | none => a
    | some b => match writeBackup a.counters c b (currentBlock a.counters c b) with
      | some k => a.onCounters (fun _ => { k with owed := k.owed.filter (· != c) })
      | none => a) s
/-- A relocated counter sector is erased. -/
def counterSectorErased (s : State) (sec : Nat) : State := payOwed (s.onCounters (fun k => eraseSector k sec))

/-- A verified operation. -/
def useDone (s : State) (o : FlashOp) : State :=
  match o.use with
  | .command c => match s.jobs.find? (fun j => j.isFor c && j.stage == .flash) with
    | some j => commandDone s j o.unit
    | none => s
  | .keyRegion n => keySectorErased s n
  | .configHalf n => configErased s n
  | .relocation n => counterSectorErased s n
  | .appletErase b => resumeInstall (compacted s b)
  | .crozierErase b => crozierErased s b
  | .crozierPage c => finishUpdate (pageProgrammed s c)
/-- An operation that failed twice (R577, R586): Xemberon's own work goes to a replacement, Crozier's update and a ROM pull end. -/
def useFailed (s : State) (o : FlashOp) : State :=
  match o.use with
  | .command c => match s.jobs.find? (fun j => j.isFor c && j.stage == .flash) with
    | some j => commandFailed s j o.unit
    | none => s
  | .keyRegion n => keySectorErased (replaceSector s o.unit.index) n
  | .configHalf n => configErased (replaceSector s o.unit.index) n
  | .relocation n => counterSectorErased (replaceSector s o.unit.index) n
  | .appletErase _ => resumeInstall s
  | .crozierErase _ | .crozierPage _ =>
    if s.update.crozier then updateFailed s 0x08
    else (closeTurtisPath s).onBoot (fun b => { b with rcvResult := 5 })

/-- R892: a forced bank write gate refuses every program and erase of a code bank. -/
def gateRefuses (s : State) (u : FlashUnit) : Bool := s.tamper.forced.contains .bankGate && u.kind < 2
/-- Take an operation out of the list: the erase that its program had suspended resumes (R543). -/
def closeOp (s : State) (i : Nat) : State := resumeErases (s.onFlash (fun f => { f with ops := f.ops.eraseIdx i }))
/-- R549: a verified erase has its DONE, and the next waiting erase begins. -/
def closeErase (s : State) (o : FlashOp) : State :=
  if o.erase then replaceIfWorn (startErases (if o.unit.kind == 4 then s else jAppend s 2 o.unit)) o.unit else startErases s
/-- Two failures in succession (R577): the unit is WORN, and a data sector goes to its replacement (R578). -/
def unitFailed (s : State) (u : FlashUnit) : State := if u.kind < 4 then replaceIfWorn (markWorn s u) u else s
/-- The end of an open operation: a suspended erase makes no progress (R544), and a first failure is tried again, but for an OTP word (R572,
R586). -/
def flashDone (s : State) (i : Nat) (ok : Bool) : State :=
  match s.flash.ops[i]? with
  | none => s
  | some o =>
    if !o.begun || o.suspended then s
    else if ok && !gateRefuses s o.unit then useDone (raise (closeErase (closeOp s i) o) [if o.erase then 77 else 76]) o
    else if o.fails == 0 && !gateRefuses s o.unit && o.unit.kind != 5 then
      s.onFlash (fun f => { f with ops := f.ops.set i { o with fails := 1 } })
    else
      let s1 := closeOp s i
      useFailed (startErases (unitFailed s1 o.unit)) o

/-- Flash works: the array has power, and last gasp has not stopped it. -/
def flashAlive (s : State) : Bool := domainOn s 43 && !s.power.quiesced

/-! ### The words of a log entry (R744, R745, R765) -/

/-- The sector of a slot's first word (R743). -/
def slotSector (slot : Nat) : Nat := 54 + 48 * slot / 4096
/-- The newest entry's slot is torn, and its sector WORN (R577, R765). -/
def tearSlot (s : State) (k : Nat) : State :=
  (markWorn s ⟨2, slotSector k⟩).onLog (fun l => { l with
    slots := SMap.set .erased l.slots k .torn, toMirror := l.toMirror.filter (· != k), writing := none })
/-- A word of the newest entry has failed twice: the entry is written again in the next slot, with its SEQ; where none is free for it, it is
counted as R751 and R752 say. Its CHAIN, computed again over the same bytes from the same previous entry, is the same. -/
def rewriteEntry (s : State) : State :=
  let k := s.log.next - 1
  match SMap.get LogSlot.erased s.log.slots k with
  | .entry q n ch =>
    let s1 := tearSlot s k
    if s.log.next < logRoom s n.type then
      logLevels (raiseWith logPlace) (s1.onLog (fun l => { l with
        slots := SMap.set .erased l.slots l.next (.entry q n ch), next := l.next + 1, toMirror := l.toMirror ++ [l.next], writing := some 0 }))
    else
      let s2 := s1.onLog (fun l => { l with seq := q, chain := chainBehind s k })
      if logClass n.type == 2 then s2 else countOverflow s2 n.type
  | _ => s
/-- The program of the newest entry ends, or one of its words fails: once tried again (R586), a second time written anew. -/
def logWordDone (s : State) (ok : Bool) : State :=
  match s.log.writing, ok with
  | none, _ => s
  | some _, true => raise (s.onLog (fun l => { l with writing := none })) [76]
  | some 0, false => s.onLog (fun l => { l with writing := some 1 })
  | some _, false => rewriteEntry s

/-- FLASH_OPERATION_DONE: an operation of the list, or, at the index after the last of them, the newest log entry (log entry 87). -/
def execFlashOperationDone (index : Nat) (ok : Bool) (s : State) : Host.Outcome State Fault Refusal :=
  .next (if !flashAlive s then s else if index == s.flash.ops.length then logWordDone s ok else flashDone s index ok)

/-- ERASE_STARVED (R545): once, 1 s of Seta after the erase began. DETAIL adds to the suspends that State counts those of reads and log words
that no row shows (log entry 88). -/
def execEraseStarved (index : Nat) (s : State) : Host.Outcome State Fault Refusal :=
  match s.flash.ops[index]? with
  | none => .next s
  | some o =>
    if !o.erase || !o.begun || o.starved || !flashAlive s then .next s
    else
      let (v, s1) := takeFree ((atInstant s (o.startedAt + 100000000)).onFlash (fun f => { f with ops := f.ops.set index { o with starved := true } }))
      .next (append (raise s1 [78]) Entry.eraseStarved Src.xemberon (o.unit.kind + o.unit.index * 2 ^ 8 + (o.suspends + v.toNat) % 2 ^ 32 * 2 ^ 32))

/-- Xemberon may work on data flash. -/
def ownWork (s : State) : Bool := running s && flashAlive s && s.power.state != .doze

/-- Records of a sector of the key-record region that are no longer live. -/
def deadRecords (s : State) (sec : Nat) : Nat := (s.medulla.records.filter (fun e => e.1 / 32 == sec && !recLive e.2)).length
/-- The sector with the most deleted records, the lowest of them. -/
def keyVictim (s : State) : Option Nat :=
  (List.range 36).foldl (fun m x => match m with
    | none => if deadRecords s x == 0 then none else some x
    | some y => if deadRecords s x > deadRecords s y then some x else some y) none
/-- KEY_REGION_COMPACTION (R340); a record being programmed is programmed first. -/
def execKeyRegionCompaction (s : State) : Host.Outcome State Fault Refusal :=
  if !ownWork s || s.medulla.compacting.isSome || freeRecords s ≥ 32 || s.jobs.any (·.place.isSome) then .next s
  else match keyVictim s, (emptySectors s).head? with
    | some v, some t =>
      let live := (s.medulla.records.filter (fun e => e.1 / 32 == v && recLive e.2)).map (·.2)
      let s1 := s.onMedulla (fun m => { m with
        compacting := some v, records := (live.zipIdx).foldl (fun r e => SMap.set {} r (32 * t + e.2) e.1) m.records })
      .next (openFlash s1 ⟨2, 18 + v⟩ true (.keyRegion v))
    | _, _ => .next s

/-- The first sector of the half that is not active. -/
def oldHalf (s : State) : Nat := 2 + 8 * (1 - s.flash.configActive)
/-- CONFIG_HALF_SWITCH (R567); a copy cut off by last gasp or a reset is taken up again. -/
def execConfigHalfSwitch (s : State) : Host.Outcome State Fault Refusal :=
  let eraseOpen := s.flash.ops.any (fun o => match o.use with | .configHalf _ => true | _ => false)
  if !ownWork s || eraseOpen then .next s
  else if s.flash.configCopying then .next (openFlash s ⟨2, oldHalf s⟩ true (.configHalf (oldHalf s)))
  else if s.flash.configUsed + 64 ≤ configRoom s then .next s
  else
    let s1 := switchHalf s
    .next (openFlash s1 ⟨2, oldHalf s1⟩ true (.configHalf (oldHalf s1)))

/-- A command programs a word of the counter region; a relocation does not run beside it (Table 14.7). -/
def counterWriting (s : State) : Bool := s.jobs.any (fun j => j.stage == .flash && (j.op == 0x0701 || j.op == 0x0703))
/-- COUNTER_RELOCATION (R601). -/
def execCounterRelocation (s : State) : Host.Outcome State Fault Refusal :=
  let moving := s.flash.ops.any (fun o => match o.use with | .relocation _ => true | _ => false)
  if !ownWork s || moving || counterWriting s || erasedSectors s.counters ≥ 4 then .next s
  else match relocationVictim s.counters with
    | none => .next s
    | some x =>
      let k := relocate s.counters x
      if liveCount k x != 0 then .next s
      else .next (openFlash (s.onCounters (fun _ => k)) ⟨2, 126 + x⟩ true (.relocation x))

/-- OTP_PROGRAM_START (R573, R732). -/
def execOtpProgramStart (s : State) : Host.Outcome State Fault Refusal :=
  if s.power.feedWarn || s.power.state == .off || s.power.state == .hibernate then .next s
  else if s.flash.otpPending == some 32 then .next (retireNow s)
  else .next (s.onFlash (fun f => { f with ops := f.ops.map (fun o => if o.unit.kind == 5 then { o with begun := true } else o) }))

end Sys2Proof.Machine
end

