-- ==== Sys2Proof/Machine/Governor.lean ====
section
/-! DEFINITION. The power governor: switching domains with the units in them, the limits of R57 and R58, SAFE_HOLD, DOZE, and what happens at
an epoch boundary (chapter 2, R126, R200 to R213, R779). -/

namespace Sys2Proof.Machine

/-! ### Domains and the units in them -/

/-- The units of a domain (Table 2.3). -/
def unitsIn (d : Nat) : List UnitRef := allUnits.filter (fun u => match u with
  | .frond n => n.val / 4 == d
  | .pinna n => 16 + n.val == d
  | .calyptra n => 31 + n.val == d
  | .slice n => 33 + n.val == d
  | _ => false)
/-- A unit loses its power to the governor: its jobs are re-run, and it reads as `UnitSt.shed` says (Tables 7.10 and 7.14). -/
def shedUnit (s : State) (u : UnitRef) : State := onUnit (stopUnit s u).1 u UnitSt.shed
/-- A port whose domain goes off synchronises anew when it comes back (Table 2.3). -/
def portOff (s : State) (p : Fin 2) : State :=
  onPort s p restartPort
/-- A job that the reader works on goes back to its start, from where its own row runs it again (R67, R78, R134). -/
def readerBack (s : State) : State :=
  fieldDown (s.onJobs (·.map (fun j => if j.stage == .reader then { j.again with stage := .fetched } else j)))
/-- Invocations on a unit are suspended at once; one blocked in COMMAND keeps its command (R68). -/
def suspendCore (s : State) (n : Nat) : State :=
  (List.finRange 8).foldl (fun a u => if u.val == unitOfCore s n then suspendUnit a u else a) s
/-- Domains that switch together: the two of a Pinna pair in paired mode (Table 2.3). -/
def together (s : State) (d : Nat) : List Nat := if 16 ≤ d && d ≤ 23 && !s.pinnas.split then [d / 2 * 2, d / 2 * 2 + 1] else [d]
/-- Switch one domain off with what it holds. -/
def offOne (s : State) (d : Nat) : State :=
  if !domainOn s d then s
  else
    let s1 := if 16 ≤ d && d ≤ 23 then suspendCore s (d - 16) else if d == 45 then portOff s 0 else if d == 46 then portOff s 1 else if d == 47 then readerBack s else s
    setDomain ((unitsIn d).foldl shedUnit s1) d false
def powerOff (s : State) (d : Nat) : State := (together s d).foldl offOne s
/-- Switch one domain on: its units run their known-answer sets and join at a later epoch boundary (R49, R414). -/
def onOne (s : State) (d : Nat) : State :=
  (unitsIn d).foldl (fun a u => if (unitOf a u).st == .shed then startTest a u .join else a) (setDomain s d true)
def powerOn (s : State) (d : Nat) : State := (together s d).foldl onOne s

/-- A list of domains as a mask. -/
def maskOf (ds : List Nat) : BitVec 50 := BitVec.ofNat 50 ((ds.map (fun d => 2 ^ d)).sum)
/-- Switch domains off until the state that asked for it ends. -/
def hold (s : State) (ds : List Nat) : State :=
  let on := ds.filter (domainOn s)
  (on.foldl powerOff s).onPower (fun p => { p with dozeDomains := p.dozeDomains ||| maskOf on })
/-- Switch on again those of a list that were held off. -/
def unhold (s : State) (ds : List Nat) : State :=
  let back := ds.filter s.power.dozeDomains.getLsbD
  (back.foldl powerOn s).onPower (fun p => { p with dozeDomains := p.dozeDomains &&& ~~~maskOf back })
/-- POOL_CHANGED where the number of fronds in the pool has changed. -/
def notePool (before after : State) : State := if inPool before == inPool after then after else poolChanged after

/-! ### Limits (R57 to R62) -/

/-- What goes when no frond group is left: slices, Calyptra unit 1, Pinna cores from the highest, Calyptra unit 0, the reader, SRAM banks. -/
def lastVictims : List Nat := [36, 35, 34, 33, 40, 39, 38, 37, 32, 23, 22, 21, 20, 19, 18, 17, 16, 31, 47, 30, 29, 28, 27, 26]
/-- The budget is brought under the effective cap, and the groups under the allowance. -/
def enforce (s : State) : State :=
  let s1 := shed s
  let s2 := lastVictims.foldl (fun a d => if withinLimits a then a else powerOff a d) s1
  if s2.power.domains == s.power.domains then s else dispatch s2

/-! ### SAFE_HOLD (R65 to R70) -/

/-- A group that was switched off with fronds in service. -/
def heldGroup (s : State) (g : Nat) : Bool := s.power.dozeDomains.getLsbD g && (groupFronds g).any (fun n => frondState s n == .shed)
/-- The lowest-numbered frond group with fronds in service; after a DOZE whose groups are still off, the lowest it switched off. -/
def safeGroup (s : State) : Option Nat :=
  ((List.range 16).find? (fun g => domainOn s g && (groupFronds g).any (fun n => frondState s n == .inService || frondState s n == .borrowed))).orElse
    (fun _ => if s.power.waking then (List.range 16).find? (heldGroup s) else none)
/-- Engine domains but those two. -/
def engineDomains (s : State) : List Nat :=
  ((List.range 24) ++ [32, 33, 34, 35, 36, 47]).filter (fun d => some d != safeGroup s)
/-- SAFE_HOLD of Table 17.16. -/
def safeHoldEntry (s : State) (entered : Bool) (cause : Nat) : State :=
  append s Entry.safeHold Src.xemberon (flagBit entered 0 + cause * 2 ^ 4 + (junction s % 2 ^ 16).toNat * 2 ^ 16)
/-- SAFE_HOLD is entered; a second cause leaves the one that ends only with a reset. Jobs it does not serve are stopped for a re-run,
those of the reader with PD47 (R67); the applets are suspended (R68). -/
def enterSafeHold (s : State) (cause : Nat) : State :=
  if s.power.safeHold.isSome then
    (if cause == 1 && s.power.safeHold != some 1 then safeHoldEntry (s.onPower (fun p => { p with safeHold := some 1 })) true 1 else s)
  else
    let stop := s.jobs.filter (fun j => !j.onUnits.isEmpty && !safeHoldServes s j.op j.cmd && j.op != 0x0C03)
    let s1 := (List.finRange 8).foldl suspendUnit s
    let s2 := stop.foldl abandon s1
    let s3 := hold s2 (engineDomains s2)
    let s4 := (moveToSafe s3).onPower (fun p => { p with safeHold := some cause, aborted := false })
    let s5 := allFnEvent (pwrEvent (notePool s s4) 5) 3
    dispatch (safeHoldEntry s5 true cause)
/-- Its end: at the next epoch boundary the domains come back (R48), the frond groups one per epoch (R61), and operation at OP_FULL. -/
def leaveSafeHold (s : State) : State :=
  match s.power.safeHold with
  | none => s
  | some c =>
    let s1 := s.onPower (fun p => { p with safeHold := none, waking := true, dozeDomains := p.dozeDomains &&& ~~~maskOf (List.range 16) })
    dispatch (safeHoldEntry s1 false c)
/-- At an epoch boundary the domains that DOZE or SAFE_HOLD switched off come back (R48), in SAFE_HOLD those that it keeps. -/
def wakeDomains (s : State) : State :=
  if !s.power.waking then s
  else
    let back := (List.range 50).filter (fun d => s.power.dozeDomains.getLsbD d && (s.power.safeHold.isNone || !(engineDomains s).contains d))
    (unhold s back).onPower (fun p => { p with waking := false })

/-! ### DOZE (R50) -/

/-- A pair has fetched everything and nothing of it is in flight. -/
def queuesEmpty (s : State) : Bool := s.jobs.isEmpty && s.pairs.all (fun e => e.2.sqHead == e.2.sqTail)
/-- DOZE idle time, Seta ticks, and whether DOZE is allowed (CG_POWER). -/
def dozeIdle (s : State) : Nat := 10000 * bitsOf (reg s (glKey 0x30)) 8 10
def dozeAllowed (s : State) : Bool := bitOf (reg s (glKey 0x30)) 18
/-- Domains DOZE leaves on (Table 2.4), and those it retains. -/
def dozeKeeps : List Nat := [24, 25, 41, 43, 44, 48]
def dozeRetains : List Nat := [26, 27, 28, 29, 30, 37, 38, 39, 40]

/-- The first epoch boundary at or after an instant. -/
def boundaryFrom (t : Nat) : Nat := (t + 999) / 1000 * 1000
/-- DOZE_ENTRY: at the first epoch boundary once the idle time has run (R45, R48, R50). It waits for FEED_WARN and for flash operations under
way (DESIGN CHOICE, log entry 78). -/
def execDozeEntry (s : State) : Host.Outcome State Fault Refusal :=
  if s.boot.state != .ready || (s.power.state != .active && s.power.state != .trim) || s.power.safeHold.isSome || s.power.feedWarn ||
      s.power.quiesced || !dozeAllowed s || !queuesEmpty s || s.flash.ops.any (·.begun) then .next s
  else
    let s1 := atInstant s (boundaryFrom (max s.clocks.seta (s.power.idleSince + dozeIdle s)))
    let s2 := hold s1 ((List.range 50).filter (fun d => !dozeKeeps.contains d))
    let ret := maskOf (dozeRetains.filter (domainOn s1))
    let s3 := (startTransition s2 .doze).onPower (fun p => { p with dozeFrom := p.state, state := .doze, waking := false, retained := ret })
    .next (notePool s s3)

/-! ### An epoch boundary -/

/-- Groups of Table 3.5 that apply at an epoch boundary. -/
def epochGroups : List CommitGroup := .sched :: (List.range 256).map (fun n => .tenant (BitVec.ofNat 8 n)) ++ [.power]
def applyEpochGroups (s : State) : State := epochGroups.foldl applyDeferred s

/-- R297, R298: the custodian's new set: units of domains that go off are OUT, those that come on are tested and join. -/
def domainOut (s : State) (d : Nat) : State :=
  let s1 := if 16 ≤ d && d ≤ 23 then suspendCore s (d - 16) else if d == 45 then portOff s 0 else if d == 46 then portOff s 1 else s
  setDomain ((unitsIn d).foldl takeOut s1) d false
/-- A domain the custodian gives back: its units read TESTING until the governor can power them. -/
def domainBack (s : State) (d : Nat) : State :=
  let s1 := (unitsIn d).foldl (fun a u => if (unitOf a u).st == .out then startTest a u .returning else a) s
  if d == 45 || d == 46 then setDomain s1 d true else s1
/-- The set takes effect, and DOMAIN_SET completes. -/
def applyOffMask (s : State) : State :=
  match s.power.offNext with
  | none => s
  | some m =>
    let old := s.power.offMask
    let s1 := (List.range 50).foldl (fun a d => if m.getLsbD d && !old.getLsbD d then domainOut a d else if old.getLsbD d && !m.getLsbD d then domainBack a d else a) s
    let s2 := s1.onPower (fun p => { p with offMask := m, offNext := none, state := if p.state == .active || p.state == .trim then (if m == 0 then .active else .trim) else p.state })
    let s3 := notePool s s2
    (s3.jobs.filter (fun j => j.op == 0x0906 && j.stage == .waiting)).foldl
      (fun a j => post a j { res0 := m.toNat % 2 ^ 32, res1 := m.toNat / 2 ^ 32 }) s3

/-- R45, R70, R86: back to OP_FULL from the safe point, once nothing keeps the device there. -/
def settlePoint (s : State) : State :=
  if s.power.op != .full && s.power.target.isNone && s.power.safeHold.isNone && !s.power.feedWarn && !s.power.vcoreLow &&
      (s.power.state == .active || s.power.state == .trim) then startTransition s .full
  else s

/-- A domain may be switched on by the governor. -/
def mayPower (s : State) (d : Nat) : Bool :=
  !domainOn s d && !(d < 64 && s.power.offMask.getLsbD d) && (s.power.safeHold.isNone || d == 31 || (37 ≤ d && d != 47))
/-- Switch a domain on where the limits allow it. -/
def tryOn (s : State) (d : Nat) : State := let a := powerOn s d; if withinLimits a then a else s
/-- Switch a domain on and shed frond groups for it. -/
def forceOn (s : State) (d : Nat) : State := enforce (powerOn s d)
/-- A slice job waits and no slice has power; a Calyptra job likewise; an invocation waits and no core has power; a scratch bank that a job
has reserved; the reader that a poll waits for. -/
def needs (s : State) : List Nat :=
  let w := s.jobs.filter (wantsUnit s)
  let idle := fun (us : List UnitRef) => us.all (fun u => !unitPowered s u)
  (if w.any (fun j => isSliceOp j.op) && idle slices then ([33, 34, 35, 36].find? (mayPower s)).toList else []) ++
    (if w.any wantsCalyptra && idle calyptras then ([31, 32].find? (mayPower s)).toList else []) ++
    (if (w.any (fun j => j.op == 0x0C03) || !s.pinnas.saved.isEmpty) && (List.finRange 8).all (fun n => !unitPowered s (.pinna n)) then
      ([16, 17, 18, 19, 20, 21, 22, 23].find? (fun d => (together s d).all (mayPower s))).toList else []) ++
    (w.flatMap Job.banks).eraseDups.filter (mayPower s) ++ (if pollWaits s then [47].filter (mayPower s) else [])
/-- What waiting jobs would use beyond that, where there is headroom. -/
def wishes (s : State) : List Nat :=
  let w := s.jobs.filter (wantsUnit s)
  (if (w.filter wantsCalyptra).length > 0 then [31, 32] else []) ++ (if w.any (fun j => isSliceOp j.op) then [33, 34, 35, 36] else []) ++
    (if w.any (fun j => j.op == 0x0C03) then [16, 17, 18, 19, 20, 21, 22, 23] else [])
/-- Domains with a unit that the custodian has returned and that waits for power (Table 7.14). -/
def returning (s : State) : List Nat :=
  (List.range 37).filter (fun d => !domainOn s d && (unitsIn d).any (fun u => (unitOf s u).st == .testing) && mayPower s d)
/-- Domains that serve nothing: empty frond groups (R292), scratch banks no job has reserved, bank B, the reader without its field. -/
def unused (s : State) : List Nat :=
  (List.range 16).filter (fun g => domainOn s g && (groupFronds g).all (fun n => frondState s n == .out)) ++
    [37, 38, 39, 40].filter (fun d => domainOn s d && !s.engines.share.isOpen && s.jobs.all (fun j => !j.banks.contains d)) ++
    [42].filter (fun d => domainOn s d && s.boot.state == .ready && s.flash.ops.all (fun o => o.unit.kind != 1)) ++
    [47].filter (fun d => domainOn s d && !s.reader.fieldOn && s.jobs.all (fun j => j.stage != .reader))
/-- The governor at a boundary (R48): what is not used goes, what waits for power gets it, the limits are met, and one shed group returns
(R61). -/
def govern (s : State) : State :=
  let s1 := (unused s).foldl (fun a d => setDomain a d false) s
  let s2 := (needs s1).foldl forceOn s1
  let s3 := if s2.flash.ops.any (fun o => o.unit.kind == 1) && !domainOn s2 42 then setDomain s2 42 true else s2
  if !withinLimits s3 then enforce s3
  else returnGroup ((wishes s3).foldl (fun a d => if mayPower a d then tryOn a d else a) ((returning s3).foldl tryOn s3))

/-- R779: idle units past their opportunistic age, the oldest first. -/
def opportunisticAge : UnitRef → Nat
  | .frond _ => 500000
  | .entropy => 0
  | _ => 5000000
def mayTest (s : State) (u : UnitRef) : Bool :=
  unitPowered s u && idleUnit s u && testAge s u ≥ opportunisticAge u && slotFree s u
def opportunisticTests (s : State) : State :=
  if s.health.istDisabled then s
  else (oldestFirst s ((fronds.map UnitRef.frond ++ calyptras ++ slices ++ [UnitRef.wrap]).filter (mayTest s))).foldl
    (fun a u => if mayTest a u then startTest a u .slot else a) s

/-- SETA_HIGH (R131): bits [63:56] have changed. -/
def noteSetaHigh (s : State) : State :=
  let top := s.clocks.seta / 2 ^ 56
  if top == s.clocks.setaTop then s
  else append (s.onClocks (fun c => { c with setaTop := top })) Entry.setaHigh Src.xemberon top

/-- Slice jobs that a lost phase stopped go on from the first boundary at which all of them stand (R492). -/
def releaseSorus (s : State) : State :=
  if s.jobs.any (fun j => match j.stage with | .running (.slice _) => true | _ => false) then s else s.onPower (fun p => { p with sorusHold := false })
/-- What scheduler and governor do at a boundary while they run: in DOZE nothing waits for a unit or a domain. -/
def epochWork (s : State) : State :=
  if s.power.state == .doze then applyOffMask (applyEpochGroups s)
  else
    let s1 := releaseSorus (applyOffMask (applyEpochGroups s))
    let s2 := wakeDomains (settlePoint s1)
    let s3 := joinUnits (govern s2)
    opportunisticTests (scheduleEpoch (notePool s s3))

/-- EPOCH_BOUNDARY (R126): every Seta value that is a multiple of 1000, each in its turn. A quiesced device applies its groups (R102), and
its governor and scheduler wait for the resume (R80). -/
def execEpochBoundary (s : State) : Host.Outcome State Fault Refusal :=
  let t := nextBoundary s.clocks.epochAt 1000
  let s1 := (atInstant s t).onClocks (fun c => { c with epochAt := t })
  if !running s1 then .next s1
  else
    let s2 := raise s1 [46]
    if s2.power.quiesced then .next (applyEpochGroups s2)
    else .next (epochWork s2)

/-- SETA_HIGH. -/
def execSetaHigh (s : State) : Host.Outcome State Fault Refusal := .next (if running s then noteSetaHigh s else s)

end Sys2Proof.Machine
end

