-- ==== Sys2Proof/Machine/Feed.lean ====
section
/-! DEFINITION. The feed and the regulator: FEED_WARN, dips, last gasp and the resume, VIN_STOP, and the faults of Table 2.12. -/

namespace Sys2Proof.Machine

/-! ### FEED_WARN and dips (R74 to R76, R85) -/

/-- VIN feeds the device: it is neither off nor on VBAK alone. -/
def fed (s : State) : Bool := s.power.state != .off && s.power.sentinel
/-- VCORE is up: past the start of Table 2.13, and not in HIBERNATE. -/
def coreUp (s : State) : Bool := fed s && s.power.state != .hibernate && s.boot.powerUp != 1
/-- The device is off: nothing but the Sentinel has power, and the power-up waits for VIN_RESUME. -/
def switchedOff (s : State) (sentinel : Bool) : State :=
  (s.onPower (fun p => { p with state := .off, vcore := 0, domains := 0, sentinel := sentinel, feedWarn := false })).onBoot (fun b => { b with powerUp := 0 })
/-- FEED_WARN (R74, R85): a transition under way aborts; `belowDip` is a fall below VIN_DIP, which qualifies at once. In steps 2 to 4 of
Table 2.13 VCORE goes off and the power-up starts again at step 1 (R893). -/
def execFeedWarn (belowDip : Bool) (s : State) : Host.Outcome State Fault Refusal :=
  if !fed s || s.boot.powerUp == 1 then .next s
  else if s.boot.powerUp == 2 then .next (switchedOff s true)
  else if s.power.feedWarn then .next (s.onPower (fun p => { p with qualified := p.qualified || (belowDip && !p.quiesced) }))
  else
    let moving := s.power.target.isSome
    let s1 := s.onPower (fun p => { p with feedWarn := true, vcoreAtWarn := p.vcore, warnAt := s.clocks.seta, abortedAtWarn := moving, qualified := belowDip })
    let s2 := if moving then moveToSafe s1 else s1
    .next (if running s then raiseWaking s2 [31] else s2)

def bumpDip (s : State) : State := s.onPower (fun p => { p with dipCount := BitVec.ofNat 8 (satAdd 0xFF p.dipCount.toNat 1), dipsSince := p.dipsSince + 1 })
/-- Waiting OTP programs begin when FEED_WARN clears is OTP_PROGRAM_START's; this only clears it. -/
def clearWarn (s : State) : State := s.onPower (fun p => { p with feedWarn := false, qualified := false })
/-- DIP_RIDE_THROUGH (R75): VIN back above VIN_RESUME within 20 µs, never below VIN_DIP. -/
def execDipRideThrough (s : State) : Host.Outcome State Fault Refusal :=
  if !s.power.feedWarn || s.power.qualified || s.power.quiesced || s.clocks.seta > s.power.warnAt + 2000 then .next s else .next (clearWarn (bumpDip s))

/-! ### Last gasp (R77, Table 2.9, R894) -/

/-- Domains step 7 switches off. -/
def gaspDomains : List Nat := (List.range 16) ++ (List.range 10).map (· + 31) ++ [45, 46, 47]
/-- Step 2: engine and reader jobs are stopped and marked for re-run; the share session ends. -/
def quiesceEngines (s : State) : State :=
  let stop := s.jobs.filter (fun j => j.op != 0x0C03 && !j.onUnits.isEmpty)
  endShare (readerBack (stop.foldl abandon s)) 3
/-- An operation that writes the backup of a roll-forward whose primary stands. -/
def isBackup (s : State) (o : FlashOp) : Bool :=
  match o.use with
  | .command c => s.jobs.any (fun j => j.isFor c && j.op == 0x0703 && j.aux2 != 0)
  | _ => false
/-- A program under way that step 3 lets finish. -/
def programOpen (s : State) (o : FlashOp) : Bool := o.begun && !o.erase && !isBackup s o
/-- The first operation of a kind is finished, so many times over. -/
def finishOps (p : State → FlashOp → Bool) : Nat → State → State
  | 0, s => s
  | k + 1, s => match s.flash.ops.findIdx? (p s) with
    | some i => finishOps p k (flashDone s i true)
    | none => s
/-- Step 3: an erase under way stops, and waits for a new BEGIN. -/
def stopErases (s : State) : State :=
  s.onFlash (fun f => { f with ops := f.ops.map (fun o => if o.erase then { o with begun := false, fails := 0 } else o) })
/-- Detail of FEED_LOST. Without a FEED_WARN its two VCORE fields are free (`unwarned`, log entries 2 and 78). -/
def feedLostDetail (s : State) (erased backed programmed : Bool) : Nat :=
  s.power.vcoreAtWarn + flagBit s.power.abortedAtWarn 8 + flagBit erased 9 + flagBit backed 10 + flagBit programmed 11
/-- The sequence of Table 2.9 up to the quiesced state. -/
def lastGasp (s : State) : State :=
  let s1 := (moveToSafe (dozeWake s)).onPower (fun p => { p with quiesced := true, aborted := false })
  let s2 := quiesceEngines (s1.onLog (fun l => { l with gasping := true }))
  let programmed := s2.flash.ops.any (programOpen s2)
  let erased := s2.flash.ops.any (fun o => o.erase && o.begun)
  let s3 := stopErases (finishOps programOpen (s2.flash.ops.filter (programOpen s2)).length s2)
  let backed := s3.flash.ops.any (isBackup s3)
  let s4 := finishOps isBackup s3.flash.ops.length s3
  let s5 := append (s4.onLog (fun l => { l with gasping := false })) Entry.feedLost Src.xemberon (feedLostDetail s erased backed programmed)
  let s6 := mirrorRing (bumpSpore (s5.onLog (fun l => { l with gasping := true })) 6)
  notePool s (hold s6 gaspDomains)

/-- FEED_LOSS_QUALIFY (R76): FEED_WARN for 20 µs, or VIN below VIN_DIP. In ROM nothing is logged (Table 4.14). -/
def execFeedLossQualify (s : State) : Host.Outcome State Fault Refusal :=
  if !s.power.feedWarn || s.power.quiesced || !running s then .next s
  else .next (lastGasp (if s.power.qualified then s else atInstant s (s.power.warnAt + 2000)))

/-! ### The resume (R78, R79) -/

/-- Held entries are appended in order, with the TIME they were produced at (R894). -/
def releaseHeld (s : State) : State :=
  let l := s.log.held
  l.foldl appendNote (s.onLog (fun x => { x with gasping := false, held := [] }))
/-- Domains the resume switches on: all that last gasp switched off, or in SAFE_HOLD those that it keeps. -/
def resumeDomains (s : State) : List Nat :=
  if s.power.safeHold.isNone then gaspDomains
  else [31, 37, 38, 39, 40, 45, 46] ++ ((List.range 16).find? (heldGroup s)).toList
/-- FEED_DIP of Table 17.16, at most once a second. -/
def logDip (s : State) : State :=
  let ticks := min 0xFFFFFFFF (s.clocks.seta - s.power.warnAt)
  let due := match s.power.lastFeedDip with | none => true | some t => s.clocks.seta ≥ t + 100000000
  let s1 := s.onPower (fun p => { p with dipCount := BitVec.ofNat 8 (satAdd 0xFF p.dipCount.toNat 1) })
  if due then
    append (s1.onPower (fun p => { p with lastFeedDip := some s.clocks.seta, dipsSince := 0 })) Entry.feedDip Src.xemberon
      (min 255 s.power.dipsSince + s.power.vcoreAtWarn * 2 ^ 8 + flagBit s.power.abortedAtWarn 16 + ticks * 2 ^ 32)
  else s1.onPower (fun p => { p with dipsSince := p.dipsSince + 1 })
/-- Doorbells recorded while quiesced reach Hypha (R80). -/
def recordedDoorbells (s : State) : List Nat := (s.pairs.filter (fun e => e.2.doorbell)).map (fun e => 82 + e.2.cls)
/-- FEED_DIP: VIN above VIN_RESUME once the device is quiesced. A reset that waited for the end of last gasp takes the place of the engines'
resume (R880, Table 20.17). -/
def execFeedDip (s : State) : Host.Outcome State Fault Refusal :=
  if !s.power.quiesced || !s.power.feedWarn then .next s
  else
    let s1 := (clearWarn s).onPower (fun p => { p with quiesced := false })
    let s2 := unhold s1 (resumeDomains s1)
    let s3 := logDip (releaseHeld s2)
    let s4 := notePool s (answerHeld (startErases (pwrEvent s3 0)))
    if s.power.heldReset != 0 then .next (deviceReset (pwrEvent s3 0) .pcieIncluded s.power.heldReset)
    else .next (dispatch (raise (s4.onPairs (SMap.mapV {} (fun _ p => { p with doorbell := false }))) (recordedDoorbells s4)))

/-! ### VIN_STOP (R80, R81, R893, R894) -/

/-- Entries held in last gasp are counted, not written. -/
def countHeld (s : State) : State := (s.log.held.foldl (fun a n => countOverflow a n.type) s).onLog (fun l => { l with held := [] })
/-- The Sentinel domain loses power: Seta, the latch, the pending notices and the policy are lost (R880, R893). -/
def sentinelLost (s : State) : State := switchedOff (deviceReset s .fresh 0) false
/-- VIN_STOP: a reset, in a power-up that has stopped as well (R893); `vbak` says whether VBAK holds the Sentinel. -/
def execVinStop (vbak : Bool) (s : State) : Host.Outcome State Fault Refusal :=
  if !s.power.sentinel || s.power.vinStopped then .next s
  else
    let s1 := (switchedOff (deviceReset (countHeld s) .powerOn 1) true).onPower (fun p => { p with vbak := vbak, vinInRange := false, vinStopped := true })
    .next (if vbak then s1 else sentinelLost s1)

/-- SENTINEL_POWER_LOSS: VBAK goes while VIN is below VIN_STOP. -/
def execSentinelPowerLoss (s : State) : Host.Outcome State Fault Refusal :=
  if s.power.state != .off || !s.power.vinStopped || !s.power.sentinel then .next s else .next (sentinelLost (s.onPower (fun p => { p with vbak := false })))

/-- VIN_IN_RANGE_CHANGE (R861). -/
def execVinInRangeChange (inRange : Bool) (s : State) : Host.Outcome State Fault Refusal :=
  .next (s.onPower (fun p => { p with vinInRange := inRange }))

/-! ### Rhizoid faults (Table 2.12, R87 to R90) -/

def PhaseCause.code : PhaseCause → Nat
  | .openPhase => 1 | .sense => 2 | .limit => 3 | .hot => 4
/-- PHASE_LOST of Table 17.16. -/
def phaseEntry (s : State) (phase cause : Nat) : State :=
  append s Entry.phaseLost (Src.phase phase) (phase + cause * 2 ^ 4 + s.power.phaseOk.toNat * 2 ^ 8 + s.power.phasesLost * 2 ^ 12 + effectiveCap s * 2 ^ 16)
/-- One phase fewer: the 75 % cap and shedding with the first, and Sorus is preempted at its next macro-step (R492); SAFE_HOLD with the
second. In last gasp the entries wait (Table 2.11). -/
def phaseReaction (s : State) (phase cause : Nat) : State :=
  if s.power.phasesLost == 1 then
    let s1 := s.onPower (fun p => { p with sorusHold := true })
    let s2 := phaseEntry (pwrEvent (pwrEvent s1 1) 2) phase cause
    if s.power.quiesced then s2 else dispatch (enforce s2)
  else enterSafeHold (phaseEntry (pwrEvent s 1) phase cause) 1
/-- What FEED_LOST reports of FEED_WARN where none was asserted: the manual gives no value (log entries 2 and 78). -/
def unwarned (s : State) : State :=
  if s.power.feedWarn then s
  else
    let (v, s1) := takeFree s
    s1.onPower (fun p => { p with vcoreAtWarn := bitsOf v.toNat 0 8, abortedAtWarn := v.getLsbD 8 })
/-- REGULATOR_FAILED, last gasp, and reset until a power cycle. -/
def regulatorFailed (s : State) (phase cause : Nat) : State :=
  let s1 := append s Entry.regulatorFailed (Src.phase phase) ((~~~s.power.phaseOk).toNat + cause * 2 ^ 4)
  let s2 := if s1.power.quiesced then s1 else lastGasp (unwarned s1)
  (deviceReset (countHeld s2) .pcieKept 7).onBoot (fun b => { b with heldInReset := true })
/-- PHASE_LOST. -/
def execPhaseLost (phase : Fin 4) (cause : PhaseCause) (s : State) : Host.Outcome State Fault Refusal :=
  if !coreUp s || !s.power.phaseOk.getLsbD phase.val then .next s
  else
    let s1 := s.onPower (fun p => { p with phaseOk := p.phaseOk &&& ~~~((1 : BitVec 4) <<< phase.val), phasesLost := p.phasesLost + 1 })
    if !running s then
      .next (if s1.power.phasesLost ≥ 3 then (deviceReset s1 .pcieKept 7).onBoot (fun b => { b with heldInReset := true })
        else s1.onPower (fun p => { p with phaseNotes := p.phaseNotes ++ [(phase.val, PhaseCause.code cause)] }))
    else
      let s2 := raiseWaking s1 [30]
      .next (if s2.power.phasesLost ≥ 3 then regulatorFailed s2 phase.val (PhaseCause.code cause) else phaseReaction s2 phase.val (PhaseCause.code cause))

/-- A hardware-fault reset, with an entry that the next boot makes. -/
def faultReset (s : State) (notes : List Note) : State := deviceReset (s.onLog (fun l => { l with reports := l.reports ++ notes })) .pcieKept 7
/-- VCORE_LOW: the move to OP_SAFE, and whether VCORE recovered within 100 µs. -/
def execVcoreLow (mv : BitVec 16) (recovered : Bool) (s : State) : Host.Outcome State Fault Refusal :=
  if !coreUp s then .next s
  else
    let set := s.power.vcore
    let s1 := if running s then raiseWaking s [32] else s
    let s2 := (moveToSafe s1).onPower (fun p => { p with vcoreLow := !recovered })
    .next (if running s then append s2 Entry.vcoreLow Src.xemberon (set + mv.toNat * 2 ^ 8 + flagBit recovered 24) else s2)
/-- VCORE_LOW_TIMEOUT: not recovered in 100 µs. -/
def execVcoreLowTimeout (s : State) : Host.Outcome State Fault Refusal := .next (if s.power.vcoreLow then faultReset s [] else s)
/-- VCORE_HIGH: all phases off, a reset, the entry at the next boot from ROM. -/
def execVcoreHigh (mv : BitVec 16) (s : State) : Host.Outcome State Fault Refusal :=
  if !coreUp s then .next s
  else .next (faultReset s [note s Entry.vcoreHigh Src.rom (s.power.vcore + mv.toNat * 2 ^ 8)])
/-- RHZ_CLOCK: the backup oscillator; nothing is shed. ROM leaves the report to Xemberon. -/
def execRhzClock (s : State) : Host.Outcome State Fault Refusal :=
  if s.power.backupClock || !coreUp s then .next s
  else
    let s1 := s.onPower (fun p => { p with backupClock := true })
    .next (if running s then noteClock s1 else s1.onPower (fun p => { p with clockNote := true }))

/-! ### Thermal limits (Table 2.5, R63, R64) -/

/-- THERMAL of Table 17.16. -/
def thermalEntry (s : State) (threshold sensor : Nat) (temp : Int) : State :=
  append s Entry.thermal Src.xemberon (threshold + sensor * 2 ^ 8 + (temp % 2 ^ 16).toNat * 2 ^ 16 + s.power.allowance * 2 ^ 32)
/-- 110 °C: the allowance begins to fall, one group each millisecond. -/
def reach110 (s : State) (sensor : Nat) (t : Int) : State :=
  if junction s < 1100 || s.power.hot then s else thermalEntry (raiseWaking (s.onPower (fun p => { p with hot := true })) [34]) 1 sensor t
/-- 120 °C: Sorus stops at its next macro-step, its jobs are held. -/
def reach120 (s : State) (sensor : Nat) (t : Int) : State :=
  if junction s < 1200 || s.power.sorusStopped then s
  else thermalEntry (pwrEvent (raiseWaking (s.onPower (fun p => { p with sorusStopped := true })) [35]) 4) 2 sensor t
/-- 125 °C: SAFE_HOLD. -/
def reach125 (s : State) (sensor : Nat) (t : Int) : State :=
  if junction s < 1250 || s.power.safeHold.isSome then s else enterSafeHold (thermalEntry (raiseWaking s [36]) 3 sensor t) 2
/-- Below 105 °C: Sorus and a thermal SAFE_HOLD end; groups return one each millisecond. -/
def below105 (s : State) (sensor : Nat) (t : Int) : State :=
  if junction s ≥ 1050 || !s.power.hot then s
  else
    let s1 := thermalEntry (raise (s.onPower (fun p => { p with hot := false, sorusStopped := false })) [37]) 4 sensor t
    dispatch (if s1.power.safeHold == some 2 then leaveSafeHold s1 else s1)
/-- THERMAL_SAMPLE: a temperature in 0.1 °C, signed. -/
def execThermalSample (sensor : Fin 8) (temp : BitVec 16) (s : State) : Host.Outcome State Fault Refusal :=
  let s1 := s.onPower (fun p => { p with temps := SMap.set 0 p.temps sensor.val temp.toInt })
  if !running s || s.power.quiesced then .next s1
  else .next (below105 (reach125 (reach120 (reach110 s1 sensor.val temp.toInt) sensor.val temp.toInt) sensor.val temp.toInt) sensor.val temp.toInt)
/-- THERMAL_ALLOWANCE_STEP, each millisecond: one group fewer at or above 110 °C, one more once the reaction has ended; the governor meets
the new allowance at the next epoch boundary (R48, R58). -/
def execThermalAllowanceStep (s : State) : Host.Outcome State Fault Refusal :=
  if !running s || s.power.quiesced then .next s
  else if junction s ≥ 1100 then .next (s.onPower (fun p => { p with allowance := max 1 (p.allowance - 1) }))
  else if s.power.hot then .next s
  else .next (s.onPower (fun p => { p with allowance := min 16 (p.allowance + 1) }))

end Sys2Proof.Machine
end

