-- ==== Sys2Proof/Machine/Mailbox.lean ====
section
/-! DEFINITION. The mailbox (chapter 6): doorbells, fetch and the checks made at it, quarantine, moderation, and what the host link does to
commands in flight. -/

namespace Sys2Proof.Machine

/-! ### Doorbells (R226 to R229) -/

/-- A function whose registers the host reaches: the PF, and enabled VFs; not while its FLR runs (Table 5.14 step 1). -/
def reachable (s : State) (f : FnId) : Bool := (f == 0 || (fnOf s f).enabled) && !(fnOf s f).resetting

/-- Entries between two indices of a ring, counted forward. -/
def ringSpan (depth lo hi : Nat) : Nat := (hi + depth - lo) % depth

/-- R227: the free slots are DEPTH - 1 less the entries between head and old tail. -/
def sqTailValid (p : Pair) (v : Nat) : Bool :=
  v < p.depth && ringSpan p.depth p.sqTail v ≤ p.depth - 1 - ringSpan p.depth p.sqHead p.sqTail
/-- R228. -/
def cqHeadValid (p : Pair) (v : Nat) : Bool := v < p.depth && ringSpan p.depth p.cqHead v ≤ ringSpan p.depth p.cqHead p.cqTail

/-- The next doorbell has been rung. -/
def countRing (s : State) : State := s.onLink (fun l => { l with rings := l.rings + 1 })
/-- The SQ tail doorbell: E082 for URGENT to E085 for BACKGROUND (Table 3.7); in last gasp it is recorded, and its event comes with the
resume (R80). -/
def sqTailWrite (s : State) (f : FnId) (q : PairId) (v : Nat) : State :=
  let p := pairOf s f q
  if !pairServed p || !sqTailValid p v then violate s f
  else
    let s1 := onPair (countRing s) f q (fun p => { p with sqTail := v, rings := p.rings ++ [(ringSpan p.depth p.sqTail v, s.link.rings + 1)] })
    if s.power.quiesced then onPair s1 f q (fun p => { p with doorbell := true })
    else raiseWaking s1 [82 + p.cls]

/-- The CQ head doorbell. -/
def cqHeadWrite (s : State) (f : FnId) (q : PairId) (v : Nat) : State :=
  let p := pairOf s f q
  if !pairServed p || !cqHeadValid p v then violate s f
  else dozeWake (onPair s f q (fun p => { p with cqHead := v }))

/-- SQ_TAIL_DOORBELL: dropped uncounted before READY. -/
def execSqTailDoorbell (fn : FnId) (q : PairId) (v : U32) (s : State) : Host.Outcome State Fault Refusal :=
  if !running s || !reachable s fn then .next s else .next (sqTailWrite s fn q v.toNat)

/-- CQ_HEAD_DOORBELL. -/
def execCqHeadDoorbell (fn : FnId) (q : PairId) (v : U32) (s : State) : Host.Outcome State Fault Refusal :=
  if !running s || !reachable s fn then .next s else .next (cqHeadWrite s fn q v.toNat)

/-! ### Fetch (R230, R231, R240, R243 to R249, R256, Table 7.3) -/

/-- Commands of a pair that are fetched and not yet released. -/
def outstanding (s : State) (f : FnId) (q : PairId) : Nat :=
  let p := pairOf s f q
  (s.jobs.filter (fun j => j.cmd.fn == f && j.cmd.q == q && j.cmd.issuer == .host)).length + ringSpan p.depth p.cqHead p.cqTail

/-- The device may fetch the next entry of a pair. -/
def fetchable (s : State) (f : FnId) (q : PairId) : Bool :=
  let p := pairOf s f q
  running s && reachable s f && !s.power.quiesced && s.power.state != .doze && s.power.state != .hibernate &&
    (fnOf s f).busMaster && p.active && p.sqHead != p.sqTail && outstanding s f q < p.depth - 1
/-- It does: a function's URGENT pair comes first (Table 6.6). -/
def mayFetch (s : State) (f : FnId) (q : PairId) : Bool :=
  fetchable s f q && ((pairOf s f q).cls == 0 ||
    !(List.range 4).any (fun i => (pairOf s f (BitVec.ofNat 2 i)).cls == 0 && fetchable s f (BitVec.ofNat 2 i)))

/-- A completion made at the fetch: nothing starts. -/
def answerEarly (s : State) (op : Nat) (c : Cmd) (st : Nat) (pastTag : Bool) : State :=
  let p := pairOf s c.fn c.q
  let done := completionOf c (fail st) p.sqHead 0 p.phase
  deliver (if pastTag && recorded (knownOp op) op c then recordReplay s op c done else s) c done st pastTag

/-- R244: the copy of a cached completion: REPLAYED set, SQ_HEAD and PHASE of now. -/
def replayCopy (p : Pair) (r : Bytes) : Bytes :=
  r.take 28 ++ leBytes 2 p.sqHead ++ [r.getD 30 0 ||| 2, (r.getD 31 0 &&& 0xFE) ||| (if p.phase then 1 else 0)]

/-- Check 3 on a record of the window. -/
def answerRecord (s : State) (op : Nat) (c : Cmd) (r : ReplayRec) : State :=
  let p := pairOf s c.fn c.q
  if r.op != op || r.cmd != c then violate (answerEarly s op c Status.tagInUse false) c.fn
  else if hostRead s c.fn (replayBase p + 64 * r.place) 64 != r.record then answerEarly s op c Status.replayLost false
  else deliver s c (replayCopy p r.record) (leNat ((r.record.drop 2).take 2)) false

/-- Checks 4 to 8; an entry that passes is a command in flight. -/
def accept (s : State) (op : Nat) (c : Cmd) (rung : Nat) : State :=
  if !knownOp op then answerEarly s op c Status.unknownOpcode true
  else match lateChecks s op c with
    | some st =>
      let s1 := answerEarly s op c st true
      if st == Status.notPermitted then violate s1 c.fn else s1
    | none => s.onJobs (· ++ [{ op := op, cmd := c, fetchedAt := s.clocks.seta, rung := rung }])

/-- Checks 1 to 3 of Table 7.3, then the rest. -/
def judge (s : State) (op : Nat) (c : Cmd) (rung : Nat) : State :=
  if (fnOf s c.fn).quarantined then answerEarly s op c Status.quarantined false
  else if malformed op c then violate (answerEarly s op c Status.badDescriptor false) c.fn
  else match hostJob s c.fn c.q c.tag with
    | some j =>
      if j.op == op && j.cmd == c then answerEarly s op c Status.inProgress false
      else violate (answerEarly s op c Status.tagInUse false) c.fn
    | none => match (pairOf s c.fn c.q).window.find? (fun r => r.cmd.tag == c.tag) with
      | some r => answerRecord s op c r
      | none => accept s op c rung

/-- The doorbell that announced the next entry, and the list without that entry. -/
def firstRing : List (Nat × Nat) → Nat
  | [] => 0
  | (n, k) :: r => if n == 0 then firstRing r else k
def takeRing : List (Nat × Nat) → List (Nat × Nat)
  | [] => []
  | (n, k) :: r => if n == 0 then takeRing r else if n == 1 then r else (n - 1, k) :: r
/-- One entry: the head advances as it is copied on die. -/
def fetchOne (s : State) (f : FnId) (q : PairId) : State :=
  let p := pairOf s f q
  let (op, c) := parseEntry f q .host (hostRead s f (p.sqBase + 64 * p.sqHead) 64)
  judge (onPair s f q (fun p => { p with sqHead := (p.sqHead + 1) % p.depth, doorbell := false, rings := takeRing p.rings })) op c (firstRing p.rings)

def fetchSome : Nat → State → FnId → PairId → State
  | 0, s, _, _ => s
  | k + 1, s, f, q => if mayFetch s f q then fetchSome k (fetchOne s f q) f q else s

/-- COMMAND_FETCH: up to 8 entries. -/
def execCommandFetch (fn : FnId) (q : PairId) (s : State) : Host.Outcome State Fault Refusal := .next (fetchSome 8 s fn q)

/-! ### Violations and moderation -/

/-- QUARANTINE_END (R256). -/
def execQuarantineEnd (fn : FnId) (s : State) : Host.Outcome State Fault Refusal :=
  if !(fnOf s fn).quarantined then .next s
  else
    let s1 := atInstant s (fnOf s fn).quarUntil
    let s2 := fnEvent (onFn s1 fn (fun x => { x with quarantined := false })) fn 1
    .next (if violationCount (fnOf s2 fn) > 64 then startQuarantine s2 fn else onFn s2 fn (fun x => { x with quarantineRuns := 0 }))

/-- A new interval: the current and the previous nine are kept. -/
def rollViolations (l : List Nat) : List Nat :=
  let m := (0 :: l).take 10
  if m.all (· == 0) then [] else m

/-- VIOLATION_WINDOW_ROLL (R254): every 100 ms of Seta. -/
def execViolationWindowRoll (s : State) : Host.Outcome State Fault Refusal :=
  let t := nextBoundary s.clocks.rollAt 10000000
  let s1 := (atInstant s t).onClocks (fun c => { c with rollAt := t })
  .next (s1.onFns (SMap.mapV {} (fun _ x => { x with violations := rollViolations x.violations })))

/-- COALESCE_TIMEOUT (R186): TIME after the oldest unsignalled completion. -/
def execCoalesceTimeout (fn : FnId) (q : PairId) (s : State) : Host.Outcome State Fault Refusal :=
  let p := pairOf s fn q
  let time := bitsOf (reg s (fnKey fn 0x180)) 8 10
  if p.unsignalled == 0 || time == 0 then .next s
  else .next (signal (onPair (atInstant s (p.oldest + 100 * time)) fn q (fun p => { p with unsignalled := 0 })) fn p.vector)

/-- The function whose registers hold a group; 0 for GL_ groups. -/
def groupFn : CommitGroup → FnId
  | .queue f _ => f
  | .imod f => f
  | _ => 0

/-- COMMIT_GO (R102, R106); `clearing`: in the cycle in which BUSY of the group clears. -/
def execCommitGo (w : GoWrite) (s : State) : Host.Outcome State Fault Refusal :=
  if !running s || !reachable s (groupFn w.group) then .next s else .next (commitStart s w.group w.clearing)

/-! ### The host link -/

/-- Vectors that were pending go out once unmasked (PCI Express). -/
def flushPba (s : State) (f : FnId) : State :=
  (List.range 64).foldl (fun a v =>
    if SMap.get false a.link.pba (f.toNat * 64 + v) && bitOf (reg a (fnKey f (0x2000 + 16 * v + 12))) 0 && (fnOf a f).busMaster then
      signal (a.onLink (fun l => { l with pba := SMap.set false l.pba (f.toNat * 64 + v) false })) f v
    else a) s

/-- Output that waited for Bus Master Enable goes out, in order, and the completions of jobs that ended meanwhile are posted (R211). -/
def flushHeld (s : State) (f : FnId) : State :=
  let s1 := (s.link.held.filter (·.1 == f)).foldl (fun a e => hostWrite a f e.2.1 e.2.2) (s.onLink (fun l => { l with held := l.held.filter (·.1 != f) }))
  (s1.jobs.filter (fun j => j.cmd.fn == f && j.stage == .done)).foldl (fun a j => post a j (j.outcome.getD {})) s1
/-- BUS_MASTER_ENABLE (R211). -/
def execBusMasterEnable (fn : FnId) (on : Bool) (s : State) : Host.Outcome State Fault Refusal :=
  let s1 := onFn s fn (fun x => { x with busMaster := on })
  .next (if on then flushPba (flushHeld s1 fn) fn else s1)

/-- R215: an AER report on a function, or on the PF where the function is not there to have it: a bit of the uncorrectable error status. -/
def aerReport (s : State) (f : FnId) (bit : Nat) : State :=
  let g := if f == 0 || (fnOf s f).enabled then f else 0
  s.onLink (fun l => { l with aer := SMap.mod 0 l.aer g.toNat (fun x => x ||| BitVec.ofNat 32 (2 ^ bit)) })
/-- The AER bit of a failed read (PRESUMED: the PCI Express layout, log entry 81). -/
def DmaEnd.aerBit : DmaEnd → Nat
  | .data => 0
  | .unsupported => 20
  | .completerAbort => 15
  | .poisoned => 12
  | .timeout => 14

/-- A DMA read of a job fails (R212): the job ends with DMA_ERROR and the byte offset, one that has not started if it may start. An
invocation's COPY_IN takes it as the exception of that service, and a job that has ended needs nothing more. -/
def readFails (s : State) (j : Job) (off : Nat) : State :=
  if j.op == 0x0C03 || j.stage == .done then s
  else if j.stage == .fetched then
    (if holdsBack s j.op j.cmd || fenceHolds s j.cmd || orderHolds s j.cmd then s else post s j { status := Status.dmaError, detail := off })
  else complete s j { status := Status.dmaError, detail := off }
/-- DMA_READ_COMPLETION (R197, R212, R215, R257): good data stand in the function's memory as the device sees it; a failed read is reported
through AER and ends the job, or stops the pair. -/
def execDmaReadCompletion (fn : FnId) (use : DmaUse) (addr : U64) (result : DmaEnd) (data : Bytes) (s : State) :
    Host.Outcome State Fault Refusal :=
  if (fnOf s fn).resetting then .next s
  else if result == .data then .next (hostWrite s fn addr.toNat data)
  else
    let s1 := aerReport s fn (DmaEnd.aerBit result)
    match use with
    | .sq q => .next (if pairServed (pairOf s fn q) then closePair s1 fn q false else s1)
    | .job q tag off => match hostJob s fn q tag with
      | none => .next s1
      | some j => .next (readFails s1 j off.toNat)

/-- Bytes of host memory that may or may not have landed: each takes a free value (R887, log entry 2). -/
def looseBytes (s : State) (f : FnId) (a n : Nat) : State :=
  (hostWrite s f a ((List.range n).map (fun i => (Config.freeValue (s.free + i)).setWidth 8))).onFree (· + n)
/-- HOST_WRITE_FAILURE (R215, R257, R307, R886, R887): reported; `len` bytes from `addr`, what the failure touched, are undefined; the command
runs on, and a pair whose queue memory failed stops and loses its later completions. -/
def execHostWriteFailure (fn : FnId) (w : FailedWrite) (s : State) : Host.Outcome State Fault Refusal :=
  let s1 := looseBytes (aerReport s fn 20) fn w.addr.toNat w.len.toNat
  match w.use with
  | .queue q => .next (if pairServed (pairOf s fn q) then closePair (onPair s1 fn q (fun p => { p with lost := true })) fn q false else s1)
  | _ => .next s1

end Sys2Proof.Machine
end

