-- ==== Sys2Proof/Machine/TestEcc.lean ====
section
/-! DEFINITION. Preemption points, forced test slots and the end of a known-answer set, double-bit faults, scrub passes and the patrol read,
and the mismatch of a Pinna pair (R199, R207, R208, Tables 5.15, 18.3 to 18.8). -/

namespace Sys2Proof.Machine

/-! ### Preemption points (Table 5.15, R199, R207, R208, R490) -/

/-- The job that holds a unit at work: the one that runs there, or the Sorus job a frond is lent to. -/
def occupant (s : State) (u : UnitRef) : Option Job :=
  match runningHere s u with
  | some j => some j
  | none => s.jobs.find? (fun j => j.borrowed.isSome && onlyLent j u)
/-- The units of a job that reach a preemption point with one of them (R393). -/
def sharedPoint (j : Job) (u : UnitRef) : List UnitRef :=
  match j.stage, j.twin with
  | .running (.frond a), some b => [UnitRef.frond a, UnitRef.frond b]
  | _, _ => [u]
/-- The running job of a unit becomes its preempted one; a Sorus job goes on without its lent frond. -/
def preempt (s : State) (j : Job) (u : UnitRef) : State :=
  if onlyLent j u then s
  else onJob (if j.borrowed.isNone then stopPay s j.cmd else s) j.cmd (fun x => { x with stage := match x.stage with | .running v => .preempted v | st => st })
/-- A unit holds at most one preempted job (R333, R489). -/
def holdsPreempted (s : State) (u : UnitRef) : Bool :=
  s.jobs.any (fun j => j.holds u && (match j.stage with | .preempted _ => true | _ => false))

/-- The fronds a waiting job can have when the fronds of another are freed: one of those, and for a twin job a partner in another group. -/
def takeFronds (s : State) (k : Job) (freed : List UnitRef) : Option (Fin 64 × Option (Fin 64)) :=
  let fs := freed.filterMap (fun u => match u with | .frond n => some n | _ => none)
  if wantsTwin s k then
    let old := fun (n : Fin 64) => (unitOf s (.frond n)).joinedAt ≤ k.fetchedAt
    match fs.filter old with
    | [] => none
    | a :: r => ((r ++ (idleFronds s).filter old).find? (fun b => b.val / 4 != a.val / 4)).map (fun b => (a, some b))
  else fs.head?.map (fun a => (a, none))
/-- Frond jobs that wait and cannot have idle fronds. -/
def stuckFrondJobs (s : State) : List Job :=
  s.jobs.filter (fun k => frondReady s k && mayHave s k && (frondsFor s k).isNone)
/-- The URGENT job a kind of unit is wanted for. -/
def urgentFor (s : State) (u : UnitRef) : Option Job :=
  match u with
  | .frond _ => firstJob s 0 ((stuckFrondJobs s).filter (fun k => classOf s k.cmd == 0))
  | .calyptra _ => firstJob s 1 (s.jobs.filter (fun k => wantsCalyptra k && wantsUnit s k && drawReady s k && classOf s k.cmd == 0 && !calyptras.any (idleUnit s)))
  | .slice _ => firstJob s 2 (s.jobs.filter (fun k => sliceReady s k && wantsUnit s k && drawReady s k && classOf s k.cmd == 0 && !slices.any (idleUnit s)))
  | _ => none
/-- Functions with a frond that an URGENT job or a reclaim may take: held by a job of a lower class, with no preempted job on it. -/
def donors (s : State) : List FnId :=
  ((fronds.filterMap (fun n => match occupant s (.frond n) with
    | some j => if classOf s j.cmd != 0 && (sharedPoint j (.frond n)).all (fun v => !holdsPreempted s v) then some j.cmd.fn else none
    | none => none))).eraseDups
/-- The function of a list that comes first by a measure, the highest number on a tie. -/
def topFn (m : FnId → Int) (l : List FnId) : Option FnId :=
  l.foldl (fun a f => match a with
    | none => some f
    | some g => if m g < m f || (m g == m f && g.toNat < f.toNat) then some f else some g) none
/-- R199: the function that holds the most fronds. -/
def mostHeld (s : State) : Option FnId := topFn (fun f => Int.ofNat (held s f)) (donors s)
/-- R208: what a function holds above its weighted share of the pool, times the sum of weights. -/
def aboveShare (s : State) (f : FnId) : Int :=
  let total := ((activeFns s).map (fun n => weightOf s (BitVec.ofNat 8 n))).sum
  Int.ofNat (held s f * total) - Int.ofNat (weightOf s f * inPool s)
def mostAbove (s : State) : Option FnId := topFn (aboveShare s) (donors s)
/-- A function with backlog below its effective minimum, and the job it takes a frond for. -/
def reclaimFor (s : State) (j : Job) : Option Job :=
  if mostAbove s == some j.cmd.fn && held s j.cmd.fn > effectiveMin s j.cmd.fn then
    firstJob s 0 ((stuckFrondJobs s).filter (fun k => held s k.cmd.fn < effectiveMin s k.cmd.fn))
  else none

/-- A waiting job takes the units of a preempted one; a draw that ends it preempts nothing. -/
def takeUnit (s : State) (j k : Job) (u : UnitRef) : State :=
  match u with
  | .frond _ => (match takeFronds s k (sharedPoint j u) with
    | some (a, b) => (match startDraw s k with
      | (s1, true) => bindTo (preempt s1 j u) k a b
      | (s1, false) => s1)
    | none => s)
  | _ => (match startDraw s k with
    | (s1, true) => bindAt (preempt s1 j u) k u
    | (s1, false) => s1)
/-- The test slots that are due at a point are taken, on both partners together (R393, Table 18.8). -/
def takeTests (s : State) (j : Job) (u : UnitRef) (due : List UnitRef) : State :=
  due.foldl (fun a v => if slotFree a v then startTest a v (unitOf a v).why else a) (preempt s j u)
/-- URGENT work past its function's cap waits (R200). -/
def overCap (s : State) (j : Job) (u : UnitRef) : Bool :=
  classOf s j.cmd == 0 && !onlyLent j u && (match u with | .frond _ => !underCap s j.cmd.fn 0 | _ => false)
/-- A unit reaches a preemption point: the test first, then URGENT work, then a minimum. -/
def preemptionPoint (s : State) (j : Job) (u : UnitRef) : State :=
  let us := sharedPoint j u
  let due := us.filter (fun v => (unitOf s v).forced && slotFree s v)
  if !due.isEmpty then takeTests s j u due
  else if overCap s j u && !us.any (holdsPreempted s) then dispatch (preempt s j u)
  else if classOf s j.cmd == 0 || us.any (holdsPreempted s) then s
  else match urgentFor s u with
    | some k => (match u with
      | .frond _ => if mostHeld s == some j.cmd.fn then takeUnit s j k u else s
      | _ => takeUnit s j k u)
    | none => (match u with
      | .frond _ => (match reclaimFor s j with
        | some k => takeUnit s j k u
        | none => s)
      | _ => s)

/-- A job whose unit reaches its points: it may run, its lattice step has run (R432), and a lent frond's Sorus job does not stand still
(R463, R492). -/
def reaches (s : State) (j : Job) (u : UnitRef) : Bool := mayRun s j && j.lattice != .due && !(sorusOff s && onlyLent j u)
/-- At the boundary of a lattice step of a Calyptra job the next one is asked for (R432); at a slice's boundary a waiting one runs before any
preemption (R491, Table 11.16), and a job that stands still is parked (R492). -/
def latticePoint (s : State) (j : Job) (u : UnitRef) : State :=
  match u with
  | .slice n => macroStep (if sorusOff s then giveBack s j else s) j n
  | .calyptra _ => serveLattice (onJob s j.cmd (fun x => { x with lattice :=
      match x.stage with | .running _ => (if isLatticeJob x then .due else .idle) | _ => .idle }))
  | _ => s
/-- What a unit does at its boundary. -/
def boundary (s : State) (j : Job) (u : UnitRef) : State :=
  match u with
  | .slice _ => if sorusOff s then dispatch (latticePoint s j u) else preemptionPoint (latticePoint s j u) j u
  | .calyptra _ => latticePoint (preemptionPoint s j u) j u
  | _ => preemptionPoint s j u
/-- PREEMPTION_POINT. -/
def execPreemptionPoint (u : UnitRef) (s : State) : Host.Outcome State Fault Refusal :=
  if !running s || s.power.quiesced then .next s
  else match u, occupant s u with
    | .pinna _, _ => .next s
    | _, some j => .next (if reaches s j u then boundary s j u else s)
    | _, none => .next s

/-! ### Test slots (Table 18.3, R780, R784 to R787, R793) -/

/-- Forced age, Seta ticks. -/
def forcedAge : UnitRef → Nat
  | .frond _ => 1990000
  | .entropy => 10000000
  | _ => 9950000
/-- A unit that is tested in service: not a Pinna core, in service or lent, powered, and not while IST_CONTROL stops it. -/
def aging (s : State) (u : UnitRef) : Bool :=
  let x := unitOf s u
  (x.st == .inService || x.st == .borrowed) && unitPowered s u && !x.forced &&
    (match u with | .pinna _ => false | .entropy => true | _ => !s.health.istDisabled)
/-- Xemberon schedules tests. -/
def testsRun (s : State) : Bool := xemberon s && !s.power.quiesced && s.power.state != .doze

/-- Crozier tests the frond that it uses (Table 18.8). -/
def crozierTests (s : State) (u : UnitRef) : Bool := s.update.crozier && (macFrond s).map .frond == some u
/-- FORCED_TEST: a unit reaches its forced age; E087 says that a slot is due. -/
def execForcedTest (u : UnitRef) (s : State) : Host.Outcome State Fault Refusal :=
  if !(testsRun s || crozierTests s u) || !aging s u then .next s
  else
    let s1 := raise (atInstant s ((unitOf s u).lastTest + forcedAge u)) [87]
    .next (startForced (onUnit s1 u (fun x => { x with forced := true, why := .slot })))

/-- TEST_DONE: a known-answer set ends on a unit that has its power (R797). -/
def execTestDone (u : UnitRef) (pass : Bool) (s : State) : Host.Outcome State Fault Refusal :=
  if !running s || s.power.quiesced || (unitOf s u).st != .testing || (unitOf s u).passed || !unitPowered s u || !clocked s u then .next s
  else .next (dispatch (settleReturns (endTest (noteTested s u true pass) u pass)))

/-! ### Double-bit faults (Table 18.6, R791) -/

/-- A job starts again from its first byte, and its units are free. -/
def restartJob (s : State) (j : Job) : State :=
  dispatch (j.onUnits.foldl resumeOn (abandon s j))
/-- A segment tag or a staged descriptor: the job is re-run; an invocation is not (R778), and one that waits for flash goes on. -/
def descriptorLost (s : State) (j : Job) : State :=
  match j.stage with
  | .waiting | .running _ | .preempted _ => if j.op == 0x0C03 then s else restartJob s j
  | _ => onJob s j.cmd (fun x => { x with rerun := true })

/-- Jobs whose key was still to be loaded from a slot that is cleared (R356). -/
def loseSlot (s : State) (n : Nat) : State :=
  let l := s.jobs.filter (fun j => j.slotsLoaded.contains n && j.copies.isEmpty)
  l.foldl (fun a j => complete a j (fail Status.keyEmpty)) s
/-- A Medulla slot: reloaded from its record, or derived anew for slot 1 (R355); a volatile one is cleared (R356). -/
def slotFault (s : State) (n : Nat) : State :=
  let a := attrOf s n
  if !attrValid a then s
  else if n == 1 then loadChainKey s
  else if attrPersistent a then
    match recordFor s n (a % 256) with
    | some (_, r) => loadRecord (emptySlot s n) r
    | none => emptySlot s n
  else loseSlot (append (emptySlot s n) Entry.keyLost Src.xemberon (n + a % 256 * 2 ^ 16)) n

/-- Scratch: the owner's job goes to fresh granules; a second fault in a granule in one boot withdraws it (Table 11.17). -/
def scratchFault (s : State) (g : Nat) : State :=
  let second := s.engines.scratchHit.contains g && !s.engines.scratchGone.contains g
  let s1 := s.onEngines (fun e => { e with
    scratchHit := if e.scratchHit.contains g then e.scratchHit else g :: e.scratchHit
    scratchGone := if second then g :: e.scratchGone else e.scratchGone })
  let owner := s1.jobs.find? (fun j => j.granules.contains g)
  let src := match owner.map (·.stage) with
    | some (.running (.slice k)) => k.val
    | some (.preempted (.slice k)) => k.val
    | _ => 0
  let s2 := if second then append s1 Entry.scratchWithdrawn (Src.slice src) (g + s1.engines.scratchGone.length * 2 ^ 8) else s1
  match owner with
  | some j => restartJob (onJob s2 j.cmd (fun x => { x with granules := [], reserved := false })) j
  | none => s2

/-- The final value of a counter that no record gives (R619): what remains sealed, else the Spore mirror of counters 0 and 1, else the highest. -/
def lostValue (s : State) (k : Counters) (c : Nat) : Nat :=
  if (baseOf k c).isSome then counterValue k c
  else ((if c < 2 then mirrorValue s (40 + 2 * c) else none).getD 0xFFFFFFFF)
/-- A counter is spent and lost (R619). -/
def loseCounter (s : State) (src c : Nat) : State :=
  let v := lostValue s s.counters c
  append (s.onCounters (fun k => { k with lost := SMap.set 0 k.lost c (v + 1) })) Entry.counterLost src (c + counterOwner s c * 2 ^ 16 + v * 2 ^ 32)
/-- A primary block cannot be read: where it gave its counter's B, the backup gives it still and the counter is relocated (R618), or the counter
is lost (R619). -/
def blockFault (s : State) (i : Nat) : State :=
  let b := SMap.get {} s.counters.blocks i
  let c := recCounter b
  let k := { s.counters with blocks := SMap.mod {} s.counters.blocks i (fun x => { x with damaged := true }) }
  let s1 := s.onCounters (fun _ => k)
  if !liveRecord s.counters b then s1
  else if baseOf k c == baseOf s.counters c then
    let v := counterValue k c
    append (s.onCounters (fun _ => (writeRecords k c v).getD k)) Entry.counterRepaired Src.xemberon (c + counterOwner s c * 2 ^ 16 + v * 2 ^ 32)
  else loseCounter s1 Src.xemberon c
/-- A backup slot cannot be read: a counter whose B it alone gave is lost (R619). -/
def backupFault (s : State) (t : Nat) : State :=
  let b := SMap.get {} s.counters.backups t
  let s1 := s.onCounters (fun k => { k with backups := SMap.mod {} k.backups t (fun x => { x with damaged := true }) })
  if liveRecord s.counters b && baseOf s1.counters (recCounter b) != baseOf s.counters (recCounter b) then loseCounter s1 Src.xemberon (recCounter b)
  else s1
/-- A unary cell counts as used (R595, R620), once. -/
def cellFault (s : State) (i cell : Nat) : State :=
  s.onCounters (fun k => { k with blocks := SMap.mod {} k.blocks i (fun b =>
    if cell < b.used || b.badCells.contains cell then b else { b with used := b.used + 1, badCells := cell :: b.badCells }) })
/-- A word of a sector of the counter region (Table 14.1): seven blocks of 66 words, VALUE, SEAL and 64 cells, then 25 backup slots of two. -/
def counterWordFault (s : State) (sector word : Nat) : State :=
  if word ≥ 462 then backupFault s (25 * sector + (word - 462) / 2)
  else if word % 66 < 2 then blockFault s (7 * sector + word / 66)
  else cellFault s (7 * sector + word / 66) (word % 66 - 2)
/-- The newest primary record of a counter cannot be read (R618, R619). -/
def counterFault (s : State) (c : Nat) : State :=
  match (primaries s.counters c).find? (fun e => some (recBase e.2) == baseOf s.counters c) with
  | none => s
  | some (i, _) => blockFault s i

/-- A key record, 16 words of a sector of 32 records: its wrap or, in its first word, its header (R338, R357). -/
def recordFault (s : State) (sector word : Nat) : State :=
  s.onMedulla (fun m => { m with
    records := SMap.mod {} m.records (32 * (sector - 18) + word / 16) (fun r =>
      if !r.committed then r else if word % 16 == 0 then { r with headerOk := false } else { r with damaged := true }) })
/-- A log slot: six words; the last three hold its CHAIN (R744). -/
def logFault (s : State) (w : Nat) : State :=
  s.onLog (fun l => { l with
    slots := SMap.mod LogSlot.erased l.slots (w / 6) (fun x => match x with
      | .entry q _ ch => .damaged q (if w % 6 ≥ 3 then [] else ch)
      | y => y) })
/-- A flash word fails (R532, R588): what its region makes of it. A bank A word reads as the manual does not state. -/
def flashFault (s : State) (kind index word : Nat) : State :=
  if kind == 0 then let (v, s1) := takeFree s; bankWrite s1 (131072 * index + 8 * word) (leBytes 8 v.toNat)
  else if kind == 3 then setOptWord s index 0 0
  else if kind == 2 && index < 2 then setJWord s index word 0
  else if kind == 2 && 18 ≤ index && index < 54 then recordFault s index word
  else if kind == 2 && 54 ≤ index && index < 126 then logFault s (512 * (index - 54) + word)
  else if kind == 2 && 126 ≤ index && index < 250 then counterWordFault s (index - 126) word
  else s

/-- A word of the Spore store (R658): an entry of the head ring is mirrored again. -/
def sporeFault (s : State) (w : Nat) : State :=
  let s1 := s.onSpore (fun p => { p with bad := if p.bad.contains w then p.bad else w :: p.bad })
  let hit := (s1.log.slots.filter (fun e => match e.2 with
    | .entry q _ _ => 52 ≤ w && w < 244 && q.toNat % 32 == (w - 52) / 6 && s1.log.seq.toNat ≤ q.toNat + 32
    | _ => false)).map (·.1)
  logSporeEcc (s1.onLog (fun l => { l with toMirror := l.toMirror ++ hit })) w

/-- The reaction of Table 18.6. -/
def doubleBit (s : State) (p : EccPlace) : State :=
  match p with
  | .sramCode => deviceReset s .pcieKept 5
  | .sramJob f q t => (match hostJob s f q t with | some j => descriptorLost s j | none => s)
  | .sramReplay f q => if pairServed (pairOf s f q) then closePair s f q false else s
  | .medulla n => slotFault s n.toNat
  | .tcm u _ w => (match (pinnaOf s u).inv with
    | some i => trap s u i (pinnaOf s u).pc 9 w.toNat
    | none => s)
  | .hold n => if [PoolState.inService, .testing, .borrowed].contains (frondState s n) then dispatch (failFrond s n 4) else s
  | .calyptraMem n => if [PoolState.inService, .testing].contains (unitOf s (.calyptra n)).st then dispatch (failUnit s (.calyptra n) 4) else s
  | .scratch g => scratchFault s g.val
  | .share => settleCloses (endShare s 5)
  | .unowned => s
  | .flash kind index word fetch =>
    let s1 := append s Entry.flashEcc Src.xemberon (kind.toNat + index.toNat * 2 ^ 8 + word.toNat * 2 ^ 16)
    if fetch then deviceReset s1 .pcieKept 9 else flashFault s1 kind.toNat index.toNat word.toNat
  | .counter c => counterFault s c.val
  | .spore w => sporeFault s w.toNat

/-- ECC_DOUBLE_BIT: counted and handled while Xemberon runs. -/
def execEccDoubleBit (place : EccPlace) (s : State) : Host.Outcome State Fault Refusal :=
  if !running s || s.power.quiesced || s.power.state == .hibernate then .next s
  else .next (doubleBit (s.onHealth (fun h => { h with doubles := h.doubles + 1 })) place)

/-! ### Scrubbing (Table 18.5, R587, R788) -/

/-- The domain of a scrubbed memory; the Medulla array has the Sentinel's power. -/
def scrubDomain : ScrubMem → Nat
  | .sram b => 25 + b.val
  | .medulla => 24
  | .tcm c => 16 + c.val
  | .hold n => n.val / 4
  | .calyptra n => 31 + n.val
  | .scratch b => 37 + b.val
/-- SCRUB_PASS: bank 0 of system SRAM raises E047 and is counted. -/
def execScrubPass (mem : ScrubMem) (corrected : BitVec 16) (s : State) : Host.Outcome State Fault Refusal :=
  if !running s || s.power.state == .hibernate || !domainOn s (scrubDomain mem) then .next s
  else
    let s1 := s.onHealth (fun h => { h with corrections := h.corrections + corrected.toNat })
    .next (if mem == .sram 0 then raise (s1.onHealth (fun h => { h with scrubPasses := h.scrubPasses + 1 })) [47] else s1)

/-- PATROL_READ: every word once in 24 h of Seta. It yields to a program open on what it reads (R542, Table 13.9), and suspends an open erase
(R543). -/
def execPatrolRead (corrected : BitVec 16) (s : State) : Host.Outcome State Fault Refusal :=
  if !xemberon s || s.power.quiesced then .next s
  else if (List.range 3).any (programOn s) then .next (raise s [79])
  else
    let s1 := atInstant ((List.range 3).foldl (fun a k => suspendErase a k false) s) (s.health.lastPatrol + 8640000000000)
    .next (s1.onHealth (fun h => { h with corrections := h.corrections + corrected.toNat, lastPatrol := s1.clocks.seta }))

/-! ### A Pinna pair (R778) -/

/-- PAIR_MISMATCH: the invocation ends with APPLET_FAULT, cause PAIR_MISMATCH, and both cores run their known-answer set. -/
def execPairMismatch (pair : Fin 4) (s : State) : Host.Outcome State Fault Refusal :=
  let u : Fin 8 := ⟨pair.val, by omega⟩
  let cores := (List.finRange 8).filter (fun n => n.val / 2 == pair.val)
  if !running s || s.power.quiesced || s.pinnas.split || !cores.all (fun n => (unitOf s (.pinna n)).st == .inService) then .next s
  else
    let s1 := match (pinnaOf s u).inv with
      | some i => trap s u i (pinnaOf s u).pc 8 0
      | none => s
    .next (cores.foldl (fun a n => startTest a (.pinna n) .mismatch) s1)

end Sys2Proof.Machine
end

