-- ==== Sys2Proof/Machine/Hypha.lean ====
section
/-! DEFINITION. Event sources from outside the steps of other chapters: Seta alarms, GPIO edges, Hypha itself; the Rachis fabric, island
clocks and the 25 MHz reference (chapter 3, Tables 3.7 to 3.9 and 3.14). -/

namespace Sys2Proof.Machine

/-! ### Hypha (R113 to R120) -/

/-- R119: an event whose previous toggle is not acknowledged adds one to MERGED of every task input its source feeds. -/
def mergeOnly (s : State) (src : Nat) : State :=
  (List.range 96).foldl (fun a t => if taskHits a t [src] == 0 then a else onTask a t (fun x => { x with merged := satAdd 0xFF x.merged 1 })) s
/-- HYPHA_EVENT: the events of one Hypha cycle. -/
def execHyphaEvent (events : List (BitVec 7 × Bool)) (s : State) : Host.Outcome State Fault Refusal :=
  if !running s then .next s
  else
    let held := (events.filter (·.2)).map (·.1.toNat)
    .next (raiseWaking (held.foldl mergeOnly s) (((events.filter (!·.2)).map (·.1.toNat)).eraseDups))

/-- A task that stops other than by SLEEP: not a wake task whose unit still holds an invocation (R825, R826). -/
def taskStops (s : State) (t : Nat) : Bool := !(48 ≤ t && t < 56 && (SMap.get {} s.pinnas.units (unitOfCore s (t - 48))).inv.isSome)
/-- HYPHA_PENDING_FIRE (R117): the held activation fires as its task stops. -/
def execHyphaPendingFire (task : Fin 96) (s : State) : Host.Outcome State Fault Refusal :=
  let t := task.val
  let x := taskOf s t
  if !running s || !x.running || !x.pending || !taskStops s t then .next s
  else .next (taskAction appendNote (onTask s t (fun x => { x with pending := false, running := decide (t < 56), fired := x.fired + 1 })) t 0)

/-- HYPHA_FAULT (Table 3.14): Hypha is reset, and every MERGED reads 0xFF. -/
def execHyphaFault (value : Byte) (s : State) : Host.Outcome State Fault Refusal :=
  if !coreUp s then .next s
  else .next (append (s.onClocks (fun c => { c with tasks := (List.range 96).map (fun t => (t, { merged := 0xFF })) })) Entry.hyphaFault Src.xemberon value.toNat)

/-! ### Alarms and pins -/

/-- The next instant of an alarm after those already taken: its compare value, and with a period every period after it. -/
def alarmInstant (s : State) (k : Nat) : Option Nat :=
  let b := 0x100 + 0x20 * k
  let cmp := reg s (glKey b) + reg s (glKey (b + 4)) * 2 ^ 32
  let period := reg s (glKey (b + 8))
  let mark := SMap.get 0 s.clocks.alarmMark k
  if !bitOf (reg s (glKey (b + 12))) 0 then none
  else if cmp > mark then some cmp
  else if period == 0 then none
  else some (cmp + ((mark - cmp) / period + 1) * period)
/-- SETA_ALARM: E038 to E045. -/
def execSetaAlarm (k : Fin 8) (s : State) : Host.Outcome State Fault Refusal :=
  if !running s then .next s
  else match alarmInstant s k.val with
    | none => .next s
    | some t => .next (raiseWaking ((atInstant s t).onClocks (fun c => { c with alarmMark := SMap.set 0 c.alarmMark k.val t })) [38 + k.val])

/-- The eight bits CG_GPIO holds of a pin: [0] direction, 1 an output; [1] value; [3:2] pull; [4] polarity, 1 falling; [5] wake (log entry 12). -/
def pinCfg (s : State) (n : Nat) : Nat := bitsOf (reg s (glKey (0x200 + n / 4 * 4))) (8 * (n % 4)) 8
/-- GPIO_EDGE: an edge of the configured polarity on an input raises E048 to E055. -/
def execGpioEdge (pin : Fin 8) (level : Bool) (s : State) : Host.Outcome State Fault Refusal :=
  let n := pin.val
  let b : Byte := 1 <<< n
  let s1 := s.onClocks (fun c => { c with gpioIn := if level then c.gpioIn ||| b else c.gpioIn &&& ~~~b })
  if s.clocks.gpioIn.getLsbD n == level || bitOf (pinCfg s n) 0 || bitOf (pinCfg s n) 4 == level || !running s then .next s1
  else .next (raiseWaking s1 [48 + n])

/-! ### Islands (R95, R133, R134, R136, Table 3.14) -/

/-- The units of an island. -/
def islandUnits (i : Nat) : List UnitRef := (allUnits ++ [UnitRef.entropy, UnitRef.wrap]).filter (fun u => islandOf u == i)
/-- An invocation starts again from its first instruction (R134). -/
def rerunInvocation (s : State) (u : Fin 8) : State :=
  match (pinnaOf s u).inv with
  | none => s
  | some i =>
    let s1 := dropIssued (clearUnit s u) u
    match invokeJob s1 i with
    | some j => onJob s1 j.cmd Job.again
    | none => s1
/-- An island's work stops and is marked for re-run. -/
def stopIsland (s : State) (i : Nat) : State :=
  let s1 := (islandUnits i).foldl (fun a u => (stopUnit a u).1) s
  let s2 := (List.finRange 8).foldl (fun a u => if 3 ≤ i && i ≤ 6 && (coresOf a u).any (fun n => 3 + n.val / 2 == i) then rerunInvocation a u else a) s1
  if i == 14 then portOff s2 0 else if i == 15 then portOff s2 1 else if i == 16 then readerBack s2 else s2
/-- The units of an island are retired until the next boot; no entry but the island's own names them. -/
def retireIsland (s : State) (i : Nat) : State :=
  let us := islandUnits i
  let s1 := us.foldl (fun a u => onUnit a u (fun x => { x with st := .failed, passed := false, forced := false })) (stopIsland s i)
  let s2 := s1.onClocks (fun c => { c with isolated := c.isolated ||| (1#19 <<< i), lost := c.lost &&& ~~~(1#19 <<< i) })
  let s3 := if i == 7 then poolChanged (poolEvent s2 0) else if 8 ≤ i && i ≤ 10 then poolEvent s2 2 else s2
  let s4 := if i == 11 then s3.onMedulla (fun m => { m with wrapFailed := true })
    else if i == 12 then s3.onEntropy (fun e => { e with coreFailed := true })
    else if i == 14 then onPort s3 0 (fun x => { x with running := false }) else if i == 15 then onPort s3 1 (fun x => { x with running := false })
    else if i == 16 then s3.onReader (fun r => { r with fault := 1 }) else s3
  settleReturns (dispatch s4)

/-- RACHIS_FAULT of Table 17.16. -/
def rachisDetail (src dst : Byte) (second isolated reset : Bool) : Nat :=
  src.toNat + dst.toNat * 2 ^ 8 + flagBit second 16 + flagBit isolated 17 + flagBit reset 18
/-- The check of the receiving port (R95, Table 3.2): CRC-32C over bits [287:0], taken as 36 bytes from bit 0 up. -/
def rachisGood (x : BitVec 320) : Bool := crc32c (leBytes 36 (x.toNat % 2 ^ 288)) == BitVec.ofNat 32 (x.toNat / 2 ^ 288)
/-- The fields of a transfer (Table 3.2). -/
def rachisWord (x : BitVec 320) : RachisWord :=
  { payload := x.setWidth 256, dest := (x >>> 256).setWidth 8, src := (x >>> 264).setWidth 8, kind := (x >>> 272).setWidth 4, seq := (x >>> 276).setWidth 12 }
/-- An island that answers on Rachis: its domain is on, its PLL has locked, and it is not isolated (R97, R136, Table 3.13). -/
def islandJoined (s : State) (i : Nat) : Bool := islandOn s i && s.clocks.locked.getLsbD i && !s.clocks.isolated.getLsbD i
/-- Three attempts have failed: the first path's mark the link; the second's isolate the island, or reset the device. -/
def rachisFailed (src dst : Byte) (island : Nat) (s : State) : State :=
  let k := src.toNat * 256 + dst.toNat
  let s1 := s.onClocks (fun c => { c with retransmissions := c.retransmissions + 2, nak := some .crc })
  let s2 := raiseWaking s1 [88]
  if !s.clocks.faulty.contains k then
    append (s2.onClocks (fun c => { c with faulty := k :: c.faulty })) Entry.rachisFault Src.xemberon (rachisDetail src dst true false false)
  else if island == 2 || island == 11 || island == 13 then
    faultReset s2 [note s2 Entry.rachisFault Src.rom (rachisDetail src dst true false true)]
  else append (retireIsland s2 island) Entry.rachisFault Src.xemberon (rachisDetail src dst true true false)
/-- RACHIS_TRANSFER over one path: `received` is what the port of the island hears in each of at most three attempts. An island that has not
joined answers ISLAND_OFF at once (R97); a transfer whose CRC passes is delivered (R95), one that fails is sent again (Table 3.14). -/
def execRachisTransfer (sent : RachisWord) (island : Island) (first : BitVec 320) (again : List (BitVec 320)) (s : State) :
    Host.Outcome State Fault Refusal :=
  let received := first :: again
  if !coreUp s then .next s
  else if !islandJoined s island.val then .next (s.onClocks (fun c => { c with nak := some .islandOff }))
  else match (received.take 3).findIdx? rachisGood with
    | some n => .next (s.onClocks (fun c => { c with
        retransmissions := c.retransmissions + n, delivered := (received[n]?).map rachisWord, nak := if n == 0 then none else some .crc,
        rachisSeq := SMap.set 0 c.rachisSeq (sent.src.toNat * 256 + sent.dest.toNat) ((sent.seq.toNat + 1) % 2 ^ 12) }))
    | none => .next (if received.length < 3 then s else rachisFailed sent.src sent.dest island.val s)

/-- ISLAND_CLOCK and ISLAND_CLOCK_FAIL: island and relock tries. -/
def clockDetail (i tries : Nat) : Nat := i + tries * 2 ^ 8
/-- ISLAND_CLOCK_LOSS: the Stipe's is a reset, logged at the next boot; the Sentinel watches the others but itself and Rhizoid. -/
def execIslandClockLoss (i : Island) (s : State) : Host.Outcome State Fault Refusal :=
  if !coreUp s || !islandOn s i.val || i.val == 0 || i.val == 17 || s.clocks.lost.getLsbD i.val then .next s
  else if i.val == 2 then .next (faultReset s [note s Entry.islandClock Src.sentinel (clockDetail 2 0)])
  else if s.clocks.isolated.getLsbD i.val then .next s
  else
    let s1 := stopIsland (raiseWaking s [89]) i.val
    .next (dispatch (s1.onClocks (fun c => { c with lost := c.lost ||| (1#19 <<< i.val), relockTries := SMap.set 0 c.relockTries i.val 0 })))
/-- The island resumes: a Turtis port starts a new link session. -/
def resumeIsland (s : State) (i : Nat) : State :=
  let s1 := s.onClocks (fun c => { c with lost := c.lost &&& ~~~(1#19 <<< i), relockTries := SMap.set 0 c.relockTries i 0 })
  let s2 := if i == 14 then onPort s1 0 (fun x => { x with running := bitOf x.word.toNat 0 }) else if i == 15 then onPort s1 1 (fun x => { x with running := bitOf x.word.toNat 0 }) else s1
  dispatch s2
/-- ISLAND_RELOCK: one try of three ends; the entry names how many it took. -/
def execIslandRelock (i : Island) (ok : Bool) (s : State) : Host.Outcome State Fault Refusal :=
  if !s.clocks.lost.getLsbD i.val || !coreUp s then .next s
  else
    let n := SMap.get 0 s.clocks.relockTries i.val + 1
    if ok then .next (append (resumeIsland s i.val) Entry.islandClock Src.sentinel (clockDetail i.val n))
    else if n < 3 then .next (s.onClocks (fun c => { c with relockTries := SMap.set 0 c.relockTries i.val n }))
    else
      let s1 := append s Entry.islandClock Src.sentinel (clockDetail i.val n)
      let s2 := append (retireIsland s1 i.val) Entry.islandClockFail Src.sentinel (clockDetail i.val n)
      .next (if i.val == 13 then deviceReset s2 .pcieIncluded 3 else s2)

/-- PLL_LOCK (R136): the island of a powered domain joins Rachis, and its work starts. -/
def execPllLock (i : Island) (s : State) : Host.Outcome State Fault Refusal :=
  if !islandOn s i.val || s.clocks.lost.getLsbD i.val then .next s
  else .next (dispatch (raiseField (s.onClocks (fun c => { c with locked := c.locked ||| (1#19 <<< i.val) }))))

/-- REF_LOST: the PLLs hold on their backup; Turtis stops transmitting (R712), the reader goes off. -/
def execRefLost (lost : Bool) (s : State) : Host.Outcome State Fault Refusal :=
  match s.clocks.refLostAt, lost with
  | none, true =>
    let s1 := readerRefLost (s.onClocks (fun c => { c with refLostAt := some s.clocks.seta }))
    .next (if coreUp s then append (raiseWaking s1 [94]) Entry.refLost Src.sentinel 1 else s1)
  | some t, false =>
    let s1 := s.onClocks (fun c => { c with refLostAt := none })
    .next (if coreUp s then append s1 Entry.refLost Src.sentinel (min 0xFFFFFFFF (s.clocks.seta - t) * 2 ^ 32) else s1)
  | _, _ => .next s

end Sys2Proof.Machine
end

