-- ==== Sys2Proof/Machine/Link.lean ====
section
/-! DEFINITION. The pins and the link (R71, R178, R198, R210, R216), the resets that events bring about (Table 4.1), and the power-up to the
ROM start (Table 2.13, R893). -/

namespace Sys2Proof.Machine

/-! ### Resets (R139, R777) -/

/-- A reset by a pin or the link (row of Table 4.1). During last gasp it waits for the recovery of VIN; VIN_STOP supersedes it (R880,
Table 20.17). Of two that wait the one of the lower row is kept, RESET_N before PERST#. -/
def outerReset (s : State) (row : Nat) : State :=
  if s.power.quiesced then s.onPower (fun p => { p with heldReset := if p.heldReset == 0 then row else min row p.heldReset })
  else deviceReset s .pcieIncluded row
/-- RESET_N_ASSERT: held low for 1 µs. In HIBERNATE it is the wake, HIBERNATE_WAKE. -/
def execResetNAssert (s : State) : Host.Outcome State Fault Refusal := .next (if coreUp s then outerReset s 2 else s)
/-- PERST_ASSERT: the pin, and the reset where the core runs. -/
def execPerstAssert (s : State) : Host.Outcome State Fault Refusal :=
  let s1 := s.onLink (fun l => { l with perst := true, up := false, degraded := false })
  .next (if coreUp s && !s.link.perst then outerReset s1 3 else s1)
/-- LINK_LOSS (R216): the link goes down, and the reset is as of PERST#, whose row of Table 4.1 LAST_RESET takes. -/
def execLinkLoss (s : State) : Host.Outcome State Fault Refusal := 
  .next (if coreUp s && s.link.up then outerReset (s.onLink (fun l => { l with up := false, degraded := false })) 3 else s)
/-- WATCHDOG_EXPIRY: Xemberon runs and does not service its watchdog. -/
def execWatchdogExpiry (s : State) : Host.Outcome State Fault Refusal :=
  .next (if running s && !s.update.crozier then deviceReset s .pcieKept 6 else s)
/-- LOCKSTEP_MISMATCH (Table 18.2): the two Stipe cores disagree. -/
def execLockstepMismatch (s : State) : Host.Outcome State Fault Refusal := .next (if coreUp s && domainOn s 24 then deviceReset s .pcieKept 7 else s)
/-- DEBUG_EXPIRY (R167). -/
def execDebugExpiry (s : State) : Host.Outcome State Fault Refusal :=
  .next (if s.boot.debug && coreUp s then deviceReset (atInstant s s.boot.debugUntil) .pcieKept 5 else s)

/-- R55: the source may wake the device. -/
def wakes (s : State) : HibWake → Bool
  | .resetN | .perst => true
  | .gpio n => bitOf (pinCfg s n.val) 5
/-- HIBERNATE_WAKE (R54): a Stipe boot. A wake while FEED_WARN is asserted is ignored (DESIGN CHOICE, log entry 78). -/
def execHibernateWake (src : HibWake) (s : State) : Host.Outcome State Fault Refusal :=
  if s.power.state != .hibernate || s.power.feedWarn || !wakes s src then .next s
  else .next (deviceReset (if src == .perst then s.onLink (fun l => { l with perst := false }) else s) .pcieIncluded 4)

/-! ### The link -/

/-- PERST_DEASSERT (R71). -/
def execPerstDeassert (s : State) : Host.Outcome State Fault Refusal := .next (s.onLink (fun l => { l with perst := false }))
/-- PHY_RAILS_GOOD (R71). -/
def execPhyRailsGood (good : Bool) (s : State) : Host.Outcome State Fault Refusal := .next (s.onLink (fun l => { l with phyGood := good }))
/-- LINK_UP (R71, R210): both rails good, PERST# deasserted and PD44 on. -/
def execLinkUp (degraded : Bool) (s : State) : Host.Outcome State Fault Refusal :=
  if s.link.up || s.link.perst || !s.link.phyGood || !domainOn s 44 then .next s
  else
    let s1 := s.onLink (fun l => { l with up := true, degraded := degraded, eventDetail := degraded })
    .next (if running s then raiseWaking s1 [80] else s1)

/-- TotalVFs (R178, Table 5.17). -/
def totalVfs (s : State) (ari : Bool) : Nat := if ari then optField s 1 48 8 255 else 7
/-- A Virtual Function vanishes: it does what an FLR does, as PCI Express asks of VF Enable cleared. -/
def vanish (s : State) (n : Nat) : State :=
  let f := BitVec.ofNat 8 n
  onFn (if running s then resetFunction s f else s) f (fun x => { x with enabled := false, busMaster := false })
/-- VF_ENABLE (R178, R198): VFs 1 to NumVFs appear. -/
def execVfEnable (on : Bool) (numVfs : FnId) (ari : Bool) (s : State) : Host.Outcome State Fault Refusal :=
  let top := if on then min numVfs.toNat (totalVfs s ari) else 0
  let vfs := (List.range 255).map (· + 1)
  let s1 := (vfs.filter (fun n => n > top && (fnOf s (BitVec.ofNat 8 n)).enabled)).foldl vanish s
  let s2 := (vfs.filter (fun n => n ≤ top)).foldl (fun a n => onFn a (BitVec.ofNat 8 n) (fun x => { x with enabled := true })) s1
  let s3 := s2.onLink (fun l => { l with vfEnable := on, numVfs := numVfs, ari := ari })
  .next (if running s then dispatch s3 else s3)

/-! ### Power-up (Table 2.13, R90, R135, R893) -/

/-- The PLLs of the powered islands lock (R136). -/
def lockAll (s : State) : State :=
  s.onClocks (fun c => { c with locked := (List.range 19).foldl (fun m i => if islandOn s i then m ||| (1#19 <<< i) else m) c.locked })
/-- R88, R90: each phase is driven alone; one that fails stays disabled. -/
def testPhases (s : State) (ok : BitVec 4) : State :=
  s.onPower (fun p => { p with phaseOk := ok, phasesLost := ((List.range 4).filter (fun n => !ok.getLsbD n)).length, phaseNotes := [] })

/-- SENTINEL_POWER_UP (R135): Seta starts from zero; VIN has still to pass VIN_RESUME. -/
def execSentinelPowerUp (s : State) : Host.Outcome State Fault Refusal :=
  .next (if s.power.sentinel then s else switchedOff (deviceReset s .fresh 0) true)
/-- ROM, stopped by FEED_WARN, starts again at step 1 (Table 4.14): a page program has finished, an erase stays torn, a pull is over. -/
def romRestart (s : State) : State :=
  let s1 := clearWarn s
  if s.boot.state == .resetting || s.boot.powerUp != 0 then s1
  else { s1 with
    boot := { s1.boot with state := .romChecks, powerUp := 3 }
    flash := s1.flash.overReset, ports := []
    update := s1.update.overReset }
/-- VIN_RESUME_POWER_UP: the debounce starts; or ROM, stopped by FEED_WARN, starts again at step 1 (Table 4.14). -/
def execVinResumePowerUp (s : State) : Host.Outcome State Fault Refusal :=
  if !s.power.sentinel then .next s
  else if s.power.state == .off then .next ((s.onPower (fun p => { p with state := .active, vinStopped := false })).onBoot (fun b => { b with powerUp := 1 }))
  else if s.power.feedWarn && !running s then .next (romRestart s)
  else .next s
/-- DEBOUNCE_STOP (R893). -/
def execDebounceStop (s : State) : Host.Outcome State Fault Refusal := .next (if fed s && s.boot.powerUp == 1 then switchedOff s true else s)
/-- POWER_UP_DEBOUNCE_DONE: VCORE at 0.80 V, the phases tested, PD24, PD25, PD41 and PD43 on, up to the ROM start. -/
def execPowerUpDebounceDone (phases : BitVec 4) (s : State) : Host.Outcome State Fault Refusal :=
  if !fed s || s.boot.powerUp != 1 then .next s
  else
    let s1 := (testPhases s phases).onPower (fun p => { p with vcore := OpPoint.vcode .safe, op := .safe })
    .next ((lockAll (setDomains s1 [24, 25, 41, 43] true)).onBoot (fun b => { b with powerUp := 2, attempt := true }))

end Sys2Proof.Machine
end

