-- ==== Sys2Proof/Machine/Boot.lean ====
section
/-! DEFINITION. The ROM boot sequence (Table 4.3) in one step, from ROM start to READY or to the state where it stops; and what Xemberon does
on its way to READY. What the boot finds of the outside comes with the command. -/

namespace Sys2Proof.Machine

/-- Domains ROM keeps on in each of its states: those of Table 2.13, and PD44 from step 2. -/
def romDomains (s : State) (pcie : Bool) : State :=
  (s.onPower (fun p => { p with domains := maskOf ([24, 25, 41, 43] ++ (if pcie then [44] else [])), retained := 0 }))
/-- ROM stops in a state. -/
def romStops (s : State) (b : BootState) (cause : Nat) : State :=
  (lockAll (romDomains s true)).onBoot (fun x => { x with state := b, cause := BitVec.ofNat 8 cause })

/-! ### Steps 1 to 3 -/

/-- A tamper alarm is latched. -/
def latched (s : State) : Bool := latchSources s.tamper.latch != 0 || s.tamper.latch.getLsbD 13
/-- R732: the OTP program of a level 4 that found no VIN. -/
def payRetire (s : State) : State :=
  if !s.tamper.retirePending then s
  else
    append ((s.onFlash (fun f => { f with otp := SMap.set 0 f.otp 32 1, otpPending := none })).onTamper (fun t => { t with retirePending := false }))
      Entry.lifecycle Src.rom 3
/-- R768: the latch is rebuilt from Spore word 48. -/
def rebuildLatch (s : State) : State :=
  if latched s || !bitOf (sporeWord s 48).toNat 0 then s
  else s.onTamper (fun t => { t with latch := BitVec.ofNat 64 (2 ^ 13 + 2 * 2 ^ 16 + 0xFF * 2 ^ 24) })
/-- R347: the OTP row can be read: clean ECC, and every word group whole or unprogrammed. -/
def otpReadable (env : BootEnv) (s : State) : Bool :=
  env.otpEccOk && [(0, 2), (2, 6), (8, 6), (14, 6), (20, 6), (26, 4), (34, 6)].all (fun g =>
    let ws := (List.range g.2).map (g.1 + ·)
    ws.all (fun w => !s.flash.otpBad.contains w) && (ws.all (fun w => otp s w == 0) || ws.all (fun w => otp s w != 0)))

/-- R336: the helper data agree with OTP words 34 to 39, so that the PUF key is reconstructed. -/
def pufGood (env : BootEnv) (s : State) : Bool := Config.sha384 env.helper == otpHash s 34

/-! ### The log chain key (R153, R335, R766) -/

/-- Slot 1 is derived, and the entries that waited for it are appended: those a reset left, then ROM's own. -/
def openChain (env : BootEnv) (s : State) : State :=
  if s.log.chained || s.log.noChain then s
  else
    let waiting := s.log.reports ++ s.log.staged
    let s1 := s.onLog (fun l => { l with staged := [], reports := [], nearFull := true, fullRaised := true })
    if !otpReadable env s || !pufGood env s || s.medulla.arrayOff then waiting.foldl appendNote (s1.onLog (fun l => { l with noChain := true }))
    else waiting.foldl appendNote ((loadChainKey s1).onLog (fun l => { l with chained := true }))

/-! ### Step 4: the option area -/

/-- CG_POWER: cap, DOZE idle time, and DOZE_EN, which DOZE_DISABLE clears (Tables 4.4, 5.7). -/
def optPower (s : State) : Nat := optField s 2 0 8 80 + optField s 2 8 10 10 * 2 ^ 8 + (1 - bitsOf (optNow s 2) 18 1) * 2 ^ 18
def optSched (s : State) : Nat := optField s 11 0 8 64 + optField s 11 8 8 16 * 2 ^ 8 + optField s 11 16 8 4 * 2 ^ 16 + optField s 11 24 7 5 * 2 ^ 24
def optTurtis (s : State) (w : Nat) : Nat := bitsOf (optNow s w) 0 14 + optField s w 16 10 20 * 2 ^ 16 + bitsOf (optNow s w) 26 1 * 2 ^ 26
def optCless (s : State) : Nat := bitsOf (optNow s 5) 0 4 + optField s 5 4 12 51 * 2 ^ 4 + optField s 5 16 8 8 * 2 ^ 16
/-- R725, R767: a level that would be refused takes the default. -/
def optTamper (s : State) : Nat :=
  ((List.range 13).map (fun n => let v := bitsOf (optNow s 7) (3 * n) 3; if levelAllowed n v then v * 2 ^ (3 * n) else 0)).sum
/-- A group's value as the option area gives it, active and staged. -/
def setBoth (s : State) (k v : Nat) : State := setStage (setReg s k v) k v
/-- R143: the copy in use, or the defaults; the commit groups marked OPT take their values. -/
def loadOption (s : State) : State :=
  let copy := copyInUse s
  let words := match copy with
    | some c => (List.range 127).foldl (fun m w => SMap.set 0 m w (optWord s c w)) []
    | none => []
  let s1 := s.onBoot (fun b => { b with opt := words, optDefault := copy.isNone })
  let s2 := s1.onFlash (fun f => { f with extensions := min 4 (bitsOf (optNow s1 10) 16 4) })
  let s3 := setBoth (setBoth s2 (glKey 0x30) (optPower s2)) (glKey 0x40) (optSched s2)
  let s4 := setBoth (setBoth s3 (glKey 0x200) (optNow s2 6 % 2 ^ 32)) (glKey 0x204) (optNow s2 6 / 2 ^ 32)
  let s5 := setBoth (setBoth s4 (glKey 0x220) (optTurtis s2 3)) (glKey 0x240) (optTurtis s2 4)
  let s6 := setBoth s5 (glKey 0x260) (optCless s2)
  applyGpio (setBoth (setBoth s6 (glKey 0x280) (optTamper s2 % 2 ^ 32)) (glKey 0x284) (optTamper s2 / 2 ^ 32))

/-! ### Step 5: the erase journal and counters 0 and 1 (R552 to R557, R570, R621) -/

/-- ERASE_TORN (R553). -/
def tornEntry (s : State) (u : FlashUnit) (again recovery : Bool) : State :=
  append s Entry.eraseTorn Src.rom (u.kind + u.index * 2 ^ 8 + flagBit again 16 + flagBit recovery 17)
/-- A data sector is erased again: what its region held there is gone. -/
def sectorGone (s : State) (n : Nat) : State :=
  if 18 ≤ n && n ≤ 53 then s.onMedulla (fun m => { m with records := m.records.filter (fun e => e.1 / 32 != n - 18) })
  else if 126 ≤ n && n ≤ 249 then s.onCounters (fun k => eraseSector k (n - 126))
  else s
/-- A half-erased unit. A code block of bank A waits for recovery, one of Crozier for FACTORY; the others are erased again. -/
def closeTorn (s : State) (u : FlashUnit) : State :=
  if u.kind == 0 then tornEntry s u false true
  else if u.kind == 1 && u.index < 4 then tornEntry (s.onFlash (fun f => { f with crozierTorn := true })) u false false
  else
    let s1 := eraseWhole s u
    let s2 := if u.kind == 1 then compacted s1 u.index
      else if u.kind == 3 then loadOption (s1.onFlash (fun f => { f with option := f.option.filter (fun e => e.1 / 128 != u.index) }))
      else sectorGone s1 u.index
    tornEntry s2 u true false
/-- The journal is closed; whether recovery follows with CAUSE 0x07. -/
def closeJournal (s : State) : State × Bool :=
  match journalActive s with
  | none => (append (initJournal s) Entry.journalLost Src.rom 3, true)
  | some a =>
    let w := jWord s a 510
    let s1 := if journalCounts w && jType w == 4 then
        tornEntry (setJWord (eraseJournal s (1 - a)) (1 - a) 0 (journalWord 3 4 (1 - a) (((headGen s a).getD 0 + 1) % 2 ^ 16))) ⟨4, 1 - a⟩ true false
      else s
    let torn := lone s1
    (torn.foldl closeTorn s1, torn.any (fun u => u.kind == 0))

/-- Recovery of one counter (R619, R621): a counter 0 or 1 that has neither a record nor a mirror has never been written (log entry 89). -/
def recoverCounter (src : Nat) (s : State) (c : Nat) : State :=
  let k := s.counters
  match baseOf k c with
  | none =>
    if SMap.get 0 k.lost c != 0 || (if c < 2 then (mirrorValue s (40 + 2 * c)).isNone else SMap.get 0 k.owner c == 0) then s
    else loseCounter s src c
  | some b =>
    if (primaries k c).any (fun e => recBase e.2 == b) && (backupsOf k c).all (fun e => recBase e.2 != b) then
      s.onCounters (fun k => (writeBackup k c b (currentBlock k c b)).getD k)
    else s

/-! ### Recovery (Table 4.7) -/

/-- Recovery mode is entered: both paths are offered. -/
def enterRecovery (s : State) (cause : Nat) : State :=
  (romStops s .recoveryWait cause).onBoot (fun b => { b with
    rcvClaim := false, rcvTurtis := false, rcvResult := 0, rcvNext := 60, rcvLoaded := false, rcvPcieOnly := false })
/-- What keeps the image from being booted: the request, three attempts, the manifest, the digest, the signatures (Table 4.7). -/
def imageCause (s : State) : Option Nat :=
  let m := runningManifest s
  if s.boot.recoveryRequest && !s.boot.verified then some 9
  else if s.boot.tries ≥ 3 && !s.boot.verified then some 8
  else if bankRead s (30 * 131072) 512 == List.replicate 512 0xFF then some 1
  else if !m.ok then some 2
  else if !svnOk s m.svn then some 6
  else if !imageDigest s then some 3
  else if !imageEcdsa s then some 4
  else if !imageMlDsa s then some 5
  else none

/-! ### Debug (R165, R166) -/

/-- The token that DEBUG_ARM left is accepted. -/
def tokenAccepted (s : State) (t : Bytes) : Bool :=
  lifecycle s == 2 && tokenFormed s t && Config.sha384 ((t.drop 40).take 97) == otpHash s 14 && Config.sha384 ((t.drop 137).take 97) == otpHash s 20 &&
    Config.ecdsaVerify 384 ((t.drop 40).take 97) (t.take 234) ((t.drop 234).take 96) &&
    Config.ecdsaVerify 384 ((t.drop 137).take 97) (t.take 234) ((t.drop 330).take 96)
/-- R166: the KEK is blocked until the next reset; scope bit 3 erases the seed. -/
def enterDebug (s : State) (t : Bytes) : State :=
  let scope := tokenField t 28 4
  let s1 := s.onBoot (fun b => { b with debug := true, debugScope := BitVec.ofNat 4 scope, debugUntil := s.clocks.seta + tokenField t 32 8 })
  let s2 := s1.onMedulla (fun m => { m with kekBlocked := true })
  let s3 := if bitOf scope 3 then setStatusBit (setSpores s2 44 [0, 0, 0, 0]) 1 true else s2
  append s3 Entry.debugEnter Src.rom scope
def checkToken (s : State) : State :=
  let s1 := s.onBoot (fun b => { b with armedToken := none })
  match s.boot.armedToken with
  | some t => if tokenAccepted s t then enterDebug s1 t else s1
  | none => s1

/-! ### Steps 13 to 20: Xemberon starts -/

/-- Step 13, and the Lichen mirror of counter 0 (Table 15.1): absent where counter 0 is spent or cannot move (R174). -/
def stepEpoch (s : State) : Option State :=
  if counterSpent s.counters 0 then none
  else (incrementCounter s.counters 0).map (fun k =>
    let a := afterIncrement (s.onCounters (fun _ => k)) 0
    setSpores a 40 [mirrorWord (counterValue k 0), mirrorWord (counterValue k 0)])
/-- Step 14: UNWATCHED first, where the Sentinel had lost its power (R138), then BOOT (Table 17.12). -/
def bootEntries (s : State) : State :=
  let s1 := if s.boot.sentinelFresh then
      bumpSpore (append (s.onBoot (fun b => { b with sentinelFresh := false })) Entry.unwatched Src.xemberon s.log.lossMark.toNat) 7
    else s
  append s1 Entry.boot Src.xemberon (s1.boot.lastReset.toNat + s1.boot.tries * 2 ^ 8 + s1.boot.svn.toNat * 2 ^ 16)

/-- A source's start-up test at PD48 power-up (R527, R531). -/
def startSource (env : BootEnv) (s : State) (n : Nat) : State :=
  let pass := env.entropyPass.getLsbD n
  let s1 := onSource s n (fun _ => { inService := pass, retired := !pass })
  if pass then s1 else healthEntry (raiseWaking (s1.onEntropy (fun e => { e with healthFailures := e.healthFailures + 1 })) [62]) n 3 true
/-- Step 15 (R342, R504, R531, R722): sources, instances, context-wrapping keys, shield streams. -/
def startEntropy (env : BootEnv) (s : State) : State :=
  let s1 := (List.range 4).foldl (startSource env) (setDomain s 48 true)
  let s2 := if env.drbgPass then onUnit s1 .entropy (fun u => { u with st := .inService, lastTest := s.clocks.seta }) else failUnit s1 .entropy 7
  let fs := ((List.range 256).map (BitVec.ofNat 8 ·)).filter (fun f => f == 0 || (fnOf s f).assigned)
  let s3 := if entropyFailed s2 then s2 else (fs.map Inst.f ++ (List.finRange 8).map Inst.i).foldl instantiate s2
  let s4 := (List.range 256).foldl (fun a f => renewCtxKey a (BitVec.ofNat 8 f)) s3
  match drawOwn s4 7 16 with
  | (some b, a) => a.onTamper (fun t => { t with
      seededAt := (t.vinTicks, t.vbakTicks)
      lfsr := (List.range 4).foldl (fun m i => SMap.set 0 m i (BitVec.ofNat 31 (leNat ((b.drop (4 * i)).take 4)))) t.lfsr })
  | (none, a) => a

/-- Whether a unit's known-answer set passes at the boot; in paired mode a Pinna core fails with its mate (R801). -/
def bootPass (env : BootEnv) (s : State) : UnitRef → Bool
  | .frond n => env.frondsPass.getLsbD n.val
  | .calyptra n => env.calyptraPass.getLsbD n.val
  | .slice n => env.slicesPass.getLsbD n.val
  | .pinna n => env.coresPass.getLsbD n.val && (s.pinnas.split || env.coresPass.getLsbD (n.val ^^^ 1))
  | .entropy => env.drbgPass
  | .wrap => env.wrapPass
/-- A powered unit joins or fails; the others wait for power. -/
def bootUnit (env : BootEnv) (s : State) (u : UnitRef) : State :=
  if !unitPowered s u then onUnit s u (fun x => { x with st := .shed })
  else if bootPass env s u then onUnit s u (fun x => { x with st := .inService, lastTest := s.clocks.seta })
  else if (unitOf s u).st == .failed then s
  else failUnit s u 7
/-- Domains on without regard to the headroom (log entry 53): the Stipe with its memories, the code bank, data flash, PCIe, the entropy source,
the ports that are enabled, the Pinna cores, Calyptra unit 0, and the debug port. -/
def baseDomains (s : State) : List Nat :=
  [24, 25, 26, 27, 28, 29, 30, 41, 43, 44, 48] ++ ([3, 4].filter (fun w => bitOf (optTurtis s w) 0)).map (· + 42) ++ [16, 17, 18, 19, 20, 21, 22, 23, 31] ++
    (if s.boot.debug then [49] else [])
/-- Step 16 (R414): the groups join under the cap, the lowest first. -/
def startUnits (env : BootEnv) (s : State) : State :=
  let s1 := (s.onPower (fun p => { p with domains := 0 }))
  let s2 := setDomains s1 (baseDomains s) true
  let s3 := (List.range 16).foldl (fun a g => let b := setDomain a g true; if withinLimits b then b else a) s2
  let s4 := (allUnits ++ [UnitRef.wrap]).foldl (bootUnit env) (lockAll s3)
  if env.reader == 0 then s4
  else append (raiseWaking (s4.onReader (fun r => { r with fault := env.reader.toNat })) [75]) Entry.readerFault Src.xemberon
    (env.reader.toNat + env.readerField.toNat * 2 ^ 16)

/-- R146, step 19: one increment at a time; the mirror of counter 1. -/
def raiseFloor : Nat → State → State
  | 0, s => s
  | n + 1, s =>
    if counterSpent s.counters 1 || floorValue s ≥ s.boot.svn.toNat then s
    else match incrementCounter s.counters 1 with
      | none => s
      | some k => raiseFloor n (afterIncrement (s.onCounters (fun _ => k)) 1)
def stepFloor (s : State) : State :=
  let a := raiseFloor (s.boot.svn.toNat - floorValue s) s
  setSpores a 42 [mirrorWord (floorValue a), mirrorWord (floorValue a)]

/-- R769: LOG_TORN once for each torn slot. -/
def noteTorn (s : State) : State :=
  let torn := (s.log.slots.filter (fun e => e.2 == .torn && !s.log.tornSeen.contains e.1)).map (·.1)
  torn.foldl (fun a k => append a Entry.logTorn Src.xemberon k) (s.onLog (fun l => { l with tornSeen := l.tornSeen ++ torn }))
/-- What Xemberon makes of a clock switch and of phases lost while ROM ran: PHASE_LOST with cause START for a phase that failed its test
(R90), with its own cause for one lost after it (Table 2.12). -/
def notePhases (s : State) : State :=
  let lost := (List.range 4).filter (fun n => !s.power.phaseOk.getLsbD n)
  let cause := fun n => ((s.power.phaseNotes.find? (fun e => e.1 == n)).map (·.2)).getD 5
  let s0 := (if s.power.clockNote then noteClock s else s).onPower (fun p => { p with phaseNotes := [] })
  let s1 := lost.foldl (fun a n => phaseEntry (pwrEvent a 1) n (cause n)) s0
  if lost.length == 1 then enforce (pwrEvent s1 2) else if lost.length == 2 then enterSafeHold s1 1 else s1
/-- The quota registers of every function, from its tenant record (R283, Table 5.11). -/
def restoreQuotas (s : State) : State :=
  (List.range 256).foldl (fun a f => setBoth a (glKey (0x2000 + 0x10 * f)) (fnOf a (BitVec.ofNat 8 f)).tenRecord.toNat) s
/-- The copies the Spore store keeps of the custodian root hash and the device identity (Table 15.1). -/
def sporeCopies (s : State) : State := setSpores s 32 ((List.range 6).map (fun i => otp s (20 + i)) ++ [otp s 0, otp s 1])
/-- Ports that are enabled start. -/
def startPorts (s : State) : State :=
  (List.finRange 2).foldl (fun a p =>
    if bitOf (optTurtis s (3 + p.val)) 0 then startPort a p (BitVec.ofNat 64 (reg a (glKey (0x220 + 0x20 * p.val)))) else a) s
/-- Step 20: READY (R175, R750, R751, R769). -/
def becomeReady (s : State) : State :=
  let s1 := (restoreQuotas s).onBoot (fun b => { b with state := .ready, attempt := false, tries := 0, recoveryRequest := false, verified := false })
  let s2 := ((s1.onEngines (fun e => { e with scaled := inPool s1 < sumMinima s1 })).onPower (fun p => { p with idleSince := s.clocks.seta })).onHealth (fun h => { h with lastPatrol := s.clocks.seta })
  let s3 := logHeld (noteTorn (sporeCopies s2))
  let s4 := logLevels (raiseWith logPlace) (s3.onLog (fun l => { l with nearFull := false, fullRaised := false }))
  let s5 := startPorts (notePhases s4)
  if s5.tag.opened then s5 else mirrorRing (importVisits (refillPool s5))

/-- Xemberon routes T00 to T47 (Table 3.8), and takes the boundaries of Seta from here on. -/
def startClocks (s : State) : State :=
  s.onClocks (fun c => { c with
    epochAt := c.seta / 1000 * 1000, rollAt := c.seta / 10000000 * 10000000, quantumAt := c.seta / 100000 * 100000,
    xemRoutes := (List.range 48).foldl (fun m t => SMap.set 0 m t (Config.xemberonRoute t)) [] })
/-- Steps 12 to 20. -/
def startXemberon (env : BootEnv) (s : State) : State :=
  let m := runningManifest s
  let s1 := startClocks ((s.onBoot (fun b => { b with state := .starting, svn := BitVec.ofNat 32 m.svn, version := BitVec.ofNat 32 m.version })).onPower
    (fun p => { p with op := .full, clk := .full, vcore := OpPoint.vcode .full, target := none }))
  match stepEpoch s1 with
  | none => notePhases ((bootEntries (lockAll (setDomains s1 [26, 27, 28, 29, 30] true))).onBoot (fun b => { b with state := .epochSpent }))
  | some s2 =>
    let s3 := startUnits env (startEntropy env (bootEntries s2))
    let s4 := (List.range 510).foldl (fun a n => recoverCounter Src.xemberon a (n + 2)) s3
    becomeReady (stepFloor (reloadRecords s4))

/-! ### The sequence -/

/-- Steps 7 to 11, and on to Xemberon. -/
def romVerify (env : BootEnv) (s : State) : State :=
  match imageCause s with
  | some cause => enterRecovery s cause
  | none => startXemberon env s
/-- Step 6 (R153, R335, R336). -/
def romKeys (env : BootEnv) (s : State) : State :=
  let s1 := openChain env s
  if !pufGood env s then romStops s1 .keyFault 0
  else
    let s2 := checkToken s1
    romVerify env (s2.onMedulla (fun m => { m with kek := deriveKek s2 }))
/-- Step 5. A torn code block leads to recovery at once; its Turtis path has the KEK (R160). -/
def romJournal (env : BootEnv) (s : State) : State :=
  let (s1, torn) := closeJournal s
  let s2 := [0, 1].foldl (recoverCounter Src.rom) s1
  if torn && !s.boot.verified then
    let s3 := openChain env s2
    enterRecovery (if pufGood env s3 then s3.onMedulla (fun m => { m with kek := deriveKek s3 }) else s3) 7
  else romKeys env s2
/-- Steps 3 and 4. -/
def romRow (env : BootEnv) (s : State) : State :=
  if !otpReadable env s then romStops (openChain env s) .otpFault 0
  else if lifecycle s == 0 then romStops s .blank 0
  else
    let s1 := s.onFlash (fun f => { f with crozierLock := lifecycle s ≥ 2, crozierTorn := false })
    let s2 := loadOption s1
    if lifecycle s == 3 then romStops (openChain env s2) .retired 0 else romJournal env s2
/-- Steps 1 and 2. A latched alarm leads to TAMPERED, where the token is discarded (Table 4.14), but in RETIRED (R164). -/
def romLatch (env : BootEnv) (s : State) : State :=
  let s1 := romDomains (rebuildLatch (payRetire s)) true
  if latched s1 && !(otpReadable env s1 && lifecycle s1 == 3) then
    lockAll (enterTampered ((openChain env s1).onBoot (fun b => { b with armedToken := none })))
  else romRow env (lockAll s1)

/-- ROM_BOOT (R142): ROM starts after Table 2.13 or after step 0 of a device reset, which tests the phases (R88). -/
def execRomBoot (env : BootEnv) (s : State) : Host.Outcome State Fault Refusal :=
  if s.boot.powerUp < 2 || s.boot.heldInReset || !coreUp s || s.power.feedWarn then .next s
  else
    let s1 := if s.boot.powerUp == 3 && s.boot.state == .resetting then testPhases s env.phases else s
    let s2 := romDomains (s1.onBoot (fun b => { b with attempt := true, state := .romChecks, cause := 0, powerUp := 0 })) false
    if s2.power.phasesLost ≥ 3 then .next (romStops s2 .powerFault 0) else .next (romLatch env s2)

end Sys2Proof.Machine
end

