-- ==== Sys2Proof/Machine/PinnaAlu.lean ====
section
/-! DEFINITION. The Pinna register, immediate, bit-field, compare and predicate instructions (Tables 19.3 to 19.6). -/

namespace Sys2Proof.Machine

/-- ADD: modulo 2^32. -/
def execAdd (u : Fin 8) (gd : Guard) (rd ra rb : GReg) (s : State) : Host.Outcome State Fault Refusal :=
  aluOp u gd rd ra rb 1 (fun x y => x + y) s

/-- SUB: modulo 2^32. -/
def execSub (u : Fin 8) (gd : Guard) (rd ra rb : GReg) (s : State) : Host.Outcome State Fault Refusal :=
  aluOp u gd rd ra rb 1 (fun x y => x - y) s

/-- AND. -/
def execAndR (u : Fin 8) (gd : Guard) (rd ra rb : GReg) (s : State) : Host.Outcome State Fault Refusal :=
  aluOp u gd rd ra rb 1 (fun x y => x &&& y) s

/-- OR. -/
def execOrR (u : Fin 8) (gd : Guard) (rd ra rb : GReg) (s : State) : Host.Outcome State Fault Refusal :=
  aluOp u gd rd ra rb 1 (fun x y => x ||| y) s

/-- XOR. -/
def execXorR (u : Fin 8) (gd : Guard) (rd ra rb : GReg) (s : State) : Host.Outcome State Fault Refusal :=
  aluOp u gd rd ra rb 1 (fun x y => x ^^^ y) s

/-- ANDN: ra AND NOT rb. -/
def execAndn (u : Fin 8) (gd : Guard) (rd ra rb : GReg) (s : State) : Host.Outcome State Fault Refusal :=
  aluOp u gd rd ra rb 1 (fun x y => x &&& ~~~y) s

/-- SLL by rb[4:0]. -/
def execSll (u : Fin 8) (gd : Guard) (rd ra rb : GReg) (s : State) : Host.Outcome State Fault Refusal :=
  aluOp u gd rd ra rb 1 (fun x y => x <<< (y.toNat % 32)) s

/-- SRL by rb[4:0]. -/
def execSrl (u : Fin 8) (gd : Guard) (rd ra rb : GReg) (s : State) : Host.Outcome State Fault Refusal :=
  aluOp u gd rd ra rb 1 (fun x y => x >>> (y.toNat % 32)) s

/-- SRA by rb[4:0]. -/
def execSra (u : Fin 8) (gd : Guard) (rd ra rb : GReg) (s : State) : Host.Outcome State Fault Refusal :=
  aluOp u gd rd ra rb 1 (fun x y => x.sshiftRight (y.toNat % 32)) s

/-- ROR by rb[4:0]. -/
def execRor (u : Fin 8) (gd : Guard) (rd ra rb : GReg) (s : State) : Host.Outcome State Fault Refusal :=
  aluOp u gd rd ra rb 1 (fun x y => x.rotateRight (y.toNat % 32)) s

/-- SLLI. -/
def execSlli (u : Fin 8) (gd : Guard) (rd ra : GReg) (sh : BitVec 5) (s : State) :
    Host.Outcome State Fault Refusal :=
  aluOp1 u gd rd ra (fun x => x <<< sh.toNat) s

/-- SRLI. -/
def execSrli (u : Fin 8) (gd : Guard) (rd ra : GReg) (sh : BitVec 5) (s : State) :
    Host.Outcome State Fault Refusal :=
  aluOp1 u gd rd ra (fun x => x >>> sh.toNat) s

/-- SRAI. -/
def execSrai (u : Fin 8) (gd : Guard) (rd ra : GReg) (sh : BitVec 5) (s : State) :
    Host.Outcome State Fault Refusal :=
  aluOp1 u gd rd ra (fun x => x.sshiftRight sh.toNat) s

/-- RORI. -/
def execRori (u : Fin 8) (gd : Guard) (rd ra : GReg) (sh : BitVec 5) (s : State) :
    Host.Outcome State Fault Refusal :=
  aluOp1 u gd rd ra (fun x => x.rotateRight sh.toNat) s

/-- MIN, signed. -/
def execMinS (u : Fin 8) (gd : Guard) (rd ra rb : GReg) (s : State) : Host.Outcome State Fault Refusal :=
  aluOp u gd rd ra rb 1 (fun x y => if x.toInt < y.toInt then x else y) s

/-- MAX, signed. -/
def execMaxS (u : Fin 8) (gd : Guard) (rd ra rb : GReg) (s : State) : Host.Outcome State Fault Refusal :=
  aluOp u gd rd ra rb 1 (fun x y => if x.toInt < y.toInt then y else x) s

/-- MINU, unsigned. -/
def execMinu (u : Fin 8) (gd : Guard) (rd ra rb : GReg) (s : State) : Host.Outcome State Fault Refusal :=
  aluOp u gd rd ra rb 1 (fun x y => if x.toNat < y.toNat then x else y) s

/-- MAXU, unsigned. -/
def execMaxu (u : Fin 8) (gd : Guard) (rd ra rb : GReg) (s : State) : Host.Outcome State Fault Refusal :=
  aluOp u gd rd ra rb 1 (fun x y => if x.toNat < y.toNat then y else x) s

/-- CLZ: leading zeros, 0 to 32. -/
def execClz (u : Fin 8) (gd : Guard) (rd ra : GReg) (s : State) : Host.Outcome State Fault Refusal :=
  aluOp1 u gd rd ra (fun x => BitVec.ofNat 32 (leadingZeros x)) s

/-- POPC: set bits, 0 to 32. -/
def execPopc (u : Fin 8) (gd : Guard) (rd ra : GReg) (s : State) : Host.Outcome State Fault Refusal :=
  aluOp1 u gd rd ra (fun x => BitVec.ofNat 32 (popCount x)) s

/-- PERM (R808): an odd RA is an invalid encoding (R806). -/
def execPerm (u : Fin 8) (gd : Guard) (rd ra rb : GReg) (s : State) : Host.Outcome State Fault Refusal :=
  regOp u gd (ra.getLsbD 0) 1 s (fun p => gSet p rd (permute (gGet p ra) (gGet p (ra + 1)) (gGet p rb)))

/-- MUL: the low word. -/
def execMul (u : Fin 8) (gd : Guard) (rd ra rb : GReg) (s : State) : Host.Outcome State Fault Refusal :=
  aluOp u gd rd ra rb 3 (fun x y => x * y) s

/-- MULH: signed by signed. -/
def execMulh (u : Fin 8) (gd : Guard) (rd ra rb : GReg) (s : State) : Host.Outcome State Fault Refusal :=
  aluOp u gd rd ra rb 3 (fun x y => mulHigh x.toInt y.toInt) s

/-- MULHU: unsigned by unsigned. -/
def execMulhu (u : Fin 8) (gd : Guard) (rd ra rb : GReg) (s : State) : Host.Outcome State Fault Refusal :=
  aluOp u gd rd ra rb 3 (fun x y => mulHigh x.toNat y.toNat) s

/-- MULHSU: signed ra by unsigned rb. -/
def execMulhsu (u : Fin 8) (gd : Guard) (rd ra rb : GReg) (s : State) : Host.Outcome State Fault Refusal :=
  aluOp u gd rd ra rb 3 (fun x y => mulHigh x.toInt y.toNat) s

/-- DIV (R810). -/
def execDivS (u : Fin 8) (gd : Guard) (rd ra rb : GReg) (s : State) : Host.Outcome State Fault Refusal :=
  aluOp u gd rd ra rb 34 (divSigned) s

/-- DIVU (R810). -/
def execDivu (u : Fin 8) (gd : Guard) (rd ra rb : GReg) (s : State) : Host.Outcome State Fault Refusal :=
  aluOp u gd rd ra rb 34 (divUnsigned) s

/-- REM (R810). -/
def execRemS (u : Fin 8) (gd : Guard) (rd ra rb : GReg) (s : State) : Host.Outcome State Fault Refusal :=
  aluOp u gd rd ra rb 34 (remSigned) s

/-- REMU (R810). -/
def execRemu (u : Fin 8) (gd : Guard) (rd ra rb : GReg) (s : State) : Host.Outcome State Fault Refusal :=
  aluOp u gd rd ra rb 34 (remUnsigned) s

/-- ADDI: sign-extended immediate. -/
def execAddi (u : Fin 8) (gd : Guard) (rd ra : GReg) (imm : BitVec 12) (s : State) :
    Host.Outcome State Fault Refusal :=
  aluOp1 u gd rd ra (fun x => x + sx imm) s

/-- ANDI: zero-extended immediate. -/
def execAndi (u : Fin 8) (gd : Guard) (rd ra : GReg) (imm : BitVec 12) (s : State) :
    Host.Outcome State Fault Refusal :=
  aluOp1 u gd rd ra (fun x => x &&& zx imm) s

/-- ORI: zero-extended immediate. -/
def execOri (u : Fin 8) (gd : Guard) (rd ra : GReg) (imm : BitVec 12) (s : State) :
    Host.Outcome State Fault Refusal :=
  aluOp1 u gd rd ra (fun x => x ||| zx imm) s

/-- XORI: zero-extended immediate. -/
def execXori (u : Fin 8) (gd : Guard) (rd ra : GReg) (imm : BitVec 12) (s : State) :
    Host.Outcome State Fault Refusal :=
  aluOp1 u gd rd ra (fun x => x ^^^ zx imm) s

/-- MOVI: zero-extended immediate. -/
def execMovi (u : Fin 8) (gd : Guard) (rd : GReg) (imm : BitVec 16) (s : State) : Host.Outcome State Fault Refusal :=
  regOp u gd false 1 s (fun p => gSet p rd (zx imm))

/-- MOVHI: the high half; the low half is kept. -/
def execMovhi (u : Fin 8) (gd : Guard) (rd : GReg) (imm : BitVec 16) (s : State) : Host.Outcome State Fault Refusal :=
  regOp u gd false 1 s (fun p => gSet p rd (BitVec.ofNat 32 (imm.toNat * 2 ^ 16 + (gGet p rd).toNat % 2 ^ 16)))

/-- BFX (R807): zero-extended field; a field that passes bit 31 is an invalid encoding. -/
def execBfx (u : Fin 8) (gd : Guard) (rd ra : GReg) (pos wm1 : BitVec 5) (s : State) :
    Host.Outcome State Fault Refusal :=
  regOp u gd (decide (pos.toNat + wm1.toNat + 1 > 32)) 1 s (fun p => gSet p rd (fieldGet (gGet p ra) pos.toNat (wm1.toNat + 1)))

/-- BFXS (R807): sign-extended field. -/
def execBfxs (u : Fin 8) (gd : Guard) (rd ra : GReg) (pos wm1 : BitVec 5) (s : State) :
    Host.Outcome State Fault Refusal :=
  regOp u gd (decide (pos.toNat + wm1.toNat + 1 > 32)) 1 s (fun p => gSet p rd (fieldGetS (gGet p ra) pos.toNat (wm1.toNat + 1)))

/-- BFI (R807): insert; the other bits of rd are kept. -/
def execBfi (u : Fin 8) (gd : Guard) (rd ra : GReg) (pos wm1 : BitVec 5) (s : State) :
    Host.Outcome State Fault Refusal :=
  regOp u gd (decide (pos.toNat + wm1.toNat + 1 > 32)) 1 s (fun p => gSet p rd (fieldPut (gGet p rd) (gGet p ra) pos.toNat (wm1.toNat + 1)))

/-- CMP. -/
def execCmp (u : Fin 8) (gd : Guard) (pd : PReg) (ra rb : GReg) (cond : BitVec 3) (s : State) :
    Host.Outcome State Fault Refusal :=
  regOp u gd false 1 s (fun p => pSet p pd (compare cond (gGet p ra) (gGet p rb)))

/-- CMPI: the immediate is sign-extended before every test (Table 19.5). -/
def execCmpi (u : Fin 8) (gd : Guard) (pd : PReg) (ra : GReg) (cond : BitVec 3) (imm : BitVec 9) (s : State) :
    Host.Outcome State Fault Refusal :=
  regOp u gd false 1 s (fun p => pSet p pd (compare cond (gGet p ra) (sx imm)))

/-- PAND (R809). -/
def execPand (u : Fin 8) (gd : Guard) (pd pa pb : PReg) (s : State) : Host.Outcome State Fault Refusal :=
  predOp u gd pd pa pb (fun x y => x && y) s

/-- POR (R809). -/
def execPor (u : Fin 8) (gd : Guard) (pd pa pb : PReg) (s : State) : Host.Outcome State Fault Refusal :=
  predOp u gd pd pa pb (fun x y => x || y) s

/-- PXOR (R809). -/
def execPxor (u : Fin 8) (gd : Guard) (pd pa pb : PReg) (s : State) : Host.Outcome State Fault Refusal :=
  predOp u gd pd pa pb (fun x y => x != y) s

/-- PANDN (R809). -/
def execPandn (u : Fin 8) (gd : Guard) (pd pa pb : PReg) (s : State) : Host.Outcome State Fault Refusal :=
  predOp u gd pd pa pb (fun x y => x && !y) s

/-- PNOT (R809). -/
def execPnot (u : Fin 8) (gd : Guard) (pd pa : PReg) (s : State) : Host.Outcome State Fault Refusal :=
  regOp u gd false 1 s (fun p => pSet p pd (!pGet p pa))

/-- PRD (R809): 24 zeros, p7 to p1, and 1. -/
def execPrd (u : Fin 8) (gd : Guard) (rd : GReg) (s : State) : Host.Outcome State Fault Refusal :=
  regOp u gd false 1 s (fun p => gSet p rd (BitVec.ofNat 32 (p.p.toNat / 2 * 2 + 1)))

/-- PWR (R809): p7 to p1 from ra[7:1]. -/
def execPwr (u : Fin 8) (gd : Guard) (ra : GReg) (s : State) : Host.Outcome State Fault Refusal :=
  regOp u gd false 1 s (fun x => { x with p := BitVec.ofNat 8 ((gGet x ra).toNat % 256 / 2 * 2) })

end Sys2Proof.Machine
end

