-- ==== Sys2Proof/Machine/PinnaMem.lean ====
section
/-! DEFINITION. The Pinna loads, stores, branches and jumps (Table 19.3, R811, R812, R819). -/

namespace Sys2Proof.Machine

/-- LDW. -/
def execLdw (u : Fin 8) (gd : Guard) (rd ra : GReg) (imm : BitVec 12) (s : State) :
    Host.Outcome State Fault Refusal :=
  loadOp u gd rd ra imm 4 (fun v => BitVec.ofNat 32 v) s

/-- LDH. -/
def execLdh (u : Fin 8) (gd : Guard) (rd ra : GReg) (imm : BitVec 12) (s : State) :
    Host.Outcome State Fault Refusal :=
  loadOp u gd rd ra imm 2 (fun v => BitVec.ofNat 32 v) s

/-- LDHS. -/
def execLdhs (u : Fin 8) (gd : Guard) (rd ra : GReg) (imm : BitVec 12) (s : State) :
    Host.Outcome State Fault Refusal :=
  loadOp u gd rd ra imm 2 (fun v => sx (BitVec.ofNat 16 v)) s

/-- LDB. -/
def execLdb (u : Fin 8) (gd : Guard) (rd ra : GReg) (imm : BitVec 12) (s : State) :
    Host.Outcome State Fault Refusal :=
  loadOp u gd rd ra imm 1 (fun v => BitVec.ofNat 32 v) s

/-- LDBS. -/
def execLdbs (u : Fin 8) (gd : Guard) (rd ra : GReg) (imm : BitVec 12) (s : State) :
    Host.Outcome State Fault Refusal :=
  loadOp u gd rd ra imm 1 (fun v => sx (BitVec.ofNat 8 v)) s

/-- STW. -/
def execStw (u : Fin 8) (gd : Guard) (rd ra : GReg) (imm : BitVec 12) (s : State) :
    Host.Outcome State Fault Refusal :=
  storeOp u gd rd ra imm 4 s

/-- STH. -/
def execSth (u : Fin 8) (gd : Guard) (rd ra : GReg) (imm : BitVec 12) (s : State) :
    Host.Outcome State Fault Refusal :=
  storeOp u gd rd ra imm 2 s

/-- STB. -/
def execStb (u : Fin 8) (gd : Guard) (rd ra : GReg) (imm : BitVec 12) (s : State) :
    Host.Outcome State Fault Refusal :=
  storeOp u gd rd ra imm 1 s

/-- BR: from the address of the branch itself (R812). -/
def execBr (u : Fin 8) (gd : Guard) (imm : BitVec 22) (s : State) : Host.Outcome State Fault Refusal :=
  branchOp u gd s none (fun p => p.pc + (sx imm) * 4)

/-- CALL: g31 holds the return address. -/
def execCall (u : Fin 8) (gd : Guard) (imm : BitVec 22) (s : State) : Host.Outcome State Fault Refusal :=
  branchOp u gd s (some 31) (fun p => p.pc + (sx imm) * 4)

/-- JR. -/
def execJr (u : Fin 8) (gd : Guard) (ra : GReg) (s : State) : Host.Outcome State Fault Refusal :=
  branchOp u gd s none (fun p => gGet p ra)

/-- JALR: the target is read before rd is written. -/
def execJalr (u : Fin 8) (gd : Guard) (rd ra : GReg) (s : State) : Host.Outcome State Fault Refusal :=
  branchOp u gd s (some rd) (fun p => gGet p ra)

end Sys2Proof.Machine
end

