-- ==== Sys2Proof/Machine/Recovery.lean ====
section
/-! DEFINITION. Recovery mode and the tamper acknowledgement (Tables 4.8 and 4.9, R149 to R161). Each check, program or verify that GL_RCV_CTRL
starts ends within its command, so BUSY is never seen set (log entry 54). -/

namespace Sys2Proof.Machine

/-- ROM waits in recovery (Table 4.6). -/
def inRecovery (s : State) : Bool := s.boot.state == .recoveryWait || s.boot.state == .recoveryLoading
def setResult (s : State) (r : Nat) : State := s.onBoot (fun b => { b with rcvResult := BitVec.ofNat 8 r })

/-- ROM has stopped for FEED_WARN (Table 4.14): it takes no path, chunk, image or acknowledgement. -/
def romStopped (s : State) : Bool := s.power.feedWarn && !running s
/-- RCV_CLAIM (R158, Table 4.9): the bit is set; in recovery it claims the PCIe path, unless the Turtis path holds the recovery. -/
def claimPath (s : State) : State :=
  let s1 := s.onBoot (fun b => { b with rcvClaim := true })
  if !inRecovery s || romStopped s then s1
  else if s.boot.rcvTurtis then setResult s1 7
  else (if s1.update.pulling then closeTurtisPath s1 else s1).onBoot (fun b => { b with state := .recoveryLoading })
def execRcvClaim (s : State) : Host.Outcome State Fault Refusal := .next (claimPath s)

/-- The 64 KiB of the recovery window. -/
def windowBytes (s : State) : Bytes := Memory.read 0 s.boot.rcvWindow 0 65536
/-- R156: the block of the chunk is erased first when the index is even, its 128 pages are programmed, NEXT advances. -/
def programChunk (s : State) (c : Nat) : State :=
  let s1 := if c % 2 == 0 then bankErase (eraseWhole s ⟨0, c / 2⟩) (c / 2) else s
  let s2 := bankWrite s1 (65536 * c) (windowBytes s1)
  s2.onBoot (fun b => { b with rcvResult := 0, rcvNext := b.rcvNext + 1, rcvLoaded := c == 59 })
/-- R155: the manifest at chunk 63, before any of blocks 0 to 29 is erased. -/
def chunkManifest (s : State) : State :=
  let m := runningManifest s
  if !m.ok then (setResult s 3).onBoot (fun b => { b with rcvNext := 60 })
  else if !svnOk s m.svn then (setResult s 4).onBoot (fun b => { b with rcvNext := 60 })
  else s
/-- The PCIe path holds the recovery. -/
def pcieLoads (s : State) : Bool := s.boot.state == .recoveryLoading && s.boot.rcvClaim && !s.boot.rcvTurtis && !romStopped s
/-- RCV_CHUNK_GO (R154 to R156, R582): the chunk of GL_RCV_CTRL with the CRC of GL_RCV_CRC, once the path is claimed. -/
def takeChunk (s : State) : State :=
  let c := s.boot.rcvChunk.toNat
  if !pcieLoads s then s
  else if crc32c (windowBytes s) != s.boot.rcvCrc then setResult s 1
  else if s.boot.rcvChunk != s.boot.rcvNext then setResult s 2
  else if bankWorn s then setResult s 5
  else
    let s1 := programChunk s c
    if c == 63 then chunkManifest s1 else s1
def execRcvChunkGo (s : State) : Host.Outcome State Fault Refusal := .next (takeChunk s)
/-- RCV_VERIFY (R157): after chunk 59; ROM goes on to boot the image only if R144 accepts it. -/
def checkImage (s : State) : State :=
  if !pcieLoads s then s
  else if !s.boot.rcvLoaded then setResult s 2
  else if imageAccepted s then s.onBoot (fun b => { b with state := .romChecks, verified := true, powerUp := 3, rcvResult := 0 })
  else s.onBoot (fun b => { b with state := .recoveryLoading, rcvResult := 6, rcvNext := 60, rcvLoaded := false })
def execRcvVerify (s : State) : Host.Outcome State Fault Refusal := .next (checkImage s)

/-! ### The tamper acknowledgement -/

/-- R151, Table 4.8: every field, the key against OTP words 20 to 25, and the signature. -/
def ackAccepted (s : State) (b : Bytes) : Bool :=
  tokenField b 0 4 == 0x4B415451 && (b.drop 4).take 16 == identity s && tokenField b 20 4 == (bootEpoch s).toNat &&
    tokenField b 24 8 == s.tamper.latch.toNat && tokenField b 32 4 == newestSeq s && Config.sha384 ((b.drop 36).take 97) == otpHash s 20 &&
    Config.ecdsaVerify 384 ((b.drop 36).take 97) (b.take 133) ((b.drop 133).take 96)
/-- R152: the latch and Spore word 48 [0] are cleared, TAMPER_ACK is appended, and ROM goes on. -/
def acknowledge (s : State) : State :=
  let w := s.tamper.latch
  let s1 := setStatusBit (s.onTamper (fun t => { t with latch := 0, escalated := 0, suspended := 0 })) 0 false
  (append s1 Entry.tamperAck Src.rom w.toNat).onBoot (fun b => { b with state := .romChecks, powerUp := 3, rcvResult := 0 })
/-- RCV_ACK (R151, R152). -/
def checkAck (s : State) : State :=
  if s.boot.state != .tampered || romStopped s then s
  else if !ackAccepted s (Memory.read 0 s.boot.rcvWindow 0 229) then setResult s 9
  else if s.tamper.live.toNat &&& latchSources s.tamper.latch != 0 then setResult s 8
  else acknowledge s
def execRcvAck (s : State) : Host.Outcome State Fault Refusal := .next (checkAck s)

/-! ### The Turtis path (R159 to R161) -/

/-- Slot 2, unwrapped from its record (R160). -/
def loadLinkKey (s : State) : State :=
  match recordFor s 2 0 with
  | some (_, r) => loadRecord s r
  | none => s
/-- The recovery port of option-area word 9. -/
def recoveryPort (s : State) : Fin 2 := if bitOf (optNow s 9) 1 then 1 else 0
/-- CLAIM_WAIT_EXPIRY (R159, R160): the recovery port is powered, with group G0 for its MACs (R666), and pulls; with the seed erased the path is not offered. -/
def execClaimWaitExpiry (s : State) : Host.Outcome State Fault Refusal :=
  if s.boot.state != .recoveryWait || s.boot.rcvClaim || s.boot.rcvPcieOnly || s.update.pulling || optField s 9 0 1 1 == 0 ||
      seedErased s || romStopped s then .next s
  else
    let s1 := loadLinkKey s
    if !attrValid (attrOf s1 2) then .next s1
    else
      let p := recoveryPort s1
      let s2 := lockAll (setDomain (setDomain s1 0 true) (45 + p.val) true)
      let s3 := startPort s2 p (BitVec.ofNat 64 (reg s2 (glKey (0x220 + 0x20 * p.val))))
      .next (s3.onUpdate (fun u => { u with pulling := true, srcPort := p, source := 0xFF, skip := [], chunks := 0, highWater := 0 }))
/-- TURTIS_GIVEUP_EXPIRY (R161): the Turtis path is closed, the PCIe path stays open. -/
def execTurtisGiveupExpiry (s : State) : Host.Outcome State Fault Refusal :=
  if !s.update.pulling || !inRecovery s then .next s
  else .next (closeTurtisPath s)

end Sys2Proof.Machine
end

