-- ==== Sys2Proof/Machine/ConfigSpace.lean ====
section
/-! DEFINITION. Configuration space (R35, R179, R188, R209, R210, Tables 5.16 and 5.17): the identity, the BARs and the capabilities of every
function. The manual gives what stands there and not where; the places are those of the PCI Express header and capability layouts
(PRESUMED, log entry 81). -/

namespace Sys2Proof.Machine

/-- A capability of Table 5.16 marked yes: where it stands, its identifier and version, and whether only the PF has it. -/
structure Capability where
  at_ : Nat
  id : Nat
  version : Nat
  pfOnly : Bool
  deriving DecidableEq, Repr

/-- Power management, MSI-X and PCI Express. -/
def capabilities : List Capability := [⟨0x40, 0x01, 0, false⟩, ⟨0x50, 0x11, 0, false⟩, ⟨0x70, 0x10, 2, false⟩]
/-- AER, ARI, SR-IOV, ACS, Device Serial Number, LTR and L1 PM Substates. -/
def extCapabilities : List Capability :=
  [⟨0x100, 0x0001, 2, false⟩, ⟨0x150, 0x000E, 1, false⟩, ⟨0x160, 0x0010, 1, true⟩, ⟨0x1A0, 0x000D, 1, true⟩, ⟨0x1B0, 0x0003, 1, false⟩, ⟨0x1C0, 0x0018, 1, true⟩,
    ⟨0x1D0, 0x001E, 1, true⟩]
def hasCap (f : FnId) (c : Capability) : Bool := f == 0 || !c.pfOnly
/-- The capability of a list that stands last at or below an offset. -/
def capOver (caps : List Capability) (f : FnId) (o : Nat) : Option Capability := ((caps.filter (hasCap f)).filter (fun c => c.at_ ≤ o)).getLast?
/-- Where the capability after one stands; 0 after the last. -/
def capNext (caps : List Capability) (f : FnId) (c : Capability) : Nat := (((caps.filter (hasCap f)).find? (fun d => d.at_ > c.at_)).map (·.at_)).getD 0

/-- BAR0 of a function, 64 KiB; a VF's lies in the VF BAR of the PF's SR-IOV capability, one after another. BAR2 of the PF, 1 MiB (R179). -/
def bar0 (s : State) (f : FnId) : Nat :=
  if f == 0 then (SMap.get 0 s.link.bars 0).toNat else ((SMap.get 0 s.link.bars 2).toNat + 0x10000 * (f.toNat - 1)) % 2 ^ 64
def bar2 (s : State) : Nat := (SMap.get 0 s.link.bars 1).toNat
/-- A 64-bit non-prefetchable memory BAR: type 2 in bits [2:1] of the low word. -/
def barWord (v : Nat) (high : Bool) : Nat := if high then v / 2 ^ 32 else v % 2 ^ 32 + 4
/-- A writable configuration word as last written. -/
def configReg (s : State) (f : FnId) (o : Nat) : Nat := (SMap.get 0 s.link.config (4096 * f.toNat + o)).toNat
/-- The fields of configuration words that software may write and whose value the device keeps: Memory Space Enable, the power state, MSI-X Enable
and Function Mask, Device Control but Initiate FLR, Link Control ASPM L1, the AER masks and ECRC enables, the system page size, LTR's two latencies, and
the L1.1 and L1.2 enables. Bus Master Enable, Initiate FLR and the SR-IOV controls have rows of their own. -/
def configMask (f : FnId) (o : Nat) : Nat :=
  if o == 0x04 then 0x2
  else if o == 0x44 then 0x3
  else if o == 0x50 then 0xC0000000
  else if o == 0x78 then 0x79FF
  else if o == 0x80 then 0x2
  else if o == 0x108 || o == 0x114 then 0xFFFFFFFF
  else if o == 0x118 then 0x140
  else if f != 0 then 0
  else if o == 0x180 then 0x1F
  else if o == 0x1C4 then 0x1FFF1FFF
  else if o == 0x1D8 then 0xF
  else 0

/-- MSI-X entries of a function (Table 5.13). -/
def msixCount (f : FnId) : Nat := if f == 0 then 64 else 8
/-- The header (Table 5.17); no INTx pin (R188), no expansion ROM, no other BAR. -/
def headerWord (s : State) (f : FnId) (o : Nat) : Nat :=
  if o == 0x00 then 0x1EB7 + (if f == 0 then 0x6440 else 0x6441) * 2 ^ 16
  else if o == 0x04 then configReg s f o + flagBit (fnOf s f).busMaster 2 + 2 ^ 20
  else if o == 0x08 then 0xB1 + 0x108000 * 2 ^ 8
  else if o == 0x10 then barWord (bar0 s f) false
  else if o == 0x14 then barWord (bar0 s f) true
  else if o == 0x18 && f == 0 then barWord (bar2 s) false
  else if o == 0x1C && f == 0 then barWord (bar2 s) true
  else if o == 0x2C then optField s 1 0 16 0x1EB7 + (if f == 0 then optField s 1 16 16 0 else optField s 1 32 16 0) * 2 ^ 16
  else if o == 0x34 then 0x40
  else 0
/-- The PCI Express capability (Table 5.16): an endpoint; 512 bytes of payload, extended and 10-bit tags, FLR; x4 at 32 GT/s with ASPM L1; LTR. -/
def pcieWord (s : State) (f : FnId) (k : Nat) : Nat :=
  if k == 0x4 then 0x2 + 2 ^ 5 + 2 ^ 15 + 2 ^ 28
  else if k == 0x8 then configReg s f 0x78
  else if k == 0xC then 0x5 + 0x4 * 2 ^ 4 + 0x2 * 2 ^ 10
  else if k == 0x10 then configReg s f 0x80
  else if k == 0x24 then 2 ^ 11 + 2 ^ 17
  else if k == 0x2C then 0x3E
  else 0
/-- SR-IOV of the PF (R178, Table 5.17): the ARI bit, VF Enable with the ARI hierarchy, InitialVFs and TotalVFs, NumVFs, offset and stride 1, the VF
Device ID, page sizes of 4 KiB to 64 KiB, and the VF BAR. -/
def sriovWord (s : State) (k : Nat) : Nat :=
  if k == 0x4 then 0x2
  else if k == 0x8 then flagBit s.link.vfEnable 0 + flagBit s.link.vfEnable 3 + flagBit s.link.ari 4
  else if k == 0xC then totalVfs s s.link.ari * (1 + 2 ^ 16)
  else if k == 0x10 then s.link.numVfs.toNat
  else if k == 0x14 then 1 + 2 ^ 16
  else if k == 0x18 then 0x6441 * 2 ^ 16
  else if k == 0x1C then 0x1F
  else if k == 0x20 then configReg s 0 0x180
  else if k == 0x24 then barWord (SMap.get 0 s.link.bars 2).toNat false
  else if k == 0x28 then barWord (SMap.get 0 s.link.bars 2).toNat true
  else 0
/-- A word of a capability after its header word. -/
def capWord (s : State) (f : FnId) (id k : Nat) : Nat :=
  match id with
  | 0x01 => if k == 4 then configReg s f 0x44 else 0
  | 0x11 => if k == 4 then 0x2000 else if k == 8 then 0x3000 else 0
  | 0x10 => pcieWord s f k
  | _ => 0
def extCapWord (s : State) (f : FnId) (id k : Nat) : Nat :=
  match id with
  | 0x0001 =>
    if k == 4 then (SMap.get 0 s.link.aer f.toNat).toNat
    else if k == 8 || k == 0x14 then configReg s f (0x100 + k)
    else if k == 0x18 then configReg s f 0x118 + 0xA0
    else 0
  | 0x000E => if k == 4 && s.link.ari then (if f.toNat < (if s.link.vfEnable then s.link.numVfs.toNat else 0) then (f.toNat + 1) * 2 ^ 8 else 0) else 0
  | 0x0010 => sriovWord s k
  | 0x0003 => if k == 4 then (otp s 1).toNat % 2 ^ 32 else if k == 8 then (otp s 1).toNat / 2 ^ 32 else 0
  | 0x0018 => if k == 4 then configReg s f 0x1C4 else 0
  | 0x001E => if k == 4 then 0x1F else if k == 8 then configReg s f 0x1D8 else 0
  | _ => 0
/-- A word of a function's configuration space; what no field fills reads 0. -/
def configWord (s : State) (f : FnId) (o : Nat) : Nat :=
  if o < 0x40 then headerWord s f o
  else if o < 0x100 then
    match capOver capabilities f o with
    | none => 0
    | some c =>
      if o == c.at_ then
        c.id + capNext capabilities f c * 2 ^ 8 +
          (if c.id == 0x01 then 0x3 * 2 ^ 16 else if c.id == 0x11 then (msixCount f - 1) * 2 ^ 16 + configReg s f 0x50 else c.version * 2 ^ 16)
      else capWord s f c.id (o - c.at_)
  else
    match capOver extCapabilities f o with
    | none => 0
    | some c => if o == c.at_ then c.id + c.version * 2 ^ 16 + capNext extCapabilities f c * 2 ^ 20 else extCapWord s f c.id (o - c.at_)

/-- The function answers configuration requests: the link is up, and a VF has appeared. -/
def configThere (s : State) (f : FnId) : Bool := s.link.up && (f == 0 || (fnOf s f).enabled)
/-- A configuration read; a function that is not there reads all ones. -/
def configRead (s : State) (f : FnId) (o : Nat) : Nat := if configThere s f then configWord s f o else 0xFFFFFFFF

/-- A BAR keeps the address bits above its size: half of it is written (R179). -/
def barWrite (s : State) (k size : Nat) (high : Bool) (v : Nat) : State :=
  let old := (SMap.get 0 s.link.bars k).toNat
  let new := if high then old % 2 ^ 32 + v * 2 ^ 32 else old / 2 ^ 32 * 2 ^ 32 + v / size * size
  s.onLink (fun l => { l with bars := SMap.set 0 l.bars k (BitVec.ofNat 64 new) })
/-- A configuration write: the BARs, the AER status bits (W1C), and the kept fields. -/
def configWrite (s : State) (f : FnId) (o v : Nat) : State :=
  if !configThere s f then s
  else if f == 0 && (o == 0x10 || o == 0x14) then barWrite s 0 0x10000 (o == 0x14) v
  else if f == 0 && (o == 0x18 || o == 0x1C) then barWrite s 1 0x100000 (o == 0x1C) v
  else if f == 0 && (o == 0x184 || o == 0x188) then barWrite s 2 0x10000 (o == 0x188) v
  else if o == 0x104 then s.onLink (fun l => { l with aer := SMap.mod 0 l.aer f.toNat (fun x => x &&& ~~~BitVec.ofNat 32 v) })
  else if configMask f o == 0 then s
  else s.onLink (fun l => { l with config := SMap.set 0 l.config (4096 * f.toNat + o) (BitVec.ofNat 32 (v &&& configMask f o)) })

end Sys2Proof.Machine
end

