-- ==== Sys2Proof/Machine/Registers.lean ====
section
/-! DEFINITION. The register regions of the host (Tables 5.1 and 5.2): what a read returns, what a write does under the access codes of Table
0.3, the STAGE views, and the reads that clear. -/

namespace Sys2Proof.Machine

/-! ### Commit groups at their offsets -/

/-- The group whose registers stand at an offset of BAR0. -/
def fnGroup (f : FnId) (off : Nat) : Option CommitGroup :=
  if 0x100 ≤ off && off < 0x180 then some (.queue f (BitVec.ofNat 2 ((off - 0x100) / 0x20)))
  else if off == 0x180 || off == 0x184 then some (.imod f) else none
/-- The group whose registers stand at an offset of BAR2. -/
def glGroup (off : Nat) : Option CommitGroup :=
  if off == 0x30 || off == 0x34 then some .power
  else if off == 0x40 || off == 0x44 then some .sched
  else if h : 0x100 ≤ off ∧ off < 0x200 then some (.alarm ⟨(off - 0x100) / 0x20, by omega⟩)
  else if 0x200 ≤ off && off ≤ 0x208 then some .gpio
  else if off == 0x220 || off == 0x224 then some (.turtis 0)
  else if off == 0x240 || off == 0x244 then some (.turtis 1)
  else if off == 0x260 || off == 0x264 then some .cless
  else if 0x280 ≤ off && off ≤ 0x290 then some .tamper
  else if 0x10C0 ≤ off && off ≤ 0x1200 then some .hypha
  else if 0x2000 ≤ off && off < 0x3000 then some (.tenant (BitVec.ofNat 8 ((off - 0x2000) / 0x10)))
  else none
def groupAt (r : Region) (off : Nat) : Option CommitGroup :=
  match r with
  | .fnBar f => fnGroup f off
  | .glBar => glGroup off
  | .config _ => none
/-- The bits of a group's registers that are fields; the others are reserved and read 0. -/
def groupMask (g : CommitGroup) (i : Nat) : Nat :=
  match g with
  | .queue _ _ => if i == 4 then 0x803F7FFF else 0xFFFFFFFF
  | .imod _ => 0x3FFFF
  | .sched => 0x7FFFFFFF
  | .tenant _ => 0x7F7F7FFF
  | .power => 0x7FFFF
  | .alarm _ => if i == 3 then 1 else 0xFFFFFFFF
  | .gpio => 0x3F3F3F3F
  | .turtis _ => 0x7FF3F03
  | .cless => 0xFFFFFF
  | .tamper => if i == 1 then 0x7F else 0xFFFFFFFF
  | .hypha => 0xFFFFFFFF
/-- The place of a register in its group. -/
def groupIndex (r : Region) (off : Nat) : Option (CommitGroup × Nat) :=
  (groupAt r off).bind (fun g => ((groupRegs g).idxOf? (regionKey r off)).map (fun i => (g, i)))
/-- The group whose COMMIT register stands at an offset. -/
def commitAt (r : Region) (off : Nat) : Option CommitGroup := (groupAt r off).filter (fun g => commitKey g == regionKey r off)

/-! ### Reads -/

/-- Table 3.4. -/
def commitWord (x : CommitReg) : Nat :=
  flagBit x.busy 1 + flagBit x.overrun 2 + flagBit x.rejected 3 + flagBit x.dropped 4 + x.reason.toNat * 2 ^ 8 + x.applied.toNat * 2 ^ 16
/-- Table 3.9. -/
def taskWord (x : Task) : Nat := min 0xFF x.merged + flagBit x.pending 8 + flagBit x.running 9 + x.fired.toNat * 2 ^ 16
/-- GL_BOOT_STATUS (Table 4.5). -/
def bootStatus (s : State) : Nat :=
  s.boot.state.code + s.boot.cause.toNat * 2 ^ 8 + lifecycle s * 2 ^ 16 + flagBit s.boot.optDefault 18 + flagBit s.boot.sentinelFresh 19 +
    flagBit s.boot.debug 20 + s.boot.lastReset.toNat * 2 ^ 24 + min 15 s.boot.tries * 2 ^ 28
/-- GL_RCV_CTRL (Table 4.9): a WO field reads 0. -/
def rcvCtrl (s : State) : Nat :=
  flagBit s.boot.rcvClaim 0 + flagBit s.boot.rcvBusy 2 + flagBit s.boot.rcvOverrun 3 + s.boot.rcvChunk.toNat * 2 ^ 8 + flagBit s.boot.rcvTurtis 14 +
    s.boot.rcvResult.toNat * 2 ^ 16 + s.boot.rcvNext.toNat * 2 ^ 24
/-- FN_Qq_STATUS (Table 5.5). -/
def pairStatus (p : Pair) : Nat := flagBit (pairServed p) 0 + flagBit p.conflict 1

/-- A word of the MSI-X table: the mask bit is held inverted. -/
def msixWord (s : State) (f : FnId) (k : Nat) : Nat := let v := reg s (fnKey f k); if k % 16 == 12 then 1 - v % 2 else v
/-- A word of the Pending Bit Array. -/
def pbaWord (s : State) (f : FnId) (w : Nat) : Nat :=
  ((List.range 32).map (fun i => flagBit (SMap.get false s.link.pba (f.toNat * 64 + 32 * w + i)) i)).sum

/-- A word of BAR0 (Table 5.1). -/
def fnWord (s : State) (f : FnId) (o : Nat) : Nat :=
  if o == 0x0 then f.toNat + 0x0100 + 0x6440 * 2 ^ 16
  else if o == 0x4 then s.boot.state.code
  else if o == 0x8 then s.clocks.seta % 2 ^ 32
  else if o == 0xC then (fnOf s f).setaHi.toNat
  else if o == 0x10 then (bootEpoch s).toNat
  else if o == 0x20 then fnStatus s f
  else if o == 0x24 then (SMap.get 0 s.regs.events (fnKey f 0x24)).toNat
  else if o == 0x28 then reg s (fnKey f 0x28)
  else if o == 0x2C then fnPool s f
  else if 0x100 ≤ o && o < 0x180 && o % 0x20 == 0x14 then pairStatus (pairOf s f (BitVec.ofNat 2 ((o - 0x100) / 0x20)))
  else if 0x2000 ≤ o && o < 0x2000 + 16 * msixCount f then msixWord s f o
  else if o == 0x3000 || (o == 0x3004 && f == 0) then pbaWord s f ((o - 0x3000) / 4)
  else 0
/-- A word of BAR2 (Table 5.2). -/
def glWord (s : State) (o : Nat) : Nat :=
  if o == 0x0 then 0x6440 + 0xB1 * 2 ^ 16 + 0x01 * 2 ^ 24
  else if o == 0x4 then bootStatus s
  else if o == 0x10 then rcvCtrl s
  else if o == 0x14 then s.boot.rcvCrc.toNat
  else if o == 0x20 then rhzStatus s + s.power.dipCount.toNat * 2 ^ 16
  else if o == 0x24 || o == 0x54 then (SMap.get 0 s.regs.events (glKey o)).toNat
  else if o == 0x50 then poolStatus s
  else if o == 0x58 then reg s (glKey o)
  else if 0x1400 ≤ o && o < 0x1580 then taskWord (taskOf s ((o - 0x1400) / 4))
  else if 0x1600 ≤ o && o < 0x1680 then
    let c := SMap.get {} s.clocks.captures ((o - 0x1600) / 0x10)
    (if o % 0x10 == 0 then c.epoch.toNat else if o % 0x10 == 4 then c.seta % 2 ^ 32 else if o % 0x10 == 8 then c.seta / 2 ^ 32 % 2 ^ 32 else 0)
  else if 0x2000 ≤ o && o < 0x3000 && o % 0x10 == 8 then tenStat s (BitVec.ofNat 8 ((o - 0x2000) / 0x10))
  else 0
/-- A word of a region, with the active or the staged value at the registers of commit groups (R104, R180). -/
def viewWord (s : State) (r : Region) (o : Nat) (stage : Bool) : Nat :=
  match groupIndex r o, commitAt r o with
  | some _, _ => if stage then staged s (regionKey r o) else reg s (regionKey r o)
  | none, some g => commitWord (commitReg s (commitKey g))
  | none, none => match r with | .fnBar f => fnWord s f o | .glBar => glWord s o | .config f => configRead s f o

/-- The evidence-log region, byte by byte (R150): an erased or torn slot reads as the flash holds it. -/
def logRegionByte (s : State) (k : Nat) : Byte :=
  if k ≥ 48 * logSlots s then 0
  else match SMap.get .erased s.log.slots (k / 48) with
    | .entry q n ch => (entryBytes q n ch).getD (k % 48) 0
    | .damaged _ _ => 0
    | _ => 0xFF
/-- The states in which ROM shows the log region in the window (R150, R173, Table 4.10). -/
def showsLog (s : State) : Bool := [BootState.tampered, .keyFault, .retired].contains s.boot.state
def windowWord (s : State) (o : Nat) : Nat :=
  if showsLog s then leNat ((List.range 4).map (fun i => logRegionByte s (65536 * s.boot.rcvChunk.toNat + o + i)))
  else if inRecovery s then leNat (Memory.read 0 s.boot.rcvWindow o 4) else 0

/-- ROM serves GL_RCV_CTRL, GL_RCV_CRC and the window (R181); where it only shows the log, the page has to be chosen. -/
def servesRcv (s : State) : Bool := inRecovery s || s.boot.state == .recoveryVerifying || showsLog s
/-- The offset of the register that a STAGE view shows, or the offset itself. -/
def stageOf (r : Region) (o : Nat) : Option Nat :=
  match r with
  | .fnBar _ => if 0x8000 ≤ o && o < 0x8200 then some (o - 0x8000) else none
  | .glBar => if 0x40000 ≤ o && o < 0x50000 then some (o - 0x40000) else none
  | .config _ => none
def regionFn : Region → FnId
  | .fnBar f | .config f => f
  | .glBar => 0
/-- A read by host software (R141, R180, R181). -/
def readReg (s : State) (r : Region) (o : Nat) : U32 :=
  BitVec.ofNat 32 (
    if !((regionFn r == 0) || (fnOf s (regionFn r)).enabled) then 0xFFFFFFFF
    else if running s then
      match stageOf r o with
      | some k => viewWord s r k true
      | none => viewWord s r o false
    else match r with
      | .fnBar _ => if o == 4 then s.boot.state.code else 0xFFFFFFFF
      | .glBar =>
        if o == 4 then bootStatus s
        else if servesRcv s && o == 0x10 then rcvCtrl s
        else if servesRcv s && o == 0x14 then s.boot.rcvCrc.toNat
        else if servesRcv s && 0x80000 ≤ o && o < 0x90000 then windowWord s (o - 0x80000)
        else 0xFFFFFFFF
      | .config f => configRead s f o)

/-! ### Writes -/

/-- A staging write (R101, R106). -/
def stageWrite (s : State) (g : CommitGroup) (i k v : Nat) (clearing : Bool) : State :=
  if (commitReg s (commitKey g)).busy || inClearing s g clearing then onCommit s (commitKey g) (fun r => { r with dropped := true })
  else setStage s k (v &&& groupMask g i)
/-- A write of a COMMIT register (Tables 0.3 and 3.4): APPLIED, the W1C bits, then GO. -/
def commitWrite (s : State) (g : CommitGroup) (v : Nat) (clearing : Bool) : State :=
  let s1 := onCommit s (commitKey g) (fun r => { r with
    applied := BitVec.ofNat 16 (bitsOf v 16 16), overrun := r.overrun && !bitOf v 2, rejected := r.rejected && !bitOf v 3, dropped := r.dropped && !bitOf v 4 })
  if bitOf v 0 then commitStart s1 g clearing else s1
/-- W1C. -/
def clearEvents (s : State) (k v : Nat) : State :=
  s.onRegs (fun r => { r with events := SMap.mod 0 r.events k (fun x => x &&& ~~~BitVec.ofNat 32 v) })
/-- A write of an MSI-X table word; an unmasked vector that was pending goes out. -/
def msixWrite (s : State) (f : FnId) (k v : Nat) : State :=
  if k % 16 == 12 then flushPba (setReg s (fnKey f k) (1 - v % 2)) f else setReg s (fnKey f k) (if k % 16 == 0 then v - v % 4 else v)

/-- A write to BAR0 of a function; the doorbells have rows of their own. -/
def fnWrite (s : State) (f : FnId) (o v : Nat) : State :=
  if o == 0x24 then clearEvents s (fnKey f o) v
  else if o == 0x28 then setReg s (fnKey f o) (v % 64)
  else if 0x1000 ≤ o && o < 0x1020 then
    let q := BitVec.ofNat 2 ((o - 0x1000) / 8)
    if o % 8 == 0 then sqTailWrite s f q v else if o % 8 == 4 then cqHeadWrite s f q v else s
  else if 0x2000 ≤ o && o < 0x2000 + 16 * msixCount f then msixWrite s f o v
  else s
/-- GL_RCV_CTRL (Table 4.9): CHUNK, OVERRUN, CLAIM, then one start; a second start in the same write meets BUSY. -/
def rcvWrite (s : State) (v : Nat) : State :=
  let starts := ([1, 4, 5].filter (bitOf v)).length
  let s1 := s.onBoot (fun b => { b with rcvChunk := BitVec.ofNat 6 (bitsOf v 8 6), rcvOverrun := (b.rcvOverrun && !bitOf v 3) || starts > 1 })
  let s2 := if bitOf v 0 then claimPath s1 else s1
  if bitOf v 1 then takeChunk s2 else if bitOf v 4 then checkImage s2 else if bitOf v 5 then checkAck s2 else s2
/-- A write to BAR2. -/
def glWrite (s : State) (o v : Nat) : State :=
  if o == 0x24 || o == 0x54 then clearEvents s (glKey o) v
  else if o == 0x58 then setReg s (glKey o) (v % 4)
  else if o == 0x10 then rcvWrite s v
  else if o == 0x14 then s.onBoot (fun b => { b with rcvCrc := BitVec.ofNat 32 v })
  else if 0x1400 ≤ o && o < 0x1580 && o % 4 == 0 then onTask s ((o - 0x1400) / 4) (fun x => { x with fired := BitVec.ofNat 16 (bitsOf v 16 16) })
  else s
/-- A write that ROM serves (R141, R181); the window takes an image or an acknowledgement. -/
def romWrite (s : State) (o v : Nat) : State :=
  if !servesRcv s then s
  else if o == 0x10 then rcvWrite s v
  else if o == 0x14 then s.onBoot (fun b => { b with rcvCrc := BitVec.ofNat 32 v })
  else if 0x80000 ≤ o && o < 0x90000 && (inRecovery s || s.boot.state == .tampered) then
    s.onBoot (fun b => { b with rcvWindow := Memory.write 0 b.rcvWindow (o - 0x80000) (leBytes 4 v) })
  else s
/-- REGISTER_WRITE: a STAGE view and an offset that names nothing ignore it (R180). `clearing`: in the cycle in which BUSY of the group it
meets clears (R106). -/
def registerWrite (s : State) (r : Region) (o v : Nat) (clearing : Bool) : State :=
  if !running s then (match r with | .glBar => romWrite s o v | .config f => configWrite s f o v | .fnBar _ => s)
  else if !reachable s (regionFn r) then s
  else match groupIndex r o, commitAt r o with
    | some (g, i), _ => stageWrite s g i (regionKey r o) v clearing
    | none, some g => commitWrite s g v clearing
    | none, none => match r with | .fnBar f => fnWrite s f o v | .glBar => glWrite s o v | .config f => configWrite s f o v
/-- REGISTER_WRITE. -/
def execRegisterWrite (r : Region) (off : BitVec 20) (v : WriteData) (s : State) : Host.Outcome State Fault Refusal :=
  .next (registerWrite s r (off.toNat / 4 * 4) v.value.toNat v.clearing)

/-- The RC field of a register is cleared but for what arrives in the cycle (RCL of Table 3.6): MERGED and DIP_COUNT. -/
def clearField (s : State) (r : Region) (o : Nat) (arriving : Byte) : State :=
  match r with
  | .fnBar _ | .config _ => s
  | .glBar =>
    if o == 0x20 then s.onPower (fun p => { p with dipCount := arriving })
    else if 0x1400 ≤ o && o < 0x1580 && o % 4 == 0 then onTask s ((o - 0x1400) / 4) (fun x => { x with merged := arriving.toNat })
    else s
/-- RC_FIELD_READ: the value as it stood is returned; a STAGE view clears nothing (R180). -/
def execRcFieldRead (r : Region) (off : BitVec 20) (arriving : Byte) (s : State) : Host.Outcome State Fault Refusal :=
  let o := off.toNat / 4 * 4
  let s1 := s.onLink (fun l => { l with readData := readReg s r o })
  .next (if running s then clearField s1 r o arriving else s1)

end Sys2Proof.Machine
end

