-- ==== Sys2Proof/Machine/Dispatch.lean ====
section
/-! DEFINITION. What each row of the table does: one arm per constructor of `Instr`. -/

namespace Sys2Proof.Machine

def exec (i : Instr) (s : State) : Host.Outcome State Fault Refusal :=
  match i with
  | .add u gd rd ra rb => Sys2Proof.Machine.execAdd u gd rd ra rb s
  | .sub u gd rd ra rb => Sys2Proof.Machine.execSub u gd rd ra rb s
  | .andR u gd rd ra rb => Sys2Proof.Machine.execAndR u gd rd ra rb s
  | .orR u gd rd ra rb => Sys2Proof.Machine.execOrR u gd rd ra rb s
  | .xorR u gd rd ra rb => Sys2Proof.Machine.execXorR u gd rd ra rb s
  | .andn u gd rd ra rb => Sys2Proof.Machine.execAndn u gd rd ra rb s
  | .sll u gd rd ra rb => Sys2Proof.Machine.execSll u gd rd ra rb s
  | .srl u gd rd ra rb => Sys2Proof.Machine.execSrl u gd rd ra rb s
  | .sra u gd rd ra rb => Sys2Proof.Machine.execSra u gd rd ra rb s
  | .ror u gd rd ra rb => Sys2Proof.Machine.execRor u gd rd ra rb s
  | .slli u gd rd ra sh => Sys2Proof.Machine.execSlli u gd rd ra sh s
  | .srli u gd rd ra sh => Sys2Proof.Machine.execSrli u gd rd ra sh s
  | .srai u gd rd ra sh => Sys2Proof.Machine.execSrai u gd rd ra sh s
  | .rori u gd rd ra sh => Sys2Proof.Machine.execRori u gd rd ra sh s
  | .minS u gd rd ra rb => Sys2Proof.Machine.execMinS u gd rd ra rb s
  | .maxS u gd rd ra rb => Sys2Proof.Machine.execMaxS u gd rd ra rb s
  | .minu u gd rd ra rb => Sys2Proof.Machine.execMinu u gd rd ra rb s
  | .maxu u gd rd ra rb => Sys2Proof.Machine.execMaxu u gd rd ra rb s
  | .clz u gd rd ra => Sys2Proof.Machine.execClz u gd rd ra s
  | .popc u gd rd ra => Sys2Proof.Machine.execPopc u gd rd ra s
  | .perm u gd rd ra rb => Sys2Proof.Machine.execPerm u gd rd ra rb s
  | .mul u gd rd ra rb => Sys2Proof.Machine.execMul u gd rd ra rb s
  | .mulh u gd rd ra rb => Sys2Proof.Machine.execMulh u gd rd ra rb s
  | .mulhu u gd rd ra rb => Sys2Proof.Machine.execMulhu u gd rd ra rb s
  | .mulhsu u gd rd ra rb => Sys2Proof.Machine.execMulhsu u gd rd ra rb s
  | .divS u gd rd ra rb => Sys2Proof.Machine.execDivS u gd rd ra rb s
  | .divu u gd rd ra rb => Sys2Proof.Machine.execDivu u gd rd ra rb s
  | .remS u gd rd ra rb => Sys2Proof.Machine.execRemS u gd rd ra rb s
  | .remu u gd rd ra rb => Sys2Proof.Machine.execRemu u gd rd ra rb s
  | .addi u gd rd ra imm => Sys2Proof.Machine.execAddi u gd rd ra imm s
  | .andi u gd rd ra imm => Sys2Proof.Machine.execAndi u gd rd ra imm s
  | .ori u gd rd ra imm => Sys2Proof.Machine.execOri u gd rd ra imm s
  | .xori u gd rd ra imm => Sys2Proof.Machine.execXori u gd rd ra imm s
  | .movi u gd rd imm => Sys2Proof.Machine.execMovi u gd rd imm s
  | .movhi u gd rd imm => Sys2Proof.Machine.execMovhi u gd rd imm s
  | .bfx u gd rd ra pos wm1 => Sys2Proof.Machine.execBfx u gd rd ra pos wm1 s
  | .bfxs u gd rd ra pos wm1 => Sys2Proof.Machine.execBfxs u gd rd ra pos wm1 s
  | .bfi u gd rd ra pos wm1 => Sys2Proof.Machine.execBfi u gd rd ra pos wm1 s
  | .cmp u gd pd ra rb cond => Sys2Proof.Machine.execCmp u gd pd ra rb cond s
  | .cmpi u gd pd ra cond imm => Sys2Proof.Machine.execCmpi u gd pd ra cond imm s
  | .pand u gd pd pa pb => Sys2Proof.Machine.execPand u gd pd pa pb s
  | .por u gd pd pa pb => Sys2Proof.Machine.execPor u gd pd pa pb s
  | .pxor u gd pd pa pb => Sys2Proof.Machine.execPxor u gd pd pa pb s
  | .pandn u gd pd pa pb => Sys2Proof.Machine.execPandn u gd pd pa pb s
  | .pnot u gd pd pa => Sys2Proof.Machine.execPnot u gd pd pa s
  | .prd u gd rd => Sys2Proof.Machine.execPrd u gd rd s
  | .pwr u gd ra => Sys2Proof.Machine.execPwr u gd ra s
  | .ldw u gd rd ra imm => Sys2Proof.Machine.execLdw u gd rd ra imm s
  | .ldh u gd rd ra imm => Sys2Proof.Machine.execLdh u gd rd ra imm s
  | .ldhs u gd rd ra imm => Sys2Proof.Machine.execLdhs u gd rd ra imm s
  | .ldb u gd rd ra imm => Sys2Proof.Machine.execLdb u gd rd ra imm s
  | .ldbs u gd rd ra imm => Sys2Proof.Machine.execLdbs u gd rd ra imm s
  | .stw u gd rd ra imm => Sys2Proof.Machine.execStw u gd rd ra imm s
  | .sth u gd rd ra imm => Sys2Proof.Machine.execSth u gd rd ra imm s
  | .stb u gd rd ra imm => Sys2Proof.Machine.execStb u gd rd ra imm s
  | .br u gd imm => Sys2Proof.Machine.execBr u gd imm s
  | .call u gd imm => Sys2Proof.Machine.execCall u gd imm s
  | .jr u gd ra => Sys2Proof.Machine.execJr u gd ra s
  | .jalr u gd rd ra => Sys2Proof.Machine.execJalr u gd rd ra s
  | .mfs u gd rd sa => Sys2Proof.Machine.execMfs u gd rd sa s
  | .mts u gd sd ra => Sys2Proof.Machine.execMts u gd sd ra s
  | .sleep u gd => Sys2Proof.Machine.execSleep u gd s
  | .invalidEncoding unit word => Sys2Proof.Machine.execInvalidEncoding unit word s
  | .sysExit u gd => Sys2Proof.Machine.execSysExit u gd s
  | .sysAbort u gd => Sys2Proof.Machine.execSysAbort u gd s
  | .sysCommand u gd => Sys2Proof.Machine.execSysCommand u gd s
  | .copyIn u gd => Sys2Proof.Machine.execCopyIn u gd s
  | .sysRaise u gd => Sys2Proof.Machine.execSysRaise u gd s
  | .sysInfo u gd => Sys2Proof.Machine.execSysInfo u gd s
  | .sysInvalid unit gd service => Sys2Proof.Machine.execSysInvalid unit gd service s
  | .nop c => Sys2Proof.Machine.execNop c s
  | .getInfo c => Sys2Proof.Machine.execGetInfo c s
  | .getLimits c => Sys2Proof.Machine.execGetLimits c s
  | .deviceReset c => Sys2Proof.Machine.execDeviceReset c s
  | .recoveryRequest c => Sys2Proof.Machine.execRecoveryRequest c s
  | .debugArm c => Sys2Proof.Machine.execDebugArm c s
  | .provision c => Sys2Proof.Machine.execProvision c s
  | .retire c => Sys2Proof.Machine.execRetire c s
  | .optionRead c => Sys2Proof.Machine.execOptionRead c s
  | .optionWrite c => Sys2Proof.Machine.execOptionWrite c s
  | .configSet c => Sys2Proof.Machine.execConfigSet c s
  | .configGet c => Sys2Proof.Machine.execConfigGet c s
  | .raiseEvent c => Sys2Proof.Machine.execRaiseEvent c s
  | .tenantCreate c => Sys2Proof.Machine.execTenantCreate c s
  | .tenantRelease c => Sys2Proof.Machine.execTenantRelease c s
  | .tenantSet c => Sys2Proof.Machine.execTenantSet c s
  | .tenantStatus c => Sys2Proof.Machine.execTenantStatus c s
  | .tenantList c => Sys2Proof.Machine.execTenantList c s
  | .keyGenerate c => Sys2Proof.Machine.execKeyGenerate c s
  | .keyImport c => Sys2Proof.Machine.execKeyImport c s
  | .keyDerive c => Sys2Proof.Machine.execKeyDerive c s
  | .keyDelete c => Sys2Proof.Machine.execKeyDelete c s
  | .keyInfo c => Sys2Proof.Machine.execKeyInfo c s
  | .keyPersist c => Sys2Proof.Machine.execKeyPersist c s
  | .keyExportWrapped c => Sys2Proof.Machine.execKeyExportWrapped c s
  | .cipher c => Sys2Proof.Machine.execCipher c s
  | .aeadEncrypt c => Sys2Proof.Machine.execAeadEncrypt c s
  | .aeadDecrypt c => Sys2Proof.Machine.execAeadDecrypt c s
  | .mac c => Sys2Proof.Machine.execMac c s
  | .contextSave c => Sys2Proof.Machine.execContextSave c s
  | .contextRestore c => Sys2Proof.Machine.execContextRestore c s
  | .rsaPrivate c => Sys2Proof.Machine.execRsaPrivate c s
  | .rsaPublic c => Sys2Proof.Machine.execRsaPublic c s
  | .ecdsaSign c => Sys2Proof.Machine.execEcdsaSign c s
  | .ecdsaVerify c => Sys2Proof.Machine.execEcdsaVerify c s
  | .eddsaSign c => Sys2Proof.Machine.execEddsaSign c s
  | .eddsaVerify c => Sys2Proof.Machine.execEddsaVerify c s
  | .ecdh c => Sys2Proof.Machine.execEcdh c s
  | .pkKeygen c => Sys2Proof.Machine.execPkKeygen c s
  | .mlKemEncaps c => Sys2Proof.Machine.execMlKemEncaps c s
  | .mlKemDecaps c => Sys2Proof.Machine.execMlKemDecaps c s
  | .mlDsaSign c => Sys2Proof.Machine.execMlDsaSign c s
  | .mlDsaVerify c => Sys2Proof.Machine.execMlDsaVerify c s
  | .sorusKernel c => Sys2Proof.Machine.execSorusKernel c s
  | .sorusKeyswitch c => Sys2Proof.Machine.execSorusKeyswitch c s
  | .sorusRefresh c => Sys2Proof.Machine.execSorusRefresh c s
  | .sorusEncrypt c => Sys2Proof.Machine.execSorusEncrypt c s
  | .shareOpen c => Sys2Proof.Machine.execShareOpen c s
  | .shareInput c => Sys2Proof.Machine.execShareInput c s
  | .shareCompute c => Sys2Proof.Machine.execShareCompute c s
  | .shareReveal c => Sys2Proof.Machine.execShareReveal c s
  | .shareClose c => Sys2Proof.Machine.execShareClose c s
  | .random c => Sys2Proof.Machine.execRandom c s
  | .reseed c => Sys2Proof.Machine.execReseed c s
  | .entropyStatus c => Sys2Proof.Machine.execEntropyStatus c s
  | .rawMode c => Sys2Proof.Machine.execRawMode c s
  | .rawRead c => Sys2Proof.Machine.execRawRead c s
  | .counterAlloc c => Sys2Proof.Machine.execCounterAlloc c s
  | .counterRead c => Sys2Proof.Machine.execCounterRead c s
  | .counterIncrement c => Sys2Proof.Machine.execCounterIncrement c s
  | .counterList c => Sys2Proof.Machine.execCounterList c s
  | .timeRead c => Sys2Proof.Machine.execTimeRead c s
  | .anchorRecord c => Sys2Proof.Machine.execAnchorRecord c s
  | .logInfo c => Sys2Proof.Machine.execLogInfo c s
  | .logRead c => Sys2Proof.Machine.execLogRead c s
  | .logExport c => Sys2Proof.Machine.execLogExport c s
  | .logExtend c => Sys2Proof.Machine.execLogExtend c s
  | .logNote c => Sys2Proof.Machine.execLogNote c s
  | .poolStatus c => Sys2Proof.Machine.execPoolStatus c s
  | .unitOut c => Sys2Proof.Machine.execUnitOut c s
  | .unitReturn c => Sys2Proof.Machine.execUnitReturn c s
  | .powerSet c => Sys2Proof.Machine.execPowerSet c s
  | .powerStatus c => Sys2Proof.Machine.execPowerStatus c s
  | .domainSet c => Sys2Proof.Machine.execDomainSet c s
  | .schedSet c => Sys2Proof.Machine.execSchedSet c s
  | .hibernate c => Sys2Proof.Machine.execHibernate c s
  | .updateStart c => Sys2Proof.Machine.execUpdateStart c s
  | .updateStatus c => Sys2Proof.Machine.execUpdateStatus c s
  | .chainStatus c => Sys2Proof.Machine.execChainStatus c s
  | .rosterSet c => Sys2Proof.Machine.execRosterSet c s
  | .flashWear c => Sys2Proof.Machine.execFlashWear c s
  | .wornOverride c => Sys2Proof.Machine.execWornOverride c s
  | .readerPoll c => Sys2Proof.Machine.execReaderPoll c s
  | .readerExchange c => Sys2Proof.Machine.execReaderExchange c s
  | .readerFieldOff c => Sys2Proof.Machine.execReaderFieldOff c s
  | .badgeVerify c => Sys2Proof.Machine.execBadgeVerify c s
  | .visitRead c => Sys2Proof.Machine.execVisitRead c s
  | .appletInstall c => Sys2Proof.Machine.execAppletInstall c s
  | .appletRemove c => Sys2Proof.Machine.execAppletRemove c s
  | .appletInvoke c => Sys2Proof.Machine.execAppletInvoke c s
  | .appletList c => Sys2Proof.Machine.execAppletList c s
  | .pinnaMode c => Sys2Proof.Machine.execPinnaMode c s
  | .healthStatus c => Sys2Proof.Machine.execHealthStatus c s
  | .selfTest c => Sys2Proof.Machine.execSelfTest c s
  | .istControl c => Sys2Proof.Machine.execIstControl c s
  | .sqTailDoorbell fn q v => Sys2Proof.Machine.execSqTailDoorbell fn q v s
  | .cqHeadDoorbell fn q v => Sys2Proof.Machine.execCqHeadDoorbell fn q v s
  | .commandFetch fn q => Sys2Proof.Machine.execCommandFetch fn q s
  | .quarantineEnd fn => Sys2Proof.Machine.execQuarantineEnd fn s
  | .violationWindowRoll => Sys2Proof.Machine.execViolationWindowRoll s
  | .coalesceTimeout fn q => Sys2Proof.Machine.execCoalesceTimeout fn q s
  | .commitGo w => Sys2Proof.Machine.execCommitGo w s
  | .registerWrite r off v => Sys2Proof.Machine.execRegisterWrite r off v s
  | .rcFieldRead r off arriving => Sys2Proof.Machine.execRcFieldRead r off arriving s
  | .setaLoRead reader disagrees => Sys2Proof.Machine.execSetaLoRead reader disagrees s
  | .rngdataRead unit => Sys2Proof.Machine.execRngdataRead unit s
  | .rngdataRefill unit => Sys2Proof.Machine.execRngdataRefill unit s
  | .flrInitiate fn => Sys2Proof.Machine.execFlrInitiate fn s
  | .busMasterEnable fn on => Sys2Proof.Machine.execBusMasterEnable fn on s
  | .dmaReadCompletion fn use addr ok data => Sys2Proof.Machine.execDmaReadCompletion fn use addr ok data s
  | .hostWriteFailure fn w => Sys2Proof.Machine.execHostWriteFailure fn w s
  | .linkLoss => Sys2Proof.Machine.execLinkLoss s
  | .perstAssert => Sys2Proof.Machine.execPerstAssert s
  | .resetNAssert => Sys2Proof.Machine.execResetNAssert s
  | .watchdogExpiry => Sys2Proof.Machine.execWatchdogExpiry s
  | .lockstepMismatch => Sys2Proof.Machine.execLockstepMismatch s
  | .sentinelPowerUp => Sys2Proof.Machine.execSentinelPowerUp s
  | .vinResumePowerUp => Sys2Proof.Machine.execVinResumePowerUp s
  | .powerUpDebounceDone phases => Sys2Proof.Machine.execPowerUpDebounceDone phases s
  | .romBoot env => Sys2Proof.Machine.execRomBoot env s
  | .pllLock island => Sys2Proof.Machine.execPllLock island s
  | .rcvClaim => Sys2Proof.Machine.execRcvClaim s
  | .rcvChunkGo => Sys2Proof.Machine.execRcvChunkGo s
  | .rcvVerify => Sys2Proof.Machine.execRcvVerify s
  | .rcvAck => Sys2Proof.Machine.execRcvAck s
  | .claimWaitExpiry => Sys2Proof.Machine.execClaimWaitExpiry s
  | .turtisGiveupExpiry => Sys2Proof.Machine.execTurtisGiveupExpiry s
  | .debugExpiry => Sys2Proof.Machine.execDebugExpiry s
  | .hibernateWake src => Sys2Proof.Machine.execHibernateWake src s
  | .epochBoundary => Sys2Proof.Machine.execEpochBoundary s
  | .dozeEntry => Sys2Proof.Machine.execDozeEntry s
  | .setaAlarm k => Sys2Proof.Machine.execSetaAlarm k s
  | .setaHigh => Sys2Proof.Machine.execSetaHigh s
  | .hyphaEvent events => Sys2Proof.Machine.execHyphaEvent events s
  | .hyphaPendingFire task => Sys2Proof.Machine.execHyphaPendingFire task s
  | .gpioEdge pin level => Sys2Proof.Machine.execGpioEdge pin level s
  | .feedWarn belowDip => Sys2Proof.Machine.execFeedWarn belowDip s
  | .dipRideThrough => Sys2Proof.Machine.execDipRideThrough s
  | .feedLossQualify => Sys2Proof.Machine.execFeedLossQualify s
  | .feedDip => Sys2Proof.Machine.execFeedDip s
  | .vinStop vbak => Sys2Proof.Machine.execVinStop vbak s
  | .phaseLost phase cause => Sys2Proof.Machine.execPhaseLost phase cause s
  | .vcoreLow mv recovered => Sys2Proof.Machine.execVcoreLow mv recovered s
  | .vcoreLowTimeout => Sys2Proof.Machine.execVcoreLowTimeout s
  | .vcoreHigh mv => Sys2Proof.Machine.execVcoreHigh mv s
  | .rhzClock => Sys2Proof.Machine.execRhzClock s
  | .thermalSample sensor temp => Sys2Proof.Machine.execThermalSample sensor temp s
  | .thermalAllowanceStep => Sys2Proof.Machine.execThermalAllowanceStep s
  | .rachisTransfer sent island first again => Sys2Proof.Machine.execRachisTransfer sent island first again s
  | .islandClockLoss island => Sys2Proof.Machine.execIslandClockLoss island s
  | .islandRelock island ok => Sys2Proof.Machine.execIslandRelock island ok s
  | .refLost lost => Sys2Proof.Machine.execRefLost lost s
  | .hyphaFault value => Sys2Proof.Machine.execHyphaFault value s
  | .preemptionPoint u => Sys2Proof.Machine.execPreemptionPoint u s
  | .veinLoad payload check => Sys2Proof.Machine.execVeinLoad payload check s
  | .segmentTagReserve fn q tag => Sys2Proof.Machine.execSegmentTagReserve fn q tag s
  | .frondJobDone frond => Sys2Proof.Machine.execFrondJobDone frond s
  | .twinMismatch frond unit firstPass secondPass => Sys2Proof.Machine.execTwinMismatch frond unit firstPass secondPass s
  | .frondFailed frond cause => Sys2Proof.Machine.execFrondFailed frond cause s
  | .frondBorrow slice => Sys2Proof.Machine.execFrondBorrow slice s
  | .kskChunk slice => Sys2Proof.Machine.execKskChunk slice s
  | .scratchReserve fn q tag => Sys2Proof.Machine.execScratchReserve fn q tag s
  | .sorusJobDone slice residueOk pass => Sys2Proof.Machine.execSorusJobDone slice residueOk pass s
  | .calyptraJobDone unit checkOk pass => Sys2Proof.Machine.execCalyptraJobDone unit checkOk pass s
  | .forcedTest u => Sys2Proof.Machine.execForcedTest u s
  | .testDone u pass => Sys2Proof.Machine.execTestDone u pass s
  | .eccDoubleBit place => Sys2Proof.Machine.execEccDoubleBit place s
  | .scrubPass mem corrected => Sys2Proof.Machine.execScrubPass mem corrected s
  | .patrolRead corrected => Sys2Proof.Machine.execPatrolRead corrected s
  | .pairMismatch pair => Sys2Proof.Machine.execPairMismatch pair s
  | .entropyBlock src => Sys2Proof.Machine.execEntropyBlock src s
  | .entropyHealth src adaptive => Sys2Proof.Machine.execEntropyHealth src adaptive s
  | .reseedDue inst => Sys2Proof.Machine.execReseedDue inst s
  | .flashOperationDone index ok => Sys2Proof.Machine.execFlashOperationDone index ok s
  | .eraseStarved index => Sys2Proof.Machine.execEraseStarved index s
  | .keyRegionCompaction => Sys2Proof.Machine.execKeyRegionCompaction s
  | .configHalfSwitch => Sys2Proof.Machine.execConfigHalfSwitch s
  | .counterRelocation => Sys2Proof.Machine.execCounterRelocation s
  | .otpProgramStart => Sys2Proof.Machine.execOtpProgramStart s
  | .tamperAlarm src z => Sys2Proof.Machine.execTamperAlarm src z s
  | .shieldForcedCheck reported z => Sys2Proof.Machine.execShieldForcedCheck reported z s
  | .tamperEscalate src z => Sys2Proof.Machine.execTamperEscalate src z s
  | .tamperEnd => Sys2Proof.Machine.execTamperEnd s
  | .fsmInvalid x z => Sys2Proof.Machine.execFsmInvalid x z s
  | .sporeRingMirror => Sys2Proof.Machine.execSporeRingMirror s
  | .sporeWordWrite word v => Sys2Proof.Machine.execSporeWordWrite word v s
  | .challengePoolRefill => Sys2Proof.Machine.execChallengePoolRefill s
  | .tagFieldOn hei => Sys2Proof.Machine.execTagFieldOn hei s
  | .tagActivation => Sys2Proof.Machine.execTagActivation s
  | .selectApdu a => Sys2Proof.Machine.execSelectApdu a s
  | .getChallenge a => Sys2Proof.Machine.execGetChallenge a s
  | .authenticate a => Sys2Proof.Machine.execAuthenticate a s
  | .readLogHead a => Sys2Proof.Machine.execReadLogHead a s
  | .readCounters a => Sys2Proof.Machine.execReadCounters a s
  | .readVisits a => Sys2Proof.Machine.execReadVisits a s
  | .writeVisit a => Sys2Proof.Machine.execWriteVisit a s
  | .tagSessionEnd fieldLost => Sys2Proof.Machine.execTagSessionEnd fieldLost s
  | .readerFrameTimeout => Sys2Proof.Machine.execReaderFrameTimeout s
  | .cardWtxRequest wtxm => Sys2Proof.Machine.execCardWtxRequest wtxm s
  | .slotStart port echoOk => Sys2Proof.Machine.execSlotStart port echoOk s
  | .retryTimerExpiry port addr => Sys2Proof.Machine.execRetryTimerExpiry port addr s
  | .beacon f => Sys2Proof.Machine.execBeacon f s
  | .hello f => Sys2Proof.Machine.execHello f s
  | .turtisClaim f => Sys2Proof.Machine.execTurtisClaim f s
  | .grantReq f => Sys2Proof.Machine.execGrantReq f s
  | .offer f => Sys2Proof.Machine.execOffer f s
  | .acceptFrame f => Sys2Proof.Machine.execAcceptFrame f s
  | .turtisData f => Sys2Proof.Machine.execTurtisData f s
  | .turtisAck f => Sys2Proof.Machine.execTurtisAck f s
  | .pullReq f => Sys2Proof.Machine.execPullReq f s
  | .turtisEnd f => Sys2Proof.Machine.execTurtisEnd f s
  | .crozierHandover => Sys2Proof.Machine.execCrozierHandover s
  | .invocationDispatch => Sys2Proof.Machine.execInvocationDispatch s
  | .quantumBoundary => Sys2Proof.Machine.execQuantumBoundary s
  | .invocationResume unit => Sys2Proof.Machine.execInvocationResume unit s
  | .budgetExpiry unit => Sys2Proof.Machine.execBudgetExpiry unit s
  | .wakecmpMatch unit => Sys2Proof.Machine.execWakecmpMatch unit s
  | .wakeTask core => Sys2Proof.Machine.execWakeTask core s
  | .perstDeassert => Sys2Proof.Machine.execPerstDeassert s
  | .phyRailsGood good => Sys2Proof.Machine.execPhyRailsGood good s
  | .linkUp degraded => Sys2Proof.Machine.execLinkUp degraded s
  | .vfEnable on numVfs ari => Sys2Proof.Machine.execVfEnable on numVfs ari s
  | .sentinelPowerLoss => Sys2Proof.Machine.execSentinelPowerLoss s
  | .debounceStop => Sys2Proof.Machine.execDebounceStop s
  | .sourceInactive src => Sys2Proof.Machine.execSourceInactive src s
  | .startUpTestDone src pass => Sys2Proof.Machine.execStartUpTestDone src pass s
  | .cardFrame reply => Sys2Proof.Machine.execCardFrame reply s
  | .pollTimeout => Sys2Proof.Machine.execPollTimeout s
  | .discardedFrame port why => Sys2Proof.Machine.execDiscardedFrame port why s
  | .unsupportedApdu a => Sys2Proof.Machine.execUnsupportedApdu a s
  | .vinInRangeChange inRange => Sys2Proof.Machine.execVinInRangeChange inRange s

end Sys2Proof.Machine
end

