-- ==== Sys2Proof/Certificates/Slice0/Obligations.lean ====
section
/-! DEFINITION. The statements for the provers, from the manual's numbered rules, with the vocabulary they share. -/

open Sys2Proof Sys2Proof.Machine

namespace Sys2Proof.Claims

/-! ### Commands: admission and completion (chapters 6 and 7) -/

/-- The command of an XCI row with an opcode of Table 7.2. -/
def xciRow : Instr → Option (Nat × Cmd)
  | .nop c => some (0x0001, c) | .getInfo c => some (0x0002, c) | .getLimits c => some (0x0003, c) | .deviceReset c => some (0x0010, c)
  | .recoveryRequest c => some (0x0011, c) | .debugArm c => some (0x0012, c) | .provision c => some (0x0013, c) | .retire c => some (0x0014, c)
  | .optionRead c => some (0x0015, c) | .optionWrite c => some (0x0016, c) | .configSet c => some (0x0017, c) | .configGet c => some (0x0018, c)
  | .raiseEvent c => some (0x0019, c) | .tenantCreate c => some (0x0101, c) | .tenantRelease c => some (0x0102, c) | .tenantSet c => some (0x0103, c)
  | .tenantStatus c => some (0x0104, c) | .tenantList c => some (0x0105, c) | .keyGenerate c => some (0x0201, c) | .keyImport c => some (0x0202, c)
  | .keyDerive c => some (0x0203, c) | .keyDelete c => some (0x0204, c) | .keyInfo c => some (0x0205, c) | .keyPersist c => some (0x0206, c)
  | .keyExportWrapped c => some (0x0207, c) | .cipher c => some (0x0301, c) | .aeadEncrypt c => some (0x0302, c) | .aeadDecrypt c => some (0x0303, c)
  | .mac c => some (0x0304, c) | .contextSave c => some (0x0305, c) | .contextRestore c => some (0x0306, c) | .rsaPrivate c => some (0x0401, c)
  | .rsaPublic c => some (0x0402, c) | .ecdsaSign c => some (0x0403, c) | .ecdsaVerify c => some (0x0404, c) | .eddsaSign c => some (0x0405, c)
  | .eddsaVerify c => some (0x0406, c) | .ecdh c => some (0x0407, c) | .pkKeygen c => some (0x0408, c) | .mlKemEncaps c => some (0x0409, c)
  | .mlKemDecaps c => some (0x040A, c) | .mlDsaSign c => some (0x040B, c) | .mlDsaVerify c => some (0x040C, c) | .sorusKernel c => some (0x0501, c)
  | .sorusKeyswitch c => some (0x0502, c) | .sorusRefresh c => some (0x0503, c) | .sorusEncrypt c => some (0x0504, c) | .shareOpen c => some (0x0505, c)
  | .shareInput c => some (0x0506, c) | .shareCompute c => some (0x0507, c) | .shareReveal c => some (0x0508, c) | .shareClose c => some (0x0509, c)
  | .random c => some (0x0601, c) | .reseed c => some (0x0602, c) | .entropyStatus c => some (0x0603, c) | .rawMode c => some (0x0604, c)
  | .rawRead c => some (0x0605, c) | .counterAlloc c => some (0x0701, c) | .counterRead c => some (0x0702, c) | .counterIncrement c => some (0x0703, c)
  | .counterList c => some (0x0704, c) | .timeRead c => some (0x0801, c) | .anchorRecord c => some (0x0802, c) | .logInfo c => some (0x0803, c)
  | .logRead c => some (0x0804, c) | .logExport c => some (0x0805, c) | .logExtend c => some (0x0806, c) | .logNote c => some (0x0807, c)
  | .poolStatus c => some (0x0901, c) | .unitOut c => some (0x0902, c) | .unitReturn c => some (0x0903, c) | .powerSet c => some (0x0904, c)
  | .powerStatus c => some (0x0905, c) | .domainSet c => some (0x0906, c) | .schedSet c => some (0x0907, c) | .hibernate c => some (0x0908, c)
  | .updateStart c => some (0x0A01, c) | .updateStatus c => some (0x0A02, c) | .chainStatus c => some (0x0A03, c) | .rosterSet c => some (0x0A04, c)
  | .flashWear c => some (0x0A05, c) | .wornOverride c => some (0x0A06, c) | .readerPoll c => some (0x0B01, c) | .readerExchange c => some (0x0B02, c)
  | .readerFieldOff c => some (0x0B03, c) | .badgeVerify c => some (0x0B04, c) | .visitRead c => some (0x0B05, c) | .appletInstall c => some (0x0C01, c)
  | .appletRemove c => some (0x0C02, c) | .appletInvoke c => some (0x0C03, c) | .appletList c => some (0x0C04, c) | .pinnaMode c => some (0x0C05, c)
  | .healthStatus c => some (0x0D01, c) | .selfTest c => some (0x0D02, c) | .istControl c => some (0x0D03, c)
  | _ => none

/-- The command `c` with opcode `op` is in flight, nothing holds it back, and every check of Tables 7.3 and 7.4 passes: it starts as `j`. -/
abbrev Starts (op : Nat) (c : Cmd) (s : State) (j : Job) : Prop := admission op c s = .go j
/-- The device at the moment the command starts. -/
abbrev started (s : State) (c : Cmd) (j : Job) : State := onJob s c (fun _ => j)
/-- The row completes at once with completion `r`; but for posting it, it leaves the device in `t`. -/
abbrev Answers (i : Instr) (s t : State) (j : Job) (r : Reply) : Prop := exec i s = .next (post t j r)
/-- The row starts its work, whose completion comes later, and leaves the device in `t`. -/
abbrev Begins (i : Instr) (s t : State) : Prop := exec i s = .next t
/-- A bit as a number. -/
abbrev bit (b : Bool) (n : Nat) : Nat := flagBit b n

/-! ### Pinna (chapter 19) -/

/-- A unit that exists runs invocation `i`, awake, not in a SYS service, not held by last gasp, with PC on a word of its code: its next
instruction issues. -/
def Ready (s : State) (u : Fin 8) (i : Inv) : Prop :=
  unitExists s u = true ∧ issues s u = some i ∧ inCode i (pinnaOf s u).pc.toNat 4 = true ∧ (pinnaOf s u).pc.toNat % 4 = 0

/-- Nothing but unit `u` differs between two states. -/
def OnlyUnit (s t : State) (u : Fin 8) : Prop :=
  t = s.onPinnas (fun p => { p with units := t.pinnas.units }) ∧ ∀ v, v ≠ u → pinnaOf t v = pinnaOf s v

/-- The instruction completes: `rd` takes the value `v` (a write to g0 is discarded), `cyc` cycles pass, PC advances by 4, and every other
register, predicate, special register, memory byte and field of the device is as before. -/
def WritesG (c : Instr) (s : State) (u : Fin 8) (rd : GReg) (v : U32) (cyc : Nat) : Prop :=
  ∃ t, exec c s = .next t ∧ OnlyUnit s t u ∧
    pinnaOf t u = { pinnaOf s u with
      g := (pinnaOf t u).g, pc := (pinnaOf s u).pc + 4, cycle := (pinnaOf s u).cycle + BitVec.ofNat 32 cyc } ∧
    gGet (pinnaOf t u) 0 = 0 ∧ (rd ≠ 0 → gGet (pinnaOf t u) rd = v) ∧ ∀ r, r ≠ rd → gGet (pinnaOf t u) r = gGet (pinnaOf s u) r

/-- The same for a predicate destination: a write to p0 is discarded. -/
def WritesP (c : Instr) (s : State) (u : Fin 8) (pd : PReg) (v : Bool) : Prop :=
  ∃ t, exec c s = .next t ∧ OnlyUnit s t u ∧
    pinnaOf t u = { pinnaOf s u with
      p := (pinnaOf t u).p, pc := (pinnaOf s u).pc + 4, cycle := (pinnaOf s u).cycle + 1 } ∧
    pGet (pinnaOf t u) 0 = true ∧ (pd ≠ 0 → pGet (pinnaOf t u) pd = v) ∧ ∀ r, r ≠ pd → pGet (pinnaOf t u) r = pGet (pinnaOf s u) r

/-- Unit, guard and cycles (Table 19.6) of the instructions with a fixed number of cycles. -/
def fixedCycles : Instr → Option (Fin 8 × Guard × Nat)
  | .add u g _ _ _ | .sub u g _ _ _ | .andR u g _ _ _ | .orR u g _ _ _ | .xorR u g _ _ _ | .andn u g _ _ _ | .sll u g _ _ _
  | .srl u g _ _ _ | .sra u g _ _ _ | .ror u g _ _ _ | .slli u g _ _ _ | .srli u g _ _ _ | .srai u g _ _ _ | .rori u g _ _ _
  | .minS u g _ _ _ | .maxS u g _ _ _ | .minu u g _ _ _ | .maxu u g _ _ _ | .clz u g _ _ | .popc u g _ _ | .perm u g _ _ _
  | .addi u g _ _ _ | .andi u g _ _ _ | .ori u g _ _ _ | .xori u g _ _ _ | .movi u g _ _ | .movhi u g _ _ | .bfx u g _ _ _ _
  | .bfxs u g _ _ _ _ | .bfi u g _ _ _ _ | .cmp u g _ _ _ _ | .cmpi u g _ _ _ _ | .pand u g _ _ _ | .por u g _ _ _
  | .pxor u g _ _ _ | .pandn u g _ _ _ | .pnot u g _ _ | .prd u g _ | .pwr u g _ | .mfs u g _ _ | .mts u g _ _
  | .stw u g _ _ _ | .sth u g _ _ _ | .stb u g _ _ _ => some (u, g, 1)
  | .mul u g _ _ _ | .mulh u g _ _ _ | .mulhu u g _ _ _ | .mulhsu u g _ _ _ => some (u, g, 3)
  | .divS u g _ _ _ | .divu u g _ _ _ | .remS u g _ _ _ | .remu u g _ _ _ => some (u, g, 34)
  | .ldw u g _ _ _ | .ldh u g _ _ _ | .ldhs u g _ _ _ | .ldb u g _ _ _ | .ldbs u g _ _ _ | .br u g _ | .call u g _
  | .jr u g _ | .jalr u g _ _ | .sleep u g => some (u, g, 2)
  | _ => none

/-- The unit a Pinna row names. -/
def pinnaUnit : Instr → Option (Fin 8)
  | .sysExit u _ | .sysAbort u _ | .sysCommand u _ | .copyIn u _ | .sysRaise u _ | .sysInfo u _ | .sysInvalid u _ _
  | .invalidEncoding u _ => some u
  | c => (fixedCycles c).map (·.1)

/-- A load completes: `rd` takes `v`, and nothing else of the registers, nothing of any memory changes. -/
abbrev Loads (c : Instr) (s : State) (u : Fin 8) (rd : GReg) (v : U32) : Prop := WritesG c s u rd v 2

/-- A store completes: the DTCM takes the bytes `bs` at the address, every other byte of it, the ITCM and every register stay, one cycle
passes and PC advances by 4. -/
def Stores (c : Instr) (s : State) (u : Fin 8) (a : Nat) (bs : Bytes) : Prop :=
  ∃ t, exec c s = .next t ∧ OnlyUnit s t u ∧
    pinnaOf t u = { pinnaOf s u with
      dtcm := (pinnaOf t u).dtcm, pc := (pinnaOf s u).pc + 4, cycle := (pinnaOf s u).cycle + 1 } ∧
    Memory.read 0 (pinnaOf t u).dtcm (a - 0x10000000) bs.length = bs ∧
    ∀ k, (k < a - 0x10000000 ∨ a - 0x10000000 + bs.length ≤ k) → SMap.get 0 (pinnaOf t u).dtcm k = SMap.get 0 (pinnaOf s u).dtcm k

/-- A branch or jump completes: PC is the target, two cycles pass, the link register if any holds the address after the branch. -/
def Jumps (c : Instr) (s : State) (u : Fin 8) (target : U32) (link : Option GReg) : Prop :=
  ∃ t, exec c s = .next t ∧ OnlyUnit s t u ∧
    pinnaOf t u = { pinnaOf s u with g := (pinnaOf t u).g, pc := target, cycle := (pinnaOf s u).cycle + 2 } ∧
    (∀ r, link = some r → r ≠ 0 → gGet (pinnaOf t u) r = (pinnaOf s u).pc + 4) ∧
    ∀ r, link ≠ some r → gGet (pinnaOf t u) r = gGet (pinnaOf s u) r

/-- The APPLET_FAULT exit of invocation `i` with a cause of Table 19.10, PC and [63:48]. -/
def Traps (c : Instr) (s : State) (u : Fin 8) (i : Inv) (pc : U32) (cause info : Nat) : Prop :=
  exec c s = .next (trap s u i pc cause info)

/-- MFS of a special register that exists: the value read, with what the read does to the unit. -/
def ReadsS (s : State) (u : Fin 8) (gd : Guard) (rd : GReg) (n : SReg) (v : U32) (after : Pinna) : Prop :=
  ∃ t, exec (.mfs u gd rd n) s = .next t ∧ OnlyUnit s t u ∧
    pinnaOf t u = { after with g := (pinnaOf t u).g, pc := after.pc + 4, cycle := after.cycle + 1 } ∧
    (rd ≠ 0 → gGet (pinnaOf t u) rd = v) ∧ ∀ r, r ≠ rd → gGet (pinnaOf t u) r = gGet (pinnaOf s u) r

/-- MTS to a writable special register: the unit afterwards but for the PC and the cycle. -/
def WritesS (s : State) (u : Fin 8) (gd : Guard) (n : SReg) (ra : GReg) (after : Pinna) : Prop :=
  ∃ t, exec (.mts u gd n ra) s = .next t ∧ OnlyUnit s t u ∧
    pinnaOf t u = { after with pc := after.pc + 4, cycle := after.cycle + 1 }

/-- A SYS service has returned to its unit in `t` with unit registers `p` and a status: g1 and SYSSTAT hold the status, the PC has advanced,
some cycles have passed, one free value is taken; nothing else differs from `s`. -/
def ReturnsWith (s t : State) (u : Fin 8) (p : Pinna) (st : BitVec 16) : Prop :=
  t = { s with pinnas := t.pinnas, free := s.free + 1 } ∧ t.pinnas = { s.pinnas with units := t.pinnas.units } ∧
    (∀ v, v ≠ u → pinnaOf t v = pinnaOf s v) ∧
    pinnaOf t u = { gSet p 1 (st.setWidth 32) with sysStatus := st, pc := p.pc + 4, cycle := (pinnaOf t u).cycle }

/-! ### System, tenant and reset commands (Tables 7.5 to 7.8) -/

/-- The four result words that sixteen bytes fill. -/
abbrev words4 (b : Bytes) : Reply := resWords b

/-! ### Keys and ciphers (chapters 8 and 9) -/

/-- The four rows that work on a frond. -/
def frondRow (op : Nat) (c : Cmd) : Option Instr :=
  match op with
  | 0x0301 => some (.cipher c) | 0x0302 => some (.aeadEncrypt c) | 0x0303 => some (.aeadDecrypt c) | 0x0304 => some (.mac c)
  | _ => none
/-- Slot `k` of `v` holds a key made by command `c`: the attribute word of Table 8.3 with its count of writes one higher, and every other
slot is as in `s`. -/
def MakesKey (s v : State) (c : Cmd) (k template origin : Nat) (key : Bytes) : Prop :=
  slotOf v k = { attr := newAttr c.fn.toNat template origin (attrVersion (attrOf s k) + 1) (isApplet c) false, key := key } ∧
    ∀ m, m ≠ k → slotOf v m = slotOf s m

/-! ### Calyptra and Sorus (chapters 10 and 11) -/

/-- The twelve public-key rows. -/
def pkRow (op : Nat) (c : Cmd) : Option Instr :=
  match op with
  | 0x0401 => some (.rsaPrivate c) | 0x0402 => some (.rsaPublic c) | 0x0403 => some (.ecdsaSign c) | 0x0404 => some (.ecdsaVerify c)
  | 0x0405 => some (.eddsaSign c) | 0x0406 => some (.eddsaVerify c) | 0x0407 => some (.ecdh c) | 0x0408 => some (.pkKeygen c)
  | 0x0409 => some (.mlKemEncaps c) | 0x040A => some (.mlKemDecaps c) | 0x040B => some (.mlDsaSign c) | 0x040C => some (.mlDsaVerify c)
  | _ => none

/-! ### Random numbers, counters, the log, the pool and power (chapters 2, 7, 12, 14, 17 and 18) -/

/-! ### Update, chain, reader and applets (chapters 13, 15, 16 and 19) -/

/-! ### Registers and commit groups (chapters 3 and 5) -/

/-- The register region answers: Xemberon runs and the function is there. -/
abbrev Serves (s : State) (f : FnId) : Prop := running s = true ∧ reachable s f = true
/-- The function whose region holds a group. -/
abbrev fnOfGroup (g : CommitGroup) : FnId := groupFn g

/-! ### Resets, the link, the power-up (chapters 2, 4 and 5) -/

/-- What Table 4.2 keeps of the parts that need no power or stand in the Sentinel. -/
abbrev KeptOverReset (s t : State) : Prop :=
  t.counters = s.counters ∧ t.spore = s.spore ∧ t.medulla.records = s.medulla.records ∧ t.flash = { s.flash with ops := [], otpPending := none } ∧
  t.log.slots = s.log.slots ∧ t.log.next = s.log.next ∧ t.log.seq = s.log.seq ∧ t.log.chain = s.log.chain ∧ t.pinnas.applets = s.pinnas.applets ∧
  t.pending = s.pending

/-! ### Boot and recovery (chapter 4) -/

/-- ROM may start: Table 2.13 has ended or a device reset has reached step 0, nothing holds the device in reset, no FEED_WARN. -/
abbrev RomStarts (s : State) : Prop :=
  2 ≤ s.boot.powerUp ∧ s.boot.heldInReset = false ∧ coreUp s = true ∧ s.power.feedWarn = false
/-- The state after step 1: at the start of a device reset the phases are tested. -/
abbrev romStep1 (env : BootEnv) (s : State) : State :=
  romDomains ((if s.boot.powerUp == 3 && s.boot.state == .resetting then testPhases s env.phases else s).onBoot
    (fun b => { b with attempt := true, state := .romChecks, cause := 0, powerUp := 0 })) false
/-- Nothing latched, nothing owed: the state in which step 3 reads the OTP row. -/
abbrev romStep2 (env : BootEnv) (s : State) : State := lockAll (romDomains (romStep1 env s) true)
/-- Steps 3 to 5: the option area loaded, the erase journal closed; and whether a half-erased code block was found. -/
abbrev romJournalled (env : BootEnv) (s : State) : State × Bool :=
  let m := romStep2 env s
  closeJournal (loadOption (m.onFlash (fun f => { f with crozierLock := decide (2 ≤ lifecycle m), crozierTorn := false })))
/-- Step 5 done: counters 0 and 1 recovered. -/
abbrev romStep5 (env : BootEnv) (s : State) : State := [0, 1].foldl (recoverCounter Src.rom) (romJournalled env s).1
/-- The state in which the image is checked: steps 3 to 6 done, the KEK derived. -/
abbrev romStep7 (env : BootEnv) (s : State) : State :=
  let o := checkToken (openChain env (romStep5 env s))
  o.onMedulla (fun x => { x with kek := deriveKek o })
/-- The CRC and the order of a chunk are right and no block of the bank is worn. -/
abbrev ChunkTaken (s : State) : Prop :=
  crc32c (windowBytes s) = s.boot.rcvCrc ∧ s.boot.rcvChunk = s.boot.rcvNext ∧ bankWorn s = false

/-! ### The feed, the regulator, temperature, DOZE and the epoch (chapters 2 and 3) -/

/-- The governor's events act: Xemberon runs and the device is not quiesced. -/
abbrev Governs (s : State) : Prop := running s = true ∧ s.power.quiesced = false
/-- A temperature has been sampled. -/
abbrev sampled (s : State) (n : Fin 8) (t : BitVec 16) : State :=
  s.onPower (fun p => { p with temps := SMap.set 0 p.temps n.val t.toInt })
/-- Seta has come to an epoch boundary. -/
abbrev atEpoch (s : State) : State :=
  let t := nextBoundary s.clocks.epochAt 1000
  (atInstant s t).onClocks (fun c => { c with epochAt := t })

/-! ### Islands, Rachis, Hypha and Seta (chapter 3) -/

/-- The Seta instant an alarm or a boundary names has come. -/
abbrev reached (s : State) (t : Nat) : State := atInstant s t
/-- An island's bit. -/
abbrev islandBit (i : Island) : BitVec 19 := 1#19 <<< i.val

/-! ### In-service test, ECC and scrubbing (chapter 18) -/

/-- A double-bit fault is handled: Xemberon runs, the device is neither quiesced nor in HIBERNATE. -/
abbrev HandlesEcc (s : State) : Prop := running s = true ∧ s.power.quiesced = false ∧ s.power.state ≠ .hibernate
/-- The fault is counted. -/
abbrev eccCounted (s : State) : State := s.onHealth (fun h => { h with doubles := h.doubles + 1 })
/-- The unit runs its known-answer set, powered and clocked. -/
abbrev UnderTest (s : State) (u : UnitRef) : Prop :=
  running s = true ∧ s.power.quiesced = false ∧ (unitOf s u).st = .testing ∧ (unitOf s u).passed = false ∧ unitPowered s u = true ∧ clocked s u = true

/-! ### Flash operations and what they complete (chapter 13) -/

/-- No array has two erases open. -/
abbrev OneErasePerArray (s : State) : Prop := ∀ a, ((openErases s).filter (fun o => arrayOf o.unit == a)).length ≤ 1
/-- Flash works and the operation at a place of the list is open. -/
abbrev OpenOp (s : State) (i : Nat) (o : FlashOp) : Prop := flashAlive s = true ∧ s.flash.ops[i]? = some o ∧ o.begun = true
/-- Xemberon may work on data flash, and no such erase of its own is under way. -/
abbrev OwnWork (s : State) : Prop := ownWork s = true

/-! ### Tamper (chapter 17) -/

/-- The alarm has been taken: the source is live. -/
abbrev alarmed (s : State) (n : Fin 13) : State :=
  s.onTamper (fun t => { t with
    live := t.live ||| (1 <<< n.val : BitVec 13)
    liveSince := if t.live.getLsbD n.val then t.liveSince else SMap.set 0 t.liveSince n.val (s.clocks.seta + 1) })
/-- What the source's Hypha notice does after the response, where Xemberon still runs (R39). -/
abbrev noticed (s t : State) (n : Fin 13) : State :=
  if running s && running t && s.power.state != .hibernate && s.power.state != .off then raise t (tamperNotice n.val) else t
/-- Xemberon answers the alarm: it runs, Crozier is not at work, the device is neither off nor in HIBERNATE. -/
abbrev XemberonAnswers (s : State) : Prop :=
  running s = true ∧ s.power.state ≠ .hibernate ∧ s.power.state ≠ .off ∧ (s.boot.state = .updating → s.update.crozier = false)
/-- The Sentinel alone answers it, and ROM is not at work. -/
abbrev SentinelAnswers (s : State) : Prop :=
  (s.power.state = .off ∨ running s = false) ∧ s.power.state ≠ .hibernate ∧ romRuns s = false ∧ s.boot.state ≠ .tampered
/-- The policy, source, level and latch of an alarm that escalates after 1 ms. -/
abbrev Escalates (s : State) (n : Fin 13) : Prop :=
  2 ≤ n.val ∧ n.val ≤ 5 ∧ policyLevel s n.val = 2 ∧ s.tamper.live.getLsbD n.val = true ∧ s.tamper.latch.getLsbD n.val = true ∧
  s.tamper.escalated.getLsbD n.val = false ∧ s.power.sentinel = true

/-! ### The Spore store and tag mode (chapter 15) -/

/-- A tag session is open and the reader's field is off. -/
abbrev TagOpen (s : State) : Prop := s.tag.opened = true ∧ s.reader.fieldOn = false
/-- An APDU of the Spore application with its class and instruction. -/
abbrev ApduIs (a : Apdu) (cla ins p1 p2 : Byte) : Prop := a.cla = cla ∧ a.ins = ins ∧ a.p1 = p1 ∧ a.p2 = p2
/-- No data, and Le. -/
abbrev ApduAsks (a : Apdu) (n : Nat) : Prop := a.data = [] ∧ a.le = some (BitVec.ofNat 16 n)
/-- The tag answers data and a status word and is otherwise in `t`. -/
abbrev TagSays (i : Instr) (s t : State) (data : Bytes) (sw : Nat) : Prop :=
  exec i s = .next (t.onTag (fun x => { x with answer := data ++ beBytes 2 sw }))
/-- A session in which the application is selected. -/
abbrev Selected (s : State) : Prop := TagOpen s ∧ s.tag.selected = true
/-- The words of a list are readable. -/
abbrev Readable (s : State) (ws : List Nat) : Prop := firstBad s ws = none

/-! ### Turtis (chapter 16) -/

/-- The frame and PID of a Turtis frame row (Table 16.2). -/
def turtisFrame : Instr → Option (Frame × Nat)
  | .beacon f => some (f, 0x01) | .hello f => some (f, 0x02) | .turtisClaim f => some (f, 0x03) | .grantReq f => some (f, 0x04)
  | .offer f => some (f, 0x10) | .acceptFrame f => some (f, 0x11) | .turtisData f => some (f, 0x12) | .turtisAck f => some (f, 0x13)
  | .pullReq f => some (f, 0x14) | .turtisEnd f => some (f, 0x15)
  | _ => none
/-- The nonce and superframe number a frame's MAC is made with: its own for BEACON, HELLO and CLAIM, else those known of the sender. -/
def frameNonce (s : State) (f : Frame) (pid : Nat) : Bytes :=
  if pid = 1 then (f.payload.drop 10).take 8 else if pid = 2 ∨ pid = 3 then f.payload.take 8 else (nbrOf (portOf s f.port) f.src).nonce
def frameSfn (s : State) (f : Frame) (pid : Nat) : Nat := if pid = 1 then recField f.payload 0 4 else (portOf s f.port).sfn.toNat
/-- The CRC-32 of the frame is right. -/
abbrev CrcRight (f : Frame) (pid : Nat) : Prop :=
  f.crc = crc32 (frameBytes f.dst f.src pid f.flags f.seq f.payload ++ f.mac)
/-- The MAC of the frame can be checked and is right. -/
abbrev MacRight (s : State) (f : Frame) (pid : Nat) : Prop :=
  frameNonce s f pid ≠ [] ∧ macRuns s 3 = true ∧ f.mac = expectedMac s f pid (frameNonce s f pid) (frameSfn s f pid) (withSession s pid)
/-- The port works, the sender is on the roster and not muted. -/
abbrev Listens (s : State) (f : Frame) (pid : Nat) : Prop :=
  portWorks s f.port = true ∧ CrcRight f pid ∧ enrolled s f.port f.src = true ∧ (portOf s f.port).mutes.any (·.1 == f.src) = false
/-- It stands inside the guard band. -/
abbrev InGuard (s : State) (f : Frame) : Prop := -guardBand (portOf s f.port) ≤ f.offset ∧ f.offset ≤ guardBand (portOf s f.port)
/-- A frame that is accepted. -/
abbrev Accepted (s : State) (f : Frame) (pid : Nat) : Prop := Listens s f pid ∧ MacRight s f pid ∧ InGuard s f
/-- It is for this node. -/
abbrev ForUs (s : State) (f : Frame) : Prop := f.dst = 0xFF ∨ f.dst = portAddr (portOf s f.port)
/-- The device once an accepted frame is heard: the edge of the guard band is counted, the sender present, the event raised. -/
abbrev frameHeard (s : State) (f : Frame) (pid : Nat) : State :=
  let g := guardBand (portOf s f.port)
  let m := if 4 * f.offset < -g || g < 4 * f.offset then onPort s f.port (fun x => { x with edge := satAdd 0xFFFF x.edge 1 }) else s
  portEvent (markHeard m f) f.port (if pid == 1 then 0 else 2)

/-! ### The canonical form of the records and memories -/

/-- Functions, pairs, ports, units and register files are held in canonical form: keys rising, nothing listed that reads as an unlisted key does. -/
abbrev CanonicalRecords (s : State) : Prop :=
  SMap.wf {} s.fns = true ∧ SMap.wf {} s.pairs = true ∧ SMap.wf {} s.ports = true ∧ SMap.wf {} s.engines.units = true ∧
  SMap.wf 0 s.regs.active = true ∧ SMap.wf 0 s.regs.stage = true ∧ SMap.wf {} s.regs.commit = true ∧ SMap.wf 0 s.regs.events = true
/-- So are the memories: host memory, key slots and records, flash, OTP, the log and the Spore store. -/
abbrev CanonicalMemories (s : State) : Prop :=
  Memory.wf 0 s.link.hostMem = true ∧ SMap.wf {} s.medulla.slots = true ∧ SMap.wf {} s.medulla.records = true ∧
  SMap.wf erasedWord s.flash.journal = true ∧ SMap.wf erasedWord s.flash.option = true ∧ SMap.wf 0 s.flash.otp = true ∧
  Memory.wf 0xFF s.flash.bankA = true ∧ SMap.wf .erased s.log.slots = true ∧ SMap.wf 0 s.spore.words = true

end Sys2Proof.Claims

open Sys2Proof.Claims

/-- The block takes its commands first in, first out (the model's queue). R121: Seta counts, modulo 2^64, while the Sentinel is powered; that an empty queue lets one tick pass is the model's choice (log entry 4). -/
def Obligations.StepRunsTheFrontCommand : Prop :=
  (∀ (s : State) (c : Instr) (rest : List Instr),
    step { s with pending := c :: rest } = exec c { s with pending := rest }) ∧
  (∀ s : State, s.pending = [] →
    (s.power.sentinel = false → step s = .next s) ∧
    (s.power.sentinel = true → s.clocks.seta < 2 ^ 64 →
      ∃ t, step s = .next t ∧ t.clocks.seta = (s.clocks.seta + 1) % 2 ^ 64 ∧
        t = { s with clocks := t.clocks, power := t.power, tamper := t.tamper } ∧
        t.power = { s.power with vcore := t.power.vcore, target := t.power.target, op := t.power.op, clk := t.power.clk } ∧
        t.tamper = { s.tamper with vinTicks := t.tamper.vinTicks, vbakTicks := t.tamper.vbakTicks } ∧
        t.tamper.vinTicks + t.tamper.vbakTicks = s.tamper.vinTicks + s.tamper.vbakTicks + 1 ∧
        (s.power.target = none → t.power = s.power)))

/-- Table 4.1 row 0, Table 4.6; the unprogrammed part is the model's choice (log entry 3). -/
def Obligations.ResetStartsUnpowered : Prop :=
  (State.reset.boot.state.code = 0 ∧ State.reset.boot.sentinelFresh = true ∧ State.reset.clocks.seta = 0 ∧ State.reset.pending = [] ∧
    State.reset.jobs = [] ∧ (∀ f q, (pairOf State.reset f q).active = false) ∧ (∀ u, (unitOf State.reset u).st ≠ .inService) ∧
    (∀ n, (slotOf State.reset n).key = []) ∧ State.reset.flash.ops = [] ∧ State.reset.tamper.latch = 0 ∧
    (∀ w, otp State.reset w = 0) ∧ lifecycle State.reset = 0 ∧ (∀ u, (pinnaOf State.reset u).inv = none) ∧
    CanonicalRecords State.reset ∧ CanonicalMemories State.reset)

/-- R262, Table 7.2. -/
def Obligations.CatalogueIsTheTable : Prop :=
  (∀ i op c, xciRow i = some (op, c) → knownOp op = true) ∧ (∀ op c, knownOp op = true → ∃ i, xciRow i = some (op, c)) ∧
    ∀ i i' op c, xciRow i = some (op, c) → xciRow i' = some (op, c) → i = i'

/-- R236, R238, R239, Table 7.3. Table 7.4, R174, R190, R693, R727. -/
def Obligations.CommandsStartInOrder : Prop :=
  (∀ (s : State) (op : Nat) (c : Cmd) (j : Job),
    s.jobs.find? (fun j => j.op == op && j.cmd == c && j.stage == .fetched) = some j → holdsBack s op c = false →
    (fenceHolds s c = true → admission op c s = .wait (onJob s c (fun x => { x with fenceWaited := true }))) ∧
    (fenceHolds s c = false → orderHolds s c = true → admission op c s = .wait s) ∧
    (fenceHolds s c = false → orderHolds s c = false →
      (∀ st, lateChecks s op c = some st → admission op c s = .deny j (fail st)) ∧
      (lateChecks s op c = none →
        (c.flags.getLsbD 1 = true → (pairOf s c.fn c.q).failed = true → admission op c s = .deny j (fail 0x000A)) ∧
        ((c.flags.getLsbD 1 = false ∨ (pairOf s c.fn c.q).failed = false) →
          Starts op c s { j with stage := .waiting, startedAt := s.clocks.seta, begun := j.begun || !engineOp op })))) ∧
  (∀ (s : State) (op : Nat) (c : Cmd),
    let r := op / 256
    let limited := (s.boot.state = .epochSpent ∧ ¬(c.fn = 0 ∧ (r = 0 ∨ r = 8 ∨ r = 13))) ∨
      (s.boot.state = .updating ∧ ¬(c.fn = 0 ∧ (r = 0 ∨ r = 8 ∨ r = 10 ∨ r = 13)))
    let suspended := s.tamper.suspended ≠ 0 ∧ ¬(c.fn = 0 ∧ (r = 0 ∨ r = 8 ∨ r = 9 ∨ r = 13))
    let absent := c.fn ≠ 0 ∧ (fnOf s c.fn).assigned = false ∧ r ≠ 0
    (limited → lateChecks s op c = some 0x000E) ∧ (¬limited → suspended → lateChecks s op c = some 0x000D) ∧
    (¬limited → ¬suspended → absent → lateChecks s op c = some 0x0005) ∧
    (¬limited → ¬suspended → ¬absent → lateChecks s op c = if mayIssue op c then none else some 0x0004))

/-- Table 7.3. -/
def Obligations.RowsFollowAdmission : Prop :=
  ∀ (s : State) (i : Instr) (op : Nat) (c : Cmd), xciRow i = some (op, c) →
    (∀ t, admission op c s = .wait t → exec i s = .next t) ∧ (∀ j r, admission op c s = .deny j r → exec i s = .next (post s j r))

/-- Table 6.3. -/
def Obligations.CompletionEntryFields : Prop :=
  ∀ (c : Cmd) (r : Reply) (h fl : Nat) (ph : Bool),
    r.status < 2 ^ 16 → r.detail < 2 ^ 64 → r.res0 < 2 ^ 32 → r.res1 < 2 ^ 32 → r.res2 < 2 ^ 32 → r.res3 < 2 ^ 32 → h < 2 ^ 16 → fl < 256 →
    let e := completionOf c r h fl ph
    e.length = 32 ∧ leNat (e.take 2) = c.tag.toNat ∧ leNat ((e.drop 2).take 2) = r.status ∧ leNat ((e.drop 4).take 8) = r.detail ∧
    leNat ((e.drop 12).take 4) = r.res0 ∧ leNat ((e.drop 16).take 4) = r.res1 ∧ leNat ((e.drop 20).take 4) = r.res2 ∧
    leNat ((e.drop 24).take 4) = r.res3 ∧ leNat ((e.drop 28).take 2) = h ∧ e.getD 30 0 = BitVec.ofNat 8 fl ∧
    e.getD 31 0 = BitVec.ofNat 8 (bit ph 0 + 2 * c.q.toNat)

/-- Table 6.2; the replay check of R244 and R245 compares these 64 bytes. -/
def Obligations.EntryIsParsedAsItIsLaidOut : Prop :=
  (∀ (op : Nat) (c : Cmd), op < 2 ^ 16 →
      (entryOf op c).length = 64 ∧ parseEntry c.fn c.q c.issuer (entryOf op c) = (op, c)) ∧
    ∀ (f : FnId) (q : PairId) (i : Issuer) (b : Bytes), b.length = 64 →
      entryOf (parseEntry f q i b).1 (parseEntry f q i b).2 = b

/-- R232 to R235, R244, Table 6.3. R186, R187 (the timeout is COALESCE_TIMEOUT). -/
def Obligations.CompletionIsPosted : Prop :=
  (∀ (s : State) (j : Job) (r : Reply), j.cmd.issuer = .host →
    let c := j.cmd
    let p := pairOf s c.fn c.q
    let out := { s with jobs := s.jobs.filter (fun x => !x.isFor c) }
    let entry := completionOf c r p.sqHead (bit j.rerun 0 + 4 * bit j.fenceWaited 0) p.phase
    let recd := if idempotent j.op c then out else recordReplay out j.op c entry
    (((fnOf s c.fn).resetting = true ∨ (p.active = false ∧ p.draining = false)) → post s j r = out) ∧
    ((fnOf s c.fn).resetting = false → (p.active = true ∨ p.draining = true) → (fnOf s c.fn).busMaster = false →
      post s j r = { s with jobs := s.jobs.map (fun x => if x.isFor c then x.ended r else x) }) ∧
    ((fnOf s c.fn).resetting = false → (p.active = true ∨ p.draining = true) → (fnOf s c.fn).busMaster = true → p.lost = true →
      post s j r = drained out c.fn c.q) ∧
    ((fnOf s c.fn).resetting = false → (p.active = true ∨ p.draining = true) → (fnOf s c.fn).busMaster = true → p.lost = false →
      ∃ m, m = onPair (hostWrite recd c.fn (p.cqBase + 32 * p.cqTail) entry) c.fn c.q (fun x => { x with
          cqTail := if p.cqTail + 1 = p.depth then 0 else p.cqTail + 1
          phase := if p.cqTail + 1 = p.depth then !p.phase else p.phase
          failed := !c.flags.getLsbD 0 && (p.failed || r.status != 0) }) ∧
        post s j r = drained (signalCompletion m c.fn c.q) c.fn c.q)) ∧
  (∀ (s : State) (f : FnId) (q : PairId),
    let p := pairOf s f q
    let count := reg s (fnKey f 0x180) % 256
    let time := reg s (fnKey f 0x180) / 256 % 1024
    ((p.cls = 0 ∨ (count = 0 ∧ time = 0) ∨ (count ≠ 0 ∧ count ≤ p.unsignalled + 1)) →
      signalCompletion s f q = signal (onPair s f q (fun x => { x with unsignalled := 0 })) f p.vector) ∧
    (p.cls ≠ 0 → (count ≠ 0 ∨ time ≠ 0) → (count = 0 ∨ p.unsignalled + 1 < count) →
      signalCompletion s f q = onPair s f q (fun x => { x with
        unsignalled := p.unsignalled + 1, oldest := if p.unsignalled = 0 then s.clocks.seta else p.oldest })))

/-- R230, R231, R240 to R248, R256, Table 7.3. -/
def Obligations.FetchChecksInOrder : Prop :=
  ∀ (s : State) (f : FnId) (q : PairId),
    let p := pairOf s f q
    let e := parseEntry f q .host (hostRead s f (p.sqBase + 64 * p.sqHead) 64)
    let op := e.1
    let c := e.2
    let t := onPair s f q (fun x => { x with sqHead := (x.sqHead + 1) % x.depth, doorbell := false, rings := takeRing x.rings })
    let dup := hostJob t f q c.tag
    let old := (pairOf t f q).window.find? (fun r => r.cmd.tag == c.tag)
    (mayFetch s f q = false → exec (.commandFetch f q) s = .next s) ∧
    (mayFetch s f q = true → (p.sqHead + 1) % p.depth = p.sqTail →
      ∃ u, exec (.commandFetch f q) s = .next u ∧
      ((fnOf s f).quarantined = true → u = answerEarly t op c 0x0006 false) ∧
      ((fnOf s f).quarantined = false →
        (malformed op c = true → u = violate (answerEarly t op c 0x0001 false) f) ∧
        (malformed op c = false →
          (∀ j, dup = some j → u = if j.op = op ∧ j.cmd = c then answerEarly t op c 0x0008 false else violate (answerEarly t op c 0x0007 false) f) ∧
          (dup = none → ∀ r, old = some r → u =
            if r.op ≠ op ∨ r.cmd ≠ c then violate (answerEarly t op c 0x0007 false) f
            else if hostRead t f (replayBase (pairOf t f q) + 64 * r.place) 64 ≠ r.record then answerEarly t op c 0x0009 false
            else deliver t c (replayCopy (pairOf t f q) r.record) (leNat ((r.record.drop 2).take 2)) false) ∧
          (dup = none → old = none →
            (knownOp op = false → u = answerEarly t op c 0x0002 true) ∧
            (knownOp op = true →
              (∀ st, lateChecks t op c = some st →
                u = if st = 0x0004 then violate (answerEarly t op c st true) f else answerEarly t op c st true) ∧
              (lateChecks t op c = none →
                u = { t with jobs := t.jobs ++ [{ op := op, cmd := c, fetchedAt := s.clocks.seta, rung := firstRing p.rings }] }))))))

/-- R227, R228. -/
def Obligations.DoorbellsMoveTheRings : Prop :=
  ∀ (s : State) (f : FnId) (q : PairId) (v : U32), running s = true → reachable s f = true →
    let p := pairOf s f q
    let n := v.toNat
    let span := fun lo hi => (hi + p.depth - lo) % p.depth
    (((p.active = true ∨ p.draining = true) ∧ n < p.depth ∧ span p.sqTail n ≤ p.depth - 1 - span p.sqHead p.sqTail) →
      let rung := onPair (s.onLink (fun l => { l with rings := l.rings + 1 })) f q (fun x => { x with
        sqTail := n, rings := x.rings ++ [(span p.sqTail n, s.link.rings + 1)] })
      exec (.sqTailDoorbell f q v) s = .next (if s.power.quiesced then onPair rung f q (fun x => { x with doorbell := true })
        else raiseWaking rung [82 + p.cls])) ∧
    (¬((p.active = true ∨ p.draining = true) ∧ n < p.depth ∧ span p.sqTail n ≤ p.depth - 1 - span p.sqHead p.sqTail) →
      exec (.sqTailDoorbell f q v) s = .next (violate s f)) ∧
    (((p.active = true ∨ p.draining = true) ∧ n < p.depth ∧ span p.cqHead n ≤ span p.cqHead p.cqTail) →
      exec (.cqHeadDoorbell f q v) s = .next (dozeWake (onPair s f q (fun x => { x with cqHead := n })))) ∧
    (¬((p.active = true ∨ p.draining = true) ∧ n < p.depth ∧ span p.cqHead n ≤ span p.cqHead p.cqTail) →
      exec (.cqHeadDoorbell f q v) s = .next (violate s f))

/-- R254, R255, R256. -/
def Obligations.ViolationsAndQuarantine : Prop :=
  ∀ (s : State) (f : FnId),
    let one := onFn s f (fun x => { x with violations := match x.violations with | [] => [1] | v :: r => (v + 1) :: r })
    let n := (fnOf one f).violations.sum
    let began := fun (t : State) (k : Nat) =>
      let q := onFn t f (fun x => { x with
        quarantined := true, quarantineRuns := x.quarantineRuns + 1, quarUntil := t.clocks.seta + 10000000, violations := [] })
      append (raise (fnEvent q f 0) [86]) 0x0503 0
        (f.toNat + min 255 k * 2 ^ 8 + min 255 ((fnOf t f).quarantineRuns + 1) * 2 ^ 16)
    ((n ≤ 64 ∨ (fnOf s f).quarantined = true) → violate s f = one) ∧
    (64 < n → (fnOf s f).quarantined = false → violate s f = began one n) ∧
    ((fnOf s f).quarantined = true → s.clocks.seta = (fnOf s f).quarUntil →
      let e := fnEvent (onFn s f (fun x => { x with quarantined := false })) f 1
      let k := (fnOf e f).violations.sum
      exec (.quarantineEnd f) s = .next (if 64 < k then began e k else onFn e f (fun x => { x with quarantineRuns := 0 }))) ∧
    (SMap.wf {} s.fns = true → ∃ t, exec .violationWindowRoll s = .next t ∧ s.clocks.rollAt < t.clocks.rollAt ∧
      (∀ g, (fnOf t g).violations.sum = ((fnOf s g).violations.take 9).sum) ∧
      ∀ g, { fnOf t g with violations := (fnOf s g).violations } = fnOf s g)

/-- R186, R211, R212, R215, R257. -/
def Obligations.HostLinkAndJobs : Prop :=
  ∀ (s : State) (f : FnId) (q : PairId),
    let p := pairOf s f q
    let time := reg s (fnKey f 0x180) / 256 % 1024
    let reporter := if f = 0 ∨ (fnOf s f).enabled = true then f else 0
    let aer := fun (n : Nat) => s.onLink (fun l => { l with aer := SMap.mod 0 l.aer reporter.toNat (fun x => x ||| BitVec.ofNat 32 (2 ^ n)) })
    (p.unsignalled ≠ 0 → time ≠ 0 → s.clocks.seta = p.oldest + 100 * time →
      exec (.coalesceTimeout f q) s = .next (signal (onPair s f q (fun x => { x with unsignalled := 0 })) f p.vector)) ∧
    exec (.busMasterEnable f false) s = .next (onFn s f (fun x => { x with busMaster := false })) ∧
    (s.link.held = [] → (∀ j ∈ s.jobs, j.stage ≠ .done) →
      exec (.busMasterEnable f true) s = .next (flushPba (onFn s f (fun x => { x with busMaster := true })) f)) ∧
    (∀ (a : U64) (len : BitVec 32), ∃ m, m.link.aer = (aer 20).link.aer ∧
      m = { s with link := { s.link with hostMem := m.link.hostMem, aer := m.link.aer }, free := s.free + len.toNat } ∧
      (∀ g b, hostRead m g b 1 ≠ hostRead s g b 1 → g = f ∧ ∃ k, k < len.toNat ∧ b % 2 ^ 64 = (a.toNat + k) % 2 ^ 64) ∧
      (∀ tag, exec (.hostWriteFailure f ⟨.output q tag, a, len⟩) s = .next m) ∧ exec (.hostWriteFailure f ⟨.message, a, len⟩) s = .next m ∧
      exec (.hostWriteFailure f ⟨.queue q, a, len⟩) s = .next
        (if p.active ∨ p.draining then closePair (onPair m f q (fun x => { x with lost := true })) f q false else m)) ∧
    ((fnOf s f).resetting = false →
      (∀ use addr data, exec (.dmaReadCompletion f use addr .data data) s = .next (hostWrite s f addr.toNat data)) ∧
      ∀ e n, (e, n) ∈ [(DmaEnd.unsupported, 20), (.completerAbort, 15), (.poisoned, 12), (.timeout, 14)] →
      (∀ addr data, (p.active ∨ p.draining) →
        exec (.dmaReadCompletion f (.sq q) addr e data) s = .next (closePair (aer n) f q false)) ∧
      ∀ tag off addr data j, hostJob s f q tag = some j → j.stage ≠ .fetched → j.stage ≠ .done → j.op ≠ 0x0C03 →
        exec (.dmaReadCompletion f (.job q tag off) addr e data) s = .next (complete (aer n) j { status := 0x000B, detail := off.toNat }))

/-- Table 19.4 and Table 19.6: the register forms of two sources, with their frame. Table 19.4, R810. -/
def Obligations.PinnaRegisterForms : Prop :=
  (∀ (s : State) (u : Fin 8) (i : Inv) (gd : Guard) (rd ra rb : GReg), Ready s u i → guardHolds (pinnaOf s u) gd = true →
  let x := gGet (pinnaOf s u) ra; let y := gGet (pinnaOf s u) rb
  WritesG (.add u gd rd ra rb) s u rd (x + y) 1 ∧
    WritesG (.sub u gd rd ra rb) s u rd (x - y) 1 ∧
    WritesG (.andR u gd rd ra rb) s u rd (x &&& y) 1 ∧
    WritesG (.orR u gd rd ra rb) s u rd (x ||| y) 1 ∧
    WritesG (.xorR u gd rd ra rb) s u rd (x ^^^ y) 1 ∧
    WritesG (.andn u gd rd ra rb) s u rd (x &&& ~~~y) 1 ∧
    WritesG (.sll u gd rd ra rb) s u rd (x <<< (y.toNat % 32)) 1 ∧
    WritesG (.srl u gd rd ra rb) s u rd (x >>> (y.toNat % 32)) 1 ∧
    WritesG (.sra u gd rd ra rb) s u rd (x.sshiftRight (y.toNat % 32)) 1 ∧
    WritesG (.ror u gd rd ra rb) s u rd (x.rotateRight (y.toNat % 32)) 1 ∧
    WritesG (.minS u gd rd ra rb) s u rd (if x.toInt < y.toInt then x else y) 1 ∧
    WritesG (.maxS u gd rd ra rb) s u rd (if x.toInt < y.toInt then y else x) 1 ∧
    WritesG (.minu u gd rd ra rb) s u rd (if x.toNat < y.toNat then x else y) 1 ∧
    WritesG (.maxu u gd rd ra rb) s u rd (if x.toNat < y.toNat then y else x) 1) ∧
  (∀ (s : State) (u : Fin 8) (i : Inv) (gd : Guard) (rd ra rb : GReg), Ready s u i → guardHolds (pinnaOf s u) gd = true →
  let x := gGet (pinnaOf s u) ra; let y := gGet (pinnaOf s u) rb
  WritesG (.mul u gd rd ra rb) s u rd (BitVec.ofInt 32 (x.toInt * y.toInt)) 3 ∧
    WritesG (.mulh u gd rd ra rb) s u rd (BitVec.ofInt 32 (x.toInt * y.toInt / 2 ^ 32)) 3 ∧
    WritesG (.mulhu u gd rd ra rb) s u rd (BitVec.ofNat 32 (x.toNat * y.toNat / 2 ^ 32)) 3 ∧
    WritesG (.mulhsu u gd rd ra rb) s u rd (BitVec.ofInt 32 (x.toInt * (y.toNat : Int) / 2 ^ 32)) 3 ∧
    WritesG (.divS u gd rd ra rb) s u rd (if y = 0 then 0xFFFFFFFF else BitVec.ofInt 32 (x.toInt.tdiv y.toInt)) 34 ∧
    WritesG (.divu u gd rd ra rb) s u rd (if y = 0 then 0xFFFFFFFF else BitVec.ofNat 32 (x.toNat / y.toNat)) 34 ∧
    WritesG (.remS u gd rd ra rb) s u rd (if y = 0 then x else BitVec.ofInt 32 (x.toInt.tmod y.toInt)) 34 ∧
    WritesG (.remu u gd rd ra rb) s u rd (if y = 0 then x else BitVec.ofNat 32 (x.toNat % y.toNat)) 34)

/-- R810. -/
def Obligations.DivisionByZeroRaisesNothing : Prop :=
  ∀ (s : State) (u : Fin 8) (i : Inv) (gd : Guard) (rd ra rb : GReg) (imm : BitVec 12), Ready s u i → guardHolds (pinnaOf s u) gd = true →
  let x := gGet (pinnaOf s u) ra; let y := gGet (pinnaOf s u) rb
  (y = 0 → WritesG (.divS u gd rd ra rb) s u rd 0xFFFFFFFF 34 ∧ WritesG (.divu u gd rd ra rb) s u rd 0xFFFFFFFF 34 ∧
      WritesG (.remS u gd rd ra rb) s u rd x 34 ∧ WritesG (.remu u gd rd ra rb) s u rd x 34) ∧
    (x = 0x80000000 → y = 0xFFFFFFFF →
      WritesG (.divS u gd rd ra rb) s u rd 0x80000000 34 ∧ WritesG (.remS u gd rd ra rb) s u rd 0 34) ∧
    ∀ c ∈ [Instr.divS u gd rd ra rb, .divu u gd rd ra rb, .remS u gd rd ra rb, .remu u gd rd ra rb, .mul u gd rd ra rb,
        .mulh u gd rd ra rb, .mulhu u gd rd ra rb, .mulhsu u gd rd ra rb, .add u gd rd ra rb, .sub u gd rd ra rb, .addi u gd rd ra imm],
      ∃ t, exec c s = .next t ∧ (pinnaOf t u).inv = some i

/-- Tables 19.3 and 19.4, R807, R808. -/
def Obligations.PinnaImmediateForms : Prop :=
  ∀ (s : State) (u : Fin 8) (i : Inv) (gd : Guard) (rd ra rb : GReg) (imm : BitVec 12) (im : BitVec 16) (sh pos wm1 : BitVec 5), Ready s u i → guardHolds (pinnaOf s u) gd = true →
  let p := pinnaOf s u; let x := gGet p ra
  WritesG (.addi u gd rd ra imm) s u rd (x + imm.signExtend 32) 1 ∧ WritesG (.andi u gd rd ra imm) s u rd (x &&& imm.setWidth 32) 1 ∧
    WritesG (.ori u gd rd ra imm) s u rd (x ||| imm.setWidth 32) 1 ∧ WritesG (.xori u gd rd ra imm) s u rd (x ^^^ imm.setWidth 32) 1 ∧
    WritesG (.movi u gd rd im) s u rd (im.setWidth 32) 1 ∧
    WritesG (.movhi u gd rd im) s u rd (BitVec.ofNat 32 (im.toNat * 65536 + (gGet p rd).toNat % 65536)) 1 ∧
    WritesG (.slli u gd rd ra sh) s u rd (x <<< sh.toNat) 1 ∧ WritesG (.srli u gd rd ra sh) s u rd (x >>> sh.toNat) 1 ∧
    WritesG (.srai u gd rd ra sh) s u rd (x.sshiftRight sh.toNat) 1 ∧ WritesG (.rori u gd rd ra sh) s u rd (x.rotateRight sh.toNat) 1 ∧
    WritesG (.clz u gd rd ra) s u rd (BitVec.ofNat 32 (leadingZeros x)) 1 ∧
    WritesG (.popc u gd rd ra) s u rd (BitVec.ofNat 32 (popCount x)) 1 ∧
    (ra.getLsbD 0 = false → WritesG (.perm u gd rd ra rb) s u rd (permute x (gGet p (ra + 1)) (gGet p rb)) 1) ∧
    (pos.toNat + wm1.toNat < 32 →
      WritesG (.bfx u gd rd ra pos wm1) s u rd (fieldGet x pos.toNat (wm1.toNat + 1)) 1 ∧
      WritesG (.bfxs u gd rd ra pos wm1) s u rd (fieldGetS x pos.toNat (wm1.toNat + 1)) 1 ∧
      WritesG (.bfi u gd rd ra pos wm1) s u rd (fieldPut (gGet p rd) x pos.toNat (wm1.toNat + 1)) 1)

/-- R807. -/
def Obligations.BitFieldsBitByBit : Prop :=
  (∀ (x d : U32) (pos w k : Nat), 0 < w → pos + w ≤ 32 → k < 32 →
    (fieldGet x pos w).getLsbD k = (decide (k < w) && x.getLsbD (pos + k)) ∧
    (fieldGetS x pos w).getLsbD k = (if k < w then x.getLsbD (pos + k) else x.getLsbD (pos + w - 1)) ∧
    (fieldPut d x pos w).getLsbD k = (if pos ≤ k ∧ k < pos + w then x.getLsbD (k - pos) else d.getLsbD k)) ∧
  ∀ (s : State) (u : Fin 8) (i : Inv) (gd : Guard) (rd ra : GReg) (pos wm1 : BitVec 5), Ready s u i →
    (32 ≤ pos.toNat + wm1.toNat →
      ∀ c ∈ [Instr.bfx u gd rd ra pos wm1, .bfxs u gd rd ra pos wm1, .bfi u gd rd ra pos wm1], Traps c s u i (pinnaOf s u).pc 1 0) ∧
    (pos.toNat + wm1.toNat < 32 → guardHolds (pinnaOf s u) gd = true →
      WritesG (.bfx u gd rd ra pos wm1) s u rd (fieldGet (gGet (pinnaOf s u) ra) pos.toNat (wm1.toNat + 1)) 1 ∧
      WritesG (.bfxs u gd rd ra pos wm1) s u rd (fieldGetS (gGet (pinnaOf s u) ra) pos.toNat (wm1.toNat + 1)) 1 ∧
      WritesG (.bfi u gd rd ra pos wm1) s u rd
        (fieldPut (gGet (pinnaOf s u) rd) (gGet (pinnaOf s u) ra) pos.toNat (wm1.toNat + 1)) 1)

/-- R808, R806. -/
def Obligations.PermuteByteByByte : Prop :=
  (∀ (lo hi sel : U32) (k : Nat), k < 4 →
    (permute lo hi sel).toNat / 256 ^ k % 256 =
      (let n := sel.toNat / 16 ^ k % 16
       if 8 ≤ n then 0 else (lo.toNat + hi.toNat * 2 ^ 32) / 256 ^ n % 256)) ∧
  ∀ (s : State) (u : Fin 8) (i : Inv) (gd : Guard) (rd ra rb : GReg), Ready s u i →
    (ra.toNat % 2 = 0 → guardHolds (pinnaOf s u) gd = true →
      WritesG (.perm u gd rd ra rb) s u rd (permute (gGet (pinnaOf s u) ra) (gGet (pinnaOf s u) (ra + 1)) (gGet (pinnaOf s u) rb)) 1) ∧
    (ra.toNat % 2 = 1 → Traps (.perm u gd rd ra rb) s u i (pinnaOf s u).pc 1 0)

/-- Table 19.5, R809. Table 19.5. -/
def Obligations.PinnaComparesAndPredicates : Prop :=
  (∀ (s : State) (u : Fin 8) (i : Inv) (gd : Guard) (pd pa pb : PReg) (rd ra rb : GReg) (cond : BitVec 3) (imm : BitVec 9), Ready s u i → guardHolds (pinnaOf s u) gd = true →
  let p := pinnaOf s u
  WritesP (.cmp u gd pd ra rb cond) s u pd (compare cond (gGet p ra) (gGet p rb)) ∧
    WritesP (.cmpi u gd pd ra cond imm) s u pd (compare cond (gGet p ra) (imm.signExtend 32)) ∧
    WritesP (.pand u gd pd pa pb) s u pd (pGet p pa && pGet p pb) ∧ WritesP (.por u gd pd pa pb) s u pd (pGet p pa || pGet p pb) ∧
    WritesP (.pxor u gd pd pa pb) s u pd (pGet p pa ^^ pGet p pb) ∧ WritesP (.pandn u gd pd pa pb) s u pd (pGet p pa && !pGet p pb) ∧
    WritesP (.pnot u gd pd pa) s u pd (!pGet p pa) ∧
    (∃ v : U32, WritesG (.prd u gd rd) s u rd v 1 ∧ (∀ r : PReg, v.getLsbD r.toNat = pGet p r) ∧ v.toNat < 256) ∧
    ∃ t, exec (.pwr u gd ra) s = .next t ∧ OnlyUnit s t u ∧
      pinnaOf t u = { p with p := (pinnaOf t u).p, pc := p.pc + 4, cycle := p.cycle + 1 } ∧
      ∀ r : PReg, r ≠ 0 → pGet (pinnaOf t u) r = (gGet p ra).getLsbD r.toNat) ∧
  (∀ x b : U32,
    compare 0 x b = decide (x = b) ∧ compare 1 x b = decide (x ≠ b) ∧ compare 2 x b = decide (x.toInt < b.toInt) ∧
    compare 3 x b = decide (b.toInt ≤ x.toInt) ∧ compare 4 x b = decide (x.toNat < b.toNat) ∧
    compare 5 x b = decide (b.toNat ≤ x.toNat) ∧ compare 6 x b = decide (x &&& b = 0) ∧ compare 7 x b = decide (x &&& b ≠ 0))

/-- Table 19.3, R818, R819. Table 19.3, R818, R819. -/
def Obligations.PinnaLoadsAndStores : Prop :=
  (∀ (s : State) (u : Fin 8) (i : Inv) (gd : Guard) (rd ra : GReg) (imm : BitVec 12), Ready s u i → guardHolds (pinnaOf s u) gd = true →
  let a := (gGet (pinnaOf s u) ra + imm.signExtend 32).toNat
  let m := fun n => leNat (tcmRead (pinnaOf s u) a n)
  (a % 4 = 0 → mayLoad i a 4 = true → Loads (.ldw u gd rd ra imm) s u rd (BitVec.ofNat 32 (m 4))) ∧
    (a % 2 = 0 → mayLoad i a 2 = true → Loads (.ldh u gd rd ra imm) s u rd (BitVec.ofNat 32 (m 2)) ∧
      Loads (.ldhs u gd rd ra imm) s u rd ((BitVec.ofNat 16 (m 2)).signExtend 32)) ∧
    (mayLoad i a 1 = true → Loads (.ldb u gd rd ra imm) s u rd (BitVec.ofNat 32 (m 1)) ∧
      Loads (.ldbs u gd rd ra imm) s u rd ((BitVec.ofNat 8 (m 1)).signExtend 32))) ∧
  (∀ (s : State) (u : Fin 8) (i : Inv) (gd : Guard) (rd ra : GReg) (imm : BitVec 12), Ready s u i → guardHolds (pinnaOf s u) gd = true →
  let a := memAddr (pinnaOf s u) ra imm
  let bs := fun n => leBytes n (gGet (pinnaOf s u) rd).toNat
  (a % 4 = 0 → mayStore i a 4 = true → Stores (.stw u gd rd ra imm) s u a (bs 4)) ∧
    (a % 2 = 0 → mayStore i a 2 = true → Stores (.sth u gd rd ra imm) s u a (bs 2)) ∧
    (mayStore i a 1 = true → Stores (.stb u gd rd ra imm) s u a (bs 1)))

/-- Table 19.3, R812. -/
def Obligations.PinnaBranches : Prop :=
  ∀ (s : State) (u : Fin 8) (i : Inv) (gd : Guard) (rd ra : GReg) (imm : BitVec 22), Ready s u i → guardHolds (pinnaOf s u) gd = true →
  let b := (pinnaOf s u).pc + 4 * imm.signExtend 32
  let j := gGet (pinnaOf s u) ra
  (b.toNat % 4 = 0 → inCode i b.toNat 4 = true → Jumps (.br u gd imm) s u b none ∧ Jumps (.call u gd imm) s u b (some 31)) ∧
    (j.toNat % 4 = 0 → inCode i j.toNat 4 = true → Jumps (.jr u gd ra) s u j none ∧ Jumps (.jalr u gd rd ra) s u j (some rd))

/-- R805, R814, Table 19.6. -/
def Obligations.FalseGuardTakesFullCycles : Prop :=
  (∀ (s : State) (c : Instr) (u : Fin 8) (gd : Guard) (n : Nat) (i : Inv),
    fixedCycles c = some (u, gd, n) → wellFormed c = true → Ready s u i → guardHolds (pinnaOf s u) gd = false →
    ∃ t, exec c s = .next t ∧ OnlyUnit s t u ∧
      pinnaOf t u = { pinnaOf s u with pc := (pinnaOf s u).pc + 4, cycle := (pinnaOf s u).cycle + BitVec.ofNat 32 n }) ∧
  ∀ p : Pinna, guardHolds p ⟨false, 0⟩ = true ∧ guardHolds p ⟨true, 0⟩ = false

/-- R811, R812, R819. (The order of the alignment and the access check where both fail is the model's choice, log entry 20.) -/
def Obligations.PinnaAccessExceptions : Prop :=
  ∀ (s : State) (u : Fin 8) (i : Inv) (gd : Guard) (rd ra : GReg) (imm : BitVec 12) (off : BitVec 22), Ready s u i → guardHolds (pinnaOf s u) gd = true →
  let p := pinnaOf s u
  let a := memAddr p ra imm
  let b := p.pc + 4 * off.signExtend 32
  let j := gGet p ra
  (a % 4 ≠ 0 → ∀ c ∈ [Instr.ldw u gd rd ra imm, .stw u gd rd ra imm], Traps c s u i p.pc 5 a) ∧
    (a % 2 ≠ 0 → ∀ c ∈ [Instr.ldh u gd rd ra imm, .ldhs u gd rd ra imm, .sth u gd rd ra imm], Traps c s u i p.pc 5 a) ∧
    (a % 4 = 0 → mayLoad i a 4 = false → Traps (.ldw u gd rd ra imm) s u i p.pc 3 a) ∧
    (a % 2 = 0 → mayLoad i a 2 = false → ∀ c ∈ [Instr.ldh u gd rd ra imm, .ldhs u gd rd ra imm], Traps c s u i p.pc 3 a) ∧
    (mayLoad i a 1 = false → ∀ c ∈ [Instr.ldb u gd rd ra imm, .ldbs u gd rd ra imm], Traps c s u i p.pc 3 a) ∧
    (a % 4 = 0 → mayStore i a 4 = false → Traps (.stw u gd rd ra imm) s u i p.pc 4 a) ∧
    (a % 2 = 0 → mayStore i a 2 = false → Traps (.sth u gd rd ra imm) s u i p.pc 4 a) ∧
    (mayStore i a 1 = false → Traps (.stb u gd rd ra imm) s u i p.pc 4 a) ∧
    (inCode i b.toNat 4 = false → ∀ c ∈ [Instr.br u gd off, .call u gd off], Traps c s u i b 2 b.toNat) ∧
    (j.toNat % 4 ≠ 0 ∨ inCode i j.toNat 4 = false → ∀ c ∈ [Instr.jr u gd ra, .jalr u gd rd ra], Traps c s u i j 2 j.toNat)

/-- R806, Table 19.8. -/
def Obligations.InvalidEncodingsRaiseIllegal : Prop :=
  ∀ (s : State) (u : Fin 8) (i : Inv) (gd : Guard) (w : U32) (rd ra rb : GReg) (pos wm1 : BitVec 5) (sr : SReg), Ready s u i →
    (decodePinna u w.toNat = none → Traps (.invalidEncoding u w) s u i (pinnaOf s u).pc 1 0) ∧
    (∀ c ∈ [Instr.perm u gd rd ra rb, .bfx u gd rd ra pos wm1, .bfxs u gd rd ra pos wm1, .bfi u gd rd ra pos wm1, .mfs u gd rd sr,
        .mts u gd sr ra], wellFormed c = false → Traps c s u i (pinnaOf s u).pc 1 0)

/-- R821, R832, Table 19.10. -/
def Obligations.InvocationEndsPrecisely : Prop :=
  ∀ (s : State) (u : Fin 8) (i : Inv) (pc : U32) (cause info : Nat), cause < 256 → unitExists s u = true →
    trap s u i pc cause info = raise (endInvocation s u i (faultReply s u pc cause info)) [16 + coreOf s u] ∧
    (let t := dropIssued (clearUnit s u) u
     (pinnaOf t u).inv = none ∧ (pinnaOf t u).dtcm = [] ∧ (pinnaOf t u).g = [] ∧ (pinnaOf t u).itcm = (pinnaOf s u).itcm ∧
     (∀ j ∈ t.jobs, j.cmd.issuer ≠ .applet u) ∧ ∀ v, v ≠ u → pinnaOf t v = pinnaOf s v) ∧
    (let d := (faultReply s u pc cause info).detail
     d % 256 = cause ∧ d / 2 ^ 8 % 256 = coreOf s u ∧ d / 2 ^ 16 % 2 ^ 32 = pc.toNat ∧
     d / 2 ^ 48 = info % 2 ^ 16 ∧ (faultReply s u pc cause info).status = 0x0C04)

/-- Table 19.8, Table 12.2, R125, R514. R822, Table 19.8. -/
def Obligations.SpecialRegisters : Prop :=
  (∀ (s : State) (u : Fin 8) (i : Inv) (gd : Guard) (rd : GReg), Ready s u i → guardHolds (pinnaOf s u) gd = true →
  let p := pinnaOf s u
  ReadsS s u gd rd 0 p.cycle p ∧
    ReadsS s u gd rd 1 (BitVec.ofNat 32 s.clocks.seta) { p with setaHi := BitVec.ofNat 32 (s.clocks.seta / 2 ^ 32) } ∧
    ReadsS s u gd rd 2 p.setaHi p ∧
    (∀ w r, p.rng = w :: r → ReadsS s u gd rd 3 w { p with rng := r }) ∧
    (p.rng = [] → ReadsS s u gd rd 3 0 { p with rngErr := true }) ∧
    ReadsS s u gd rd 4 (rngStat s u p) p ∧
    ReadsS s u gd rd 5 (if p.view then p.cmpLoStage else p.cmpLo) p ∧
    ReadsS s u gd rd 6 (if p.view then p.cmpHiStage else p.cmpHi) p ∧
    ReadsS s u gd rd 7 (wakeCtl s p) p ∧ ReadsS s u gd rd 8 (invInfo s u i) p ∧
    ReadsS s u gd rd 9 (BitVec.ofNat 32 (p.sysStatus.toNat + if p.sysRerun then 65536 else 0)) p) ∧
  (∀ (s : State) (u : Fin 8) (i : Inv) (gd : Guard) (ra : GReg), Ready s u i → guardHolds (pinnaOf s u) gd = true →
  let p := pinnaOf s u; let v := gGet p ra
  WritesS s u gd 4 ra { p with rngErr := p.rngErr && !v.getLsbD 1 } ∧
    (let busy := ∃ k, p.goAt = some (p.cycle, k) ∧ s.clocks.seta ≤ k + 1
     let cleared := { p with
       overrun := p.overrun && !v.getLsbD 2, matched := p.matched && !v.getLsbD 4, wokeTask := p.wokeTask && !v.getLsbD 5, view := v.getLsbD 31 }
     (busy → WritesS s u gd 5 ra p ∧ WritesS s u gd 6 ra p ∧
       WritesS s u gd 7 ra { cleared with overrun := cleared.overrun || v.getLsbD 0 }) ∧
     (¬busy → WritesS s u gd 5 ra { p with cmpLoStage := v } ∧ WritesS s u gd 6 ra { p with cmpHiStage := v } ∧
       (v.getLsbD 0 = false → WritesS s u gd 7 ra { cleared with enStage := v.getLsbD 3 }) ∧
       (v.getLsbD 0 = true → WritesS s u gd 7 ra { cleared with
         enStage := v.getLsbD 3, cmpLo := p.cmpLoStage, cmpHi := p.cmpHiStage, en := v.getLsbD 3, goAt := some (p.cycle + 1, s.clocks.seta) }))))

/-- R824, R826. -/
def Obligations.SleepReturnsOrSleeps : Prop :=
  ∀ (s : State) (u : Fin 8) (i : Inv) (gd : Guard), Ready s u i → guardHolds (pinnaOf s u) gd = true →
  let p := pinnaOf s u
  let held := (wakeTasks s u).any (fun n => (taskOf s n).pending)
  ∃ t, exec (.sleep u gd) s = .next t ∧
      (∀ n ∈ wakeTasks s u, (taskOf t n).pending = false ∧ (taskOf t n).running = (taskOf s n).pending) ∧
      (∀ n, n ∉ wakeTasks s u → taskOf t n = taskOf s n) ∧ (∀ v, v ≠ u → pinnaOf t v = pinnaOf s v) ∧
      pinnaOf t u =
        (if held then { p with wakePending := false, wokeTask := true, pc := p.pc + 4, cycle := p.cycle + 2 }
         else if p.wakePending then { p with wakePending := false, pc := p.pc + 4, cycle := p.cycle + 2 }
         else { p with asleep := true, pc := p.pc + 4 })

/-- Table 19.9, R827, R830. R828. -/
def Obligations.SysServices : Prop :=
  (∀ (s : State) (u : Fin 8) (i : Inv) (gd : Guard), Ready s u i → guardHolds (pinnaOf s u) gd = true →
  let p := pinnaOf s u
  let g := fun r : GReg => (gGet p r).toNat
  (g 2 + g 3 ≤ i.inLen → g 3 = 0 ∨ mayStore i (g 1) (g 3) = true →
      ∃ t, exec (.copyIn u gd) s = .next (raise t [16 + coreOf s u]) ∧
        ReturnsWith s t u
          { p with dtcm := Memory.write 0 p.dtcm (g 1 - 0x10000000) (hostRead s i.fn (i.inAddr + g 2) (g 3)) } 0) ∧
    (g 1 < 16 → ∃ t, exec (.sysRaise u gd) s = .next (raise (raise t [16 + coreOf s u]) [96 + g 1]) ∧ ReturnsWith s t u p 0) ∧
    ∃ t, exec (.sysInfo u gd) s = .next (raise t [16 + coreOf s u]) ∧
      ReturnsWith s t u
        (gSet (gSet (gSet p 2 (bootEpoch s)) 3 (i.tag.setWidth 32)) 4 (BitVec.ofNat 32 ((i.usedTicks + (s.clocks.seta - i.since)) / 100000))) 0) ∧
  (∀ (s : State) (u : Fin 8) (i : Inv) (gd : Guard), Ready s u i → guardHolds (pinnaOf s u) gd = true →
  let p := pinnaOf s u
  let a := (gGet p 1).toNat
  let e := parseEntry i.fn i.q (.applet u) (tcmRead p a 64)
  mayStore i a 64 = true →
    (appletChecks s e.1 e.2 = none →
      ∃ t, exec (.sysCommand u gd) s = .next (raise t [16 + coreOf s u]) ∧
        t.jobs = s.jobs ++ [{ op := e.1, cmd := e.2, fetchedAt := s.clocks.seta, rung := s.link.rings + 1 }] ∧ t.link.rings = s.link.rings + 1 ∧
        (pinnaOf t u).blocked = true ∧ issues t u = none ∧ e.2.fn = i.fn ∧ e.2.q = i.q ∧ e.2.issuer = .applet u ∧
        ∀ v, v ≠ u → pinnaOf t v = pinnaOf s v) ∧
    ∀ st, appletChecks s e.1 e.2 = some st →
      ∃ t, exec (.sysCommand u gd) s = .next (raise t [16 + coreOf s u]) ∧ t.jobs = s.jobs ∧
        gGet (pinnaOf t u) 1 = BitVec.ofNat 32 st ∧ (pinnaOf t u).blocked = false ∧ ∀ v, v ≠ u → pinnaOf t v = pinnaOf s v)

/-- R831. -/
def Obligations.SysExitAndAbort : Prop :=
  ∀ (s : State) (u : Fin 8) (i : Inv) (gd : Guard), Ready s u i → guardHolds (pinnaOf s u) gd = true →
  let p := pinnaOf s u
  let g := fun r : GReg => (gGet p r).toNat
  (g 2 ≤ i.outLen → g 2 = 0 ∨ mayStore i (g 1) (g 2) = true →
      exec (.sysExit u gd) s = .next (raise (endInvocation (hostWrite s i.fn i.outAddr (tcmRead p (g 1) (g 2))) u i
        { res0 := g 2, res1 := g 3, res2 := p.cycle.toNat,
          res3 := (i.usedTicks + (s.clocks.seta - i.since)) / 100000 % 2 ^ 16 + u.val * 2 ^ 16 }) [16 + coreOf s u])) ∧
    exec (.sysAbort u gd) s = .next (raise (endInvocation s u i (faultReply s u p.pc 0x0A (g 1 % 2 ^ 16))) [16 + coreOf s u])

/-- R827. -/
def Obligations.SysArgumentsOutsideTheirLimits : Prop :=
  ∀ (s : State) (u : Fin 8) (i : Inv) (gd : Guard) (n : BitVec 16), Ready s u i → guardHolds (pinnaOf s u) gd = true →
  let p := pinnaOf s u
  let g := fun r : GReg => (gGet p r).toNat
  (6 ≤ n.toNat → Traps (.sysInvalid u gd n) s u i p.pc 6 n.toNat) ∧
    (i.outLen < g 2 ∨ (g 2 ≠ 0 ∧ mayStore i (g 1) (g 2) = false) → Traps (.sysExit u gd) s u i p.pc 6 0) ∧
    (i.inLen < g 2 + g 3 ∨ (g 3 ≠ 0 ∧ mayStore i (g 1) (g 3) = false) → Traps (.copyIn u gd) s u i p.pc 6 3)

/-- Tables 19.2 to 19.4, R806. R806: a non-zero field that a form marks zero is an invalid encoding. -/
def Obligations.PinnaDecodeOfEncode : Prop :=
  (∀ (c : Instr) (u : Fin 8) (w : Nat), encodePinna c = some w → pinnaUnit c = some u → wellFormed c = true →
    w < 2 ^ 32 ∧ decodePinna u w = some c) ∧
  (∀ (u : Fin 8) (w : Nat) (c : Instr), w < 2 ^ 32 → decodePinna u w = some c →
    encodePinna c = some w ∧ pinnaUnit c = some u ∧ wellFormed c = true)

/-- Table 7.5, R277. The counter field of the custodian, who has no cap, is the model's reading (log entry 31). -/
def Obligations.SystemReadCommands : Prop :=
  ∀ (s : State) (c : Cmd) (j : Job),
    (Starts 0x0001 c s j → Answers (.nop c) s (started s c j) j { res0 := param c 0 4, res1 := param c 4 4 }) ∧
    (Starts 0x0002 c s j →
      (param c 0 1 = 0 → ∃ r, Answers (.getInfo c) s (started s c j) j r ∧ r.status = 0 ∧ bitsOf r.res0 0 16 = 0x6440 ∧ bitsOf r.res0 16 8 = 0xB1 ∧
        bitsOf r.res0 24 2 = lifecycle s ∧ r.res1 = s.boot.version.toNat % 2 ^ 24 ∧ r.res2 = s.boot.svn.toNat ∧
        r.res3 = c.fn.toNat + (fnOf s c.fn).generation.toNat * 2 ^ 8) ∧
      (param c 0 1 = 1 → Answers (.getInfo c) s (started s c j) j (words4 (identity s))) ∧
      (1 < param c 0 1 → Answers (.getInfo c) s (started s c j) j (bad 0))) ∧
    (Starts 0x0003 c s j →
      let t := started s c j
      Answers (.getLimits c) s t j {
        res0 := (allotment t c.fn).length + slotsInUse t c.fn * 2 ^ 16
        res1 := (if c.fn = 0 then 510 else (fnOf t c.fn).counterCap) % 2 ^ 10 + countersHeld t c.fn * 2 ^ 16
        res2 := (appletsOf t c.fn).length + appletCapOf t c.fn * 2 ^ 8 + (if c.fn = 0 then 64 else 8) * 2 ^ 16 + qpActive t c.fn * 2 ^ 24
        res3 := inPool t + maxOf t c.fn * 2 ^ 8 + effectiveMin t c.fn * 2 ^ 16 }) ∧
    (Starts 0x0015 c s j →
      let w := param c 1 1
      let n := param c 2 1
      (2 < param c 0 1 → Answers (.optionRead c) s (started s c j) j (bad 0)) ∧
      (param c 0 1 ≤ 2 → 127 < w → Answers (.optionRead c) s (started s c j) j (bad 1)) ∧
      (param c 0 1 ≤ 2 → w ≤ 127 → (n = 0 ∨ 2 < n ∨ 128 < w + n) → Answers (.optionRead c) s (started s c j) j (bad 2)) ∧
      (param c 0 1 ≤ 2 → w + n ≤ 128 → (n = 1 ∨ n = 2) →
        let a := optionShown (started s c j) (param c 0 1) w
        let b := if n = 2 then optionShown (started s c j) (param c 0 1) (w + 1) else 0
        Answers (.optionRead c) s (started s c j) j { res0 := a % 2 ^ 32, res1 := a / 2 ^ 32, res2 := b % 2 ^ 32, res3 := b / 2 ^ 32 })) ∧
    (Starts 0x0018 c s j → ∀ g first n, configTarget (param c 0 1) (param c 1 1) = some (g, first, n) → param c 2 1 ≤ 1 →
      (param c 3 1 = 0 ∨ param c 3 1 = 16 ∨ param c 3 1 = 32) →
      let vals := (((groupRegs g).drop first).take n).flatMap (fun k =>
        leBytes 4 (if param c 2 1 = 0 then reg (started s c j) k else staged (started s c j) k))
      Answers (.configGet c) s (started s c j) j (words4 ((vals ++ List.replicate 48 0).drop (param c 3 1)))) ∧
    (Starts 0x0019 c s j →
      (param c 0 1 ≤ 15 → Answers (.raiseEvent c) s (raiseWaking (started s c j) [112 + param c 0 1]) j {}) ∧
      (15 < param c 0 1 → Answers (.raiseEvent c) s (started s c j) j (bad 0)))

/-- R109, R270, R271, R276, R283. A second option write waits for the first (log entry 32). -/
def Obligations.ConfigurationCommands : Prop :=
  ∀ (s : State) (c : Cmd) (j : Job),
    (Starts 0x0017 c s j → ∀ g first n, configTarget (param c 0 1) (param c 1 1) = some (g, first, n) →
      (commitReg s (commitKey g)).busy = false →
      let t := stagePart (started s c j) g first n (param c 8 48)
      let go := commitGo (onCommit t (commitKey g) (fun r => { r with rejected := false })) g
      (param c 2 1 = 0 → Answers (.configSet c) s t j { res0 := (commitReg s (commitKey g)).applied.toNat }) ∧
      (param c 2 1 = 1 → waits t g = false → Answers (.configSet c) s go j (groupReply go g 8 true)) ∧
      (param c 2 1 = 1 → waits t g = true →
        Begins (.configSet c) s (onJob go c (fun x => { x with aux := commitKey g + 1, aux2 := 8 + 2 ^ 16 })))) ∧
    (Starts 0x0016 c s j → 1 ≤ param c 0 1 → 1 ≤ param c 1 1 → param c 1 1 ≤ 6 → param c 0 1 + param c 1 1 ≤ 12 →
      (∀ i < param c 1 1, ∀ b, optFail (param c 0 1 + i) (param c (8 + 8 * i) 8) = some b →
        (∀ k < i, optFail (param c 0 1 + k) (param c (8 + 8 * k) 8) = none) →
        Answers (.optionWrite c) s (started s c j) j { status := 0x0003, detail := 8 + 8 * i + b / 8 }) ∧
      ((∀ i < param c 1 1, optFail (param c 0 1 + i) (param c (8 + 8 * i) 8) = none) →
        wornMark s ⟨3, 0⟩ = false → wornMark s ⟨3, 1⟩ = false → s.flash.ops.all (fun o => o.unit.kind != 3) = true →
        Begins (.optionWrite c) s (onJob (openFlash (started s c j) ⟨3, targetCopy s⟩ true (.command c)) c (fun x => { x with stage := .flash })))) ∧
    (Starts 0x0103 c s j →
      let g := CommitGroup.tenant (BitVec.ofNat 8 (param c 0 1))
      ((commitReg s (commitKey g)).busy = true ∨ releasing (started s c j) (BitVec.ofNat 8 (param c 0 1)) = true →
        Begins (.tenantSet c) s (onJob (started s c j) c (fun x => { x with stage := .fetched }))) ∧
      ((commitReg s (commitKey g)).busy = false → releasing (started s c j) (BitVec.ofNat 8 (param c 0 1)) = false →
      Begins (.tenantSet c) s (onJob (commitGo (onCommit (stageGroup (started s c j) g (param c 8 4)) (commitKey g)
        (fun r => { r with rejected := false })) g) c (fun x => { x with aux := commitKey g + 1, aux2 := 8 }))))

/-- R278 to R282, R284, Tables 7.7 and 7.8. Releasing an unassigned function answers BAD_PARAMETER 0 by the model's choice (log entry 33). -/
def Obligations.TenantCommands : Prop :=
  ∀ (s : State) (c : Cmd) (j : Job), 
    (Starts 0x0101 c s j → tenantBusy (started s c j) = false →
      let f : FnId := BitVec.ofNat 8 (param c 0 1)
      let t := started s c j
      let why := tenantFail t f (param c 8 4)
      ∃ u, exec (.tenantCreate c) s = .next u ∧
        u = if isAssigned t f then post t j (bad 0) else if 4095 < param c 2 2 then post t j (bad 2)
          else if 510 < param c 4 2 then post t j (bad 4) else if 64 < param c 6 1 then post t j (bad 6)
          else if why ≠ 0 then post t j (bad (7 + why)) else if (freeSlots t).length < param c 2 2 then post t j { status := 0x0010, detail := 1 }
          else if 64 < capSum t + param c 6 1 then post t j { status := 0x0010, detail := 2 }
          else flashCommand t j (configUnit t)) ∧
    (Starts 0x0102 c s j → tenantBusy (started s c j) = false → settingTenant (started s c j) (BitVec.ofNat 8 (param c 0 1)) = false →
      let f : FnId := BitVec.ofNat 8 (param c 0 1)
      let t := started s c j
      ∃ u, exec (.tenantRelease c) s = .next u ∧
        u = if f = 0 ∨ isAssigned t f = false then post t j (bad 0) else if param c 4 2 ≠ (fnOf t f).generation.toNat then post t j (bad 4)
          else flashCommand (resetFunction t f) j (configUnit t)) ∧
    (Starts 0x0104 c s j →
      let f : FnId := BitVec.ofNat 8 (param c 0 1)
      let t := started s c j
      (c.fn ≠ 0 → f ≠ c.fn → Answers (.tenantStatus c) s t j { status := 0x0004 }) ∧
      (c.fn = 0 ∨ f = c.fn → Answers (.tenantStatus c) s t j {
        res0 := tenStat t f, res1 := tenCfg t f
        res2 := fnState t f + (fnOf t f).generation.toNat * 2 ^ 16, res3 := slotsInUse t f + countersHeld t f * 2 ^ 16 })) ∧
    (Starts 0x0105 c s j →
      (1 < param c 0 1 → Answers (.tenantList c) s (started s c j) j (bad 0)) ∧
      (param c 0 1 ≤ 1 → ∃ r, Answers (.tenantList c) s (started s c j) j r ∧ r.status = 0 ∧ r.detail = 0 ∧
        ∀ n : Fin 32,
          let at_ := fun k => isAssigned s (BitVec.ofNat 8 (128 * param c 0 1 + k + n.val))
          bitOf r.res0 n.val = at_ 0 ∧ bitOf r.res1 n.val = at_ 32 ∧ bitOf r.res2 n.val = at_ 64 ∧ bitOf r.res3 n.val = at_ 96))

/-- R272 to R275, R299, Table 4.1. -/
def Obligations.ResetAndLifecycleCommands : Prop :=
  ∀ (s : State) (c : Cmd) (j : Job), let t := started s c j
    let sure := fun off op => param c off 2 = 0xFFFF - op
    (Starts 0x0010 c s j → (sure 0 0x0010 → Begins (.deviceReset c) s (deviceReset (post t j {}) .pcieKept 5)) ∧
      (¬sure 0 0x0010 → Answers (.deviceReset c) s t j (bad 0))) ∧
    (Starts 0x0011 c s j → (sure 0 0x0011 → Begins (.recoveryRequest c) s (deviceReset (post t j {}) .pcieKept 9)) ∧
      (¬sure 0 0x0011 → Answers (.recoveryRequest c) s t j (bad 0))) ∧
    (Starts 0x0012 c s j → param c 0 8 % 8 = 0 →
      let token := hostRead s 0 (param c 0 8) 432
      (¬sure 8 0x0012 → Answers (.debugArm c) s t j (bad 8)) ∧
      (sure 8 0x0012 → tokenFormed t token = false → Answers (.debugArm c) s t j (bad 0)) ∧
      (sure 8 0x0012 → tokenFormed t token = true →
        Begins (.debugArm c) s (deviceReset ((post t j {}).onBoot (fun b => { b with armedToken := some token })) .pcieKept 8))) ∧
    (Starts 0x0013 c s j → param c 0 8 % 8 = 0 → sure 8 0x0013 →
      let key := hostRead s 0 (param c 0 8) 97
      let begun := fun (u : State) w d => onJob (programOtp u c w) c (fun x => { x with stage := .flash, draws := key ++ d })
      (lifecycle s ≠ 1 → Answers (.provision c) s t j { status := 0x000E }) ∧
      (lifecycle s = 1 → rootNow s = rootWords key ∨ rootNow s = List.replicate 6 0 → ∀ sd u k v,
        generate t (.i 0) 32 [] = .got sd u → generate u (.i 7) 48 [] = .got k v →
        Begins (.provision c) s (begun v (if rootNow s = rootWords key then 31 else 20) (sd ++ k))) ∧
      (lifecycle s = 1 → rootNow s ≠ rootWords key → rootNow s ≠ List.replicate 6 0 → Answers (.provision c) s t j (bad 0))) ∧
    (Starts 0x0014 c s j →
      (sure 0 0x0014 → Begins (.retire c) s (retireSoon (zeroiseEntries (zeroiseAll (post t j {}) ⟨0, 0⟩ true) ⟨0, 0⟩ true))) ∧
      (¬sure 0 0x0014 → Answers (.retire c) s t j (bad 0))) ∧
    (Starts 0x0908 c s j → sure 0 0x0908 →
      (s.jobs.any (fun x => !x.isFor c) = true → Answers (.hibernate c) s t j { status := 0x000F }) ∧
      (s.jobs.any (fun x => !x.isFor c) = false → ∃ u, exec (.hibernate c) s = .next u ∧ u.power.state = .hibernate ∧ u.power.domains = 0 ∧
        u.power.vcore = 0 ∧ u.link.up = false ∧ u.link.hostMem = (post t j {}).link.hostMem ∧ u.jobs = (post t j {}).jobs ∧
        u.counters = s.counters ∧ u.spore = s.spore ∧ u.flash.otp = s.flash.otp))

/-- R314, R319, R320, R322, Tables 8.3 and 8.6. -/
def Obligations.KeysAreMade : Prop :=
  ∀ (s : State) (c : Cmd) (j : Job) (k : Nat), let t := started s c j
    let n := param c 0 2
    let tpl := param c 8 8
    newSlotNamed t c 0 n = none → slotToFill t c n = .ok k →
    (Starts 0x0201 c s j → templateOk tpl = true → attrType tpl ≤ 7 → param c 16 1 = 0 → j.rerun = false → s.medulla.wrapFailed = false →
      ∀ bs u, generate t (instOf c) (typeBytes (attrType tpl) (attrLength tpl)) [] = .got bs u →
        ∃ v, Answers (.keyGenerate c) s v j (slotReply v k) ∧ MakesKey s v c k tpl 1 bs) ∧
    (Starts 0x0203 c s j → templateOk tpl = true → attrType tpl ≤ 7 → s.medulla.wrapFailed = false →
      slotRefusal t c 2 (param c 2 2) (fun a => attrUsage a 4 && (attrType a == 2 || attrType a == 6)) = none →
        let base := slotOf s (param c 2 2)
        let key := kdf (baseKey base.key (attrLength base.attr.toNat)) (paramBytes c 16 32) (typeBytes (attrType tpl) (attrLength tpl))
        ∃ v, Answers (.keyDerive c) s v j (slotReply v k) ∧ MakesKey s v c k tpl 3 key) ∧
    (Starts 0x0202 c s j → s.medulla.wrapFailed = false → ¬(n = 2 ∧ c.fn = 0) → bufBad t c (param c 8 8) (param c 16 1) false = false →
      32 ≤ param c 16 1 → param c 16 1 ≤ 88 → param c 16 1 % 8 = 0 →
      slotRefusal t c 2 (param c 2 2) (fun a => attrUsage a 6 && (attrType a == 2 || attrType a == 7)) = none →
        let blob := Config.kwpUnwrap (slotOf s (param c 2 2)).key (bufRead t c (param c 8 8) (param c 16 1))
        (blob = none → Answers (.keyImport c) s t j { status := 0x0205 }) ∧
        ∀ p, blob = some p →
          (p.length < 8 ∨ blobOk (leNat (p.take 8)) (p.drop 8) = false → Answers (.keyImport c) s t j { status := 0x0205 }) ∧
          (8 ≤ p.length → blobOk (leNat (p.take 8)) (p.drop 8) = true →
            ∃ v, Answers (.keyImport c) s v j (slotReply v k) ∧ MakesKey s v c k (leNat (p.take 8)) 2 (p.drop 8)))

/-- R323 to R327, R890, Table 8.6. -/
def Obligations.KeysAreReadSavedAndDeleted : Prop :=
  ∀ (s : State) (c : Cmd) (j : Job), let t := started s c j
    let n := param c 0 2
    let w := param c 2 2
    let buf := param c 8 8
    (Starts 0x0205 c s j →
      (n = 0xFFFF → bufBad t c buf (2 * (infoList t c.fn w).length) true = false →
        ∃ v, Answers (.keyInfo c) s v j { res0 := (infoList t c.fn w).length } ∧
          v = bufWrite t c buf ((infoList t c.fn w).flatMap (leBytes 2))) ∧
      (n ≠ 0xFFFF → slotNamed t c 0 n [] = none → appletMay t c n = none →
        let a := if attrValid (attrOf s n) then attrOf s n else 0
        Answers (.keyInfo c) s t j {
          res0 := a % 2 ^ 32, res1 := a / 2 ^ 32, res2 := attrVersion a
          res3 := bit (recordFor s n c.fn.toNat).isSome 0 + bit (s.medulla.unloadable.contains n) 1 + bit (seedErased s) 2 })) ∧
    (Starts 0x0207 c s j → bufBad t c buf 88 true = false → slotRefusal t c 0 n (fun a => bitOf a 44) = none →
      slotRefusal t c 2 w (fun a => attrUsage a 5 && attrType a == 2) = none → s.medulla.wrapFailed = false →
        Answers (.keyExportWrapped c) s (bufWrite t c buf (wrappedForm s n w)) j { res0 := (wrappedForm s n w).length }) ∧
    (Starts 0x0206 c s j → slotRefusal t c 0 n (fun _ => true) = none →
      (attrPersistent (attrOf s n) = true → Answers (.keyPersist c) s t j { res0 := attrOf s n % 2 ^ 32, res1 := attrOf s n / 2 ^ 32 }) ∧
      (attrPersistent (attrOf s n) = false →
        (seedErased s = true → Answers (.keyPersist c) s t j { status := 0x0206 }) ∧
        (seedErased s = false → s.medulla.kek ≠ none → s.medulla.wrapFailed = false →
          (s.medulla.compacting ≠ none → Begins (.keyPersist c) s (onJob t c (fun x => { x with stage := .fetched }))) ∧
          (s.medulla.compacting = none →
            (freeRecord s = none → Answers (.keyPersist c) s t j { status := 0x0010, detail := 4 }) ∧
            ∀ i, freeRecord s = some i →
              let r := newRecord t n c.fn.toNat ((slotOf s n).attr ||| (1 <<< 9)) (slotOf s n).key
              r.slot = n ∧ r.owner = c.fn.toNat ∧
              Begins (.keyPersist c) s (onJob (flashCommand (putRecord t i r) j (recordUnit i)) c (fun x => { x with place := some i })))))) ∧
    (Starts 0x0204 c s j → slotNamed t c 0 n [] = none → appletMay t c n = none →
      (occupied t c.fn.toNat n = false → Answers (.keyDelete c) s t j { status := 0x0201 }) ∧
      (occupied t c.fn.toNat n = true → beingDeleted t n = false →
        let m := onJob t c (fun x => { x with aux := n + 1 })
        (slotInUse t n = true → Begins (.keyDelete c) s m) ∧
        (slotInUse t n = false →
          (recordFor s n c.fn.toNat = none →
            ∃ v, Answers (.keyDelete c) s v j (deleteReply s n) ∧ (slotOf v n).key = [] ∧ attrValid (attrOf v n) = false ∧
              ∀ k, k ≠ n → slotOf v k = slotOf s k) ∧
          ∀ i r, recordFor s n c.fn.toNat = some (i, r) →
            Begins (.keyDelete c) s (flashCommand m { j with aux := n + 1 } (recordUnit i)))))

/-- R365, R375 to R381, R388, R389, Table 7.3. -/
def Obligations.FrondCommandsQueueAndRun : Prop :=
  (∀ (s : State) (c : Cmd) (j : Job) (op : Nat) (i : Instr), frondRow op c = some i →
      Starts op c s j → let t := started s c j
      (∀ r, firstOf (frondChecks t op c) = some r → Answers i s t j r) ∧
      (firstOf (frondChecks t op c) = none →
        Begins i s (dispatch (onJob t c (fun x => { x with drawNeed := if (pieceOf c).flag 1 = true then (pieceOf c).ivLen else 0 }))))) ∧
    (∀ (s : State) (f : Fin 64) (j : Job), jobOn s (.frond f) = some j → mayRun s j = true → isFrondOp j.op = true →
      (j.keyed = false → exec (.frondJobDone f) s = .next s) ∧ (j.keyed = true →
      let p := pieceOf j.cmd
      let x := frondPass s j none
      exec (.frondJobDone f) s = .next (complete (runFrond s j).1 ((jobOf (runFrond s j).1 j.cmd).getD j) (runFrond s j).2) ∧
      (j.op = 0x0303 → segments j = 0 → p.flag 2 = false →
        (bufRead s j.cmd (p.side + 64) p.tagLen = tagOf j x →
          runFrond s j = (bufWrite s j.cmd p.dst (outputOf j x), { res0 := p.len % 2 ^ 32, res1 := p.len / 2 ^ 32, res2 := 1 })) ∧
        (bufRead s j.cmd (p.side + 64) p.tagLen ≠ tagOf j x → runFrond s j = (s, { status := 0x0301 }))))) ∧
    (∀ (s : State) (f : FnId) (q : PairId) (tag : BitVec 16) (j : Job), hostJob s f q tag = some j → j.stage = .waiting → j.tags = 0 →
      segments j ≠ 0 → tagsInUse s + segments j ≤ 65536 →
      exec (.segmentTagReserve f q tag) s = .next (dispatch (onJob s j.cmd (fun x => { x with tags := segments j })))) ∧
    ∀ (s : State) (c : Cmd) (j : Job), let t := started s c j
      let src := param c 8 8
      let dst := param c 16 8
      (Starts 0x0305 c s j → bufBad t c src 256 false = false → bufBad t c dst 272 true = false → s.medulla.wrapFailed = false →
        let r := bufRead t c src 256
        recordSound r = true → recField r 5 1 ∈ [1, 2, 3, 4] → slotRefusal t c 8 (recField r 8 2) (fun _ => true) = none → recordFits t r = true →
        Answers (.contextSave c) s (bufWrite t c dst (wrapRecord t c.fn r)) j { res0 := ctxId t c.fn % 2 ^ 32, res1 := ctxId t c.fn / 2 ^ 32 }) ∧
      (Starts 0x0306 c s j → bufBad t c src 272 false = false → (dst = 0 ∨ bufBad t c dst 256 true = false) → s.medulla.wrapFailed = false →
        (∀ e, unwrapRecord t c.fn (bufRead t c src 272) = .error e → Answers (.contextRestore c) s t j e) ∧
        ∀ r, unwrapRecord t c.fn (bufRead t c src 272) = .ok r → slotRefusal t c 8 (recField r 8 2) (fun _ => true) = none →
          recordFits t r = true → (dst = 0 ∨ recField r 5 1 ≤ 4) →
          let n := recField r 16 8
          Answers (.contextRestore c) s (if dst = 0 then t else bufWrite t c dst r) j {
            res0 := recField r 5 1 + recField r 6 1 * 2 ^ 8 + recField r 8 2 * 2 ^ 16
            res1 := n % 2 ^ 32, res2 := n / 2 ^ 32, res3 := recField r 12 2 % 4096 })

/-- R330, R353, R394, R395, R397, R402. -/
def Obligations.FrondEventsAndTwins : Prop :=
  ∀ (s : State),
    (∀ (u : UnitRef) (j : Job), veinNext s = some (u, j) → s.clocks.lost.getLsbD 11 = false → s.clocks.isolated.getLsbD 11 = false →
      let n := keySlot j
      let a := attrOf s n
      let key := (slotOf s n).key
      let served := s.onMedulla (fun m => { m with veinTurn := (unitKey u + 1) % 70, veinSeq := m.veinSeq + 1 })
      let fails := SMap.get 0 j.veinFails (unitKey u)
      (∀ r, loadRefused s j = some r → ∀ bs c, exec (.veinLoad bs c) s = .next (complete s j r)) ∧
      (loadRefused s j = none →
        (key.length = typeBytes (attrType a) (attrLength a) → key.length ≤ 8 * payloadBeats (attrType a) → segments j = 0 →
          exec (.veinLoad (veinPayload s n) (veinTail s n u)) s = .next (onJob served j.cmd (fun _ => { j with
            copies := (unitKey u, key) :: j.copies, veinFails := SMap.set 0 j.veinFails (unitKey u) 0 }))) ∧
        ∀ (bs : List VeinBeat) (c : VeinBeat), (bs.length ≠ payloadBeats (attrType a) ∨ (∃ b ∈ bs ++ [c], b.parity ≠ parityOf b.data) ∨
            c.data ≠ veinCheck (bs.map (·.data)) n u s.medulla.veinSeq) →
          (2 ≤ fails → exec (.veinLoad bs c) s = .next (dispatch (failUnit served u 3))) ∧
          (fails < 2 → exec (.veinLoad bs c) s = .next (onJob served j.cmd (fun x => { x with
            veinFails := SMap.mod 0 x.veinFails (unitKey u) (· + 1) }))))) ∧
    (∀ (f m : Fin 64) (n : BitVec 16) (p1 p2 : Bool) (j : Job), jobOn s (.frond f) = some j → j.twin = some m →
      let a := afterMismatch (afterMismatch (onJob s j.cmd (fun x => { x with pairs := x.pairs + 1 })) f p1) m p2
      let b := if p1 ∧ p2 then append a 0x0302 (0x1000 + f.val) (f.val + m.val * 2 ^ 8 + n.toNat * 2 ^ 16 + 2 ^ 32) else a
      let d := onJob (refund (giveBack b j) j.cmd 0) j.cmd Job.again
      (j.pairs < 2 → exec (.twinMismatch f n p1 p2) s = .next (dispatch d)) ∧
      (2 ≤ j.pairs → exec (.twinMismatch f n p1 p2) s = .next (complete d { j with stage := .waiting, twin := none, rerun := true }
        { status := 0x0011, detail := 1 }))) ∧
    (∀ (f : Fin 64) (cause : Fin 8), cause.val ≠ 0 →
      frondState s f = .inService ∨ frondState s f = .testing ∨ frondState s f = .borrowed →
      exec (.frondFailed f cause) s = .next (dispatch (failFrond s f cause.val)) ∧ (frondState (failFrond s f cause.val) f) = .failed) ∧
    (∀ (n : Fin 4) (j : Job), jobOn s (.slice n) = some j → wantsBorrow j = true → mayRun s j = true →
      exec (.frondBorrow n) s = .next (dispatch s)) ∧
    ∀ (u : UnitRef) (j : Job), (∀ n, u ≠ .pinna n) → running s = true → s.power.quiesced = false → occupant s u = some j → reaches s j u = true →
      let point := fun (x : State) => preemptionPoint x j u
      (∀ n, u = .frond n → exec (.preemptionPoint u) s = .next (point s)) ∧
      (∀ n, u = .calyptra n → exec (.preemptionPoint u) s = .next (latticePoint (point s) j u)) ∧
      (∀ n, u = .slice n → exec (.preemptionPoint u) s = .next
        (if sorusOff s = true then dispatch (latticePoint s j u) else point (latticePoint s j u))) ∧
      (sharedPoint j u = [u] → (unitOf s u).forced = true → slotFree s u = true → slotFree (preempt s j u) u = true →
        point s = startTest (preempt s j u) u (unitOf (preempt s j u) u).why) ∧
      ((∀ v ∈ sharedPoint j u, (unitOf s v).forced = false) → (∀ v ∈ sharedPoint j u, holdsPreempted s v = false) →
        (overCap s j u = true → point s = dispatch (preempt s j u)) ∧
        (overCap s j u = false → classOf s j.cmd = 0 → point s = s) ∧
        (classOf s j.cmd ≠ 0 →
          (∀ k, urgentFor s u = some k →
            point s = match u with
              | .frond _ => if mostHeld s = some j.cmd.fn then takeUnit s j k u else s
              | _ => takeUnit s j k u) ∧
          (∀ n k, u = .frond n → urgentFor s u = none → reclaimFor s j = some k → point s = takeUnit s j k u)))

/-- R420 to R444. -/
def Obligations.PublicKeyCommands : Prop :=
  (∀ (s : State) (c : Cmd) (j : Job) (op : Nat) (i : Instr), pkRow op c = some i → Starts op c s j → let t := started s c j
      (∀ r, firstOf (pkChecks t op c) = some r → Answers i s t j r) ∧
      (firstOf (pkChecks t op c) = none →
        Begins i s (dispatch (onJob t c (fun x => { x with drawNeed := drawBytes op (pkOf c) }))))) ∧
    (∀ (s : State) (n : Fin 2) (j : Job), jobOn s (.calyptra n) = some j → mayRun s j = true → isCalyptraOp j.op = true →
      (j.keyed = false ∨ j.lattice = .due → ∀ a b, exec (.calyptraJobDone n a b) s = .next s) ∧ (j.keyed = true → j.lattice ≠ .due →
      exec (.calyptraJobDone n true true) s = .next (complete (runPk s j).1 j (runPk s j).2) ∧
      exec (.calyptraJobDone n false true) s = .next (dispatch (backInService (abandon s j) (.calyptra n))) ∧
      exec (.calyptraJobDone n false false) s = .next (dispatch (failUnit s (.calyptra n) 2))) ∧
      (isVerify j.op (pkOf j.cmd) = true → j.op ≠ 0x0401 → operandRefused j.op (pkOf j.cmd) [] (pkInputs s j.op j.cmd (pkOf j.cmd)) = none →
        (runPk s j).1 = s ∧
        ((runPk s j).2 = { res1 := 0xFFFF, res2 := 1 } ∨ (runPk s j).2 = { status := 0x0401, res1 := 0xFFFF })))

/-- R448 to R476. -/
def Obligations.RingCommands : Prop :=
  (∀ (s : State) (c : Cmd) (j : Job), let t := started s c j
      let m := modSet t c
      let fits := fun bytes => granulesFor bytes ≤ 240
      let al := fun k => param c k 8 % 8 = 0
      let kept := fun (u : State) (ds : List (Nat × Nat)) (n : Nat) => onJob (keepDescs u c (modSetSpan u c :: ds)) c (fun x => { x with need := n })
      c.issuer = .host → slicesGone t = none → al 0 → al 8 →
      (Starts 0x0501 c s j → al 24 → al 32 → 1 ≤ param c 16 2 → param c 16 2 ≤ 64 → 1 ≤ param c 18 1 → param c 18 1 ≤ 16 → param c 19 1 ≤ 16 →
        (∀ r, ringRefused t c = some r → Answers (.sorusKernel c) s t j r) ∧
        (ringRefused t c = none →
          (∀ r, programRefused t c = some r → Answers (.sorusKernel c) s t j r) ∧
          (programRefused t c = none → let w := ((opnds t c).map (·.limbs)).sum * limbSize m
            (¬fits w → Answers (.sorusKernel c) s t j { status := 0x0503 }) ∧
            (fits w → Begins (.sorusKernel c) s
              (kept t [(param c 8 8, 8 * param c 16 2), (param c 24 8, 16 * param c 18 1), (param c 32 8, 8 * param c 19 1)] 0))))) ∧
      (Starts 0x0502 c s j → al 16 → al 24 → ringRefused t c = none → 1 ≤ param c 34 1 → param c 34 1 ≤ m.l → 1 ≤ param c 35 1 → param c 35 1 ≤ param c 34 1 →
        (param c 40 8 ≠ keyBytes m (param c 34 1) (param c 35 1) → Answers (.sorusKeyswitch c) s t j (bad 40)) ∧
        (param c 40 8 = keyBytes m (param c 34 1) (param c 35 1) → slotRefusal t c 32 (param c 32 2) (streamSlot 1) = none →
          fits ((4 * param c 34 1 + 3 * m.k) * limbSize m + 65536) →
          Begins (.sorusKeyswitch c) s (kept t [] (switchChunks m (param c 34 1) (param c 35 1))))) ∧
      (Starts 0x0503 c s j → al 16 → al 24 → ringRefused t c = none →
        (∀ r, refreshRefused t c = some r → Answers (.sorusRefresh c) s t j r) ∧
        (refreshRefused t c = none → slotRefusal t c 32 (param c 32 2) (streamSlot 1) = none →
          fits ((8 * (rdesc t c).lTop + 3 * m.k) * limbSize m + 65536) →
          Begins (.sorusRefresh c) s (kept t [(param c 24 8, 16 + 32 * (rdesc t c).ops)]
            ((refreshSwitches t c).map (fun y => switchChunks m y.1 (rdesc t c).d)).sum))) ∧
      (Starts 0x0504 c s j → al 16 → al 24 → ringRefused t c = none → 1 ≤ param c 34 1 → param c 34 1 ≤ m.l → param c 35 1 = 0 →
        fits (6 * param c 34 1 * limbSize m + 65536) →
        Begins (.sorusEncrypt c) s (kept (onJob t c (fun x => { x with drawNeed := 32 })) [] 0))) ∧
    (∀ (s : State) (f : FnId) (q : PairId) (tag : BitVec 16) (j : Job), hostJob s f q tag = some j → j.stage = .waiting → isSliceOp j.op = true →
      j.reserved = false → let n := granulesFor (workingSet s j)
      n ≤ (freeGranules s).length →
        exec (.scratchReserve f q tag) s = .next (dispatch (onJob s j.cmd (fun x => { x with granules := (freeGranules s).take n, reserved := true })))) ∧
    ∀ (s : State) (k : Fin 4) (j : Job), jobOn s (.slice k) = some j → mayRun s j = true →
      (loanAtWork s j = true → j.chunks < j.need → ∀ b e stop, nextChunk s j = some (b, e, stop) →
        (chunkOk (modSet s j.cmd) (streamKey s j.cmd) e b = false →
          exec (.kskChunk k) s = .next (complete s j { status := 0x0504, detail := j.chunks })) ∧
        (chunkOk (modSet s j.cmd) (streamKey s j.cmd) e b = true → j.chunks + 1 ≠ stop → sorusOff s = false →
          let m := onJob s j.cmd (fun x => { x with chunks := j.chunks + 1 })
          (ownLattice s = true ∨ latticeDue s = [] → exec (.kskChunk k) s = .next m) ∧
          (ownLattice s = false → exec (.kskChunk k) s = .next (latticeAt m k)))) ∧
      (isSliceOp j.op = true → sorusOff s = false →
        (sliceJobReady s j = true →
          exec (.sorusJobDone k true true) s = .next (settleCloses (complete (runSlice s j).1 j (runSlice s j).2))) ∧
        exec (.sorusJobDone k false true) s = .next (dispatch (backInService (abandon s j) (.slice k))) ∧
        exec (.sorusJobDone k false false) s = .next (dispatch (failUnit s (.slice k) 2)))

/-- R477 to R485, Table 11.12. A register of the session is held as its value (log entry 40). -/
def Obligations.ShareCommands : Prop :=
  (∀ (s : State) (c : Cmd) (j : Job), let t := started s c j
      let x := s.engines.share
      (Starts 0x0505 c s j → 2 ≤ param c 0 1 → param c 0 1 ≤ 4 → partiesRefused t c = none → 1 ≤ param c 6 2 → param c 6 2 ≤ 1024 →
        bufBad t c (param c 8 8) (param c 16 2) false = false → 16 ≤ param c 16 2 → param c 16 2 ≤ 2048 → param c 16 2 % 8 = 0 →
        c.fn ∈ openParties c → x.isOpen = false → slicesGone t = none →
        let prog := progWords (bufRead t c (param c 8 8) (param c 16 2))
        (∀ o, shareProgFail (param c 0 1) prog 0 [] [] = some o → Answers (.shareOpen c) s t j (badDesc 5 o)) ∧
        (shareProgFail (param c 0 1) prog 0 [] [] = none → ∀ seed u, generate t (.i 4) 32 [] = .got seed u →
          ∃ v r, Answers (.shareOpen c) s v j r ∧ r.status = 0 ∧ r.res0 = v.engines.share.session ∧ v.engines.share.isOpen = true ∧
            v.engines.share.session = (x.opened + 1) % 2 ^ 16 + c.fn.toNat * 2 ^ 16 ∧ v.engines.share.parties = openParties c ∧
            v.engines.share.vlen = param c 6 2 ∧ v.engines.share.prog = prog ∧ v.engines.share.filled = [] ∧ v.engines.share.computed = false)) ∧
      (x.isOpen = true → param c 0 4 = x.session → c.fn ∈ x.parties → x.closing = false → slicesGone t = none →
        let toSlice := fun (u : State) (n : Nat) => dispatch (onJob u c (fun y => { y with reserved := true, need := n }))
        (Starts 0x0506 c s j → param c 4 1 ≤ 15 → inputParty s (param c 4 1) = some (partyIndex s c.fn) →
          bufBad t c (param c 8 8) (shareBuf s) false = false → param c 16 4 = shareBuf s → paramBytes c 20 32 = (shareDigest s).take 32 →
          slotRefusal t c 6 (param c 6 2) (streamSlot 1) = none → param c 4 1 ∉ x.filled →
          t.jobs.any (fun k => k.op == 0x0506 && k.stage != .fetched && !k.isFor c && param k.cmd 4 1 == param c 4 1) = false →
          Begins (.shareInput c) s (toSlice t 1)) ∧
        (Starts 0x0507 c s j → x.computed = false → t.jobs.any (fun k => k.op == 0x0507 && k.stage != .fetched && !k.isFor c) = false →
          (missingInputs s ≠ 0 → Answers (.shareCompute c) s t j { status := 0x0502, detail := missingInputs s }) ∧
          (missingInputs s = 0 → Begins (.shareCompute c) s (toSlice t 0))) ∧
        (Starts 0x0508 c s j → param c 4 1 ≤ 15 → partyIndex s c.fn ∈ outputParties s (param c 4 1) →
          bufBad t c (param c 8 8) (shareBuf s) true = false → slotRefusal t c 6 (param c 6 2) (streamSlot 0) = none →
          (x.computed = false → Answers (.shareReveal c) s t j { status := 0x0502, detail := missingInputs s + 2 ^ 61 }) ∧
          (x.computed = true → Begins (.shareReveal c) s (toSlice (onJob t c (fun y => { y with drawNeed := 12 })) 1))) ∧
        (Starts 0x0509 c s j →
          (shareRunning t = true → ∃ v, exec (.shareClose c) s = .next v ∧ v.engines.share = { x with closing := true }) ∧
          (shareRunning t = false → ∃ v, Answers (.shareClose c) s v j {} ∧ v.engines.share.isOpen = false))) ∧
      (x.isOpen = false → param c 0 2 ≠ 0 → param c 0 2 ≤ x.opened → Starts 0x0509 c s j →
        Answers (.shareClose c) s t j { status := 0x0502, detail := 2 ^ 62 + bit x.memFault 63 })) ∧
    ∀ (x : Share) (w : U64) (k : Nat),
      let at_ := fun (v : List U64) (n : Nat) => v.getD n 0
      let a := shareReg x (insA w)
      let b := shareReg x (insB w)
      let d := shareReg (runIns x w) (insDst w)
      a.length = x.vlen → b.length = x.vlen → k < x.vlen →
      (insOp w = 1 → at_ d k = at_ a k + at_ b k) ∧ (insOp w = 2 → at_ d k = at_ a k - at_ b k) ∧
      (insOp w = 3 → at_ d k = at_ a k * insSx w) ∧ (insOp w = 4 → at_ d k = at_ a k * at_ b k) ∧
      (insOp w = 5 → at_ d k = if k = 0 then a.sum else 0) ∧ (insOp w = 6 → at_ d k = at_ a k + insSx w)

/-- R501 to R529, Table 12.3. -/
def Obligations.RandomCommandsAndSources : Prop :=
  (∀ (s : State) (c : Cmd) (j : Job), let t := started s c j
      (Starts 0x0601 c s j → bufBad t c (param c 0 8) (param c 8 4) true = false → 1 ≤ param c 8 4 → param c 8 4 ≤ 65536 → param c 12 1 ≤ 1 → j.rerun = false →
        ∀ bs u, generate t (instOf c) (param c 8 4) (if param c 12 1 = 1 then paramBytes c 16 32 else []) = .got bs u →
          Answers (.random c) s (bufWrite (onJob u c (fun x => { x with draws := bs })) c (param c 0 8) bs) j { res0 := param c 8 4 }) ∧
      (Starts 0x0602 c s j →
        (1 < param c 0 1 → Answers (.reseed c) s t j (bad 0)) ∧
        (isApplet c = true → param c 0 1 ≤ 1 → Answers (.reseed c) s t j { status := 0x0004 }) ∧
        (isApplet c = false → param c 0 1 ≤ 1 →
          (entropyFailed s = true ∨ s.entropy.rawMode = true → Answers (.reseed c) s t j { status := 0x0601 }) ∧
          (entropyFailed s = false → s.entropy.rawMode = false → blockReady s = false →
            Begins (.reseed c) s (onJob t c (fun x => { x with stage := .fetched }))) ∧
          (entropyFailed s = false → s.entropy.rawMode = false → blockReady s = true →
            let v := reseed t (.f c.fn) (if param c 0 1 = 1 then paramBytes c 8 32 else [])
            Answers (.reseed c) s v j { res0 := (drbgOf v (.f c.fn)).reseeds % 2 ^ 32 } ∧ (drbgOf v (.f c.fn)).requests = 0))) ∧
      (Starts 0x0603 c s j → let d := drbgOf s (instOf c)
        Answers (.entropyStatus c) s t j {
          res0 := sourceMask (feeding s) + sourceMask (retiredSources s) * 2 ^ 4 + bit s.entropy.rawMode 8 + bit s.entropy.pattern.isSome 9 +
            bit (entropyFailed s || s.entropy.rawMode) 10
          res1 := s.entropy.healthFailures % 2 ^ 32, res2 := d.requests % 2 ^ 32, res3 := (s.clocks.seta - d.lastReseed) / 100000 % 2 ^ 32 }) ∧
      (Starts 0x0604 c s j →
        (param c 0 1 = 0 → Answers (.rawMode c) s (leaveRaw t) j {}) ∧
        (param c 0 1 = 1 → rawAllowed s = false → Answers (.rawMode c) s t j { status := 0x000E }) ∧
        (param c 0 1 = 1 → rawAllowed s = true → ∃ v, Answers (.rawMode c) s v j {} ∧ v.entropy.rawMode = true ∧ v.entropy.pattern = none) ∧
        (2 ≤ param c 0 1 → param c 0 1 ≤ 3 → lifecycle s = 1 → bufBad t c (param c 8 8) 64 false = false →
          ∃ v, Answers (.rawMode c) s v j {} ∧ v.entropy.rawMode = false ∧ v.entropy.pattern = some (bufRead t c (param c 8 8) 64))) ∧
      (Starts 0x0605 c s j → param c 0 1 ≤ 3 → bufBad t c (param c 8 8) (param c 16 4) true = false → 1 ≤ param c 16 4 → param c 16 4 ≤ 65536 →
        (s.entropy.rawMode = false → Answers (.rawRead c) s t j { status := 0x000E }) ∧
        (s.entropy.rawMode = true → ∃ v r, Answers (.rawRead c) s v j r ∧ r.status = 0 ∧ r.res0 = param c 16 4 ∧
          v.entropy = { s.entropy with rawTaken := s.entropy.rawTaken + 1 }))) ∧
    ∀ (s : State) (n : Fin 4), let x := sourceState s n.val
      let kept := x.failures.filter (fun k => s.clocks.seta < k + 100000000)
      (x.inService = true → x.retired = false → islandWorks s 12 = true →
        (∀ adaptive, ∃ t, exec (.entropyHealth n adaptive) s = .next t ∧ (sourceState t n.val).inService = false ∧
          ((sourceState t n.val).retired = true ↔ 2 ≤ kept.length) ∧ t.entropy.healthFailures = s.entropy.healthFailures + 1 ∧
          t.entropy.repFails = s.entropy.repFails + (if adaptive then 0 else 1) ∧ t.entropy.adaptFails = s.entropy.adaptFails + (if adaptive then 1 else 0) ∧
          (s.entropy.rawMode = false → t.entropy.badBlock = s.entropy.badBlock ||| ((1 : BitVec 4) <<< n.val)) ∧
          ∀ m, m ≠ n.val → sourceState t m = sourceState s m) ∧
        (s.entropy.rawMode = false → exec (.entropyBlock n) s = .next (s.onEntropy (fun e => { e with
          badBlock := e.badBlock &&& ~~~((1 : BitVec 4) <<< n.val), next := (n.val + 1) % 4
          taken := if e.badBlock.getLsbD n.val then e.taken + 1 else e.taken })))) ∧
      (x.inService = false → x.retired = false → running s = true → islandWorks s 12 = true → ∀ pass, ∃ t, exec (.startUpTestDone n pass) s = .next t ∧
        (sourceState t n.val).inService = pass ∧ (sourceState t n.val).retired = !pass ∧ ∀ m, m ≠ n.val → sourceState t m = sourceState s m) ∧
      ∀ k : Inst, (∀ u, k ≠ .inv u) → (drbgOf s k).live = true → (65536 ≤ (drbgOf s k).requests ∨ (drbgOf s k).blocked = true) →
        (entropyFailed s = false → s.entropy.rawMode = false → blockReady s = true → exec (.reseedDue k) s = .next (reseed s k [])) ∧
        (entropyFailed s = true ∨ s.entropy.rawMode = true → (drbgOf s k).blocked = false →
          exec (.reseedDue k) s = .next (raiseWaking (onDrbg s k (fun d => { d with blocked := true })) [63]))

/-- R591 to R614, Table 14.4. -/
def Obligations.CounterCommands : Prop :=
  (∀ (s : State) (c : Cmd) (j : Job), let t := started s c j
      let n := param c 0 2
      (Starts 0x0702 c s j →
        (param c 2 1 = 0 → n ≤ 511 → 2 ≤ n → holdsCounter s c.fn n = false → Answers (.counterRead c) s t j { status := 0x0702 }) ∧
        (param c 2 1 = 0 → n ≤ 511 → (n < 2 ∨ holdsCounter s c.fn n = true) → let v := counterValue s.counters n
          let spent := counterSpent s.counters n
          Answers (.counterRead c) s t j {
            res0 := v, res1 := bit spent 0 + bit (backupAgrees s.counters n) 1, res2 := if spent then 0 else 0x03D2D2D3 - v }) ∧
        (param c 2 1 = 1 → n ≤ 15 → c.fn ≠ 0 → Answers (.counterRead c) s t j { status := 0x0004 }) ∧
        (param c 2 1 = 1 → n ≤ 15 → c.fn = 0 → isApplet c = false → ∃ r, Answers (.counterRead c) s t j r ∧ r.status = 0 ∧
          r.res0 = sporeCounter s n ∧ (r.res1 % 2 = 1 ↔ sporeCounter s n = 0xFFFFFF) ∧ r.res2 = 0xFFFFFF - sporeCounter s n)) ∧
      (Starts 0x0703 c s j → n ≤ 511 →
        (n < 2 → Answers (.counterIncrement c) s t j { status := 0x0004 }) ∧
        (2 ≤ n → holdsCounter s c.fn n = false → Answers (.counterIncrement c) s t j { status := 0x0702 }) ∧
        (2 ≤ n → holdsCounter s c.fn n = true → counterSpent s.counters n = true → Answers (.counterIncrement c) s t j { status := 0x0701 }) ∧
        (2 ≤ n → holdsCounter s c.fn n = true → counterSpent s.counters n = false →
          t.jobs.any (fun x => x.op == 0x0703 && x.stage == .flash && x.aux == n + 1) = false →
          (rollsForward s.counters n = true → incrementCounter s.counters n = none → Answers (.counterIncrement c) s t j { status := 0x0010, detail := 8 }) ∧
          ((rollsForward s.counters n = false ∨ incrementCounter s.counters n ≠ none) →
            Begins (.counterIncrement c) s (onJob (flashCommand t j (counterUnit t n)) c (fun x => { x with aux := n + 1 }))))) ∧
      (Starts 0x0701 c s j →
        (n ≠ 0xFFFF → (n < 2 ∨ 511 < n ∨ counterFree t n = false) → Answers (.counterAlloc c) s t j (bad 0)) ∧
        (2 ≤ n → n ≤ 511 → counterFree t n = true → c.fn = 0 → baseOf s.counters n ≠ none →
          Begins (.counterAlloc c) s (onJob (flashCommand t j (configUnit t)) c (fun x => { x with aux := n + 1 })))) ∧
      (Starts 0x0704 c s j → let f : FnId := BitVec.ofNat 8 (param c 1 1)
        (param c 0 1 ≤ 3 → c.fn ≠ 0 → f ≠ c.fn → Answers (.counterList c) s t j { status := 0x0004 }) ∧
        (param c 0 1 ≤ 3 → (c.fn = 0 ∨ f = c.fn) → ∃ r, Answers (.counterList c) s t j r ∧ r.status = 0 ∧ ∀ k : Fin 32,
          let at_ := fun o => holdsCounter s f (128 * param c 0 1 + o + k.val)
          bitOf r.res0 k.val = at_ 0 ∧ bitOf r.res1 k.val = at_ 32 ∧ bitOf r.res2 k.val = at_ 64 ∧ bitOf r.res3 k.val = at_ 96))) ∧
    ∀ (s : State) (j : Job) (n : Nat), j.aux = n + 1 → ∀ k, incrementCounter s.counters n = some k →
      (commitIncrement s j).1.counters.blocks = k.blocks ∧ (commitIncrement s j).2.status = 0 ∧
      (commitIncrement s j).2.res0 = counterValue (commitIncrement s j).1.counters n

/-- R285 to R289, R751, R757, R760, Table 17.13. -/
def Obligations.LogAndTimeCommands : Prop :=
  ∀ (s : State) (c : Cmd) (j : Job), let t := started s c j
    let buf := param c 8 8
    let newest := newestSeq s
    (Starts 0x0801 c s j → Answers (.timeRead c) s t j {
      res0 := (bootEpoch s).toNat, res1 := s.clocks.seta % 2 ^ 32, res2 := s.clocks.seta / 2 ^ 32 % 2 ^ 32 }) ∧
    (Starts 0x0802 c s j →
      (∀ r, noteRefused t = some r → Answers (.anchorRecord c) s t j r) ∧
      (noteRefused t = none → Answers (.anchorRecord c) s (appendNote t {
          epoch := bootEpoch s, seta := s.clocks.seta, kind := 2, type := 0x0004, source := 0x0500, detail := param c 0 8 }) j {
        res0 := s.log.seq.toNat, res1 := s.clocks.seta % 2 ^ 32, res2 := s.clocks.seta / 2 ^ 32 % 2 ^ 32 })) ∧
    (Starts 0x0807 c s j →
      (∀ r, noteRefused t = some r → Answers (.logNote c) s t j r) ∧
      (noteRefused t = none → Answers (.logNote c) s (append t 0x0005 (sourceOf t c) (param c 0 8)) j { res0 := s.log.seq.toNat })) ∧
    (s.log.noChain = false → logFree s = 0 → noteRefused s = some { status := 0x0801 }) ∧
    (Starts 0x0803 c s j → Answers (.logInfo c) s t j {
      res0 := 0, res1 := newest, res2 := logSlots s + logFree s * 2 ^ 16
      res3 := bit (noteRefused s).isSome 0 + bit (bitOf (sporeWord s 48).toNat 2) 1 + s.flash.extensions * 2 ^ 4 }) ∧
    (Starts 0x0804 c s j → let first := param c 0 4
      let n := param c 4 2
      1 ≤ n → n ≤ 1024 → bufBad t c buf (48 * n) true = false →
      (s.log.seq ≠ 0 → first + n - 1 ≤ newest →
        (programOn s 2 = true → Begins (.logRead c) s (onJob (raise t [79]) c (fun x => { x with stage := .fetched }))) ∧
        (programOn s 2 = false → let u := suspendErase t 2 false
          let qs := (List.range n).map (· + first)
          Answers (.logRead c) s (bufWrite u c buf (qs.flatMap (logBytes u))) j { res0 := (qs.filter (readable u)).length })) ∧
      ((s.log.seq = 0 ∨ newest < first + n - 1) → Answers (.logRead c) s t j { status := 0x0802, detail := newest * 2 ^ 32 })) ∧
    (Starts 0x0805 c s j → let first := param c 0 4
      let last := param c 4 4
      bufBad t c buf (param c 16 4) true = false → s.log.seq ≠ 0 → first ≤ last → last ≤ newest →
      (param c 16 4 < 776 + 48 * (last + 1 - first) → Answers (.logExport c) s t j (bad 16)) ∧
      (776 + 48 * (last + 1 - first) ≤ param c 16 4 → attrValid (attrOf s 0) = true → (unitOf s (.calyptra 0)).st = .inService →
        programOn s 2 = false → ∀ k u, generate (suspendErase t 2 false) (.i 7) 48 [] = .got k u →
          let body := exportBody u first last (paramBytes c 20 16)
          let out := body ++ Config.ecdsaSign 384 (slotOf u 0).key k body
          Answers (.logExport c) s (append (bufWrite u c buf out) 0x0008 0 (first + last * 2 ^ 32)) j { res0 := out.length })) ∧
    (Starts 0x0806 c s j → let n := param c 0 1
      ((n = 0 ∨ 4 < n ∨ 4 < s.flash.extensions + n) → Answers (.logExtend c) s t j (bad 0)) ∧
      (1 ≤ n → s.flash.extensions + n ≤ 4 →
        (48 < 12 * (s.flash.extensions + n) + poolTaken s → Answers (.logExtend c) s t j { status := 0x0010, detail := 3 }) ∧
        (12 * (s.flash.extensions + n) + poolTaken s ≤ 48 → s.flash.ops.all (fun o => o.unit.kind != 3) = true →
          Begins (.logExtend c) s (onJob (openFlash t ⟨3, targetCopy t⟩ true (.command c)) c (fun x => { x with stage := .flash })))))

/-- R84, R290 to R303, Table 7.10. -/
def Obligations.PoolAndPowerCommands : Prop :=
  ∀ (s : State) (c : Cmd) (j : Job), let t := started s c j
    let us := unitsOfKind (param c 0 1) (param c 1 1)
    (Starts 0x0901 c s j → let k := param c 0 1
      (2 < k → Answers (.poolStatus c) s t j (bad 0)) ∧
      (k ≤ 1 → ∃ r, Answers (.poolStatus c) s t j r ∧ r.status = 0 ∧ ∀ n : Fin 8,
        let st := fun (o : Nat) => (if h : 32 * k + o + n.val < 64 then (frondState s ⟨32 * k + o + n.val, h⟩).code else 0)
        bitsOf r.res0 (4 * n.val) 4 = st 0 ∧ bitsOf r.res1 (4 * n.val) 4 = st 8 ∧ bitsOf r.res2 (4 * n.val) 4 = st 16 ∧ bitsOf r.res3 (4 * n.val) 4 = st 24)) ∧
    (Starts 0x0902 c s j → unitNamed (param c 0 1) (param c 1 1) = none →
      (us.any (fun u => (unitOf s u).st == .out || (unitOf s u).st == .shed) = true → Answers (.unitOut c) s t j { status := 0x0901 }) ∧
      (us.any (fun u => (unitOf s u).st == .out || (unitOf s u).st == .shed) = false →
        (param c 0 1 < 2 → frondsLeft s us = 0 → Answers (.unitOut c) s t j { status := 0x0902 }) ∧
        ((2 ≤ param c 0 1 ∨ frondsLeft s us ≠ 0) → us.any (fun u => (unitOf s u).forced || inSlot s u) = false →
          let gone := us.foldl takeOut t
          let v := dispatch (if param c 0 1 < 2 then poolChanged gone else gone)
          Answers (.unitOut c) s v j { res0 := (us.head?.map (fun u => (unitOf s u).st.code)).getD 0, res1 := poolStatus v } ∧
          ∀ u ∈ us, (unitOf gone u).st = .out) ∧
        ((2 ≤ param c 0 1 ∨ frondsLeft s us ≠ 0) → us.any (fun u => (unitOf s u).forced || inSlot s u) = true →
          Begins (.unitOut c) s (onJob t c (fun x => { x with stage := .fetched }))))) ∧
    (Starts 0x0903 c s j → unitNamed (param c 0 1) (param c 1 1) = none →
      (us.any (fun u => (unitOf s u).st != .out) = true → Answers (.unitReturn c) s t j { status := 0x0901 }) ∧
      (us.any (fun u => (unitOf s u).st != .out) = false → ∃ v, exec (.unitReturn c) s = .next v ∧
        (∀ u ∈ us, (unitOf v u).st = .testing ∧ (unitOf v u).why = .returning) ∧ ∀ u, u ∉ us → unitOf v u = unitOf s u)) ∧
    (Starts 0x0904 c s j → let cap := param c 0 2
      let idle := param c 2 2
      ((cap < 30 ∨ 115 < cap) → Answers (.powerSet c) s t j (bad 0)) ∧
      (30 ≤ cap → cap ≤ 115 → (idle = 0 ∨ 1000 < idle) → Answers (.powerSet c) s t j (bad 2)) ∧
      (30 ≤ cap → cap ≤ 115 → 1 ≤ idle → idle ≤ 1000 → param c 4 1 ≤ 1 → (commitReg s (commitKey .power)).busy = false →
        Begins (.powerSet c) s (onJob (commitGo (onCommit (stageGroup t .power (cap + idle * 2 ^ 8 + param c 4 1 * 2 ^ 18)) (commitKey .power)
          (fun r => { r with rejected := false })) .power) c (fun x => { x with aux := commitKey .power + 1, aux2 := 0 })))) ∧
    (Starts 0x0907 c s j → (commitReg s (commitKey .sched)).busy = false →
      Begins (.schedSet c) s (onJob (commitGo (onCommit (stageGroup t .sched (param c 0 4)) (commitKey .sched)
        (fun r => { r with rejected := false })) .sched) c (fun x => { x with aux := commitKey .sched + 1, aux2 := 0 }))) ∧
    (Starts 0x0905 c s j → ∃ r, Answers (.powerStatus c) s t j r ∧ r.status = 0 ∧ r.res0 = rhzStatus s ∧
      r.res1 = effectiveCap s + custodianCap s * 2 ^ 8 + budgetMw s / 100 % 256 * 2 ^ 16 + s.power.allowance * 2 ^ 24 ∧
      ∀ g : Fin 16, bitOf r.res3 g.val = domainOn s g.val) ∧
    (Starts 0x0906 c s j →
      (∀ d, offFail t (param c 0 8) = some d → Answers (.domainSet c) s t j (bad (d / 8))) ∧
      (offFail t (param c 0 8) = none → s.power.offNext = none →
        Begins (.domainSet c) s (t.onPower (fun p => { p with offNext := some (BitVec.ofNat 64 (param c 0 8)) })))) ∧
    (Starts 0x0D01 c s j → ∃ r, Answers (.healthStatus c) s t j r ∧ r.status = 0 ∧
      (bitOf r.res0 19 = true ↔ s.health.istDisabled = false ∧ s.pinnas.split = false ∧ s.power.vinInRange = true) ∧
      r.detail = s.clocks.retransmissions % 2 ^ 32 + s.health.doubles % 2 ^ 32 * 2 ^ 32 ∧ r.res2 = s.health.scrubPasses % 2 ^ 32) ∧
    (Starts 0x0D02 c s j → param c 0 1 ≤ 3 → us ≠ [] →
      (selfTested s (param c 0 1) (param c 1 1) = [] → Answers (.selfTest c) s t j { status := 0x0901 }) ∧
      (selfTested s (param c 0 1) (param c 1 1) ≠ [] → ∃ v, exec (.selfTest c) s = .next v ∧
        ∀ u ∈ selfTested s (param c 0 1) (param c 1 1), (unitOf v u).forced = true ∨ (unitOf v u).st = .testing)) ∧
    (Starts 0x0D03 c s j → param c 0 1 ≤ 1 →
      (lifecycle s ≠ 1 → Answers (.istControl c) s t j { status := 0x0D02 }) ∧
      (lifecycle s = 1 → Answers (.istControl c) s (t.onHealth (fun h => { h with istDisabled := decide (param c 0 1 = 1) })) j {
        res0 := 1 - param c 0 1 }))

/-- R583, R584, R690 to R693, R709 to R713, Tables 13.7 and 16.8. -/
def Obligations.UpdateAndFlashCommands : Prop :=
  (∀ (s : State) (c : Cmd) (j : Job), let t := started s c j
      let pkg := param c 0 8
      let fl := param c 8 1
      (Starts 0x0A01 c s j → fl ≤ 3 → 1 ≤ fl → pkg % 8 = 0 → (fl % 2 = 0 → pkg = 0) → param c 10 2 = 0xFFFF - 0x0A01 →
        let m := if fl % 2 = 1 then manifestOf (hostRead s 0 pkg 512) else runningManifest t
        let no := fun st : Nat => Answers (.updateStart c) s t j { status := st }
        (s.update.state ≠ 0 → no 0x0A04) ∧
        (s.update.state = 0 → floorSpent t = true → no 0x0A03) ∧
        (s.update.state = 0 → floorSpent t = false → m.ok = false → no 0x0A05) ∧
        (s.update.state = 0 → floorSpent t = false → m.ok = true → m.svn < floorValue t → no 0x0A02) ∧
        (s.update.state = 0 → floorSpent t = false → m.ok = true → floorValue t ≤ m.svn → s.flash.crozierTorn = true → no 0x0A07) ∧
        (s.update.state = 0 → floorSpent t = false → m.ok = true → floorValue t ≤ m.svn → s.flash.crozierTorn = false →
          (bankWorn t = true → no 0x0A01) ∧
          (bankWorn t = false → 2 ≤ fl → silent t = true → no 0x0A06) ∧
          (bankWorn t = false → (2 ≤ fl → silent t = false) → ∃ v w, exec (.updateStart c) s = .next v ∧
            (v = if 2 ≤ fl then relayFeeds w none else w) ∧ w = { t with update := w.update, boot := w.boot } ∧
            w.update.session = newSession t ∧ w.update.starts = s.update.starts + 1 ∧ w.update.svn = BitVec.ofNat 32 m.svn ∧
            w.update.size = m.size ∧ w.update.chunks = chunksOf m.size ∧ w.update.digest = m.digest ∧
            (fl % 2 = 1 → w.update.state = 1 ∧ w.update.highWater = 0 ∧ w.boot = { s.boot with state := .updating }) ∧
            (fl % 2 = 0 → w.update.state = 3 ∧ w.update.highWater = chunksOf m.size ∧ w.boot = s.boot)))) ∧
      (Starts 0x0A02 c s j → Answers (.updateStatus c) s t j {
        res0 := (if s.update.state = 2 ∧ s.update.highWater = s.update.chunks then 3 else s.update.state) + s.update.cause % 256 * 2 ^ 8 +
          s.update.highWater % 2 ^ 16 * 2 ^ 16
        res1 := s.update.chunks
        res2 := s.update.session.toNat % 2 ^ 32
        res3 := countReceivers s (· == 1) + countReceivers s (fun k => k == 0 || k == 4) * 2 ^ 8 + countReceivers s (· == 2) * 2 ^ 16 +
          countReceivers s (· == 3) * 2 ^ 24 }) ∧
      (Starts 0x0A03 c s j → param c 0 1 ≤ 1 → let x := portOf s (if param c 0 1 = 0 then 0 else 1)
        (param c 1 1 = 0 → ∃ r, Answers (.chainStatus c) s t j r ∧ r.status = 0 ∧ r.res1 = heardMask x % 2 ^ 32 ∧ r.res2 = heardMask x / 2 ^ 32 ∧
          r.res3 = min 0xFFFF x.edge + min 0xFFFF x.intrusionCount * 2 ^ 16) ∧
        (param c 1 1 = 1 → Answers (.chainStatus c) s t j {
          res0 := min 0xFFFFFFFF x.crcErrors, res1 := min 0xFFFFFFFF x.macFails, res2 := min 0xFFFFFFFF x.badPids
          res3 := min 0xFFFF x.strangers + min 0xFFFF x.collisions * 2 ^ 16 }) ∧
        (1 < param c 1 1 → Answers (.chainStatus c) s t j (bad 1))) ∧
      (Starts 0x0A04 c s j → let bs := hostRead s 0 pkg (24 * fl)
        pkg % 8 = 0 → param c 16 2 = 0xFFFF - 0x0A04 →
        (rosterBad bs = true → Answers (.rosterSet c) s t j (bad 0)) ∧
        (rosterBad bs = false → 1 ≤ fl → fl ≤ 64 → ((rosterOf bs).map (·.address)).Nodup →
          (s.update.state ≠ 0 → Answers (.rosterSet c) s t j { status := 0x0A04 }) ∧
          (s.update.state = 0 → Begins (.rosterSet c) s (onJob (flashCommand t j (configUnit t)) c (fun x => { x with draws := bs }))))) ∧
      (Starts 0x0A05 c s j → let k := param c 0 1
        let u : FlashUnit := ⟨k, param c 2 2⟩
        (3 < k → Answers (.flashWear c) s t j (bad 0)) ∧
        (k ≤ 3 → unitsOf k ≤ u.index → Answers (.flashWear c) s t j (bad 2)) ∧
        (k ≤ 3 → u.index < unitsOf k → ∃ r, Answers (.flashWear c) s t j r ∧ r.status = 0 ∧ r.res0 = eraseCount s u ∧
          r.res1 = (if k < 2 then 10000 else 100000) ∧ (r.res2 % 2 = 1 ↔ wornMark s u = true))) ∧
      (Starts 0x0A06 c s j → param c 0 1 ≤ 31 → param c 1 1 ≤ 1 → param c 2 2 = 0xFFFF - 0x0A06 →
        Begins (.wornOverride c) s (flashCommand t j (configUnit t)))) ∧
    ∀ (s : State), s.update.state = 1 → s.boot.state = .updating →
      let left := s.jobs.filter (fun j => decide (j.op ≠ 0x0A01 ∧ ¬(j.cmd.fn = 0 ∧ range j.op ∈ [0x00, 0x08, 0x0A, 0x0D])))
      let r := if left = [] then s else
        left.foldl (fun a j => complete a j { status := 0x000E }) (atInstant s (s.update.handoverAt + 10000000))
      let m := (appendConfig (dropInvocations r (fun _ => true))).onUpdate (fun u => { u with
        state := 2, crozier := true, progress := some (progressOf u) })
      let n := match m.jobs.find? (fun j => j.op == 0x0A01 && j.stage == .waiting) with | some j => post m j (updateReply m) | none => m
      exec .crozierHandover s = .next (writeNext n) ∧
      (left = [] → s.jobs.find? (fun j => j.op == 0x0A01 && j.stage == .waiting) = none → s.update.erased = [] →
        (writeNext n).update.crozier = true ∧ (writeNext n).update.state = 2 ∧
        (writeNext n).update.progress = some (progressOf s.update) ∧
        (s.update.chunks ≠ 0 → openErase s = false →
          ∃ o ∈ (writeNext n).flash.ops, o.unit = ⟨0, 30⟩ ∧ o.erase = true ∧ o.use = .crozierErase 30))

/-- R623 to R641, R655. -/
def Obligations.ReaderCommandsAndCards : Prop :=
  (∀ (s : State) (c : Cmd) (j : Job), readerJob s = none → let t := started s c j
      (Starts 0x0B01 c s j → param c 0 1 ≤ 3 → pollTypes t c ≠ 0 → param c 1 1 ≤ 3 → param c 2 1 ≤ 1 → 1 ≤ param c 4 2 → param c 4 2 ≤ 1000 →
        bufBad t c (param c 8 8) 64 true = false →
        (∀ r, readerGone t = some r → Answers (.readerPoll c) s t j r) ∧
        (readerGone t = none → ((s.reader.fieldOn = false ∧ (s.tag.field = true ∨ s.tag.opened = true)) →
          Answers (.readerPoll c) s t j { status := 0x0B04, detail := 1 }) ∧
          ((s.reader.fieldOn = true ∨ (s.tag.field = false ∧ s.tag.opened = false)) →
          let m := onJob (t.onReader (fun r => { r with card := false, layer4 := false, retries := 0, badBlocks := false })) c
            (fun x => { x with stage := .reader })
          ∃ v, exec (.readerPoll c) s = .next v ∧ v.reader.card = false ∧ v.reader.layer4 = false ∧
            (s.reader.fieldOn = true ∨ islandWorks s 16 = false → v = m) ∧
            (s.reader.fieldOn = false → islandWorks s 16 = true → v.reader.fieldOn = true)))) ∧
      (Starts 0x0B02 c s j → bufBad t c (param c 8 8) (param c 16 2) false = false → 4 ≤ param c 16 2 → param c 16 2 ≤ 261 →
        bufBad t c (param c 24 8) (param c 32 2) true = false → 2 ≤ param c 32 2 → param c 32 2 ≤ 258 → readerGone t = none →
        (s.reader.layer4 = false → Answers (.readerExchange c) s t j { status := 0x0B01, detail := 1 }) ∧
        (s.reader.layer4 = true → Begins (.readerExchange c) s (onJob (t.onReader (fun r => { r with retries := 0, badBlocks := false })) c
          (fun x => { x with stage := .reader })))) ∧
      (Starts 0x0B03 c s j → readerGone t = none → ∃ v, Answers (.readerFieldOff c) s v j {} ∧ v.reader.fieldOn = false) ∧
      (Starts 0x0B04 c s j → param c 0 1 ≤ 1 → param c 8 8 = 0 → readerGone t = none → s.reader.layer4 = true → calyptraGone t = none →
        ∀ b u, generate t (.i 6) 32 [] = .got b u → ∃ v, exec (.badgeVerify c) s = .next v ∧ v.reader.badgeStep = 1 ∧ v.reader.challenge = b)) ∧
    (∀ (s : State) (c : Cmd) (j : Job), Starts 0x0B05 c s j → let t := started s c j
      let k := param c 0 1
      (7 < k → Answers (.visitRead c) s t j (bad 0)) ∧
      (k ≤ 7 → (param c 8 8 = 0 ∨ bufBad t c (param c 8 8) 72 true = false) →
        ∃ r, Answers (.visitRead c) s (if param c 8 8 = 0 then t else bufWrite t c (param c 8 8) (sporeBytes s (visitBase k) 9)) j r ∧ r.status = 0 ∧
          r.res0 = (if visitCounts s k then visitSerial s k else 0xFFFFFFFF) ∧ r.res2 = sporeCounter s 1 ∧ r.res3 = visitMark s)) ∧
    ∀ (s : State) (j : Job), readerJob s = some j → readerWorks s = true →
      (j.op = 0x0B01 →
        (∀ tb ca l4 co ra uid sak ats, exec (.cardFrame (.activated tb ca l4 co ra uid sak ats)) s = .next (pollAnswered s j tb l4 co ca ra uid sak ats)) ∧
        exec .pollTimeout s = .next (complete s j { status := 0x0B01 }) ∧
        exec (.cardFrame .malformedAts) s = .next (raise (complete (fieldDown s) j { status := 0x0B03 }) [75])) ∧
      (j.op = 0x0B02 → ∀ b : Bytes, 2 ≤ b.length →
        let v := raise (s.onReader (fun r => { r with retries := 0, badBlocks := false })) [74]
        (param j.cmd 32 2 < b.length → exec (.cardFrame (.response b)) s = .next (complete v j (bad 32))) ∧
        (b.length ≤ param j.cmd 32 2 → exec (.cardFrame (.response b)) s = .next (complete (bufWrite v j.cmd (param j.cmd 24 8) b) j {
          res0 := b.length, res1 := beNat (b.drop (b.length - 2)) }))) ∧
      (j.op ≠ 0x0B01 →
        (∀ w, exec (.cardWtxRequest w) s = .next (s.onReader (fun r => { r with wtx := w.toNat }))) ∧
        (s.reader.retries < 3 →
          exec .readerFrameTimeout s = .next (s.onReader (fun r => { r with retries := r.retries + 1 })) ∧
          exec (.cardFrame .invalidBlock) s = .next (s.onReader (fun r => { r with badBlocks := true, retries := r.retries + 1 }))) ∧
        (3 ≤ s.reader.retries →
          exec .readerFrameTimeout s = .next (raise (complete (fieldDown s) j { status := if s.reader.badBlocks then 0x0B03 else 0x0B02 }) [75])))

/-- R833 to R840, R849, R851, Table 19.11. -/
def Obligations.AppletCommands : Prop :=
  ∀ (s : State) (c : Cmd) (j : Job), let t := started s c j
    let b := hostRead s c.fn (param c 0 8) (min (param c 8 4) 131072)
    (Starts 0x0C01 c s j → t.jobs.any (fun x => x.op == 0x0C01 && x.stage != .fetched && !x.isFor c) = false → bufBad t c (param c 0 8) (param c 8 4) false = false →
      (131072 < param c 8 4 → Answers (.appletInstall c) s t j { status := 0x0C02 }) ∧
      (param c 8 4 ≤ 131072 →
        (∀ k, imgFault b = some k → Answers (.appletInstall c) s t j { status := 0x0003, detail := 2 ^ 63 + k }) ∧
        (imgFault b = none → slotRefusal t c 12 (param c 12 2) (fun a => attrType a == 9 && attrUsage a 3 && attrEngine a 1) = none →
          (∀ r, installRefused t c.fn b = some r → Answers (.appletInstall c) s t j r) ∧
          (installRefused t c.fn b = none → storeFull t (pagesOf (param c 8 4)) = false → calyptraGone t = none →
            Begins (.appletInstall c) s (dispatch (onJob t c (fun x => { x with draws := b }))))))) ∧
    (Starts 0x0C02 c s j → let a := param c 0 1
      (appletHere s c.fn a = false → Answers (.appletRemove c) s t j { status := 0x0C05 }) ∧
      (appletHere s c.fn a = true → ∃ v, exec (.appletRemove c) s = .next v ∧ (SMap.get {} v.pinnas.applets a).removing = true ∧
        appletHere v c.fn a = false)) ∧
    (Starts 0x0C03 c s j → param c 0 1 ≤ 63 → 1 ≤ param c 2 2 → param c 2 2 ≤ 60000 → bufBad t c (param c 8 8) (param c 16 4) false = false →
      bufBad t c (param c 24 8) (param c 32 4) true = false → param c 32 4 ≤ 65536 →
      (appletHere s c.fn (param c 0 1) = false → Answers (.appletInvoke c) s t j { status := 0x0C05 }) ∧
      (appletHere s c.fn (param c 0 1) = true → coresGone t = none →
        Begins (.appletInvoke c) s (onJob t c (fun x => { x with drawNeed := 32 })))) ∧
    (Starts 0x0C04 c s j → let f : FnId := BitVec.ofNat 8 (param c 0 1)
      let l := s.pinnas.applets.filter (fun e => e.2.installed && e.2.owner == f)
      bufBad t c (param c 8 8) 2048 true = false →
      (c.fn ≠ 0 → f ≠ c.fn → Answers (.appletList c) s t j { status := 0x0004 }) ∧
      ((c.fn = 0 ∨ f = c.fn) → Answers (.appletList c) s (bufWrite t c (param c 8 8) (l.flatMap listEntry)) j { res0 := l.length })) ∧
    (Starts 0x0C05 c s j → param c 0 1 ≤ 1 → param c 2 2 = 0xFFFF - 0x0C05 →
      (s.jobs.any (·.op == 0x0C03) = true → Answers (.pinnaMode c) s t j { status := 0x000F }) ∧
      (s.jobs.any (·.op == 0x0C03) = false → Begins (.pinnaMode c) s (flashCommand t j (configUnit t))))

/-- R804, R823, R825, R841 to R846. -/
def Obligations.InvocationsComeAndGo : Prop :=
  (∀ (s : State) (j : Job) (u : Fin 8), firstJob s 3 (waitingInvokes s) = some j → j.cmd.issuer = .host →
      (startDraw (countClass s 3 (waitingInvokes s) j 1) j).2 = true →
      (List.finRange 8).find? (fun u => unitFree s u && !resumesFirst s u (classOf s j.cmd) j.cmd.fn) = some u →
      let x := SMap.get {} s.pinnas.applets (param j.cmd 0 1)
      x.installed = true → x.owner = j.cmd.fn → ∃ t, exec .invocationDispatch s = .next t ∧
        let p := pinnaOf t u
        gGet p 1 = BitVec.ofNat 32 (param j.cmd 4 4) ∧ gGet p 2 = BitVec.ofNat 32 (param j.cmd 36 4) ∧
        gGet p 3 = BitVec.ofNat 32 (param j.cmd 16 4) ∧ gGet p 4 = BitVec.ofNat 32 (param j.cmd 32 4) ∧ gGet p 29 = 0x10010000 ∧
        (∀ r : GReg, r ∉ [1, 2, 3, 4, 29] → gGet p r = 0) ∧ (∀ r : PReg, r ≠ 0 → pGet p r = false) ∧ p.pc = BitVec.ofNat 32 x.entry ∧ p.cycle = 0 ∧
        p.itcm = Memory.write 0 [] 0 x.code ∧ p.dtcm = Memory.write 0 [] 0 x.data ∧ p.inv.map (·.tag) = some j.cmd.tag ∧
        ∀ v, v ≠ u → pinnaOf t v = pinnaOf s v) ∧
    (∀ (s : State) (cls : Nat) (u : Fin 8), let at_ := nextBoundary s.clocks.quantumAt 100000
      let m := (atInstant s at_).onClocks (fun c => { c with quantumAt := at_ })
      (waitingClass m = none → exec .quantumBoundary s = .next m) ∧
      (waitingClass m = some cls → (List.finRange 8).any (unitFree m) = false → maySuspend m = true →
        lowestInOrder m ((runningUnits m).filter (suspendable m cls)) = some u → exec .quantumBoundary s = .next (suspendSoon m u))) ∧
    (∀ (s : State) (u : Fin 8) (p : Pinna) (i : Inv), savedFor s u = some p → p.inv = some i → unitFree s u = true →
      ∃ t, exec (.invocationResume u) s = .next t ∧ pinnaOf t u = { p with inv := some { i with since := s.clocks.seta }, drbg := {} } ∧
        drbgOf t (.inv u) = p.drbg ∧ (u.val, p) ∉ t.pinnas.saved ∧ ∀ v, v ≠ u → pinnaOf t v = pinnaOf s v) ∧
    ∀ (s : State) (u : Fin 8) (i : Inv), let p := pinnaOf s u
      p.inv = some i →
      (p.blocked = false → s.clocks.seta = i.since + (i.quanta * 100000 - i.usedTicks) → exec (.budgetExpiry u) s = .next (trap s u i p.pc 7 0)) ∧
      (p.en = true → s.clocks.seta = p.cmpLo.toNat + p.cmpHi.toNat * 2 ^ 32 → ∃ t, exec (.wakecmpMatch u) s = .next t ∧
        (pinnaOf t u).matched = true ∧ (pinnaOf t u).en = false ∧ (pinnaOf t u).asleep = false ∧
        (p.asleep = false → pinnaOf t u = { p with matched := true, en := false, wakePending := true })) ∧
      (s.pinnas.split = true → (taskOf s (48 + u.val)).running = false → ∃ t, exec (.wakeTask u) s = .next t ∧
        (taskOf t (48 + u.val)).running = true ∧ (taskOf t (48 + u.val)).fired = (taskOf s (48 + u.val)).fired + 1 ∧
        (p.asleep = true → (pinnaOf t u).asleep = false ∧ (pinnaOf t u).wokeTask = true) ∧
        (p.asleep = false → pinnaOf t u = { p with wakePending := true }))

/-- R101 to R106, R125, R180, R513, R514, Tables 0.3 and 3.4. -/
def Obligations.RegistersAndCommitGroups : Prop :=
  (∀ (s : State) (r : Region) (off : BitVec 20) (v : U32) (cl : Bool), Serves s (regionFn r) →
      let o := off.toNat / 4 * 4
      (∀ g i, groupIndex r o = some (g, i) →
        let busy := (commitReg s (commitKey g)).busy = true ∨ (cl = true ∧ (commitReg s (commitKey g)).clearedAt = some s.clocks.seta)
        (busy → exec (.registerWrite r off ⟨v, cl⟩) s = .next (onCommit s (commitKey g) (fun x => { x with dropped := true }))) ∧
        (¬busy → exec (.registerWrite r off ⟨v, cl⟩) s = .next (setStage s (regionKey r o) (v.toNat &&& groupMask g i)))) ∧
      (∀ f, r = .fnBar f → o = 0x24 → ∃ t, exec (.registerWrite r off ⟨v, cl⟩) s = .next t ∧
        SMap.get 0 t.regs.events (fnKey f 0x24) = SMap.get 0 s.regs.events (fnKey f 0x24) &&& ~~~v ∧
        (∀ k, k ≠ fnKey f 0x24 → SMap.get 0 t.regs.events k = SMap.get 0 s.regs.events k) ∧ t = { s with regs := { s.regs with events := t.regs.events } }) ∧
      (∀ f, r = .fnBar f → o = 0x28 → exec (.registerWrite r off ⟨v, cl⟩) s = .next (setReg s (fnKey f 0x28) (v.toNat % 64))) ∧
      (∀ k, stageOf r o = some k → exec (.registerWrite r off ⟨v, cl⟩) s = .next s)) ∧
    (∀ (s : State) (g : CommitGroup) (cl : Bool), Serves s (fnOfGroup g) →
      let k := commitKey g
      let why := groupFail s g
      let busy := (commitReg s k).busy = true ∨ (cl = true ∧ (commitReg s k).clearedAt = some s.clocks.seta)
      (busy → exec (.commitGo ⟨g, cl⟩) s = .next (onCommit s k (fun x => { x with overrun := true }))) ∧
      (¬busy → waits s g = true → exec (.commitGo ⟨g, cl⟩) s = .next (onCommit s k (fun x => { x with busy := true }))) ∧
      (¬busy → waits s g = false → why ≠ 0 → ∃ t, exec (.commitGo ⟨g, cl⟩) s = .next t ∧
        commitReg t k = { commitReg s k with busy := false, rejected := true, reason := BitVec.ofNat 8 why, clearedAt := some s.clocks.seta } ∧
        (∀ x, reg t x = reg s x) ∧ (∀ x, staged t x = staged s x) ∧ (∀ x, x ≠ k → commitReg t x = commitReg s x) ∧ t = { s with regs := t.regs }) ∧
      (¬busy → waits s g = false → why = 0 → ∃ t, exec (.commitGo ⟨g, cl⟩) s = .next t ∧
        commitReg t k = { commitReg s k with
          busy := false, reason := 0, applied := (commitReg s k).applied + 1, clearedAt := some s.clocks.seta } ∧
        (∀ x, x ∈ groupRegs g → reg t x = staged s x) ∧ (∀ x, x ∉ groupRegs g → reg t x = reg s x) ∧ (∀ x, staged t x = staged s x) ∧
        ∀ x, x ≠ k → commitReg t x = commitReg s x)) ∧
    (∀ (s : State) (off : BitVec 20) (a : Byte), let o := off.toNat / 4 * 4
      let m := s.onLink (fun l => { l with readData := readReg s .glBar o })
      running s = true →
      (o = 0x20 → exec (.rcFieldRead .glBar off a) s = .next (m.onPower (fun p => { p with dipCount := a }))) ∧
      (∀ n, n < 96 → o = 0x1400 + 4 * n → exec (.rcFieldRead .glBar off a) s = .next (onTask m n (fun x => { x with merged := a.toNat }))) ∧
      (∀ k, stageOf .glBar o = some k → exec (.rcFieldRead .glBar off a) s = .next m)) ∧
    (∀ s : State, let lo := BitVec.ofNat 32 s.clocks.seta
      let hi := BitVec.ofNat 32 (s.clocks.seta / 2 ^ 32)
      (∀ f, ¬(running s = true ∧ (f = 0 ∨ (fnOf s f).enabled = true)) →
        exec (.setaLoRead (.inl f) false) s = .next (s.onLink (fun l => { l with readData := 0xFFFFFFFF }))) ∧
      (∀ f, running s = true → (f = 0 ∨ (fnOf s f).enabled = true) → exec (.setaLoRead (.inl f) false) s = .next ((onFn s f (fun x => { x with setaHi := hi })).onLink (fun l => { l with readData := lo }))) ∧
      ∀ u, exec (.setaLoRead (.inr u) false) s = .next ((onPinna s u (fun x => { x with setaHi := hi })).onLink (fun l => { l with readData := lo }))) ∧
    ∀ (s : State) (u : Fin 8), let p := pinnaOf s u
      (∀ i, issues s u = some i →
        (∀ w rest, p.rng = w :: rest → exec (.rngdataRead u) s =
          .next ((onPinna s u (fun x => { x with rng := rest })).onLink (fun l => { l with readData := w }))) ∧
        (p.rng = [] → exec (.rngdataRead u) s =
          .next ((onPinna s u (fun x => { x with rngErr := true })).onLink (fun l => { l with readData := 0 })))) ∧
      ∀ i bs t, p.inv = some i → p.rng.length ≤ 4 → generate s (.inv u) 16 [] = .got bs t →
        exec (.rngdataRefill u) s = .next (onPinna t u (fun x => { x with rng := x.rng ++ [
          BitVec.ofNat 32 (leNat (bs.take 4)), BitVec.ofNat 32 (leNat ((bs.drop 4).take 4)),
          BitVec.ofNat 32 (leNat ((bs.drop 8).take 4)), BitVec.ofNat 32 (leNat ((bs.drop 12).take 4))] }))

/-- R139, Tables 4.1, 4.2, 5.14 and 20.17, R178, R198, R880, R893; link loss counts as the PERST# row and debug expiry as the DEVICE_RESET row (the model's readings, log entries 67 and 68). -/
def Obligations.ResetsAndTheLink : Prop :=
  (∀ (s : State) (k : ResetKind) (row : Nat), SMap.wf {} s.fns = true → let t := deviceReset s k row
      t.boot.state = .resetting ∧ t.boot.lastReset = BitVec.ofNat 4 row ∧ t.jobs = [] ∧ t.pairs = [] ∧ t.medulla.slots = [] ∧ t.medulla.kek = none ∧
      t.entropy.insts = [] ∧ (∀ u, (pinnaOf t u).inv = none) ∧ t.regs.stage = [] ∧ t.regs.commit = [] ∧ t.regs.events = [] ∧ KeptOverReset s t ∧
      t.clocks.seta = (if k = .fresh then 0 else s.clocks.seta) ∧ t.tamper.latch = (if k = .fresh then 0 else s.tamper.latch) ∧
      t.boot.sentinelFresh = (k == .fresh || s.boot.sentinelFresh) ∧ t.boot.recoveryRequest = (row == 9) ∧
      (k = .pcieKept → t.link = { s.link with held := [], rings := 0 }) ∧ (k ≠ .pcieKept → t.link.up = false ∧ t.link.vfEnable = false ∧ t.link.numVfs = 0) ∧
      (∀ n, 0x280 ≤ n → n < 0x290 → reg t n = if k = .fresh then 0 else reg s n) ∧
      ∀ f, (fnOf t f).ctxKey = [] ∧ (fnOf t f).quarantined = false ∧ (fnOf t f).violations = [] ∧ (fnOf t f).assigned = (fnOf s f).assigned ∧
        (fnOf t f).generation = (fnOf s f).generation ∧ (fnOf t f).enabled = (k == .pcieKept && (fnOf s f).enabled) ∧
        (fnOf t f).busMaster = (k == .pcieKept && (fnOf s f).busMaster)) ∧
    (∀ s : State,
      (coreUp s = true → s.power.quiesced = false →
        exec .resetNAssert s = .next (deviceReset s .pcieIncluded 2) ∧
        (s.link.perst = false → exec .perstAssert s =
          .next (deviceReset (s.onLink (fun l => { l with perst := true, up := false, degraded := false })) .pcieIncluded 3)) ∧
        (s.link.up = true → exec .linkLoss s =
          .next (deviceReset (s.onLink (fun l => { l with up := false, degraded := false })) .pcieIncluded 3))) ∧
      (coreUp s = true → s.power.quiesced = true →
        let w := fun (m : State) (row : Nat) => m.onPower (fun p => { p with heldReset := if s.power.heldReset = 0 then row else min row s.power.heldReset })
        exec .resetNAssert s = .next (w s 2) ∧
        (s.link.perst = false → exec .perstAssert s = .next (w (s.onLink (fun l => { l with perst := true, up := false, degraded := false })) 3)) ∧
        (s.link.up = true → exec .linkLoss s = .next (w (s.onLink (fun l => { l with up := false, degraded := false })) 3)) ∧
        (s.power.feedWarn = true → s.power.heldReset ≠ 0 → ∃ t, exec .feedDip s = .next t ∧ t.boot.state = .resetting ∧
          t.boot.lastReset = BitVec.ofNat 4 s.power.heldReset ∧ t.power.heldReset = 0 ∧ t.power.quiesced = false)) ∧
      (running s = true → s.update.crozier = false → exec .watchdogExpiry s = .next (deviceReset s .pcieKept 6)) ∧
      (coreUp s = true → domainOn s 24 = true → exec .lockstepMismatch s = .next (deviceReset s .pcieKept 7)) ∧
      (coreUp s = true → s.boot.debug = true → exec .debugExpiry s = .next (deviceReset (atInstant s s.boot.debugUntil) .pcieKept 5)) ∧
      (s.power.state = .hibernate → s.power.feedWarn = false →
        exec (.hibernateWake .resetN) s = .next (deviceReset s .pcieIncluded 4) ∧
        exec (.hibernateWake .perst) s = .next (deviceReset (s.onLink (fun l => { l with perst := false })) .pcieIncluded 4) ∧
        ∀ n, exec (.hibernateWake (.gpio n)) s = .next (if bitOf (pinCfg s n.val) 5 then deviceReset s .pcieIncluded 4 else s)) ∧
      (s.power.sentinel = false → ∃ t, exec .sentinelPowerUp s = .next t ∧ t.clocks.seta = 0 ∧ t.tamper.latch = 0 ∧ t.boot.sentinelFresh = true ∧
        t.power.sentinel = true ∧ t.power.state = .off ∧ KeptOverReset s t) ∧
      (s.power.state = .off → s.power.vinStopped = true → s.power.sentinel = true → ∃ t, exec .sentinelPowerLoss s = .next t ∧ t.clocks.seta = 0 ∧ t.tamper.latch = 0 ∧
        t.power.sentinel = false ∧ t.power.domains = 0 ∧ KeptOverReset s t)) ∧
    (∀ s : State,
      exec .perstDeassert s = .next (s.onLink (fun l => { l with perst := false })) ∧
      (∀ b, exec (.phyRailsGood b) s = .next (s.onLink (fun l => { l with phyGood := b }))) ∧
      (∀ d, let m := s.onLink (fun l => { l with up := true, degraded := d, eventDetail := d })
        s.link.up = false → s.link.perst = false → s.link.phyGood = true → domainOn s 44 = true →
        exec (.linkUp d) s = .next (if running s then raiseWaking m [80] else m)) ∧
      (∀ (on : Bool) (n : FnId) (ari : Bool), running s = false → ∃ t, exec (.vfEnable on n ari) s = .next t ∧
        t.link = { s.link with vfEnable := on, numVfs := n, ari := ari } ∧ (fnOf t 0).enabled = (fnOf s 0).enabled ∧
        (∀ f : FnId, f ≠ 0 → (fnOf t f).enabled = (on && decide (f.toNat ≤ n.toNat) && decide (f.toNat ≤ totalVfs s ari))) ∧
        t = { s with fns := t.fns, link := t.link })) ∧
    (∀ (s : State) (ph : BitVec 4),
      (s.power.sentinel = true → s.power.state = .off → exec .vinResumePowerUp s =
        .next ((s.onPower (fun p => { p with state := .active, vinStopped := false })).onBoot (fun b => { b with powerUp := 1 }))) ∧
      (fed s = true → s.boot.powerUp = 1 → exec .debounceStop s = .next (switchedOff s true) ∧
        ∃ t, exec (.powerUpDebounceDone ph) s = .next t ∧ t.boot.powerUp = 2 ∧ t.power.vcore = 20 ∧ t.power.op = .safe ∧ t.power.phaseOk = ph ∧
          (∀ d, d < 50 → domainOn t d = (domainOn s d || [24, 25, 41, 43].contains d)) ∧
          t = { s with boot := t.boot, power := t.power, clocks := t.clocks })) ∧
    ∀ (s : State) (f : FnId), let t := resetFunction s f
      (∀ q, pairOf t f q = {}) ∧ (∀ k, fnKey f 0 ≤ k → k < fnKey f 0 + 2 ^ 20 → reg t k = (regDefault k).toNat ∧ staged t k = (regDefault k).toNat ∧
        commitReg t k = {} ∧ SMap.get 0 t.regs.events k = 0) ∧ (∀ v, v < 64 → SMap.get false t.link.pba (f.toNat * 64 + v) = false) ∧
      (fnOf t f).violations = [] ∧ (fnOf t f).quarantined = false ∧ (fnOf t f).busMaster = false ∧
      (running s = true → f ≠ 0 → releasing s f = false → exec (.flrInitiate f) s = .next (dispatch (raise t [81])))

/-- R143 to R161, R175, Tables 4.3 and 4.7 to 4.10. That BUSY is never seen set is the model's choice (log entry 54). -/
def Obligations.BootAndRecovery : Prop :=
  (∀ (s : State) (env : BootEnv), RomStarts s →
      (3 ≤ (romStep1 env s).power.phasesLost → ∃ t, exec (.romBoot env) s = .next t ∧ t.boot.state = .powerFault ∧ t.boot.cause = 0) ∧
      ((romStep1 env s).power.phasesLost < 3 → s.tamper.retirePending = false →
        (latched s = true → lifecycle s ≠ 3 → ∃ t, exec (.romBoot env) s = .next t ∧ t.boot.state = .tampered ∧ t.boot.rcvClaim = false) ∧
        (latched s = false → bitOf (sporeWord s 48).toNat 0 = false →
          (otpReadable env s = false → ∃ t, exec (.romBoot env) s = .next t ∧ t.boot.state = .otpFault) ∧
          (otpReadable env s = true → lifecycle s = 0 → exec (.romBoot env) s = .next (romStops (romStep2 env s) .blank 0)) ∧
          (otpReadable env s = true → lifecycle s = 3 → ∃ t, exec (.romBoot env) s = .next t ∧ t.boot.state = .retired) ∧
          (otpReadable env s = true → (lifecycle s = 1 ∨ lifecycle s = 2) →
            let k := romStep5 env s
            ((romJournalled env s).2 = true → k.boot.verified = false → ∃ t, exec (.romBoot env) s = .next t ∧ t.boot.state = .recoveryWait ∧
              t.boot.cause = 7 ∧ t.boot.rcvNext = 60 ∧
              (pufGood env (openChain env k) = true → t.medulla.kek = deriveKek (openChain env k))) ∧
            ((romJournalled env s).2 = false →
            (pufGood env k = false → ∃ t, exec (.romBoot env) s = .next t ∧ t.boot.state = .keyFault) ∧
            (pufGood env k = true →
              (∀ c, imageCause (romStep7 env s) = some c → ∃ t, exec (.romBoot env) s = .next t ∧ t.boot.state = .recoveryWait ∧
                t.boot.cause = BitVec.ofNat 8 c ∧ t.boot.rcvNext = 60 ∧ t.boot.rcvClaim = false) ∧
              (imageCause (romStep7 env s) = none → exec (.romBoot env) s = .next (startXemberon env (romStep7 env s))))))))) ∧
    (∀ (s : State) (env : BootEnv), (∀ x, stepEpoch x = none → counterSpent x.counters 0 = true ∨ incrementCounter x.counters 0 = none) ∧
      (counterSpent s.counters 0 = true → ∃ m, startXemberon env s = notePhases m ∧ m.boot.state = .epochSpent ∧ m.counters = s.counters)) ∧
    (∀ s : State,
      (inRecovery s = false → exec .rcvClaim s = .next (s.onBoot (fun b => { b with rcvClaim := true }))) ∧
      (inRecovery s = true → s.power.feedWarn = false →
        (s.boot.rcvTurtis = true → exec .rcvClaim s = .next (s.onBoot (fun b => { b with rcvClaim := true, rcvResult := 7 }))) ∧
        (s.boot.rcvTurtis = false → s.update.pulling = false →
          exec .rcvClaim s = .next (s.onBoot (fun b => { b with rcvClaim := true, state := .recoveryLoading }))) ∧
        (s.boot.rcvTurtis = false → s.update.pulling = true → ∃ t, exec .rcvClaim s = .next t ∧
          t.boot = { s.boot with rcvClaim := true, rcvPcieOnly := true, state := .recoveryLoading } ∧
          t.update.pulling = false ∧ portOf t s.update.srcPort = {} ∧ domainOn t (45 + s.update.srcPort.val) = false))) ∧
    (∀ s : State, s.boot.state = .recoveryLoading → s.boot.rcvClaim = true → s.boot.rcvTurtis = false → s.power.feedWarn = false →
      (crc32c (windowBytes s) ≠ s.boot.rcvCrc → exec .rcvChunkGo s = .next (s.onBoot (fun b => { b with rcvResult := 1 }))) ∧
      (crc32c (windowBytes s) = s.boot.rcvCrc → s.boot.rcvChunk ≠ s.boot.rcvNext →
        exec .rcvChunkGo s = .next (s.onBoot (fun b => { b with rcvResult := 2 }))) ∧
      (ChunkTaken s → s.boot.rcvChunk ≠ 63 → ∃ t, exec .rcvChunkGo s = .next t ∧ t.boot.rcvNext = s.boot.rcvNext + 1 ∧ t.boot.rcvResult = 0 ∧
        t.boot.rcvLoaded = (s.boot.rcvChunk == 59) ∧ t.boot.state = .recoveryLoading ∧
        bankRead t (65536 * s.boot.rcvChunk.toNat) 65536 = windowBytes s) ∧
      (ChunkTaken s → s.boot.rcvChunk = 63 → ∃ t m, exec .rcvChunkGo s = .next t ∧ m = runningManifest t ∧
        (m.ok = false → t.boot.rcvResult = 3 ∧ t.boot.rcvNext = 60) ∧
        (m.ok = true → svnOk t m.svn = false → t.boot.rcvResult = 4 ∧ t.boot.rcvNext = 60) ∧
        (m.ok = true → svnOk t m.svn = true → t.boot.rcvResult = 0 ∧ t.boot.rcvNext = 0)) ∧
      (s.boot.rcvLoaded = false → exec .rcvVerify s = .next (s.onBoot (fun b => { b with rcvResult := 2 }))) ∧
      (s.boot.rcvLoaded = true → imageAccepted s = false → exec .rcvVerify s =
        .next (s.onBoot (fun b => { b with rcvResult := 6, rcvNext := 60, rcvLoaded := false }))) ∧
      (s.boot.rcvLoaded = true → imageAccepted s = true → exec .rcvVerify s =
        .next (s.onBoot (fun b => { b with state := .romChecks, verified := true, powerUp := 3, rcvResult := 0 })))) ∧
    (∀ s : State, s.boot.state = .tampered → s.power.feedWarn = false →
      let b := Memory.read 0 s.boot.rcvWindow 0 229
      (ackAccepted s b = false → exec .rcvAck s = .next (s.onBoot (fun x => { x with rcvResult := 9 }))) ∧
      (ackAccepted s b = true → s.tamper.live.toNat &&& latchSources s.tamper.latch ≠ 0 →
        exec .rcvAck s = .next (s.onBoot (fun x => { x with rcvResult := 8 }))) ∧
      (ackAccepted s b = true → s.tamper.live.toNat &&& latchSources s.tamper.latch = 0 →
        let m := setStatusBit (s.onTamper (fun t => { t with latch := 0, escalated := 0, suspended := 0 })) 0 false
        exec .rcvAck s = .next ((append m Entry.tamperAck Src.rom s.tamper.latch.toNat).onBoot (fun x => { x with
          state := .romChecks, powerUp := 3, rcvResult := 0 })))) ∧
    (∀ s : State, s.boot.state = .recoveryWait → s.boot.rcvClaim = false → s.boot.rcvPcieOnly = false → s.update.pulling = false →
      optField s 9 0 1 1 ≠ 0 → s.power.feedWarn = false → let m := loadLinkKey s
      (seedErased s = true → exec .claimWaitExpiry s = .next s) ∧
      (seedErased s = false → attrValid (attrOf m 2) = false → exec .claimWaitExpiry s = .next m) ∧
      (seedErased s = false → attrValid (attrOf m 2) = true → ∃ t, exec .claimWaitExpiry s = .next t ∧ t.update.pulling = true ∧
        t.update.srcPort = recoveryPort m ∧ t.update.source = 0xFF ∧ t.update.highWater = 0 ∧ domainOn t 0 = true ∧
        domainOn t (45 + (recoveryPort m).val) = true)) ∧
    ∀ s : State, s.update.pulling = true → inRecovery s = true → ∃ t, exec .turtisGiveupExpiry s = .next t ∧
      t.update.pulling = false ∧ t.boot = { s.boot with rcvTurtis := false, rcvPcieOnly := true, state := .recoveryWait } ∧
      portOf t s.update.srcPort = {} ∧ domainOn t (45 + s.update.srcPort.val) = false

/-- R45, R51, R63, R64, R74 to R81, R85, R87, R126, R861. -/
def Obligations.FeedPhasesAndTheEpoch : Prop :=
  (∀ (s : State) (dip : Bool), fed s = true → s.boot.powerUp ≠ 1 →
      (s.boot.powerUp = 2 → exec (.feedWarn dip) s = .next (switchedOff s true)) ∧
      (s.boot.powerUp ≠ 2 → s.power.feedWarn = true →
        exec (.feedWarn dip) s = .next (s.onPower (fun p => { p with qualified := p.qualified || (dip && !p.quiesced) }))) ∧
      (s.boot.powerUp ≠ 2 → s.power.feedWarn = false →
        let m := s.onPower (fun p => { p with
          feedWarn := true, vcoreAtWarn := p.vcore, warnAt := s.clocks.seta, abortedAtWarn := p.target.isSome, qualified := dip })
        let n := if s.power.target.isSome then m.onPower (fun p => { p with aborted := true, target := none, vcore := 20, op := .safe, clk := .safe }) else m
        exec (.feedWarn dip) s = .next (if running s then raiseWaking n [31] else n))) ∧
    (∀ s : State, s.power.feedWarn = true → s.power.quiesced = false →
      (s.power.qualified = false → s.clocks.seta ≤ s.power.warnAt + 2000 → exec .dipRideThrough s = .next (s.onPower (fun p => { p with
        dipCount := BitVec.ofNat 8 (min 255 (p.dipCount.toNat + 1)), dipsSince := p.dipsSince + 1, feedWarn := false, qualified := false }))) ∧
      (running s = true → s.power.qualified = true → exec .feedLossQualify s = .next (lastGasp s)) ∧
      (running s = true → s.power.qualified = false → exec .feedLossQualify s = .next (lastGasp (atInstant s (s.power.warnAt + 2000))))) ∧
    (∀ s : State, s.power.quiesced = true → s.power.feedWarn = true →
      let m := s.onPower (fun p => { p with feedWarn := false, qualified := false, quiesced := false })
      let l := pwrEvent (logDip (releaseHeld (unhold m (resumeDomains m)))) 0
      let n := notePool s (answerHeld (startErases l))
      (s.power.heldReset ≠ 0 → exec .feedDip s = .next (deviceReset l .pcieIncluded s.power.heldReset)) ∧
      (s.power.heldReset = 0 → exec .feedDip s = .next (dispatch (raise (n.onPairs (SMap.mapV {} (fun _ p => { p with doorbell := false })))
        ((n.pairs.filter (fun e => e.2.doorbell)).map (fun e => 82 + e.2.cls)))))) ∧
    (∀ s : State, let c := BitVec.ofNat 8 (min 255 (s.power.dipCount.toNat + 1))
      ((s.power.lastFeedDip = none ∨ ∃ t, s.power.lastFeedDip = some t ∧ t + 100000000 ≤ s.clocks.seta) →
        logDip s = append (s.onPower (fun p => { p with dipCount := c, lastFeedDip := some s.clocks.seta, dipsSince := 0 })) Entry.feedDip Src.xemberon
          (min 255 s.power.dipsSince + s.power.vcoreAtWarn * 2 ^ 8 + bit s.power.abortedAtWarn 16 + min 0xFFFFFFFF (s.clocks.seta - s.power.warnAt) * 2 ^ 32)) ∧
      (∀ t, s.power.lastFeedDip = some t → s.clocks.seta < t + 100000000 →
        logDip s = s.onPower (fun p => { p with dipCount := c, dipsSince := p.dipsSince + 1 }))) ∧
    (∀ (s : State) (vbak : Bool), s.power.sentinel = true → s.power.vinStopped = false → ∃ t, exec (.vinStop vbak) s = .next t ∧ t.power.state = .off ∧ t.power.domains = 0 ∧
      t.power.vinInRange = false ∧ t.power.sentinel = vbak ∧ t.clocks.seta = (if vbak then s.clocks.seta else 0) ∧
      t.tamper.latch = (if vbak then s.tamper.latch else 0) ∧ t.jobs = [] ∧ t.medulla.slots = [] ∧ seedWords t = seedWords s ∧ t.log.held = [] ∧
      t.counters = s.counters ∧ t.medulla.records = s.medulla.records) ∧
    (∀ (s : State) (ph : Fin 4) (c : PhaseCause), coreUp s = true → s.power.phaseOk.getLsbD ph.val = true →
      let m := s.onPower (fun p => { p with phaseOk := p.phaseOk &&& ~~~((1 : BitVec 4) <<< ph.val), phasesLost := p.phasesLost + 1 })
      (running s = false → s.power.phasesLost < 2 →
        exec (.phaseLost ph c) s = .next (m.onPower (fun p => { p with phaseNotes := p.phaseNotes ++ [(ph.val, PhaseCause.code c)] }))) ∧
      (running s = false → 2 ≤ s.power.phasesLost →
        exec (.phaseLost ph c) s = .next ((deviceReset m .pcieKept 7).onBoot (fun b => { b with heldInReset := true }))) ∧
      (running s = true → s.power.phasesLost < 2 → exec (.phaseLost ph c) s = .next (phaseReaction (raiseWaking m [30]) ph.val (PhaseCause.code c))) ∧
      (running s = true → 2 ≤ s.power.phasesLost → ∃ t, exec (.phaseLost ph c) s = .next t ∧ t.boot.heldInReset = true ∧
        t.boot.state = .resetting ∧ t.boot.lastReset = 7)) ∧
    (∀ (s : State) (mv : BitVec 16) (ok : Bool), coreUp s = true →
      (running s = true → let m := (moveToSafe (raiseWaking s [32])).onPower (fun p => { p with vcoreLow := !ok })
        exec (.vcoreLow mv ok) s = .next (append m Entry.vcoreLow Src.xemberon (s.power.vcore + mv.toNat * 2 ^ 8 + bit ok 24))) ∧
      (s.power.vcoreLow = true → exec .vcoreLowTimeout s = .next (faultReset s [])) ∧
      exec (.vcoreHigh mv) s = .next (faultReset s [note s Entry.vcoreHigh Src.rom (s.power.vcore + mv.toNat * 2 ^ 8)]) ∧
      (s.power.backupClock = false → running s = true → exec .rhzClock s =
        .next (append (pwrEvent (raiseWaking (s.onPower (fun p => { p with backupClock := true, clockNote := false })) [33]) 6)
          Entry.rhzClock Src.xemberon 1)) ∧
      (s.power.backupClock = false → running s = false → exec .rhzClock s =
        .next (s.onPower (fun p => { p with backupClock := true, clockNote := true })))) ∧
    (∀ (s : State) (n : Fin 8) (t : BitVec 16), Governs s → let m := sampled s n t
      let j := junction m
      (j < 1100 → s.power.hot = false → exec (.thermalSample n t) s = .next m) ∧
      (1050 ≤ j → j < 1100 → exec (.thermalSample n t) s = .next m) ∧
      (1100 ≤ j → j < 1200 → s.power.hot = false → exec (.thermalSample n t) s =
        .next (thermalEntry (raiseWaking (m.onPower (fun p => { p with hot := true })) [34]) 1 n.val t.toInt)) ∧
      (j < 1050 → s.power.hot = true → s.power.safeHold = none → exec (.thermalSample n t) s =
        .next (dispatch (thermalEntry (raise (m.onPower (fun p => { p with hot := false, sorusStopped := false })) [37]) 4 n.val t.toInt)))) ∧
    (∀ s : State, Governs s →
      (1100 ≤ junction s → exec .thermalAllowanceStep s = .next (s.onPower (fun p => { p with allowance := max 1 (p.allowance - 1) }))) ∧
      (junction s < 1100 → s.power.hot = true → exec .thermalAllowanceStep s = .next s) ∧
      (junction s < 1100 → s.power.hot = false →
        exec .thermalAllowanceStep s = .next (s.onPower (fun p => { p with allowance := min 16 (p.allowance + 1) })))) ∧
    (∀ s : State, s.boot.state = .ready → (s.power.state = .active ∨ s.power.state = .trim) → s.power.safeHold = none → s.power.feedWarn = false →
      s.power.quiesced = false → dozeAllowed s = true → queuesEmpty s = true → s.flash.ops.any (·.begun) = false →
      let due := max s.clocks.seta (s.power.idleSince + dozeIdle s)
      let m := atInstant s ((due + 999) / 1000 * 1000)
      exec .dozeEntry s = .next (notePool s ((startTransition (hold m ((List.range 50).filter (fun d => !dozeKeeps.contains d))) .doze).onPower
        (fun p => { p with dozeFrom := p.state, state := .doze, waking := false, retained := maskOf (dozeRetains.filter (domainOn m)) })))) ∧
    (∀ s : State, (s.power.state = .doze → dozeWake s = s.onPower (fun p => { p with
        state := p.dozeFrom, waking := true, idleSince := s.clocks.seta })) ∧
      (s.power.waking = true → s.power.safeHold = none → ∀ d, d < 50 → (domainOn s d = true ∨ s.power.dozeDomains.getLsbD d = true) →
        domainOn (wakeDomains s) d = true)) ∧
    (∀ s : State,
      (s.clocks.epochAt % 1000 = 0 → nextBoundary s.clocks.epochAt 1000 = s.clocks.epochAt + 1000) ∧
      (running s = false → exec .epochBoundary s = .next (atEpoch s)) ∧
      (running s = true → s.power.quiesced = true → exec .epochBoundary s = .next (applyEpochGroups (raise (atEpoch s) [46]))) ∧
      (Governs s → exec .epochBoundary s = .next (epochWork (raise (atEpoch s) [46]))) ∧
      (s.power.state = .doze → epochWork s = applyOffMask (applyEpochGroups s))) ∧
    (∀ (s : State) (p : OpPoint), let x := s.power
      let n := (s.clocks.seta - x.moveAt) / 200
      let t := (stepVcore s).power
      let ends := if x.moveFrom < p.vcode then x.moveAt + 200 * (p.vcode - x.moveFrom + 1) else x.moveAt + 200 * (x.moveFrom - p.vcode)
      ((x.op ≠ p ∨ x.target ≠ none) → startTransition s p = s.onPower (fun y => { y with
        target := some p, aborted := false, moveFrom := x.vcore, moveAt := s.clocks.seta / 1000 * 1000, clk := if p.vcode ≤ x.vcore then p else x.clk })) ∧
      (x.target = none → stepVcore s = s) ∧
      (x.target = some p → ends ≤ s.clocks.seta → t = { x with vcore := p.vcode, target := none, op := p, clk := p }) ∧
      (x.target = some p → s.clocks.seta < ends → t = { x with
        vcore := if x.moveFrom < p.vcode then min p.vcode (x.moveFrom + n) else max p.vcode (x.moveFrom - n) })) ∧
    ∀ (s : State) (b : Bool), exec (.vinInRangeChange b) s = .next (s.onPower (fun p => { p with vinInRange := b }))

/-- R113 to R120, R131, R133 to R136, Tables 3.7, 3.9 and 3.14. A three-failure counts two retransmissions, and ISLAND_CLOCK is logged when the relock ends (the model's readings, log entry 69). -/
def Obligations.IslandsEventsAndAlarms : Prop :=
  (∀ (x : Task) (k : Nat) (l : Bool),
      (x.reach 0 l = (x, false)) ∧
      (0 < k → x.running = false → x.reach k l = ({ x with running := l, fired := x.fired + 1, merged := min 255 (x.merged + (k - 1)) }, true)) ∧
      (0 < k → x.running = true → x.pending = false → x.reach k l = ({ x with pending := true, merged := min 255 (x.merged + (k - 1)) }, false)) ∧
      (0 < k → x.running = true → x.pending = true → x.reach k l = ({ x with merged := min 255 (x.merged + k) }, false))) ∧
    (∀ (s : State) (ev : List (BitVec 7 × Bool)), running s = true →
      exec (.hyphaEvent ev) s = .next (raiseWaking (((ev.filter (·.2)).map (·.1.toNat)).foldl mergeOnly s)
        ((ev.filter (fun e => !e.2)).map (·.1.toNat)).eraseDups)) ∧
    (∀ (s : State) (e t : Nat), taskOf (mergeOnly s e) t =
      if t < 96 ∧ taskHits s t [e] ≠ 0 then { taskOf s t with merged := min 255 ((taskOf s t).merged + 1) } else taskOf s t) ∧
    (∀ (s : State) (t : Fin 96), running s = true → (taskOf s t.val).running = true → (taskOf s t.val).pending = true → taskStops s t.val = true →
      exec (.hyphaPendingFire t) s = .next (taskAction appendNote (onTask s t.val (fun x => { x with
        pending := false, running := decide (t.val < 56), fired := x.fired + 1 })) t.val 0)) ∧
    (∀ (s : State) (v : Byte), coreUp s = true → ∃ m, exec (.hyphaFault v) s = .next (append m Entry.hyphaFault Src.xemberon v.toNat) ∧
      (∀ t, t < 96 → taskOf m t = { merged := 0xFF }) ∧ m = { s with clocks := { s.clocks with tasks := m.clocks.tasks } }) ∧
    (∀ (s : State) (k : Fin 8), running s = true → let b := 0x100 + 0x20 * k.val
      let cmp := reg s (glKey b) + reg s (glKey (b + 4)) * 2 ^ 32
      let period := reg s (glKey (b + 8))
      let mark := SMap.get 0 s.clocks.alarmMark k.val
      let fires := fun t => raiseWaking ((reached s t).onClocks (fun c => { c with alarmMark := SMap.set 0 c.alarmMark k.val t })) [38 + k.val]
      bitOf (reg s (glKey (b + 12))) 0 = true →
      (mark < cmp → exec (.setaAlarm k) s = .next (fires cmp)) ∧
      (cmp ≤ mark → period ≠ 0 → ∃ t, exec (.setaAlarm k) s = .next (fires t) ∧ mark < t ∧ t ≤ mark + period ∧ (t - cmp) % period = 0)) ∧
    (∀ (s : State) (n : Fin 8) (l : Bool), running s = true →
      let m := s.onClocks (fun c => { c with gpioIn := if l then c.gpioIn ||| (1 <<< n.val : Byte) else c.gpioIn &&& ~~~(1 <<< n.val : Byte) })
      let edge := s.clocks.gpioIn.getLsbD n.val = !l ∧ bitOf (pinCfg s n.val) 0 = false ∧ bitOf (pinCfg s n.val) 4 = !l
      (edge → exec (.gpioEdge n l) s = .next (raiseWaking m [48 + n.val])) ∧ (¬edge → exec (.gpioEdge n l) s = .next m)) ∧
    (∀ (s : State) (x : RachisWord) (i : Island) (w0 : BitVec 320) (ws : List (BitVec 320)), coreUp s = true → let rx := w0 :: ws
      let k := x.src.toNat * 256 + x.dest.toNat
      let m := raiseWaking (s.onClocks (fun c => { c with retransmissions := c.retransmissions + 2, nak := some .crc })) [88]
      let d := x.src.toNat + x.dest.toNat * 2 ^ 8
      let fatal := i.val = 2 ∨ i.val = 11 ∨ i.val = 13
      let good := fun (w : BitVec 320) => crc32c (leBytes 36 (w.toNat % 2 ^ 288)) = BitVec.ofNat 32 (w.toNat / 2 ^ 288)
      (islandJoined s i.val = false → exec (.rachisTransfer x i w0 ws) s = .next (s.onClocks (fun c => { c with nak := some .islandOff }))) ∧
      (islandJoined s i.val = true →
        (∀ n w, n < 3 → rx[n]? = some w → good w → (∀ h < n, ∀ y, rx[h]? = some y → ¬good y) →
          exec (.rachisTransfer x i w0 ws) s = .next (s.onClocks (fun c => { c with
            retransmissions := c.retransmissions + n, nak := if n = 0 then none else some .crc
            delivered := some {
              payload := w.setWidth 256, dest := (w >>> 256).setWidth 8, src := (w >>> 264).setWidth 8, kind := (w >>> 272).setWidth 4
              seq := (w >>> 276).setWidth 12 }
            rachisSeq := SMap.set 0 c.rachisSeq k ((x.seq.toNat + 1) % 2 ^ 12) }))) ∧
        (3 ≤ rx.length → (∀ h < 3, ∀ y, rx[h]? = some y → ¬good y) →
          (k ∉ s.clocks.faulty → exec (.rachisTransfer x i w0 ws) s =
            .next (append (m.onClocks (fun c => { c with faulty := k :: c.faulty })) Entry.rachisFault Src.xemberon (d + 2 ^ 16))) ∧
          (k ∈ s.clocks.faulty → ¬fatal → exec (.rachisTransfer x i w0 ws) s =
            .next (append (retireIsland m i.val) Entry.rachisFault Src.xemberon (d + 2 ^ 16 + 2 ^ 17))) ∧
          (k ∈ s.clocks.faulty → fatal → ∃ t, exec (.rachisTransfer x i w0 ws) s = .next t ∧ t.boot.state = .resetting ∧
            t.boot.lastReset = 7 ∧ ∃ l, t.log.reports = l ++ [note m Entry.rachisFault Src.rom (d + 2 ^ 16 + 2 ^ 18)])))) ∧
    (∀ (s : State) (i : Island), coreUp s = true → islandOn s i.val = true → s.clocks.lost.getLsbD i.val = false →
      (i.val = 2 → exec (.islandClockLoss i) s = .next (faultReset s [note s Entry.islandClock Src.sentinel 2])) ∧
      (i.val ≠ 0 → i.val ≠ 2 → i.val ≠ 17 → s.clocks.isolated.getLsbD i.val = false →
        exec (.islandClockLoss i) s = .next (dispatch ((stopIsland (raiseWaking s [89]) i.val).onClocks (fun c => { c with
          lost := c.lost ||| islandBit i
          relockTries := SMap.set 0 c.relockTries i.val 0 })))) ∧
      exec (.pllLock i) s = .next (dispatch (raiseField (s.onClocks (fun c => { c with locked := c.locked ||| islandBit i }))))) ∧
    (∀ (s : State) (i : Island), coreUp s = true → s.clocks.lost.getLsbD i.val = true → let n := SMap.get 0 s.clocks.relockTries i.val + 1
      let entry := fun a => append a Entry.islandClock Src.sentinel (i.val + n * 2 ^ 8)
      exec (.islandRelock i true) s = .next (entry (resumeIsland s i.val)) ∧
      (n < 3 → exec (.islandRelock i false) s = .next (s.onClocks (fun c => { c with relockTries := SMap.set 0 c.relockTries i.val n }))) ∧
      (3 ≤ n → let t := append (retireIsland (entry s) i.val) Entry.islandClockFail Src.sentinel (i.val + n * 2 ^ 8)
        exec (.islandRelock i false) s = .next (if i.val = 13 then deviceReset t .pcieIncluded 3 else t))) ∧
    (∀ s : State, coreUp s = true →
      (s.clocks.refLostAt = none → exec (.refLost true) s =
        .next (append (raiseWaking (readerRefLost (s.onClocks (fun c => { c with refLostAt := some s.clocks.seta }))) [94]) Entry.refLost Src.sentinel 1)) ∧
      ∀ t, s.clocks.refLostAt = some t → exec (.refLost false) s = .next (append (s.onClocks (fun c => { c with refLostAt := none }))
        Entry.refLost Src.sentinel (min 0xFFFFFFFF (s.clocks.seta - t) * 2 ^ 32))) ∧
    ∀ s : State, running s = true → let top := s.clocks.seta / 2 ^ 56
      (top = s.clocks.setaTop → exec .setaHigh s = .next s) ∧
      (top ≠ s.clocks.setaTop → exec .setaHigh s = .next (append (s.onClocks (fun c => { c with setaTop := top })) Entry.setaHigh Src.xemberon top))

/-- R778, R780, R784, R587 to R589, R788, Tables 18.3, 18.5 and 18.6. -/
def Obligations.TestsDoubleBitFaultsAndScrubs : Prop :=
  (∀ (s : State) (u : UnitRef), testsRun s = true → aging s u = true →
      exec (.forcedTest u) s = .next (startForced (onUnit (raise (atInstant s ((unitOf s u).lastTest + forcedAge u)) [87]) u
        (fun x => { x with forced := true, why := .slot })))) ∧
    (∀ (s : State) (u : UnitRef), UnderTest s u →
      (∀ pass, exec (.testDone u pass) s = .next (dispatch (settleReturns (endTest (noteTested s u true pass) u pass)))) ∧
      endTest s u false = failUnit s u (testCauseCode u (unitOf s u).why) ∧
      (((unitOf s u).why = .join ∨ (unitOf s u).why = .returning) →
        endTest s u true = onUnit s u (fun x => { x with passed := true, lastTest := s.clocks.seta })) ∧
      ((unitOf s u).why ≠ .join → (unitOf s u).why ≠ .returning → unitOf (endTest s u true) u = { unitOf s u with
        lastTest := s.clocks.seta
        passed := false
        forced := testWanted s u
        st := if (unitOf (endTest s u true) u).st = .borrowed then .borrowed else .inService })) ∧
    (∀ s : State, HandlesEcc s → let m := eccCounted s
      exec (.eccDoubleBit .sramCode) s = .next (deviceReset m .pcieKept 5) ∧ exec (.eccDoubleBit .unowned) s = .next m ∧
      exec (.eccDoubleBit .share) s = .next (settleCloses (endShare m 5)) ∧
      (∀ f q, exec (.eccDoubleBit (.sramReplay f q)) s = .next (if pairServed (pairOf s f q) then closePair m f q false else m)) ∧
      (∀ f q t j, hostJob s f q t = some j → exec (.eccDoubleBit (.sramJob f q t)) s = .next (descriptorLost m j)) ∧
      (∀ u b w i, (pinnaOf s u).inv = some i → exec (.eccDoubleBit (.tcm u b w)) s = .next (trap m u i (pinnaOf s u).pc 9 w.toNat)) ∧
      (∀ n, frondState s n = .inService → exec (.eccDoubleBit (.hold n)) s = .next (dispatch (failFrond m n 4))) ∧
      (∀ n, (unitOf s (.calyptra n)).st = .inService → exec (.eccDoubleBit (.calyptraMem n)) s = .next (dispatch (failUnit m (.calyptra n) 4))) ∧
      (∀ g, exec (.eccDoubleBit (.scratch g)) s = .next (scratchFault m g.val)) ∧
      (∀ n, attrValid (attrOf s n.toNat) = true → n.toNat ≠ 1 → attrPersistent (attrOf s n.toNat) = false →
        exec (.eccDoubleBit (.medulla n)) s = .next (loseSlot (append (emptySlot m n.toNat) Entry.keyLost Src.xemberon
          (n.toNat + attrOf s n.toNat % 256 * 2 ^ 16)) n.toNat)) ∧
      (∀ n r, attrValid (attrOf s n.toNat) = true → n.toNat ≠ 1 → attrPersistent (attrOf s n.toNat) = true →
        recordFor s n.toNat (attrOf s n.toNat % 256) = some r → exec (.eccDoubleBit (.medulla n)) s = .next (loadRecord (emptySlot m n.toNat) r.2)) ∧
      (∀ c, exec (.eccDoubleBit (.counter c)) s = .next (counterFault m c.val)) ∧
      (∀ w, exec (.eccDoubleBit (.spore w)) s = .next (sporeFault m w.toNat)) ∧
      ∀ k i w, let n := append m Entry.flashEcc Src.xemberon (k.toNat + i.toNat * 2 ^ 8 + w.toNat * 2 ^ 16)
        exec (.eccDoubleBit (.flash k i w true)) s = .next (deviceReset n .pcieKept 9) ∧
        exec (.eccDoubleBit (.flash k i w false)) s = .next (flashFault n k.toNat i.toNat w.toNat)) ∧
    (∀ (s : State) (c : BitVec 16), running s = true → s.power.state ≠ .hibernate →
      let m := s.onHealth (fun h => { h with corrections := h.corrections + c.toNat })
      (∀ x, x ≠ .sram 0 → domainOn s (scrubDomain x) = true → exec (.scrubPass x c) s = .next m) ∧
      (domainOn s 25 = true → exec (.scrubPass (.sram 0) c) s = .next (raise (m.onHealth (fun h => { h with scrubPasses := h.scrubPasses + 1 })) [47]))) ∧
    (∀ (s : State) (c : BitVec 16), xemberon s = true → s.power.quiesced = false → let t := max s.clocks.seta (s.health.lastPatrol + 8640000000000)
      let m := (List.range 3).foldl (fun a k => suspendErase a k false) s
      ((List.range 3).any (programOn s) = true → exec (.patrolRead c) s = .next (raise s [79])) ∧
      ((List.range 3).any (programOn s) = false → s.power.sentinel = true → t < 2 ^ 64 → ∃ v, exec (.patrolRead c) s = .next v ∧
        v.clocks.seta = t ∧ v.health = { s.health with corrections := s.health.corrections + c.toNat, lastPatrol := t } ∧
        v = { m with clocks := v.clocks, power := v.power, tamper := v.tamper, health := v.health } ∧
        m.flash = { s.flash with ops := s.flash.ops.map (fun o =>
          if o.erase && o.begun && decide (arrayOf o.unit < 3) then { o with suspends := o.suspends + 1 } else o) })) ∧
    ∀ (s : State) (k : Fin 4), running s = true → s.power.quiesced = false → s.pinnas.split = false →
      let a : Fin 8 := ⟨2 * k.val, by omega⟩
      let b : Fin 8 := ⟨2 * k.val + 1, by omega⟩
      let u : Fin 8 := ⟨k.val, by omega⟩
      (unitOf s (.pinna a)).st = .inService → (unitOf s (.pinna b)).st = .inService →
      (∀ i, (pinnaOf s u).inv = some i → exec (.pairMismatch k) s =
        .next (startTest (startTest (trap s u i (pinnaOf s u).pc 8 0) (.pinna a) .mismatch) (.pinna b) .mismatch)) ∧
      ((pinnaOf s u).inv = none → exec (.pairMismatch k) s = .next (startTest (startTest s (.pinna a) .mismatch) (.pinna b) .mismatch))

/-- R306, R340, R536, R545 to R549, R567, R573, R574, R577, R586, R601. -/
def Obligations.FlashWorkEnds : Prop :=
  (∀ (s : State) (u : FlashUnit) (e : Bool) (x : FlashUse), OneErasePerArray s → OneErasePerArray (openFlash s u e x)) ∧
    (∀ (s : State) (i : Nat) (o : FlashOp), OpenOp s i o →
      let closed := closeOp s i
      (o.suspended = true → ∀ ok, exec (.flashOperationDone i ok) s = .next s) ∧
      (o.suspended = false →
        (gateRefuses s o.unit = false →
          (o.erase = false → exec (.flashOperationDone i true) s = .next (useDone (raise (startErases closed) [76]) o)) ∧
          (o.erase = true → exec (.flashOperationDone i true) s = .next (useDone (raise (closeErase closed o) [77]) o)) ∧
          (o.fails = 0 → o.unit.kind ≠ 5 → exec (.flashOperationDone i false) s =
            .next (s.onFlash (fun f => { f with ops := f.ops.set i { o with fails := 1 } })))) ∧
        ((gateRefuses s o.unit = true ∨ o.fails ≠ 0 ∨ o.unit.kind = 5) → exec (.flashOperationDone i false) s =
          .next (useFailed (startErases (if o.unit.kind < 4 then replaceIfWorn (markWorn closed o.unit) o.unit else closed)) o)))) ∧
    (∀ (s : State) (c : Cmd) (j : Job), let t := started s c j
      (Starts 0x0A05 c s j → param c 0 1 ≤ 3 → param c 2 2 < unitsOf (param c 0 1) → ∃ r, Answers (.flashWear c) s t j r ∧ r.status = 0 ∧
        r.res0 = eraseCount s ⟨param c 0 1, param c 2 2⟩) ∧
      (Starts 0x0A06 c s j → param c 0 1 ≤ 31 → param c 1 1 ≤ 1 → param c 2 2 = 0xF5F9 →
        Begins (.wornOverride c) s (flashCommand t j (configUnit t)))) ∧
    (∀ s : State, s.update.state = 1 → s.boot.state = .updating → s.jobs = [] → let m := appendConfig (dropInvocations s (fun _ => true))
      exec .crozierHandover s = .next (writeNext (m.onUpdate (fun u => { u with
        state := 2, crozier := true, progress := some (progressOf u) })))) ∧
    (∀ s : State, flashAlive s = true → let i := s.flash.ops.length
      (s.log.writing = none → ∀ ok, exec (.flashOperationDone i ok) s = .next s) ∧
      (∀ n, s.log.writing = some n → exec (.flashOperationDone i true) s = .next (raise (s.onLog (fun l => { l with writing := none })) [76])) ∧
      (s.log.writing = some 0 → exec (.flashOperationDone i false) s = .next (s.onLog (fun l => { l with writing := some 1 }))) ∧
      (∀ n q e ch, s.log.writing = some (n + 1) → SMap.get LogSlot.erased s.log.slots (s.log.next - 1) = .entry q e ch →
        s.log.next < logRoom s e.type → ∃ t, exec (.flashOperationDone i false) s = .next t ∧ s.log.next < t.log.next ∧
          SMap.get LogSlot.erased t.log.slots s.log.next = .entry q e ch ∧
          (1 ≤ s.log.next → SMap.get LogSlot.erased t.log.slots (s.log.next - 1) = .torn))) ∧
    (∀ (s : State) (o : FlashOp) (c : Cmd) (j : Job), o.use = .command c → s.jobs.find? (fun j => j.isFor c && j.stage == .flash) = some j →
      (j.op ≠ 0x0013 → j.op ≠ 0x0703 → j.op ≠ 0x0C05 →
        let done := commitOf (if writesConfig j.op then appendConfig s else s) j
        useDone s o = flashAnswer done.1 j done.2) ∧
      (j.op = 0x0703 → useDone s o = increment s j) ∧ (j.op = 0x0C05 → useDone s o = commitPinnaMode s j) ∧
      (j.op = 0x0013 → useDone s o = otpProgrammed s j o.unit.index ∧ useFailed s o = otpFailed s j o.unit.index) ∧
      (j.op ≠ 0x0013 → j.op ≠ 0x0703 → j.op ≠ 0x0103 → j.op ≠ 0x0206 → useFailed s o = flashAnswer s j { status := 0x0A07 }) ∧
      (j.op = 0x0703 → useFailed s o = if j.aux2 = 0 then flashAnswer s j { status := 0x0A07 } else backupFailed s j) ∧
      (j.op = 0x0206 → useFailed s o = flashAnswer (persistFailed s j) j { status := 0x0A07 }) ∧
      (j.op = 0x0103 → useFailed s o = flashAnswer (undoTenantSet s j) j { status := 0x0A07 })) ∧
    (∀ (s : State) (j : Job) (r : Reply), s.power.quiesced = false →
      flashAnswer s j r = endWaitingReset (dispatch (settleDeletes (post s j r))) j.cmd.fn) ∧
    (∀ (s : State) (j : Job), let f : FnId := BitVec.ofNat 8 (param j.cmd 0 1)
      ((commitCreate s j).2 = { res0 := (fnOf s f).generation.toNat } ∧ ∃ m, (commitCreate s j).1 = append m Entry.tenantCreate (Src.host 0)
        (f.toNat + (fnOf s f).generation.toNat * 2 ^ 8 + leNat ((Config.sha384 (paramBytes j.cmd 16 16)).take 4) * 2 ^ 32) ∧
        (fnOf m f).assigned = true ∧ (fnOf m f).counterCap = param j.cmd 4 2 ∧ (fnOf m f).appletCap = param j.cmd 6 1 ∧
        (fnOf m f).slots = (freeSlots s).take (param j.cmd 2 2) ∧ ∀ n, n ≠ f → fnOf m n = fnOf s n) ∧
      ((commitRelease s j).2 = {} ∧ ∃ m, (commitRelease s j).1 = append m Entry.tenantRelease (Src.host 0)
        (f.toNat + (fnOf s f).generation.toNat * 2 ^ 8) ∧ (fnOf m f).assigned = false ∧ (fnOf m f).generation = (fnOf s f).generation + 1 ∧
        (fnOf m f).slots = [] ∧ (fnOf m f).label = [] ∧ (∀ e, e ∈ m.counters.owner → e.2 ≠ f.toNat + 1) ∧ ∀ e, e ∈ m.medulla.records → e.2.owner ≠ f.toNat) ∧
      ((commitTenantSet s j).2 = {} ∧ fnOf (commitTenantSet s j).1 f = { fnOf s f with tenRecord := BitVec.ofNat 32 (param j.cmd 8 4) }) ∧
      (firstRecord s.counters (j.aux - 1) = none → commitAlloc s j = (s, exhausted 8)) ∧
      (firstRecord s.counters (j.aux - 1) ≠ none →
        SMap.get 0 (commitAlloc s j).1.counters.owner (j.aux - 1) = j.cmd.fn.toNat + 1 ∧ (commitAlloc s j).2.res0 = j.aux - 1) ∧
      ((commitDelete s j).2 = deleteReply s (j.aux - 1) ∧ (slotOf (commitDelete s j).1 (j.aux - 1)).key = []) ∧
      SMap.get false (commitOverride s j).1.flash.override (param j.cmd 0 1) = bitOf (param j.cmd 1 1) 0) ∧
    (∀ (s : State) (j : Job) (w : Nat), let m := otpFailed s j w
      w ∈ m.flash.otpBad ∧ otp m w = (takeFree s).1 ∧ ∀ x, x ≠ w → otp m x = otp s x) ∧
    (∀ (s : State) (i : Nat) (o : FlashOp), OpenOp s i o → o.erase = true →
      (o.starved = true → exec (.eraseStarved i) s = .next s) ∧
      (o.starved = false → s.power.sentinel = true → max s.clocks.seta (o.startedAt + 100000000) < 2 ^ 64 → ∃ m v, exec (.eraseStarved i) s =
          .next (append (raise m [78]) Entry.eraseStarved Src.xemberon
            (o.unit.kind + o.unit.index * 2 ^ 8 + (o.suspends + v) % 2 ^ 32 * 2 ^ 32)) ∧
        m.flash.ops = s.flash.ops.set i { o with starved := true } ∧ m.clocks.seta = max s.clocks.seta (o.startedAt + 100000000))) ∧
    (∀ (s : State) (v t : Nat), OwnWork s → s.medulla.compacting = none → freeRecords s < 32 → s.jobs.any (·.place.isSome) = false →
      keyVictim s = some v → (emptySectors s).head? = some t →
      let live := (s.medulla.records.filter (fun e => e.1 / 32 == v && recLive e.2)).map (·.2)
      exec .keyRegionCompaction s = .next (openFlash (s.onMedulla (fun m => { m with
        compacting := some v, records := (live.zipIdx).foldl (fun r e => SMap.set {} r (32 * t + e.2) e.1) m.records })) ⟨2, 18 + v⟩ true (.keyRegion v)) ∧
      (keySectorErased s v).medulla.compacting = none ∧ ∀ x, x ∈ (keySectorErased s v).medulla.records → x.1 / 32 ≠ v) ∧
    (∀ s : State, OwnWork s → s.flash.ops.any (fun o => match o.use with | .configHalf _ => true | _ => false) = false → s.flash.configCopying = false →
      (s.flash.configUsed + 64 ≤ configRoom s → exec .configHalfSwitch s = .next s) ∧
      (configRoom s < s.flash.configUsed + 64 → exec .configHalfSwitch s =
        .next (openFlash (switchHalf s) ⟨2, oldHalf (switchHalf s)⟩ true (.configHalf (oldHalf (switchHalf s)))) ∧
        (switchHalf s).flash.configActive = 1 - s.flash.configActive)) ∧
    (∀ (s : State) (x : Nat), OwnWork s → s.flash.ops.any (fun o => match o.use with | .relocation _ => true | _ => false) = false →
      counterWriting s = false → erasedSectors s.counters < 4 → relocationVictim s.counters = some x → liveCount (relocate s.counters x) x = 0 →
      exec .counterRelocation s = .next (openFlash (s.onCounters (fun _ => relocate s.counters x)) ⟨2, 126 + x⟩ true (.relocation x))) ∧
    ∀ s : State, s.power.feedWarn = false → s.power.state ≠ .off → s.power.state ≠ .hibernate →
      (s.flash.otpPending = some 32 → exec .otpProgramStart s = .next (retireNow s)) ∧
      (s.flash.otpPending ≠ some 32 → exec .otpProgramStart s =
        .next (s.onFlash (fun f => { f with ops := f.ops.map (fun o => if o.unit.kind == 5 then { o with begun := true } else o) })))

/-- R721, R727 to R740, R763, R764, Tables 17.1 to 17.7. -/
def Obligations.TamperResponses : Prop :=
  (∀ (s : State) (n : Fin 13) (z : ZeroEnv), watched s n.val = true →
      (policyLevel s n.val = 7 → exec (.tamperAlarm n z) s = .next s) ∧
      (policyLevel s n.val ≠ 7 → exec (.tamperAlarm n z) s =
        .next (noticed s (respond (alarmed s n) n.val (policyLevel s n.val) false z) n))) ∧
    (∀ (s : State) (n : Nat) (esc : Bool) (z : ZeroEnv), XemberonAnswers s →
      let st := alarmState s
      let d := fun lvl k => tamperDetail n lvl esc st k
      let a1 := abortJobs (dozeWake s) n
      let a2 := abortJobs (latchAlarm (dozeWake s) n 2) n
      (respond s n 5 esc z = append (dozeWake s) Entry.tamperNotice (Src.tamper n) (tamperDetail n 5 false st 0)) ∧
      (respond s n 1 esc z = fnEvent (append a1.1 Entry.tamper (Src.tamper n) (d 1 a1.2)) 0 4) ∧
      (respond s n 2 esc z = fnEvent (setLatchBit (append (suspendFns a2.1 n) Entry.tamper (Src.tamper n) (d 2 a2.2)) 14) 0 4) ∧
      ∀ lvl, (lvl = 3 ∨ lvl = 4) →
        let k := ((dozeWake s).jobs.filter onEngine).length
        let b := (latchAlarm (dozeWake s) n lvl).onTamper (fun t => { t with suspended := t.suspended ||| (1 <<< n : BitVec 13) })
        let tamper := fun a => append a Entry.tamper (Src.tamper n) (d lvl k)
        let e := fun a => fnEvent (setLatchBit a 14) 0 4
        (zeroisedInForce b n = false → respond s n lvl esc z =
          if lvl = 4 ∨ z.clears.val = 3 ∨ z.seeds.val = 3 then retireSoon (e (zeroiseEntries (tamper (zeroiseAll b z true)) z true))
          else e (zeroiseEntries (tamper (zeroiseAll b z true)) z true)) ∧
        (zeroisedInForce b n = true → respond s n lvl esc z = if lvl = 4 then retireSoon (e (tamper b)) else e (tamper b))) ∧
    (∀ (s : State) (n : Nat) (z : ZeroEnv), SentinelAnswers s →
      (respond s n 5 false z = s.onTamper (fun t => { t with notices := t.notices ||| (1 <<< (2 * n + 1) : BitVec 26) })) ∧
      (respond s n 1 false z = s.onTamper (fun t => { t with notices := t.notices ||| (1 <<< (2 * n) : BitVec 26) })) ∧
      (respond s n 2 false z = latchAlarm s n 2) ∧
      (zeroisedInForce s n = false → z.clears.val ≠ 3 → z.seeds.val ≠ 3 →
        respond s n 3 false z = eraseSeed (zeroiseClear (latchAlarm s n 3) z) z) ∧
      (zeroisedInForce s n = false → respond s n 4 false z = retireSoon (eraseSeed (zeroiseClear (latchAlarm s n 4) z) z))) ∧
    (∀ (w : U64) (n lvl : Nat), n < 13 → lvl ≤ 4 → let x := latchWith w n lvl
      (∀ k, k < 16 → x.getLsbD k = (w.getLsbD k || k == n)) ∧ latchLevel x = max lvl (latchLevel w) ∧
      latchFirst x = if latchSources w = 0 ∧ w.getLsbD 13 = false then n else latchFirst w) ∧
    (∀ (s : State) (n lvl : Nat), (latchAlarm s n lvl).tamper.latch = latchWith s.tamper.latch n lvl ∧
      bitOf (sporeWord (latchAlarm s n lvl) 48).toNat 0 = true) ∧
    (∀ (s : State) (z : ZeroEnv), SMap.wf {} s.engines.units = true → SMap.wf {} s.fns = true → let t := zeroiseClear s z
      t.medulla.slots = [] ∧ t.medulla.kek = none ∧ (∀ j, j ∈ t.jobs → j.copies = []) ∧ (∀ f, (fnOf t f).ctxKey = []) ∧
      (z.seeds.val ≠ 3 → seedWords (eraseSeed s z) = [0, 0, 0, 0] ∧ seedErased (eraseSeed s z) = true)) ∧
    (∀ (s : State) (z : ZeroEnv), s.power.sentinel = true → let m := s.onTamper (fun t => { t with net := (t.net + 1) % 128 })
      exec (.shieldForcedCheck true z) s = .next m ∧ exec (.shieldForcedCheck false z) s = exec (.tamperAlarm 0 z) m) ∧
    (∀ (s : State) (n : Fin 13), s.tamper.live.getLsbD n.val = true → exec (.sourceInactive n) s = .next (s.onTamper (fun t => { t with
      live := t.live &&& ~~~(1 <<< n.val : BitVec 13)
      liveSince := SMap.set 0 t.liveSince n.val 0
      quietSince := SMap.set 0 t.quietSince n.val (s.clocks.seta + 1) }))) ∧
    (∀ (s : State) (n : Fin 13) (z : ZeroEnv), Escalates s n →
      let m := (atInstant s (SMap.get 0 s.tamper.liveSince n.val - 1 + 100000)).onTamper (fun t => { t with
        escalated := t.escalated ||| (1 <<< n.val : BitVec 13) })
      (running s = true → s.power.state ≠ .hibernate → s.power.state ≠ .off → exec (.tamperEscalate n z) s =
        .next (respond (append m Entry.tamperEscalate (Src.tamper n.val) (n.val + 3 * 2 ^ 8)) n.val 3 true z)) ∧
      (running s = false → exec (.tamperEscalate n z) s = .next (respond m n.val 3 true z))) ∧
    (∀ s : State, s.tamper.suspended ≠ 0 → s.tamper.suspended &&& s.tamper.live = 0 → running s = true → ∃ m,
      exec .tamperEnd s = .next (dispatch (append m Entry.tamperEnd Src.xemberon s.tamper.suspended.toNat)) ∧
      m.tamper.suspended = 0 ∧ m.tamper.escalated = 0 ∧ m.tamper.live = s.tamper.live ∧ m.tamper.latch = s.tamper.latch ∧
      (s.power.sentinel = true → (∀ n, n < 13 → SMap.get 0 s.tamper.quietSince n + 1000000 ≤ 2 ^ 64) → s.clocks.seta ≤ m.clocks.seta ∧
        ∀ n, n < 13 → s.tamper.suspended.getLsbD n = true → SMap.get 0 s.tamper.quietSince n - 1 + 1000000 ≤ m.clocks.seta) ∧
      m = { s with clocks := m.clocks, power := m.power, tamper := m.tamper }) ∧
    ∀ (s : State) (m : Fsm) (v : Byte) (z : ZeroEnv), s.power.sentinel = true → (v ∈ fsmCodes m → exec (.fsmInvalid ⟨m, v⟩ z) s = .next s) ∧
      let f := s.onTamper (fun t => { t with forced := if t.forced.contains m then t.forced else m :: t.forced })
      v ∉ fsmCodes m → exec (.fsmInvalid ⟨m, v⟩ z) s = (if raisesSix m then exec (.tamperAlarm 6 z) (forceSafe f m z) else .next (forceSafe f m z)) ∧ m ∈ f.tamper.forced

/-- R624 to R656, R659, Tables 15.7 to 15.9. That an AUTHENTICATE which fails an early check also consumes the challenge is R651 as the model reads it (log entry 70). -/
def Obligations.SporeStoreAndTagMode : Prop :=
  (∀ (s : State) (w : BitVec 10) (v : U64), 1 ≤ heiOf s → w.toNat < 540 → w.toNat ≠ 50 → w.toNat ≠ 51 →
      ∃ t, exec (.sporeWordWrite w v) s = .next t ∧ sporeWord t w.toNat = v ∧ (∀ k, k ≠ w.toNat → sporeWord t k = sporeWord s k) ∧
        t = { s with spore := t.spore }) ∧
    (∀ s : State, running s = true →
      (s.tag.opened = false → exec .sporeRingMirror s = .next (mirrorRing s) ∧ (mirrorRing s).log.toMirror = [] ∧
        exec .challengePoolRefill s = .next (refillPool s)) ∧
      (s.tag.opened = true → exec .sporeRingMirror s = .next s ∧ exec .challengePoolRefill s = .next s)) ∧
    (∀ (s : State) (h : Fin 4), let m := s.onTag (fun x => { x with field := true, hei := h.val, fieldOns := if x.field then x.fieldOns else x.fieldOns + 1 })
      ((s.tag.field = true ∨ running s = false) → exec (.tagFieldOn h) s = .next m) ∧
      (s.tag.field = false → running s = true → exec (.tagFieldOn h) s = .next (raise m [72]))) ∧
    (∀ s : State, s.tag.field = true → s.reader.fieldOn = false → exec .tagActivation s =
      .next ((endSession s).onTag (fun x => { field := x.field, hei := x.hei, fieldOns := x.fieldOns, opened := true, answer := tagUid s }))) ∧
    (∀ s : State, s.tag.opened = true →
      let m := s.onTag (fun x => { field := x.field, hei := x.hei, fieldOns := x.fieldOns })
      let n := if running s then importVisits m else m
      exec (.tagSessionEnd false) s = .next n ∧ exec (.tagSessionEnd true) s = .next (n.onTag (fun x => { fieldOns := x.fieldOns }))) ∧
    (∀ (s : State) (v : Visit), s.spore.bad = [] → let k := visitSlot s
      let t := writeVisitRecord s v
      k < 8 ∧ visitCounts t k = true ∧ visitSerial t k = sporeCounter t 1) ∧
    (∀ (s : State) (a : Apdu), TagOpen s →
      (a.cla ≠ 0 → a.cla ≠ 0x80 → TagSays (.unsupportedApdu a) s s [] 0x6E00) ∧
      (a.cla = 0x80 → a.ins ∉ ([0x10, 0x20, 0x22, 0x32, 0x30] : List Byte) → TagSays (.unsupportedApdu a) s s [] 0x6D00) ∧
      (ApduIs a 0 0xA4 4 0 → 5 ≤ a.data.length → a.data.length ≤ 16 → a.le = some 0 → a.data ≠ sporeAid →
        TagSays (.unsupportedApdu a) s s [] 0x6A82)) ∧
    (∀ (s : State) (a : Apdu), TagOpen s → ApduIs a 0 0xA4 4 0 → a.data = sporeAid → a.le = some 0 → Readable s [38, 39, 48] →
      TagSays (.selectApdu a) s (s.onTag (fun x => { x with selected := true })) (selectData s) 0x9000 ∧ (selectData s).length = 24) ∧
    (∀ (s : State) (a : Apdu), Selected s → ApduIs a 0 0x84 0 0 → ApduAsks a 0x20 → let c := sporeCounter s 3
      let b := sporeBytes s (poolBase (c % 32) + 1) 4
      (heiOf s < 2 → TagSays (.getChallenge a) s s [] 0x6400) ∧ (2 ≤ heiOf s → sporeSpent s 3 = true → TagSays (.getChallenge a) s s [] 0x6A84) ∧
      (2 ≤ heiOf s → sporeSpent s 3 = false → Readable s ((List.range 5).map (poolBase (c % 32) + ·)) →
        (poolUse s (c % 32) = some c → TagSays (.getChallenge a) s ((bumpSpore s 3).onTag (fun x => { x with challenge := some (c, b) })) b 0x9000) ∧
        (poolUse s (c % 32) ≠ some c → TagSays (.getChallenge a) s s [] 0x6A84))) ∧
    (∀ (s : State) (a : Apdu), Selected s → ApduIs a 0x80 0x10 0 0 → let m := s.onTag (fun x => { x with challenge := none })
      (a.data.length ≠ 360 → TagSays (.authenticate a) s m [] 0x6700) ∧
      (a.data.length = 360 →
        (s.tag.challenge = none → TagSays (.authenticate a) s m [] 0x6985) ∧
        ∀ u b, s.tag.challenge = some (u, b) →
          (3 ≤ s.tag.fails → TagSays (.authenticate a) s m [] 0x6983) ∧
          (s.tag.fails < 3 → heiOf s < 2 → TagSays (.authenticate a) s m [] 0x6400) ∧
          (s.tag.fails < 3 → 2 ≤ heiOf s → sporeSpent s 3 = true → TagSays (.authenticate a) s m [] 0x6A84) ∧
          (s.tag.fails < 3 → 2 ≤ heiOf s → sporeSpent s 3 = false → Readable s [32, 33, 34, 35, 36, 37, 38, 39] →
            let cred := a.data.take 296
            let why := credRefusal s (sporeBytes s 32 6) (sporeBytes s 38 2) cred (a.data.drop 296) b false
            (why ≠ 0 → TagSays (.authenticate a) s ((bumpSpore m 2).onTag (fun x => { x with fails := x.fails + 1 })) [] 0x6300) ∧
            (why = 0 → sporeSpent s 0 = true → TagSays (.authenticate a) s m [] 0x6A84) ∧
            (why = 0 → sporeSpent s 0 = false → TagSays (.authenticate a) s ((bumpSpore m 0).onTag (fun x => { x with
              scope := some (credScope cred)
              techId := BitVec.ofNat 32 (credTech cred)
              credDigest := Config.sha384 cred
              usedChallenge := u })) [] 0x9000)))) ∧
    (∀ (s : State) (a : Apdu), Selected s → a.cla = 0x80 → a.ins = 0x20 → a.p1.toNat ≤ 31 → 1 ≤ a.p2.toNat → a.p2.toNat ≤ 5 → ApduAsks a 0 →
      let l := (List.range a.p2.toNat).map (fun i => ringSlot s (a.p1.toNat + i))
      (scopeHas s 0 = false → TagSays (.readLogHead a) s s [] 0x6982) ∧
      (scopeHas s 0 = true → Readable s (l.flatMap (fun k => (List.range 6).map (52 + 6 * k + ·))) →
        TagSays (.readLogHead a) s (s.onTag (fun x => { x with actions := x.actions ||| 1, entriesRead := x.entriesRead + a.p2.toNat }))
          (l.flatMap (fun k => sporeBytes s (52 + 6 * k) 6)) 0x9000)) ∧
    (∀ (s : State) (a : Apdu), Selected s →
      (ApduIs a 0x80 0x22 0 0 → ApduAsks a 0x39 →
        (scopeHas s 1 = false → TagSays (.readCounters a) s s [] 0x6982) ∧
        (scopeHas s 1 = true → countersUnreadable s = none → ∃ d, d.length = 57 ∧ (∀ n, n < 16 → beNat ((d.drop (3 * n)).take 3) = sporeCounter s n) ∧
          TagSays (.readCounters a) s (s.onTag (fun x => { x with actions := x.actions ||| 2 })) d 0x9000)) ∧
      (∀ k, ApduIs a 0x80 0x32 k 0 → k.toNat ≤ 7 → ApduAsks a 0x48 → scopeHas s 1 = true → Readable s ((List.range 9).map (visitBase k.toNat + ·)) →
        TagSays (.readVisits a) s (s.onTag (fun x => { x with actions := x.actions ||| 4 })) (sporeBytes s (visitBase k.toNat) 9) 0x9000) ∧
      (ApduIs a 0x80 0x30 0 0 → a.data.length = 4 →
        (s.tag.visitDone = true → TagSays (.writeVisit a) s s [] 0x6985) ∧
        (s.tag.visitDone = false → scopeHas s 2 = true → heiOf s < 2 → TagSays (.writeVisit a) s s [] 0x6400) ∧
        (s.tag.visitDone = false → scopeHas s 2 = true → 2 ≤ heiOf s → sporeSpent s 1 = true → TagSays (.writeVisit a) s s [] 0x6A84) ∧
        (s.tag.visitDone = false → scopeHas s 2 = true → 2 ≤ heiOf s → sporeSpent s 1 = false →
          let t := writeVisitRecord s (tagVisit s (beNat a.data))
          TagSays (.writeVisit a) s (t.onTag (fun x => { x with visitDone := true })) (beBytes 3 (sporeCounter t 1)) 0x9000)))

/-- R664 to R708, Tables 16.1 to 16.13. -/
def Obligations.TurtisFramesAndSlots : Prop :=
  (∀ (s : State) (i : Instr) (f : Frame) (pid : Nat), turtisFrame i = some (f, pid) → let p := f.port
      (portWorks s p = false → exec i s = .next s) ∧
      (portWorks s p = true → ¬CrcRight f pid → exec i s = .next (onPort s p (fun x => { x with crcErrors := x.crcErrors + 1 }))) ∧
      (portWorks s p = true → CrcRight f pid → enrolled s p f.src = false → exec i s = .next (seeStranger s p f.src)) ∧
      (portWorks s p = true → CrcRight f pid → enrolled s p f.src = true → (portOf s p).mutes.any (·.1 == f.src) = true → exec i s = .next s) ∧
      (Listens s f pid → ¬MacRight s f pid → exec i s = .next (onPort s p (fun x => { x with macFails := x.macFails + 1 }))) ∧
      (Listens s f pid → MacRight s f pid → ¬InGuard s f → exec i s = .next (seeIntrusion s p f.src f.offset)) ∧
      (Accepted s f pid → ¬ForUs s f → exec i s = .next (frameHeard s f pid))) ∧
    (∀ (s : State) (f : Frame), ForUs s f → let p := f.port
      (Accepted s f 0x01 → exec (.beacon f) s = .next (takeBeacon (frameHeard s f 0x01) f)) ∧
      (Accepted s f 0x02 → let m := frameHeard s f 0x02
        ((entryOfAddr m f.src).any (fun e => e.identity == (f.payload.drop 8).take 16) = false → exec (.hello f) s = .next (seeStranger m p f.src)) ∧
        ((entryOfAddr m f.src).any (fun e => e.identity == (f.payload.drop 8).take 16) = true → exec (.hello f) s = .next (takeHello m f))) ∧
      (Accepted s f 0x03 → exec (.turtisClaim f) s = .next (onPort (frameHeard s f 0x03) p (fun x =>
        if isMaster x && f.src.toNat < (portAddr x).toNat then { x with heir := some f.src } else x))) ∧
      (Accepted s f 0x04 → exec (.grantReq f) s = .next (onPort (frameHeard s f 0x04) p (fun x =>
        if isMaster x && x.grant != f.src && !x.grantQueue.contains f.src then { x with grantQueue := x.grantQueue ++ [f.src] } else x))) ∧
      (Accepted s f 0x15 → exec (.turtisEnd f) s = .next (onPort (frameHeard s f 0x15) p (fun x =>
        if isMaster x && x.grant == f.src then { x with grant := 0xFF } else x))) ∧
      (Accepted s f 0x10 → let m := frameHeard s f 0x10
        let o := offeredOf f.payload
        (m.update.pulling = true → bitOf o.flags 1 = true → exec (.offer f) s = .next (takePull m f o)) ∧
        (m.update.pulling = false → bitOf o.flags 1 = false → xemberon m = true → exec (.offer f) s = .next (takeOffer m f o))) ∧
      (Accepted s f 0x11 → let m := frameHeard s f 0x11
        (portOf m p).feed.on = true → recField f.payload 0 8 = m.update.session.toNat → recField f.payload 8 1 ≠ 0 →
        (nbrOf (portOf m p) f.src).returning = false → exec (.acceptFrame f) s = .next (setReceiver m p f.src { highWater := recField f.payload 10 2, status := 2 })) ∧
      (Accepted s f 0x12 → let m := frameHeard s f 0x12
        writingBank m = true → m.update.isLocal = false → f.src = m.update.source → p = m.update.srcPort → exec (.turtisData f) s = .next (takeData m f)) ∧
      (Accepted s f 0x13 → exec (.turtisAck f) s = .next (takeAck (frameHeard s f 0x13) f)) ∧
      (Accepted s f 0x14 → let m := frameHeard s f 0x14
        (xemberon m = true ∨ m.update.crozier = true) →
        exec (.pullReq f) s = .next (onFeed (beginFeed m p true) p (fun x => { x with offered := false })))) ∧
    (∀ (s : State) (f : Frame), let p := f.port
      let x := portOf s p
      let y := portOf (takeBeacon s f) p
      let b := f.payload
      (isMaster x = true → (portAddr x).toNat < f.src.toNat → takeBeacon s f = s) ∧ (¬(isMaster x = true ∧ (portAddr x).toNat < f.src.toNat) →
      y.sfn = BitVec.ofNat 32 (recField b 0 4) ∧ y.master = BitVec.ofNat 8 (recField b 4 1) ∧ y.layoutUpdate = (recField b 5 1 == 1) ∧
      y.grant = BitVec.ofNat 8 (recField b 6 1) ∧ y.missed = 0 ∧ y.beacons = x.beacons + 1 ∧ y.synced = (x.synced || decide (1 ≤ x.beacons)) ∧
      (nbrOf y f.src).known = true ∧ (nbrOf y f.src).nonce = (b.drop 10).take 8)) ∧
    (∀ (s : State) (f : Frame) (o : Offered), let r := offerResult s o
      (s.update.state ≠ 0 → s.update.session = o.session → s.update.crozier = true → r = 0) ∧
      (s.update.crozier = false → isCurrent s o = true → r = 1) ∧
      (s.update.crozier = false → isCurrent s o = false → s.update.state ≠ 0 → r = 4) ∧
      (s.update.state = 0 → isCurrent s o = false → s.power.safeHold = none → floorSpent s = false → 1 ≤ o.size → o.size ≤ 3932160 →
        o.chunks = chunksOf o.size → o.svn < floorValue s → r = 2) ∧
      (r ≠ 0 → takeOffer s f o = append (sendAccept s f.port f.src o.session.toNat r 0) Entry.updateDeclined Src.xemberon
        (r + f.src.toNat * 2 ^ 8 + o.session.toNat % 2 ^ 32 * 2 ^ 32))) ∧
    (∀ (s : State) (f : Frame), (s.update.chunks ≤ f.seq.toNat ∨ f.payload.length ≠ 256) → takeData s f = s) ∧
    (∀ (s : State) (p : Fin 2) (echo : Bool), portWorks s p = false → exec (.slotStart p echo) s = .next s) ∧
    (∀ (s : State) (p : Fin 2) (echo : Bool), portWorks s p = true →
      let m := closeSlot s p
      let k := ((portOf m p).slot + 1) % 16
      let n := onPort m p (fun x => { x with slot := k, heard := false, sent := none, busy := if x.busyMark then x.busy else 0, busyMark := false })
      let w := if k = 0 then startSuperframe n p else n
      let mine := (portOf w p).running = true ∧ slotOwner w p k = some (portAddr (portOf w p)) ∧ mayTransmit w p = true
      (¬mine → exec (.slotStart p echo) s = .next w) ∧
      (mine → exec (.slotStart p true) s = .next (finishUpdate (offerSent (sendInSlot (portEvent w p 1) p) p)) ∧
        exec (.slotStart p false) s = .next (onPort (portEvent w p 1) p (fun x => { x with collisions := satAdd 0xFFFF x.collisions 1 })))) ∧
    (∀ (s : State) (p : Fin 2) (a : Byte), let n := nbrOf (portOf s p) a
      (n.known = true → n.lost = false → 2 ≤ n.empty →
        emptySlotOf s p a = loseNbr (onNbr s p a (fun n => { n with empty := n.empty + 1 })) p a) ∧
      ((n.known = false ∨ n.lost = true ∨ n.empty < 2) → emptySlotOf s p a = onNbr s p a (fun n => { n with empty := n.empty + 1 })) ∧
      (n.lost = true → n.gone = false → let m := onNbr s p a (fun n => { n with gone := true })
        let r := match receiverOf m p a with | some r => setReceiver m p a { r with status := 3 } | none => m
        exec (.retryTimerExpiry p a) s = .next (finishUpdate (append r Entry.neighbourGone (Src.port p.val)
          (nbrDetail s p a (ackedBy s p a) + if s.update.state ≠ 0 ∧ takenOver s p a = true then 2 ^ 32 else 0)))) ∧
      ((n.lost = false ∨ n.gone = true) → exec (.retryTimerExpiry p a) s = .next s)) ∧
    (∀ (s : State) (c : Cmd) (j : Job), let t := started s c j
      let x := portOf s (if param c 0 1 = 0 then 0 else 1)
      (Starts 0x0A02 c s j → ∃ r, Answers (.updateStatus c) s t j r ∧ r.status = 0 ∧ r.res1 = s.update.chunks ∧
        r.res2 = s.update.session.toNat % 2 ^ 32) ∧
      (Starts 0x0A03 c s j → param c 0 1 ≤ 1 → param c 1 1 ≤ 1 → ∃ r, Answers (.chainStatus c) s t j r ∧ r.status = 0 ∧
        r.res2 = if param c 1 1 = 0 then heardMask x / 2 ^ 32 else min 0xFFFFFFFF x.badPids) ∧
      (Starts 0x0A04 c s j → param c 0 8 % 8 = 0 → 1 ≤ param c 8 1 → param c 8 1 ≤ 64 → param c 16 2 = 0xF5FB → s.update.state = 0 →
        let bs := hostRead s 0 (param c 0 8) (24 * param c 8 1)
        rosterBad bs = false → ((rosterOf bs).map (·.address)).Nodup →
          Begins (.rosterSet c) s (onJob (flashCommand t j (configUnit t)) c (fun y => { y with draws := bs }))) ∧
      (Starts 0x0A01 c s j → param c 0 8 % 8 = 0 → param c 8 1 = 1 → param c 10 2 = 0xF5FE → s.update.state = 0 → floorSpent t = false →
        s.flash.crozierTorn = false → bankWorn t = false → let m := manifestOf (hostRead s 0 (param c 0 8) 512)
        m.ok = true → floorValue t ≤ m.svn → ∃ v, exec (.updateStart c) s = .next v ∧ v.boot.state = .updating ∧ v.update.state = 1 ∧
          v.update.session = newSession t ∧ v.update.digest = m.digest)) ∧
    (∀ (s : State) (p : Fin 2), portWorks s p = true ↔ ((portOf s p).running = true ∧ islandWorks s (14 + p.val) = true)) ∧
    ∀ (s : State) (p : Fin 2), portWorks s p = true →
      exec (.discardedFrame p .crc) s = .next (onPort s p (fun x => { x with crcErrors := x.crcErrors + 1 })) ∧
      (∀ a, exec (.discardedFrame p (.stranger a)) s = .next (seeStranger s p a)) ∧
      (∀ a, exec (.discardedFrame p (.mac a)) s = .next (onPort s p (fun x => { x with macFails := x.macFails + 1 }))) ∧
      exec (.discardedFrame p .pid) s = .next (onPort s p (fun x => { x with badPids := x.badPids + 1 })) ∧
      (∀ a d, exec (.discardedFrame p (.slotWindow a d)) s = .next (if enrolled s p a then seeIntrusion s p a d else seeStranger s p a)) ∧
      exec (.discardedFrame p .collision) s = .next (onPort s p (fun x => { x with collisions := satAdd 0xFFFF x.collisions 1, sent := none })) ∧
      let n := (portOf s p).busy + 1
      let m := onPort s p (fun x => { x with busy := n, busyMark := true })
      ((n < 16 ∨ (portOf s p).busFault = true) → exec (.discardedFrame p .lineBusy) s = .next m) ∧
      (16 ≤ n → (portOf s p).busFault = false → exec (.discardedFrame p .lineBusy) s =
        .next (append (onPort m p (fun x => { x with busFault := true })) Entry.busFault (Src.port p.val) (n * 2 ^ 8)))

/-- The canonical form that other statements take as a premise; at reset it holds (`Obligations.ResetStartsUnpowered`). -/
def Obligations.EveryStepKeepsTheCanonicalForm : Prop :=
  ∀ s t : State, CanonicalRecords s → CanonicalMemories s → step s = .next t → CanonicalRecords t ∧ CanonicalMemories t
end

