-- ==== Sys2Proof/Laws/SMap.lean ====
section
/-! SUPPORT. Laws of the sparse maps: a read after a write, on the same key and on another, for every map; the canonical form is
kept by every operation; and the same for byte memories. -/

namespace Sys2Proof.SMap

variable {α : Type} {d : α} {m : SMap α} {k k' : Nat} {v : α}

@[simp] theorem get_nil : get d [] k = d := rfl

@[simp] theorem get_put_same : get d (put k v m) k = v := by
  induction m with
  | nil => simp [put, get]
  | cons e r ih =>
    obtain ⟨j, w⟩ := e
    by_cases h : k < j
    · simp [put, h, get]
    · by_cases h2 : j = k <;> simp [put, h, h2, get, ih]

theorem get_put_ne (h : k' ≠ k) : get d (put k v m) k' = get d m k' := by
  induction m with
  | nil => simp [put, get, h.symm]
  | cons e r ih =>
    obtain ⟨j, w⟩ := e
    by_cases h1 : k < j
    · simp [put, h1, get, h.symm]
    · by_cases h2 : j = k
      · subst h2
        simp [put, get, h.symm]
      · simp [put, h1, h2, get, ih]

@[simp] theorem get_del_same : get d (del k m) k = d := by
  induction m with
  | nil => rfl
  | cons e r ih =>
    obtain ⟨j, w⟩ := e
    by_cases h : j = k
    · subst h
      simpa [del] using ih
    · simp only [del, List.filter_cons] at ih ⊢
      simp [h, get, ih]

theorem get_del_ne (h : k' ≠ k) : get d (del k m) k' = get d m k' := by
  induction m with
  | nil => rfl
  | cons e r ih =>
    obtain ⟨j, w⟩ := e
    by_cases h1 : j = k
    · subst h1
      simp only [del, List.filter_cons] at ih ⊢
      simp [get, h.symm, ih]
    · simp only [del, List.filter_cons] at ih ⊢
      simp [h1, get, ih]

variable [DecidableEq α]

/-- A read after a write to the same key gives the value written. -/
@[simp] theorem get_set_same : get d (set d m k v) k = v := by
  unfold set
  split <;> simp_all

/-- A write leaves every other key alone. -/
theorem get_set_ne (h : k' ≠ k) : get d (set d m k v) k' = get d m k' := by
  unfold set
  split
  · exact get_del_ne h
  · exact get_put_ne h

@[simp] theorem get_mod_same {f : α → α} : get d (mod d m k f) k = f (get d m k) := by simp [mod]

theorem get_mod_ne {f : α → α} (h : k' ≠ k) : get d (mod d m k f) k' = get d m k' := get_set_ne h

/-! ### The canonical form -/

theorem wfFrom_lower {b b' : Nat} (hb : b' ≤ b) (h : wfFrom d (some b) m = true) : wfFrom d (some b') m = true := by
  cases m with
  | nil => rfl
  | cons e r =>
    obtain ⟨j, w⟩ := e
    simp only [wfFrom, Bool.and_eq_true, decide_eq_true_eq] at h ⊢
    exact ⟨⟨by omega, h.1.2⟩, h.2⟩

theorem wfFrom_forget {lo : Option Nat} (h : wfFrom d lo m = true) : wfFrom d none m = true := by
  cases m with
  | nil => rfl
  | cons e r =>
    obtain ⟨j, w⟩ := e
    simp only [wfFrom, Bool.and_eq_true] at h ⊢
    exact ⟨⟨trivial, h.1.2⟩, h.2⟩

/-- Deleting keeps the form from any lower bound. -/
theorem wfFrom_filter {lo : Option Nat} {q : Nat × α → Bool} (h : wfFrom d lo m = true) : wfFrom d lo (m.filter q) = true := by
  induction m generalizing lo with
  | nil => rfl
  | cons e r ih =>
    obtain ⟨j, w⟩ := e
    simp only [wfFrom, Bool.and_eq_true] at h
    by_cases hq : q (j, w) = true
    · simp only [List.filter_cons, hq, if_true, wfFrom, Bool.and_eq_true]
      exact ⟨h.1, ih h.2⟩
    · rw [List.filter_cons, if_neg hq]
      have h2 := ih h.2
      cases lo with
      | none => exact wfFrom_forget h2
      | some b =>
        have : b < j := by simpa using h.1.1
        exact wfFrom_lower (by omega) h2

/-- Putting a value other than the default keeps the form, from any lower bound below the key. -/
theorem wfFrom_put {lo : Option Nat} (hv : v ≠ d) (hlo : ∀ b, lo = some b → b < k) (h : wfFrom d lo m = true) :
    wfFrom d lo (put k v m) = true := by
  induction m generalizing lo with
  | nil => cases lo <;> simp_all [put, wfFrom]
  | cons e r ih =>
    obtain ⟨j, w⟩ := e
    simp only [wfFrom, Bool.and_eq_true] at h
    by_cases h1 : k < j
    · simp only [put, h1, if_true, wfFrom, Bool.and_eq_true]
      refine ⟨⟨?_, by simpa using hv⟩, ⟨by simp, h.1.2⟩, h.2⟩
      cases lo <;> simp_all
    · by_cases h2 : j = k
      · subst h2
        simp only [put, h1, if_false, if_true, wfFrom, Bool.and_eq_true]
        exact ⟨⟨h.1.1, by simpa using hv⟩, h.2⟩
      · simp only [put, h1, h2, if_false, wfFrom, Bool.and_eq_true]
        exact ⟨h.1, ih (by intro b hb; cases hb; omega) h.2⟩

@[simp] theorem wf_nil : wf d ([] : SMap α) = true := rfl

theorem wf_filter {q : Nat × α → Bool} (h : wf d m = true) : wf d (m.filter q) = true := wfFrom_filter h

theorem wf_del (h : wf d m = true) : wf d (del k m) = true := wfFrom_filter h

/-- A write keeps the canonical form. -/
theorem wf_set (h : wf d m = true) : wf d (set d m k v) = true := by
  unfold set
  split
  · exact wf_del h
  · exact wfFrom_put (by assumption) (by simp) h

theorem wf_mod {f : α → α} (h : wf d m = true) : wf d (mod d m k f) = true := wf_set h

theorem wf_modAll {ks : List Nat} {f : Nat → α → α} (h : wf d m = true) : wf d (modAll d m ks f) = true := by
  unfold modAll
  induction ks generalizing m with
  | nil => exact h
  | cons k r ih => exact ih (wf_mod h)

theorem wfFrom_mapV {f : Nat → α → α} {lo : Option Nat} (h : wfFrom d lo m = true) : wfFrom d lo (mapV d f m) = true := by
  induction m generalizing lo with
  | nil => rfl
  | cons e r ih =>
    obtain ⟨j, w⟩ := e
    simp only [wfFrom, Bool.and_eq_true] at h
    have h2 := ih h.2
    simp only [mapV, List.map_cons, List.filter_cons] at h2 ⊢
    split
    · rename_i hq
      simp only [wfFrom, Bool.and_eq_true]
      exact ⟨⟨h.1.1, hq⟩, h2⟩
    · cases lo with
      | none => exact wfFrom_forget h2
      | some b =>
        have : b < j := by simpa using h.1.1
        exact wfFrom_lower (by omega) h2

theorem wf_mapV {f : Nat → α → α} (h : wf d m = true) : wf d (mapV d f m) = true := wfFrom_mapV h

end Sys2Proof.SMap

namespace Sys2Proof.Memory

variable {d : Byte} {m : Memory} {a k : Nat} {bs : Bytes}

/-- A byte outside the bytes written reads as before. -/
theorem get_write_outside (h : k < a ∨ a + bs.length ≤ k) : SMap.get d (write d m a bs) k = SMap.get d m k := by
  induction bs generalizing m a with
  | nil => rfl
  | cons b r ih =>
    simp only [write, List.length_cons] at h ⊢
    rw [ih (by omega), SMap.get_set_ne (by omega)]

/-- A byte written reads as it was written. -/
theorem get_write_inside {i : Nat} (h : i < bs.length) : SMap.get d (write d m a bs) (a + i) = bs[i] := by
  induction bs generalizing m a i with
  | nil => simp at h
  | cons b r ih =>
    cases i with
    | zero =>
      simp only [write, Nat.add_zero, List.getElem_cons_zero]
      rw [get_write_outside (by omega), SMap.get_set_same]
    | succ n =>
      simp only [write, List.getElem_cons_succ]
      have : a + (n + 1) = a + 1 + n := by omega
      rw [this]
      exact ih (by simpa using h)

@[simp] theorem length_read {n : Nat} : (read d m a n).length = n := by simp [read]

/-- The bytes read after they were written are the bytes written. -/
theorem read_write_same : read d (write d m a bs) a bs.length = bs := by
  apply List.ext_getElem
  · simp
  · intro i h1 h2
    simp only [read, List.getElem_map, List.getElem_range]
    exact get_write_inside h2

/-- Reading apart from the bytes written gives what reading before gave. -/
theorem read_write_apart {b n : Nat} (h : b + n ≤ a ∨ a + bs.length ≤ b) : read d (write d m a bs) b n = read d m b n := by
  simp only [read]
  apply List.map_congr_left
  intro i hi
  have := List.mem_range.mp hi
  exact get_write_outside (by omega)

/-- Writing keeps the canonical form. -/
theorem wf_write (h : wf d m = true) : wf d (write d m a bs) = true := by
  induction bs generalizing m a with
  | nil => exact h
  | cons b r ih => exact ih (SMap.wf_set h)

end Sys2Proof.Memory
end

