-- ==== Sys2Proof/Laws/State.lean ====
section
/-! SUPPORT. What each named update of the state leaves in each field (all true by definition), and reads of the maps of functions, pairs,
units and ports after an update, so that no proof unfolds a record update. -/

namespace Sys2Proof.Machine

variable {s : State}

/-! ### onBoot -/

@[simp] theorem State.onBoot_boot (h : Boot → Boot) : (s.onBoot h).boot = h s.boot := rfl
@[simp] theorem State.onBoot_link (h : Boot → Boot) : (s.onBoot h).link = s.link := rfl
@[simp] theorem State.onBoot_power (h : Boot → Boot) : (s.onBoot h).power = s.power := rfl
@[simp] theorem State.onBoot_clocks (h : Boot → Boot) : (s.onBoot h).clocks = s.clocks := rfl
@[simp] theorem State.onBoot_regs (h : Boot → Boot) : (s.onBoot h).regs = s.regs := rfl
@[simp] theorem State.onBoot_fns (h : Boot → Boot) : (s.onBoot h).fns = s.fns := rfl
@[simp] theorem State.onBoot_pairs (h : Boot → Boot) : (s.onBoot h).pairs = s.pairs := rfl
@[simp] theorem State.onBoot_jobs (h : Boot → Boot) : (s.onBoot h).jobs = s.jobs := rfl
@[simp] theorem State.onBoot_engines (h : Boot → Boot) : (s.onBoot h).engines = s.engines := rfl
@[simp] theorem State.onBoot_medulla (h : Boot → Boot) : (s.onBoot h).medulla = s.medulla := rfl
@[simp] theorem State.onBoot_entropy (h : Boot → Boot) : (s.onBoot h).entropy = s.entropy := rfl
@[simp] theorem State.onBoot_flash (h : Boot → Boot) : (s.onBoot h).flash = s.flash := rfl
@[simp] theorem State.onBoot_counters (h : Boot → Boot) : (s.onBoot h).counters = s.counters := rfl
@[simp] theorem State.onBoot_log (h : Boot → Boot) : (s.onBoot h).log = s.log := rfl
@[simp] theorem State.onBoot_spore (h : Boot → Boot) : (s.onBoot h).spore = s.spore := rfl
@[simp] theorem State.onBoot_reader (h : Boot → Boot) : (s.onBoot h).reader = s.reader := rfl
@[simp] theorem State.onBoot_tag (h : Boot → Boot) : (s.onBoot h).tag = s.tag := rfl
@[simp] theorem State.onBoot_ports (h : Boot → Boot) : (s.onBoot h).ports = s.ports := rfl
@[simp] theorem State.onBoot_update (h : Boot → Boot) : (s.onBoot h).update = s.update := rfl
@[simp] theorem State.onBoot_tamper (h : Boot → Boot) : (s.onBoot h).tamper = s.tamper := rfl
@[simp] theorem State.onBoot_pinnas (h : Boot → Boot) : (s.onBoot h).pinnas = s.pinnas := rfl
@[simp] theorem State.onBoot_health (h : Boot → Boot) : (s.onBoot h).health = s.health := rfl
@[simp] theorem State.onBoot_free (h : Boot → Boot) : (s.onBoot h).free = s.free := rfl
@[simp] theorem State.onBoot_pending (h : Boot → Boot) : (s.onBoot h).pending = s.pending := rfl

/-! ### onLink -/

@[simp] theorem State.onLink_boot (h : Link → Link) : (s.onLink h).boot = s.boot := rfl
@[simp] theorem State.onLink_link (h : Link → Link) : (s.onLink h).link = h s.link := rfl
@[simp] theorem State.onLink_power (h : Link → Link) : (s.onLink h).power = s.power := rfl
@[simp] theorem State.onLink_clocks (h : Link → Link) : (s.onLink h).clocks = s.clocks := rfl
@[simp] theorem State.onLink_regs (h : Link → Link) : (s.onLink h).regs = s.regs := rfl
@[simp] theorem State.onLink_fns (h : Link → Link) : (s.onLink h).fns = s.fns := rfl
@[simp] theorem State.onLink_pairs (h : Link → Link) : (s.onLink h).pairs = s.pairs := rfl
@[simp] theorem State.onLink_jobs (h : Link → Link) : (s.onLink h).jobs = s.jobs := rfl
@[simp] theorem State.onLink_engines (h : Link → Link) : (s.onLink h).engines = s.engines := rfl
@[simp] theorem State.onLink_medulla (h : Link → Link) : (s.onLink h).medulla = s.medulla := rfl
@[simp] theorem State.onLink_entropy (h : Link → Link) : (s.onLink h).entropy = s.entropy := rfl
@[simp] theorem State.onLink_flash (h : Link → Link) : (s.onLink h).flash = s.flash := rfl
@[simp] theorem State.onLink_counters (h : Link → Link) : (s.onLink h).counters = s.counters := rfl
@[simp] theorem State.onLink_log (h : Link → Link) : (s.onLink h).log = s.log := rfl
@[simp] theorem State.onLink_spore (h : Link → Link) : (s.onLink h).spore = s.spore := rfl
@[simp] theorem State.onLink_reader (h : Link → Link) : (s.onLink h).reader = s.reader := rfl
@[simp] theorem State.onLink_tag (h : Link → Link) : (s.onLink h).tag = s.tag := rfl
@[simp] theorem State.onLink_ports (h : Link → Link) : (s.onLink h).ports = s.ports := rfl
@[simp] theorem State.onLink_update (h : Link → Link) : (s.onLink h).update = s.update := rfl
@[simp] theorem State.onLink_tamper (h : Link → Link) : (s.onLink h).tamper = s.tamper := rfl
@[simp] theorem State.onLink_pinnas (h : Link → Link) : (s.onLink h).pinnas = s.pinnas := rfl
@[simp] theorem State.onLink_health (h : Link → Link) : (s.onLink h).health = s.health := rfl
@[simp] theorem State.onLink_free (h : Link → Link) : (s.onLink h).free = s.free := rfl
@[simp] theorem State.onLink_pending (h : Link → Link) : (s.onLink h).pending = s.pending := rfl

/-! ### onPower -/

@[simp] theorem State.onPower_boot (h : Power → Power) : (s.onPower h).boot = s.boot := rfl
@[simp] theorem State.onPower_link (h : Power → Power) : (s.onPower h).link = s.link := rfl
@[simp] theorem State.onPower_power (h : Power → Power) : (s.onPower h).power = h s.power := rfl
@[simp] theorem State.onPower_clocks (h : Power → Power) : (s.onPower h).clocks = s.clocks := rfl
@[simp] theorem State.onPower_regs (h : Power → Power) : (s.onPower h).regs = s.regs := rfl
@[simp] theorem State.onPower_fns (h : Power → Power) : (s.onPower h).fns = s.fns := rfl
@[simp] theorem State.onPower_pairs (h : Power → Power) : (s.onPower h).pairs = s.pairs := rfl
@[simp] theorem State.onPower_jobs (h : Power → Power) : (s.onPower h).jobs = s.jobs := rfl
@[simp] theorem State.onPower_engines (h : Power → Power) : (s.onPower h).engines = s.engines := rfl
@[simp] theorem State.onPower_medulla (h : Power → Power) : (s.onPower h).medulla = s.medulla := rfl
@[simp] theorem State.onPower_entropy (h : Power → Power) : (s.onPower h).entropy = s.entropy := rfl
@[simp] theorem State.onPower_flash (h : Power → Power) : (s.onPower h).flash = s.flash := rfl
@[simp] theorem State.onPower_counters (h : Power → Power) : (s.onPower h).counters = s.counters := rfl
@[simp] theorem State.onPower_log (h : Power → Power) : (s.onPower h).log = s.log := rfl
@[simp] theorem State.onPower_spore (h : Power → Power) : (s.onPower h).spore = s.spore := rfl
@[simp] theorem State.onPower_reader (h : Power → Power) : (s.onPower h).reader = s.reader := rfl
@[simp] theorem State.onPower_tag (h : Power → Power) : (s.onPower h).tag = s.tag := rfl
@[simp] theorem State.onPower_ports (h : Power → Power) : (s.onPower h).ports = s.ports := rfl
@[simp] theorem State.onPower_update (h : Power → Power) : (s.onPower h).update = s.update := rfl
@[simp] theorem State.onPower_tamper (h : Power → Power) : (s.onPower h).tamper = s.tamper := rfl
@[simp] theorem State.onPower_pinnas (h : Power → Power) : (s.onPower h).pinnas = s.pinnas := rfl
@[simp] theorem State.onPower_health (h : Power → Power) : (s.onPower h).health = s.health := rfl
@[simp] theorem State.onPower_free (h : Power → Power) : (s.onPower h).free = s.free := rfl
@[simp] theorem State.onPower_pending (h : Power → Power) : (s.onPower h).pending = s.pending := rfl

/-! ### onClocks -/

@[simp] theorem State.onClocks_boot (h : Clocks → Clocks) : (s.onClocks h).boot = s.boot := rfl
@[simp] theorem State.onClocks_link (h : Clocks → Clocks) : (s.onClocks h).link = s.link := rfl
@[simp] theorem State.onClocks_power (h : Clocks → Clocks) : (s.onClocks h).power = s.power := rfl
@[simp] theorem State.onClocks_clocks (h : Clocks → Clocks) : (s.onClocks h).clocks = h s.clocks := rfl
@[simp] theorem State.onClocks_regs (h : Clocks → Clocks) : (s.onClocks h).regs = s.regs := rfl
@[simp] theorem State.onClocks_fns (h : Clocks → Clocks) : (s.onClocks h).fns = s.fns := rfl
@[simp] theorem State.onClocks_pairs (h : Clocks → Clocks) : (s.onClocks h).pairs = s.pairs := rfl
@[simp] theorem State.onClocks_jobs (h : Clocks → Clocks) : (s.onClocks h).jobs = s.jobs := rfl
@[simp] theorem State.onClocks_engines (h : Clocks → Clocks) : (s.onClocks h).engines = s.engines := rfl
@[simp] theorem State.onClocks_medulla (h : Clocks → Clocks) : (s.onClocks h).medulla = s.medulla := rfl
@[simp] theorem State.onClocks_entropy (h : Clocks → Clocks) : (s.onClocks h).entropy = s.entropy := rfl
@[simp] theorem State.onClocks_flash (h : Clocks → Clocks) : (s.onClocks h).flash = s.flash := rfl
@[simp] theorem State.onClocks_counters (h : Clocks → Clocks) : (s.onClocks h).counters = s.counters := rfl
@[simp] theorem State.onClocks_log (h : Clocks → Clocks) : (s.onClocks h).log = s.log := rfl
@[simp] theorem State.onClocks_spore (h : Clocks → Clocks) : (s.onClocks h).spore = s.spore := rfl
@[simp] theorem State.onClocks_reader (h : Clocks → Clocks) : (s.onClocks h).reader = s.reader := rfl
@[simp] theorem State.onClocks_tag (h : Clocks → Clocks) : (s.onClocks h).tag = s.tag := rfl
@[simp] theorem State.onClocks_ports (h : Clocks → Clocks) : (s.onClocks h).ports = s.ports := rfl
@[simp] theorem State.onClocks_update (h : Clocks → Clocks) : (s.onClocks h).update = s.update := rfl
@[simp] theorem State.onClocks_tamper (h : Clocks → Clocks) : (s.onClocks h).tamper = s.tamper := rfl
@[simp] theorem State.onClocks_pinnas (h : Clocks → Clocks) : (s.onClocks h).pinnas = s.pinnas := rfl
@[simp] theorem State.onClocks_health (h : Clocks → Clocks) : (s.onClocks h).health = s.health := rfl
@[simp] theorem State.onClocks_free (h : Clocks → Clocks) : (s.onClocks h).free = s.free := rfl
@[simp] theorem State.onClocks_pending (h : Clocks → Clocks) : (s.onClocks h).pending = s.pending := rfl

/-! ### onRegs -/

@[simp] theorem State.onRegs_boot (h : Regs → Regs) : (s.onRegs h).boot = s.boot := rfl
@[simp] theorem State.onRegs_link (h : Regs → Regs) : (s.onRegs h).link = s.link := rfl
@[simp] theorem State.onRegs_power (h : Regs → Regs) : (s.onRegs h).power = s.power := rfl
@[simp] theorem State.onRegs_clocks (h : Regs → Regs) : (s.onRegs h).clocks = s.clocks := rfl
@[simp] theorem State.onRegs_regs (h : Regs → Regs) : (s.onRegs h).regs = h s.regs := rfl
@[simp] theorem State.onRegs_fns (h : Regs → Regs) : (s.onRegs h).fns = s.fns := rfl
@[simp] theorem State.onRegs_pairs (h : Regs → Regs) : (s.onRegs h).pairs = s.pairs := rfl
@[simp] theorem State.onRegs_jobs (h : Regs → Regs) : (s.onRegs h).jobs = s.jobs := rfl
@[simp] theorem State.onRegs_engines (h : Regs → Regs) : (s.onRegs h).engines = s.engines := rfl
@[simp] theorem State.onRegs_medulla (h : Regs → Regs) : (s.onRegs h).medulla = s.medulla := rfl
@[simp] theorem State.onRegs_entropy (h : Regs → Regs) : (s.onRegs h).entropy = s.entropy := rfl
@[simp] theorem State.onRegs_flash (h : Regs → Regs) : (s.onRegs h).flash = s.flash := rfl
@[simp] theorem State.onRegs_counters (h : Regs → Regs) : (s.onRegs h).counters = s.counters := rfl
@[simp] theorem State.onRegs_log (h : Regs → Regs) : (s.onRegs h).log = s.log := rfl
@[simp] theorem State.onRegs_spore (h : Regs → Regs) : (s.onRegs h).spore = s.spore := rfl
@[simp] theorem State.onRegs_reader (h : Regs → Regs) : (s.onRegs h).reader = s.reader := rfl
@[simp] theorem State.onRegs_tag (h : Regs → Regs) : (s.onRegs h).tag = s.tag := rfl
@[simp] theorem State.onRegs_ports (h : Regs → Regs) : (s.onRegs h).ports = s.ports := rfl
@[simp] theorem State.onRegs_update (h : Regs → Regs) : (s.onRegs h).update = s.update := rfl
@[simp] theorem State.onRegs_tamper (h : Regs → Regs) : (s.onRegs h).tamper = s.tamper := rfl
@[simp] theorem State.onRegs_pinnas (h : Regs → Regs) : (s.onRegs h).pinnas = s.pinnas := rfl
@[simp] theorem State.onRegs_health (h : Regs → Regs) : (s.onRegs h).health = s.health := rfl
@[simp] theorem State.onRegs_free (h : Regs → Regs) : (s.onRegs h).free = s.free := rfl
@[simp] theorem State.onRegs_pending (h : Regs → Regs) : (s.onRegs h).pending = s.pending := rfl

/-! ### onFns -/

@[simp] theorem State.onFns_boot (h : SMap Fn → SMap Fn) : (s.onFns h).boot = s.boot := rfl
@[simp] theorem State.onFns_link (h : SMap Fn → SMap Fn) : (s.onFns h).link = s.link := rfl
@[simp] theorem State.onFns_power (h : SMap Fn → SMap Fn) : (s.onFns h).power = s.power := rfl
@[simp] theorem State.onFns_clocks (h : SMap Fn → SMap Fn) : (s.onFns h).clocks = s.clocks := rfl
@[simp] theorem State.onFns_regs (h : SMap Fn → SMap Fn) : (s.onFns h).regs = s.regs := rfl
@[simp] theorem State.onFns_fns (h : SMap Fn → SMap Fn) : (s.onFns h).fns = h s.fns := rfl
@[simp] theorem State.onFns_pairs (h : SMap Fn → SMap Fn) : (s.onFns h).pairs = s.pairs := rfl
@[simp] theorem State.onFns_jobs (h : SMap Fn → SMap Fn) : (s.onFns h).jobs = s.jobs := rfl
@[simp] theorem State.onFns_engines (h : SMap Fn → SMap Fn) : (s.onFns h).engines = s.engines := rfl
@[simp] theorem State.onFns_medulla (h : SMap Fn → SMap Fn) : (s.onFns h).medulla = s.medulla := rfl
@[simp] theorem State.onFns_entropy (h : SMap Fn → SMap Fn) : (s.onFns h).entropy = s.entropy := rfl
@[simp] theorem State.onFns_flash (h : SMap Fn → SMap Fn) : (s.onFns h).flash = s.flash := rfl
@[simp] theorem State.onFns_counters (h : SMap Fn → SMap Fn) : (s.onFns h).counters = s.counters := rfl
@[simp] theorem State.onFns_log (h : SMap Fn → SMap Fn) : (s.onFns h).log = s.log := rfl
@[simp] theorem State.onFns_spore (h : SMap Fn → SMap Fn) : (s.onFns h).spore = s.spore := rfl
@[simp] theorem State.onFns_reader (h : SMap Fn → SMap Fn) : (s.onFns h).reader = s.reader := rfl
@[simp] theorem State.onFns_tag (h : SMap Fn → SMap Fn) : (s.onFns h).tag = s.tag := rfl
@[simp] theorem State.onFns_ports (h : SMap Fn → SMap Fn) : (s.onFns h).ports = s.ports := rfl
@[simp] theorem State.onFns_update (h : SMap Fn → SMap Fn) : (s.onFns h).update = s.update := rfl
@[simp] theorem State.onFns_tamper (h : SMap Fn → SMap Fn) : (s.onFns h).tamper = s.tamper := rfl
@[simp] theorem State.onFns_pinnas (h : SMap Fn → SMap Fn) : (s.onFns h).pinnas = s.pinnas := rfl
@[simp] theorem State.onFns_health (h : SMap Fn → SMap Fn) : (s.onFns h).health = s.health := rfl
@[simp] theorem State.onFns_free (h : SMap Fn → SMap Fn) : (s.onFns h).free = s.free := rfl
@[simp] theorem State.onFns_pending (h : SMap Fn → SMap Fn) : (s.onFns h).pending = s.pending := rfl

/-! ### onPairs -/

@[simp] theorem State.onPairs_boot (h : SMap Pair → SMap Pair) : (s.onPairs h).boot = s.boot := rfl
@[simp] theorem State.onPairs_link (h : SMap Pair → SMap Pair) : (s.onPairs h).link = s.link := rfl
@[simp] theorem State.onPairs_power (h : SMap Pair → SMap Pair) : (s.onPairs h).power = s.power := rfl
@[simp] theorem State.onPairs_clocks (h : SMap Pair → SMap Pair) : (s.onPairs h).clocks = s.clocks := rfl
@[simp] theorem State.onPairs_regs (h : SMap Pair → SMap Pair) : (s.onPairs h).regs = s.regs := rfl
@[simp] theorem State.onPairs_fns (h : SMap Pair → SMap Pair) : (s.onPairs h).fns = s.fns := rfl
@[simp] theorem State.onPairs_pairs (h : SMap Pair → SMap Pair) : (s.onPairs h).pairs = h s.pairs := rfl
@[simp] theorem State.onPairs_jobs (h : SMap Pair → SMap Pair) : (s.onPairs h).jobs = s.jobs := rfl
@[simp] theorem State.onPairs_engines (h : SMap Pair → SMap Pair) : (s.onPairs h).engines = s.engines := rfl
@[simp] theorem State.onPairs_medulla (h : SMap Pair → SMap Pair) : (s.onPairs h).medulla = s.medulla := rfl
@[simp] theorem State.onPairs_entropy (h : SMap Pair → SMap Pair) : (s.onPairs h).entropy = s.entropy := rfl
@[simp] theorem State.onPairs_flash (h : SMap Pair → SMap Pair) : (s.onPairs h).flash = s.flash := rfl
@[simp] theorem State.onPairs_counters (h : SMap Pair → SMap Pair) : (s.onPairs h).counters = s.counters := rfl
@[simp] theorem State.onPairs_log (h : SMap Pair → SMap Pair) : (s.onPairs h).log = s.log := rfl
@[simp] theorem State.onPairs_spore (h : SMap Pair → SMap Pair) : (s.onPairs h).spore = s.spore := rfl
@[simp] theorem State.onPairs_reader (h : SMap Pair → SMap Pair) : (s.onPairs h).reader = s.reader := rfl
@[simp] theorem State.onPairs_tag (h : SMap Pair → SMap Pair) : (s.onPairs h).tag = s.tag := rfl
@[simp] theorem State.onPairs_ports (h : SMap Pair → SMap Pair) : (s.onPairs h).ports = s.ports := rfl
@[simp] theorem State.onPairs_update (h : SMap Pair → SMap Pair) : (s.onPairs h).update = s.update := rfl
@[simp] theorem State.onPairs_tamper (h : SMap Pair → SMap Pair) : (s.onPairs h).tamper = s.tamper := rfl
@[simp] theorem State.onPairs_pinnas (h : SMap Pair → SMap Pair) : (s.onPairs h).pinnas = s.pinnas := rfl
@[simp] theorem State.onPairs_health (h : SMap Pair → SMap Pair) : (s.onPairs h).health = s.health := rfl
@[simp] theorem State.onPairs_free (h : SMap Pair → SMap Pair) : (s.onPairs h).free = s.free := rfl
@[simp] theorem State.onPairs_pending (h : SMap Pair → SMap Pair) : (s.onPairs h).pending = s.pending := rfl

/-! ### onJobs -/

@[simp] theorem State.onJobs_boot (h : List Job → List Job) : (s.onJobs h).boot = s.boot := rfl
@[simp] theorem State.onJobs_link (h : List Job → List Job) : (s.onJobs h).link = s.link := rfl
@[simp] theorem State.onJobs_power (h : List Job → List Job) : (s.onJobs h).power = s.power := rfl
@[simp] theorem State.onJobs_clocks (h : List Job → List Job) : (s.onJobs h).clocks = s.clocks := rfl
@[simp] theorem State.onJobs_regs (h : List Job → List Job) : (s.onJobs h).regs = s.regs := rfl
@[simp] theorem State.onJobs_fns (h : List Job → List Job) : (s.onJobs h).fns = s.fns := rfl
@[simp] theorem State.onJobs_pairs (h : List Job → List Job) : (s.onJobs h).pairs = s.pairs := rfl
@[simp] theorem State.onJobs_jobs (h : List Job → List Job) : (s.onJobs h).jobs = h s.jobs := rfl
@[simp] theorem State.onJobs_engines (h : List Job → List Job) : (s.onJobs h).engines = s.engines := rfl
@[simp] theorem State.onJobs_medulla (h : List Job → List Job) : (s.onJobs h).medulla = s.medulla := rfl
@[simp] theorem State.onJobs_entropy (h : List Job → List Job) : (s.onJobs h).entropy = s.entropy := rfl
@[simp] theorem State.onJobs_flash (h : List Job → List Job) : (s.onJobs h).flash = s.flash := rfl
@[simp] theorem State.onJobs_counters (h : List Job → List Job) : (s.onJobs h).counters = s.counters := rfl
@[simp] theorem State.onJobs_log (h : List Job → List Job) : (s.onJobs h).log = s.log := rfl
@[simp] theorem State.onJobs_spore (h : List Job → List Job) : (s.onJobs h).spore = s.spore := rfl
@[simp] theorem State.onJobs_reader (h : List Job → List Job) : (s.onJobs h).reader = s.reader := rfl
@[simp] theorem State.onJobs_tag (h : List Job → List Job) : (s.onJobs h).tag = s.tag := rfl
@[simp] theorem State.onJobs_ports (h : List Job → List Job) : (s.onJobs h).ports = s.ports := rfl
@[simp] theorem State.onJobs_update (h : List Job → List Job) : (s.onJobs h).update = s.update := rfl
@[simp] theorem State.onJobs_tamper (h : List Job → List Job) : (s.onJobs h).tamper = s.tamper := rfl
@[simp] theorem State.onJobs_pinnas (h : List Job → List Job) : (s.onJobs h).pinnas = s.pinnas := rfl
@[simp] theorem State.onJobs_health (h : List Job → List Job) : (s.onJobs h).health = s.health := rfl
@[simp] theorem State.onJobs_free (h : List Job → List Job) : (s.onJobs h).free = s.free := rfl
@[simp] theorem State.onJobs_pending (h : List Job → List Job) : (s.onJobs h).pending = s.pending := rfl

/-! ### onEngines -/

@[simp] theorem State.onEngines_boot (h : Engines → Engines) : (s.onEngines h).boot = s.boot := rfl
@[simp] theorem State.onEngines_link (h : Engines → Engines) : (s.onEngines h).link = s.link := rfl
@[simp] theorem State.onEngines_power (h : Engines → Engines) : (s.onEngines h).power = s.power := rfl
@[simp] theorem State.onEngines_clocks (h : Engines → Engines) : (s.onEngines h).clocks = s.clocks := rfl
@[simp] theorem State.onEngines_regs (h : Engines → Engines) : (s.onEngines h).regs = s.regs := rfl
@[simp] theorem State.onEngines_fns (h : Engines → Engines) : (s.onEngines h).fns = s.fns := rfl
@[simp] theorem State.onEngines_pairs (h : Engines → Engines) : (s.onEngines h).pairs = s.pairs := rfl
@[simp] theorem State.onEngines_jobs (h : Engines → Engines) : (s.onEngines h).jobs = s.jobs := rfl
@[simp] theorem State.onEngines_engines (h : Engines → Engines) : (s.onEngines h).engines = h s.engines := rfl
@[simp] theorem State.onEngines_medulla (h : Engines → Engines) : (s.onEngines h).medulla = s.medulla := rfl
@[simp] theorem State.onEngines_entropy (h : Engines → Engines) : (s.onEngines h).entropy = s.entropy := rfl
@[simp] theorem State.onEngines_flash (h : Engines → Engines) : (s.onEngines h).flash = s.flash := rfl
@[simp] theorem State.onEngines_counters (h : Engines → Engines) : (s.onEngines h).counters = s.counters := rfl
@[simp] theorem State.onEngines_log (h : Engines → Engines) : (s.onEngines h).log = s.log := rfl
@[simp] theorem State.onEngines_spore (h : Engines → Engines) : (s.onEngines h).spore = s.spore := rfl
@[simp] theorem State.onEngines_reader (h : Engines → Engines) : (s.onEngines h).reader = s.reader := rfl
@[simp] theorem State.onEngines_tag (h : Engines → Engines) : (s.onEngines h).tag = s.tag := rfl
@[simp] theorem State.onEngines_ports (h : Engines → Engines) : (s.onEngines h).ports = s.ports := rfl
@[simp] theorem State.onEngines_update (h : Engines → Engines) : (s.onEngines h).update = s.update := rfl
@[simp] theorem State.onEngines_tamper (h : Engines → Engines) : (s.onEngines h).tamper = s.tamper := rfl
@[simp] theorem State.onEngines_pinnas (h : Engines → Engines) : (s.onEngines h).pinnas = s.pinnas := rfl
@[simp] theorem State.onEngines_health (h : Engines → Engines) : (s.onEngines h).health = s.health := rfl
@[simp] theorem State.onEngines_free (h : Engines → Engines) : (s.onEngines h).free = s.free := rfl
@[simp] theorem State.onEngines_pending (h : Engines → Engines) : (s.onEngines h).pending = s.pending := rfl

/-! ### onMedulla -/

@[simp] theorem State.onMedulla_boot (h : Medulla → Medulla) : (s.onMedulla h).boot = s.boot := rfl
@[simp] theorem State.onMedulla_link (h : Medulla → Medulla) : (s.onMedulla h).link = s.link := rfl
@[simp] theorem State.onMedulla_power (h : Medulla → Medulla) : (s.onMedulla h).power = s.power := rfl
@[simp] theorem State.onMedulla_clocks (h : Medulla → Medulla) : (s.onMedulla h).clocks = s.clocks := rfl
@[simp] theorem State.onMedulla_regs (h : Medulla → Medulla) : (s.onMedulla h).regs = s.regs := rfl
@[simp] theorem State.onMedulla_fns (h : Medulla → Medulla) : (s.onMedulla h).fns = s.fns := rfl
@[simp] theorem State.onMedulla_pairs (h : Medulla → Medulla) : (s.onMedulla h).pairs = s.pairs := rfl
@[simp] theorem State.onMedulla_jobs (h : Medulla → Medulla) : (s.onMedulla h).jobs = s.jobs := rfl
@[simp] theorem State.onMedulla_engines (h : Medulla → Medulla) : (s.onMedulla h).engines = s.engines := rfl
@[simp] theorem State.onMedulla_medulla (h : Medulla → Medulla) : (s.onMedulla h).medulla = h s.medulla := rfl
@[simp] theorem State.onMedulla_entropy (h : Medulla → Medulla) : (s.onMedulla h).entropy = s.entropy := rfl
@[simp] theorem State.onMedulla_flash (h : Medulla → Medulla) : (s.onMedulla h).flash = s.flash := rfl
@[simp] theorem State.onMedulla_counters (h : Medulla → Medulla) : (s.onMedulla h).counters = s.counters := rfl
@[simp] theorem State.onMedulla_log (h : Medulla → Medulla) : (s.onMedulla h).log = s.log := rfl
@[simp] theorem State.onMedulla_spore (h : Medulla → Medulla) : (s.onMedulla h).spore = s.spore := rfl
@[simp] theorem State.onMedulla_reader (h : Medulla → Medulla) : (s.onMedulla h).reader = s.reader := rfl
@[simp] theorem State.onMedulla_tag (h : Medulla → Medulla) : (s.onMedulla h).tag = s.tag := rfl
@[simp] theorem State.onMedulla_ports (h : Medulla → Medulla) : (s.onMedulla h).ports = s.ports := rfl
@[simp] theorem State.onMedulla_update (h : Medulla → Medulla) : (s.onMedulla h).update = s.update := rfl
@[simp] theorem State.onMedulla_tamper (h : Medulla → Medulla) : (s.onMedulla h).tamper = s.tamper := rfl
@[simp] theorem State.onMedulla_pinnas (h : Medulla → Medulla) : (s.onMedulla h).pinnas = s.pinnas := rfl
@[simp] theorem State.onMedulla_health (h : Medulla → Medulla) : (s.onMedulla h).health = s.health := rfl
@[simp] theorem State.onMedulla_free (h : Medulla → Medulla) : (s.onMedulla h).free = s.free := rfl
@[simp] theorem State.onMedulla_pending (h : Medulla → Medulla) : (s.onMedulla h).pending = s.pending := rfl

/-! ### onEntropy -/

@[simp] theorem State.onEntropy_boot (h : Entropy → Entropy) : (s.onEntropy h).boot = s.boot := rfl
@[simp] theorem State.onEntropy_link (h : Entropy → Entropy) : (s.onEntropy h).link = s.link := rfl
@[simp] theorem State.onEntropy_power (h : Entropy → Entropy) : (s.onEntropy h).power = s.power := rfl
@[simp] theorem State.onEntropy_clocks (h : Entropy → Entropy) : (s.onEntropy h).clocks = s.clocks := rfl
@[simp] theorem State.onEntropy_regs (h : Entropy → Entropy) : (s.onEntropy h).regs = s.regs := rfl
@[simp] theorem State.onEntropy_fns (h : Entropy → Entropy) : (s.onEntropy h).fns = s.fns := rfl
@[simp] theorem State.onEntropy_pairs (h : Entropy → Entropy) : (s.onEntropy h).pairs = s.pairs := rfl
@[simp] theorem State.onEntropy_jobs (h : Entropy → Entropy) : (s.onEntropy h).jobs = s.jobs := rfl
@[simp] theorem State.onEntropy_engines (h : Entropy → Entropy) : (s.onEntropy h).engines = s.engines := rfl
@[simp] theorem State.onEntropy_medulla (h : Entropy → Entropy) : (s.onEntropy h).medulla = s.medulla := rfl
@[simp] theorem State.onEntropy_entropy (h : Entropy → Entropy) : (s.onEntropy h).entropy = h s.entropy := rfl
@[simp] theorem State.onEntropy_flash (h : Entropy → Entropy) : (s.onEntropy h).flash = s.flash := rfl
@[simp] theorem State.onEntropy_counters (h : Entropy → Entropy) : (s.onEntropy h).counters = s.counters := rfl
@[simp] theorem State.onEntropy_log (h : Entropy → Entropy) : (s.onEntropy h).log = s.log := rfl
@[simp] theorem State.onEntropy_spore (h : Entropy → Entropy) : (s.onEntropy h).spore = s.spore := rfl
@[simp] theorem State.onEntropy_reader (h : Entropy → Entropy) : (s.onEntropy h).reader = s.reader := rfl
@[simp] theorem State.onEntropy_tag (h : Entropy → Entropy) : (s.onEntropy h).tag = s.tag := rfl
@[simp] theorem State.onEntropy_ports (h : Entropy → Entropy) : (s.onEntropy h).ports = s.ports := rfl
@[simp] theorem State.onEntropy_update (h : Entropy → Entropy) : (s.onEntropy h).update = s.update := rfl
@[simp] theorem State.onEntropy_tamper (h : Entropy → Entropy) : (s.onEntropy h).tamper = s.tamper := rfl
@[simp] theorem State.onEntropy_pinnas (h : Entropy → Entropy) : (s.onEntropy h).pinnas = s.pinnas := rfl
@[simp] theorem State.onEntropy_health (h : Entropy → Entropy) : (s.onEntropy h).health = s.health := rfl
@[simp] theorem State.onEntropy_free (h : Entropy → Entropy) : (s.onEntropy h).free = s.free := rfl
@[simp] theorem State.onEntropy_pending (h : Entropy → Entropy) : (s.onEntropy h).pending = s.pending := rfl

/-! ### onFlash -/

@[simp] theorem State.onFlash_boot (h : Flash → Flash) : (s.onFlash h).boot = s.boot := rfl
@[simp] theorem State.onFlash_link (h : Flash → Flash) : (s.onFlash h).link = s.link := rfl
@[simp] theorem State.onFlash_power (h : Flash → Flash) : (s.onFlash h).power = s.power := rfl
@[simp] theorem State.onFlash_clocks (h : Flash → Flash) : (s.onFlash h).clocks = s.clocks := rfl
@[simp] theorem State.onFlash_regs (h : Flash → Flash) : (s.onFlash h).regs = s.regs := rfl
@[simp] theorem State.onFlash_fns (h : Flash → Flash) : (s.onFlash h).fns = s.fns := rfl
@[simp] theorem State.onFlash_pairs (h : Flash → Flash) : (s.onFlash h).pairs = s.pairs := rfl
@[simp] theorem State.onFlash_jobs (h : Flash → Flash) : (s.onFlash h).jobs = s.jobs := rfl
@[simp] theorem State.onFlash_engines (h : Flash → Flash) : (s.onFlash h).engines = s.engines := rfl
@[simp] theorem State.onFlash_medulla (h : Flash → Flash) : (s.onFlash h).medulla = s.medulla := rfl
@[simp] theorem State.onFlash_entropy (h : Flash → Flash) : (s.onFlash h).entropy = s.entropy := rfl
@[simp] theorem State.onFlash_flash (h : Flash → Flash) : (s.onFlash h).flash = h s.flash := rfl
@[simp] theorem State.onFlash_counters (h : Flash → Flash) : (s.onFlash h).counters = s.counters := rfl
@[simp] theorem State.onFlash_log (h : Flash → Flash) : (s.onFlash h).log = s.log := rfl
@[simp] theorem State.onFlash_spore (h : Flash → Flash) : (s.onFlash h).spore = s.spore := rfl
@[simp] theorem State.onFlash_reader (h : Flash → Flash) : (s.onFlash h).reader = s.reader := rfl
@[simp] theorem State.onFlash_tag (h : Flash → Flash) : (s.onFlash h).tag = s.tag := rfl
@[simp] theorem State.onFlash_ports (h : Flash → Flash) : (s.onFlash h).ports = s.ports := rfl
@[simp] theorem State.onFlash_update (h : Flash → Flash) : (s.onFlash h).update = s.update := rfl
@[simp] theorem State.onFlash_tamper (h : Flash → Flash) : (s.onFlash h).tamper = s.tamper := rfl
@[simp] theorem State.onFlash_pinnas (h : Flash → Flash) : (s.onFlash h).pinnas = s.pinnas := rfl
@[simp] theorem State.onFlash_health (h : Flash → Flash) : (s.onFlash h).health = s.health := rfl
@[simp] theorem State.onFlash_free (h : Flash → Flash) : (s.onFlash h).free = s.free := rfl
@[simp] theorem State.onFlash_pending (h : Flash → Flash) : (s.onFlash h).pending = s.pending := rfl

/-! ### onCounters -/

@[simp] theorem State.onCounters_boot (h : Counters → Counters) : (s.onCounters h).boot = s.boot := rfl
@[simp] theorem State.onCounters_link (h : Counters → Counters) : (s.onCounters h).link = s.link := rfl
@[simp] theorem State.onCounters_power (h : Counters → Counters) : (s.onCounters h).power = s.power := rfl
@[simp] theorem State.onCounters_clocks (h : Counters → Counters) : (s.onCounters h).clocks = s.clocks := rfl
@[simp] theorem State.onCounters_regs (h : Counters → Counters) : (s.onCounters h).regs = s.regs := rfl
@[simp] theorem State.onCounters_fns (h : Counters → Counters) : (s.onCounters h).fns = s.fns := rfl
@[simp] theorem State.onCounters_pairs (h : Counters → Counters) : (s.onCounters h).pairs = s.pairs := rfl
@[simp] theorem State.onCounters_jobs (h : Counters → Counters) : (s.onCounters h).jobs = s.jobs := rfl
@[simp] theorem State.onCounters_engines (h : Counters → Counters) : (s.onCounters h).engines = s.engines := rfl
@[simp] theorem State.onCounters_medulla (h : Counters → Counters) : (s.onCounters h).medulla = s.medulla := rfl
@[simp] theorem State.onCounters_entropy (h : Counters → Counters) : (s.onCounters h).entropy = s.entropy := rfl
@[simp] theorem State.onCounters_flash (h : Counters → Counters) : (s.onCounters h).flash = s.flash := rfl
@[simp] theorem State.onCounters_counters (h : Counters → Counters) : (s.onCounters h).counters = h s.counters := rfl
@[simp] theorem State.onCounters_log (h : Counters → Counters) : (s.onCounters h).log = s.log := rfl
@[simp] theorem State.onCounters_spore (h : Counters → Counters) : (s.onCounters h).spore = s.spore := rfl
@[simp] theorem State.onCounters_reader (h : Counters → Counters) : (s.onCounters h).reader = s.reader := rfl
@[simp] theorem State.onCounters_tag (h : Counters → Counters) : (s.onCounters h).tag = s.tag := rfl
@[simp] theorem State.onCounters_ports (h : Counters → Counters) : (s.onCounters h).ports = s.ports := rfl
@[simp] theorem State.onCounters_update (h : Counters → Counters) : (s.onCounters h).update = s.update := rfl
@[simp] theorem State.onCounters_tamper (h : Counters → Counters) : (s.onCounters h).tamper = s.tamper := rfl
@[simp] theorem State.onCounters_pinnas (h : Counters → Counters) : (s.onCounters h).pinnas = s.pinnas := rfl
@[simp] theorem State.onCounters_health (h : Counters → Counters) : (s.onCounters h).health = s.health := rfl
@[simp] theorem State.onCounters_free (h : Counters → Counters) : (s.onCounters h).free = s.free := rfl
@[simp] theorem State.onCounters_pending (h : Counters → Counters) : (s.onCounters h).pending = s.pending := rfl

/-! ### onLog -/

@[simp] theorem State.onLog_boot (h : Log → Log) : (s.onLog h).boot = s.boot := rfl
@[simp] theorem State.onLog_link (h : Log → Log) : (s.onLog h).link = s.link := rfl
@[simp] theorem State.onLog_power (h : Log → Log) : (s.onLog h).power = s.power := rfl
@[simp] theorem State.onLog_clocks (h : Log → Log) : (s.onLog h).clocks = s.clocks := rfl
@[simp] theorem State.onLog_regs (h : Log → Log) : (s.onLog h).regs = s.regs := rfl
@[simp] theorem State.onLog_fns (h : Log → Log) : (s.onLog h).fns = s.fns := rfl
@[simp] theorem State.onLog_pairs (h : Log → Log) : (s.onLog h).pairs = s.pairs := rfl
@[simp] theorem State.onLog_jobs (h : Log → Log) : (s.onLog h).jobs = s.jobs := rfl
@[simp] theorem State.onLog_engines (h : Log → Log) : (s.onLog h).engines = s.engines := rfl
@[simp] theorem State.onLog_medulla (h : Log → Log) : (s.onLog h).medulla = s.medulla := rfl
@[simp] theorem State.onLog_entropy (h : Log → Log) : (s.onLog h).entropy = s.entropy := rfl
@[simp] theorem State.onLog_flash (h : Log → Log) : (s.onLog h).flash = s.flash := rfl
@[simp] theorem State.onLog_counters (h : Log → Log) : (s.onLog h).counters = s.counters := rfl
@[simp] theorem State.onLog_log (h : Log → Log) : (s.onLog h).log = h s.log := rfl
@[simp] theorem State.onLog_spore (h : Log → Log) : (s.onLog h).spore = s.spore := rfl
@[simp] theorem State.onLog_reader (h : Log → Log) : (s.onLog h).reader = s.reader := rfl
@[simp] theorem State.onLog_tag (h : Log → Log) : (s.onLog h).tag = s.tag := rfl
@[simp] theorem State.onLog_ports (h : Log → Log) : (s.onLog h).ports = s.ports := rfl
@[simp] theorem State.onLog_update (h : Log → Log) : (s.onLog h).update = s.update := rfl
@[simp] theorem State.onLog_tamper (h : Log → Log) : (s.onLog h).tamper = s.tamper := rfl
@[simp] theorem State.onLog_pinnas (h : Log → Log) : (s.onLog h).pinnas = s.pinnas := rfl
@[simp] theorem State.onLog_health (h : Log → Log) : (s.onLog h).health = s.health := rfl
@[simp] theorem State.onLog_free (h : Log → Log) : (s.onLog h).free = s.free := rfl
@[simp] theorem State.onLog_pending (h : Log → Log) : (s.onLog h).pending = s.pending := rfl

/-! ### onSpore -/

@[simp] theorem State.onSpore_boot (h : Spore → Spore) : (s.onSpore h).boot = s.boot := rfl
@[simp] theorem State.onSpore_link (h : Spore → Spore) : (s.onSpore h).link = s.link := rfl
@[simp] theorem State.onSpore_power (h : Spore → Spore) : (s.onSpore h).power = s.power := rfl
@[simp] theorem State.onSpore_clocks (h : Spore → Spore) : (s.onSpore h).clocks = s.clocks := rfl
@[simp] theorem State.onSpore_regs (h : Spore → Spore) : (s.onSpore h).regs = s.regs := rfl
@[simp] theorem State.onSpore_fns (h : Spore → Spore) : (s.onSpore h).fns = s.fns := rfl
@[simp] theorem State.onSpore_pairs (h : Spore → Spore) : (s.onSpore h).pairs = s.pairs := rfl
@[simp] theorem State.onSpore_jobs (h : Spore → Spore) : (s.onSpore h).jobs = s.jobs := rfl
@[simp] theorem State.onSpore_engines (h : Spore → Spore) : (s.onSpore h).engines = s.engines := rfl
@[simp] theorem State.onSpore_medulla (h : Spore → Spore) : (s.onSpore h).medulla = s.medulla := rfl
@[simp] theorem State.onSpore_entropy (h : Spore → Spore) : (s.onSpore h).entropy = s.entropy := rfl
@[simp] theorem State.onSpore_flash (h : Spore → Spore) : (s.onSpore h).flash = s.flash := rfl
@[simp] theorem State.onSpore_counters (h : Spore → Spore) : (s.onSpore h).counters = s.counters := rfl
@[simp] theorem State.onSpore_log (h : Spore → Spore) : (s.onSpore h).log = s.log := rfl
@[simp] theorem State.onSpore_spore (h : Spore → Spore) : (s.onSpore h).spore = h s.spore := rfl
@[simp] theorem State.onSpore_reader (h : Spore → Spore) : (s.onSpore h).reader = s.reader := rfl
@[simp] theorem State.onSpore_tag (h : Spore → Spore) : (s.onSpore h).tag = s.tag := rfl
@[simp] theorem State.onSpore_ports (h : Spore → Spore) : (s.onSpore h).ports = s.ports := rfl
@[simp] theorem State.onSpore_update (h : Spore → Spore) : (s.onSpore h).update = s.update := rfl
@[simp] theorem State.onSpore_tamper (h : Spore → Spore) : (s.onSpore h).tamper = s.tamper := rfl
@[simp] theorem State.onSpore_pinnas (h : Spore → Spore) : (s.onSpore h).pinnas = s.pinnas := rfl
@[simp] theorem State.onSpore_health (h : Spore → Spore) : (s.onSpore h).health = s.health := rfl
@[simp] theorem State.onSpore_free (h : Spore → Spore) : (s.onSpore h).free = s.free := rfl
@[simp] theorem State.onSpore_pending (h : Spore → Spore) : (s.onSpore h).pending = s.pending := rfl

/-! ### onReader -/

@[simp] theorem State.onReader_boot (h : Reader → Reader) : (s.onReader h).boot = s.boot := rfl
@[simp] theorem State.onReader_link (h : Reader → Reader) : (s.onReader h).link = s.link := rfl
@[simp] theorem State.onReader_power (h : Reader → Reader) : (s.onReader h).power = s.power := rfl
@[simp] theorem State.onReader_clocks (h : Reader → Reader) : (s.onReader h).clocks = s.clocks := rfl
@[simp] theorem State.onReader_regs (h : Reader → Reader) : (s.onReader h).regs = s.regs := rfl
@[simp] theorem State.onReader_fns (h : Reader → Reader) : (s.onReader h).fns = s.fns := rfl
@[simp] theorem State.onReader_pairs (h : Reader → Reader) : (s.onReader h).pairs = s.pairs := rfl
@[simp] theorem State.onReader_jobs (h : Reader → Reader) : (s.onReader h).jobs = s.jobs := rfl
@[simp] theorem State.onReader_engines (h : Reader → Reader) : (s.onReader h).engines = s.engines := rfl
@[simp] theorem State.onReader_medulla (h : Reader → Reader) : (s.onReader h).medulla = s.medulla := rfl
@[simp] theorem State.onReader_entropy (h : Reader → Reader) : (s.onReader h).entropy = s.entropy := rfl
@[simp] theorem State.onReader_flash (h : Reader → Reader) : (s.onReader h).flash = s.flash := rfl
@[simp] theorem State.onReader_counters (h : Reader → Reader) : (s.onReader h).counters = s.counters := rfl
@[simp] theorem State.onReader_log (h : Reader → Reader) : (s.onReader h).log = s.log := rfl
@[simp] theorem State.onReader_spore (h : Reader → Reader) : (s.onReader h).spore = s.spore := rfl
@[simp] theorem State.onReader_reader (h : Reader → Reader) : (s.onReader h).reader = h s.reader := rfl
@[simp] theorem State.onReader_tag (h : Reader → Reader) : (s.onReader h).tag = s.tag := rfl
@[simp] theorem State.onReader_ports (h : Reader → Reader) : (s.onReader h).ports = s.ports := rfl
@[simp] theorem State.onReader_update (h : Reader → Reader) : (s.onReader h).update = s.update := rfl
@[simp] theorem State.onReader_tamper (h : Reader → Reader) : (s.onReader h).tamper = s.tamper := rfl
@[simp] theorem State.onReader_pinnas (h : Reader → Reader) : (s.onReader h).pinnas = s.pinnas := rfl
@[simp] theorem State.onReader_health (h : Reader → Reader) : (s.onReader h).health = s.health := rfl
@[simp] theorem State.onReader_free (h : Reader → Reader) : (s.onReader h).free = s.free := rfl
@[simp] theorem State.onReader_pending (h : Reader → Reader) : (s.onReader h).pending = s.pending := rfl

/-! ### onTag -/

@[simp] theorem State.onTag_boot (h : Tag → Tag) : (s.onTag h).boot = s.boot := rfl
@[simp] theorem State.onTag_link (h : Tag → Tag) : (s.onTag h).link = s.link := rfl
@[simp] theorem State.onTag_power (h : Tag → Tag) : (s.onTag h).power = s.power := rfl
@[simp] theorem State.onTag_clocks (h : Tag → Tag) : (s.onTag h).clocks = s.clocks := rfl
@[simp] theorem State.onTag_regs (h : Tag → Tag) : (s.onTag h).regs = s.regs := rfl
@[simp] theorem State.onTag_fns (h : Tag → Tag) : (s.onTag h).fns = s.fns := rfl
@[simp] theorem State.onTag_pairs (h : Tag → Tag) : (s.onTag h).pairs = s.pairs := rfl
@[simp] theorem State.onTag_jobs (h : Tag → Tag) : (s.onTag h).jobs = s.jobs := rfl
@[simp] theorem State.onTag_engines (h : Tag → Tag) : (s.onTag h).engines = s.engines := rfl
@[simp] theorem State.onTag_medulla (h : Tag → Tag) : (s.onTag h).medulla = s.medulla := rfl
@[simp] theorem State.onTag_entropy (h : Tag → Tag) : (s.onTag h).entropy = s.entropy := rfl
@[simp] theorem State.onTag_flash (h : Tag → Tag) : (s.onTag h).flash = s.flash := rfl
@[simp] theorem State.onTag_counters (h : Tag → Tag) : (s.onTag h).counters = s.counters := rfl
@[simp] theorem State.onTag_log (h : Tag → Tag) : (s.onTag h).log = s.log := rfl
@[simp] theorem State.onTag_spore (h : Tag → Tag) : (s.onTag h).spore = s.spore := rfl
@[simp] theorem State.onTag_reader (h : Tag → Tag) : (s.onTag h).reader = s.reader := rfl
@[simp] theorem State.onTag_tag (h : Tag → Tag) : (s.onTag h).tag = h s.tag := rfl
@[simp] theorem State.onTag_ports (h : Tag → Tag) : (s.onTag h).ports = s.ports := rfl
@[simp] theorem State.onTag_update (h : Tag → Tag) : (s.onTag h).update = s.update := rfl
@[simp] theorem State.onTag_tamper (h : Tag → Tag) : (s.onTag h).tamper = s.tamper := rfl
@[simp] theorem State.onTag_pinnas (h : Tag → Tag) : (s.onTag h).pinnas = s.pinnas := rfl
@[simp] theorem State.onTag_health (h : Tag → Tag) : (s.onTag h).health = s.health := rfl
@[simp] theorem State.onTag_free (h : Tag → Tag) : (s.onTag h).free = s.free := rfl
@[simp] theorem State.onTag_pending (h : Tag → Tag) : (s.onTag h).pending = s.pending := rfl

/-! ### onPorts -/

@[simp] theorem State.onPorts_boot (h : SMap Port → SMap Port) : (s.onPorts h).boot = s.boot := rfl
@[simp] theorem State.onPorts_link (h : SMap Port → SMap Port) : (s.onPorts h).link = s.link := rfl
@[simp] theorem State.onPorts_power (h : SMap Port → SMap Port) : (s.onPorts h).power = s.power := rfl
@[simp] theorem State.onPorts_clocks (h : SMap Port → SMap Port) : (s.onPorts h).clocks = s.clocks := rfl
@[simp] theorem State.onPorts_regs (h : SMap Port → SMap Port) : (s.onPorts h).regs = s.regs := rfl
@[simp] theorem State.onPorts_fns (h : SMap Port → SMap Port) : (s.onPorts h).fns = s.fns := rfl
@[simp] theorem State.onPorts_pairs (h : SMap Port → SMap Port) : (s.onPorts h).pairs = s.pairs := rfl
@[simp] theorem State.onPorts_jobs (h : SMap Port → SMap Port) : (s.onPorts h).jobs = s.jobs := rfl
@[simp] theorem State.onPorts_engines (h : SMap Port → SMap Port) : (s.onPorts h).engines = s.engines := rfl
@[simp] theorem State.onPorts_medulla (h : SMap Port → SMap Port) : (s.onPorts h).medulla = s.medulla := rfl
@[simp] theorem State.onPorts_entropy (h : SMap Port → SMap Port) : (s.onPorts h).entropy = s.entropy := rfl
@[simp] theorem State.onPorts_flash (h : SMap Port → SMap Port) : (s.onPorts h).flash = s.flash := rfl
@[simp] theorem State.onPorts_counters (h : SMap Port → SMap Port) : (s.onPorts h).counters = s.counters := rfl
@[simp] theorem State.onPorts_log (h : SMap Port → SMap Port) : (s.onPorts h).log = s.log := rfl
@[simp] theorem State.onPorts_spore (h : SMap Port → SMap Port) : (s.onPorts h).spore = s.spore := rfl
@[simp] theorem State.onPorts_reader (h : SMap Port → SMap Port) : (s.onPorts h).reader = s.reader := rfl
@[simp] theorem State.onPorts_tag (h : SMap Port → SMap Port) : (s.onPorts h).tag = s.tag := rfl
@[simp] theorem State.onPorts_ports (h : SMap Port → SMap Port) : (s.onPorts h).ports = h s.ports := rfl
@[simp] theorem State.onPorts_update (h : SMap Port → SMap Port) : (s.onPorts h).update = s.update := rfl
@[simp] theorem State.onPorts_tamper (h : SMap Port → SMap Port) : (s.onPorts h).tamper = s.tamper := rfl
@[simp] theorem State.onPorts_pinnas (h : SMap Port → SMap Port) : (s.onPorts h).pinnas = s.pinnas := rfl
@[simp] theorem State.onPorts_health (h : SMap Port → SMap Port) : (s.onPorts h).health = s.health := rfl
@[simp] theorem State.onPorts_free (h : SMap Port → SMap Port) : (s.onPorts h).free = s.free := rfl
@[simp] theorem State.onPorts_pending (h : SMap Port → SMap Port) : (s.onPorts h).pending = s.pending := rfl

/-! ### onUpdate -/

@[simp] theorem State.onUpdate_boot (h : Update → Update) : (s.onUpdate h).boot = s.boot := rfl
@[simp] theorem State.onUpdate_link (h : Update → Update) : (s.onUpdate h).link = s.link := rfl
@[simp] theorem State.onUpdate_power (h : Update → Update) : (s.onUpdate h).power = s.power := rfl
@[simp] theorem State.onUpdate_clocks (h : Update → Update) : (s.onUpdate h).clocks = s.clocks := rfl
@[simp] theorem State.onUpdate_regs (h : Update → Update) : (s.onUpdate h).regs = s.regs := rfl
@[simp] theorem State.onUpdate_fns (h : Update → Update) : (s.onUpdate h).fns = s.fns := rfl
@[simp] theorem State.onUpdate_pairs (h : Update → Update) : (s.onUpdate h).pairs = s.pairs := rfl
@[simp] theorem State.onUpdate_jobs (h : Update → Update) : (s.onUpdate h).jobs = s.jobs := rfl
@[simp] theorem State.onUpdate_engines (h : Update → Update) : (s.onUpdate h).engines = s.engines := rfl
@[simp] theorem State.onUpdate_medulla (h : Update → Update) : (s.onUpdate h).medulla = s.medulla := rfl
@[simp] theorem State.onUpdate_entropy (h : Update → Update) : (s.onUpdate h).entropy = s.entropy := rfl
@[simp] theorem State.onUpdate_flash (h : Update → Update) : (s.onUpdate h).flash = s.flash := rfl
@[simp] theorem State.onUpdate_counters (h : Update → Update) : (s.onUpdate h).counters = s.counters := rfl
@[simp] theorem State.onUpdate_log (h : Update → Update) : (s.onUpdate h).log = s.log := rfl
@[simp] theorem State.onUpdate_spore (h : Update → Update) : (s.onUpdate h).spore = s.spore := rfl
@[simp] theorem State.onUpdate_reader (h : Update → Update) : (s.onUpdate h).reader = s.reader := rfl
@[simp] theorem State.onUpdate_tag (h : Update → Update) : (s.onUpdate h).tag = s.tag := rfl
@[simp] theorem State.onUpdate_ports (h : Update → Update) : (s.onUpdate h).ports = s.ports := rfl
@[simp] theorem State.onUpdate_update (h : Update → Update) : (s.onUpdate h).update = h s.update := rfl
@[simp] theorem State.onUpdate_tamper (h : Update → Update) : (s.onUpdate h).tamper = s.tamper := rfl
@[simp] theorem State.onUpdate_pinnas (h : Update → Update) : (s.onUpdate h).pinnas = s.pinnas := rfl
@[simp] theorem State.onUpdate_health (h : Update → Update) : (s.onUpdate h).health = s.health := rfl
@[simp] theorem State.onUpdate_free (h : Update → Update) : (s.onUpdate h).free = s.free := rfl
@[simp] theorem State.onUpdate_pending (h : Update → Update) : (s.onUpdate h).pending = s.pending := rfl

/-! ### onTamper -/

@[simp] theorem State.onTamper_boot (h : Tamper → Tamper) : (s.onTamper h).boot = s.boot := rfl
@[simp] theorem State.onTamper_link (h : Tamper → Tamper) : (s.onTamper h).link = s.link := rfl
@[simp] theorem State.onTamper_power (h : Tamper → Tamper) : (s.onTamper h).power = s.power := rfl
@[simp] theorem State.onTamper_clocks (h : Tamper → Tamper) : (s.onTamper h).clocks = s.clocks := rfl
@[simp] theorem State.onTamper_regs (h : Tamper → Tamper) : (s.onTamper h).regs = s.regs := rfl
@[simp] theorem State.onTamper_fns (h : Tamper → Tamper) : (s.onTamper h).fns = s.fns := rfl
@[simp] theorem State.onTamper_pairs (h : Tamper → Tamper) : (s.onTamper h).pairs = s.pairs := rfl
@[simp] theorem State.onTamper_jobs (h : Tamper → Tamper) : (s.onTamper h).jobs = s.jobs := rfl
@[simp] theorem State.onTamper_engines (h : Tamper → Tamper) : (s.onTamper h).engines = s.engines := rfl
@[simp] theorem State.onTamper_medulla (h : Tamper → Tamper) : (s.onTamper h).medulla = s.medulla := rfl
@[simp] theorem State.onTamper_entropy (h : Tamper → Tamper) : (s.onTamper h).entropy = s.entropy := rfl
@[simp] theorem State.onTamper_flash (h : Tamper → Tamper) : (s.onTamper h).flash = s.flash := rfl
@[simp] theorem State.onTamper_counters (h : Tamper → Tamper) : (s.onTamper h).counters = s.counters := rfl
@[simp] theorem State.onTamper_log (h : Tamper → Tamper) : (s.onTamper h).log = s.log := rfl
@[simp] theorem State.onTamper_spore (h : Tamper → Tamper) : (s.onTamper h).spore = s.spore := rfl
@[simp] theorem State.onTamper_reader (h : Tamper → Tamper) : (s.onTamper h).reader = s.reader := rfl
@[simp] theorem State.onTamper_tag (h : Tamper → Tamper) : (s.onTamper h).tag = s.tag := rfl
@[simp] theorem State.onTamper_ports (h : Tamper → Tamper) : (s.onTamper h).ports = s.ports := rfl
@[simp] theorem State.onTamper_update (h : Tamper → Tamper) : (s.onTamper h).update = s.update := rfl
@[simp] theorem State.onTamper_tamper (h : Tamper → Tamper) : (s.onTamper h).tamper = h s.tamper := rfl
@[simp] theorem State.onTamper_pinnas (h : Tamper → Tamper) : (s.onTamper h).pinnas = s.pinnas := rfl
@[simp] theorem State.onTamper_health (h : Tamper → Tamper) : (s.onTamper h).health = s.health := rfl
@[simp] theorem State.onTamper_free (h : Tamper → Tamper) : (s.onTamper h).free = s.free := rfl
@[simp] theorem State.onTamper_pending (h : Tamper → Tamper) : (s.onTamper h).pending = s.pending := rfl

/-! ### onPinnas -/

@[simp] theorem State.onPinnas_boot (h : Pinnas → Pinnas) : (s.onPinnas h).boot = s.boot := rfl
@[simp] theorem State.onPinnas_link (h : Pinnas → Pinnas) : (s.onPinnas h).link = s.link := rfl
@[simp] theorem State.onPinnas_power (h : Pinnas → Pinnas) : (s.onPinnas h).power = s.power := rfl
@[simp] theorem State.onPinnas_clocks (h : Pinnas → Pinnas) : (s.onPinnas h).clocks = s.clocks := rfl
@[simp] theorem State.onPinnas_regs (h : Pinnas → Pinnas) : (s.onPinnas h).regs = s.regs := rfl
@[simp] theorem State.onPinnas_fns (h : Pinnas → Pinnas) : (s.onPinnas h).fns = s.fns := rfl
@[simp] theorem State.onPinnas_pairs (h : Pinnas → Pinnas) : (s.onPinnas h).pairs = s.pairs := rfl
@[simp] theorem State.onPinnas_jobs (h : Pinnas → Pinnas) : (s.onPinnas h).jobs = s.jobs := rfl
@[simp] theorem State.onPinnas_engines (h : Pinnas → Pinnas) : (s.onPinnas h).engines = s.engines := rfl
@[simp] theorem State.onPinnas_medulla (h : Pinnas → Pinnas) : (s.onPinnas h).medulla = s.medulla := rfl
@[simp] theorem State.onPinnas_entropy (h : Pinnas → Pinnas) : (s.onPinnas h).entropy = s.entropy := rfl
@[simp] theorem State.onPinnas_flash (h : Pinnas → Pinnas) : (s.onPinnas h).flash = s.flash := rfl
@[simp] theorem State.onPinnas_counters (h : Pinnas → Pinnas) : (s.onPinnas h).counters = s.counters := rfl
@[simp] theorem State.onPinnas_log (h : Pinnas → Pinnas) : (s.onPinnas h).log = s.log := rfl
@[simp] theorem State.onPinnas_spore (h : Pinnas → Pinnas) : (s.onPinnas h).spore = s.spore := rfl
@[simp] theorem State.onPinnas_reader (h : Pinnas → Pinnas) : (s.onPinnas h).reader = s.reader := rfl
@[simp] theorem State.onPinnas_tag (h : Pinnas → Pinnas) : (s.onPinnas h).tag = s.tag := rfl
@[simp] theorem State.onPinnas_ports (h : Pinnas → Pinnas) : (s.onPinnas h).ports = s.ports := rfl
@[simp] theorem State.onPinnas_update (h : Pinnas → Pinnas) : (s.onPinnas h).update = s.update := rfl
@[simp] theorem State.onPinnas_tamper (h : Pinnas → Pinnas) : (s.onPinnas h).tamper = s.tamper := rfl
@[simp] theorem State.onPinnas_pinnas (h : Pinnas → Pinnas) : (s.onPinnas h).pinnas = h s.pinnas := rfl
@[simp] theorem State.onPinnas_health (h : Pinnas → Pinnas) : (s.onPinnas h).health = s.health := rfl
@[simp] theorem State.onPinnas_free (h : Pinnas → Pinnas) : (s.onPinnas h).free = s.free := rfl
@[simp] theorem State.onPinnas_pending (h : Pinnas → Pinnas) : (s.onPinnas h).pending = s.pending := rfl

/-! ### onHealth -/

@[simp] theorem State.onHealth_boot (h : Health → Health) : (s.onHealth h).boot = s.boot := rfl
@[simp] theorem State.onHealth_link (h : Health → Health) : (s.onHealth h).link = s.link := rfl
@[simp] theorem State.onHealth_power (h : Health → Health) : (s.onHealth h).power = s.power := rfl
@[simp] theorem State.onHealth_clocks (h : Health → Health) : (s.onHealth h).clocks = s.clocks := rfl
@[simp] theorem State.onHealth_regs (h : Health → Health) : (s.onHealth h).regs = s.regs := rfl
@[simp] theorem State.onHealth_fns (h : Health → Health) : (s.onHealth h).fns = s.fns := rfl
@[simp] theorem State.onHealth_pairs (h : Health → Health) : (s.onHealth h).pairs = s.pairs := rfl
@[simp] theorem State.onHealth_jobs (h : Health → Health) : (s.onHealth h).jobs = s.jobs := rfl
@[simp] theorem State.onHealth_engines (h : Health → Health) : (s.onHealth h).engines = s.engines := rfl
@[simp] theorem State.onHealth_medulla (h : Health → Health) : (s.onHealth h).medulla = s.medulla := rfl
@[simp] theorem State.onHealth_entropy (h : Health → Health) : (s.onHealth h).entropy = s.entropy := rfl
@[simp] theorem State.onHealth_flash (h : Health → Health) : (s.onHealth h).flash = s.flash := rfl
@[simp] theorem State.onHealth_counters (h : Health → Health) : (s.onHealth h).counters = s.counters := rfl
@[simp] theorem State.onHealth_log (h : Health → Health) : (s.onHealth h).log = s.log := rfl
@[simp] theorem State.onHealth_spore (h : Health → Health) : (s.onHealth h).spore = s.spore := rfl
@[simp] theorem State.onHealth_reader (h : Health → Health) : (s.onHealth h).reader = s.reader := rfl
@[simp] theorem State.onHealth_tag (h : Health → Health) : (s.onHealth h).tag = s.tag := rfl
@[simp] theorem State.onHealth_ports (h : Health → Health) : (s.onHealth h).ports = s.ports := rfl
@[simp] theorem State.onHealth_update (h : Health → Health) : (s.onHealth h).update = s.update := rfl
@[simp] theorem State.onHealth_tamper (h : Health → Health) : (s.onHealth h).tamper = s.tamper := rfl
@[simp] theorem State.onHealth_pinnas (h : Health → Health) : (s.onHealth h).pinnas = s.pinnas := rfl
@[simp] theorem State.onHealth_health (h : Health → Health) : (s.onHealth h).health = h s.health := rfl
@[simp] theorem State.onHealth_free (h : Health → Health) : (s.onHealth h).free = s.free := rfl
@[simp] theorem State.onHealth_pending (h : Health → Health) : (s.onHealth h).pending = s.pending := rfl

/-! ### onFree -/

@[simp] theorem State.onFree_boot (h : Nat → Nat) : (s.onFree h).boot = s.boot := rfl
@[simp] theorem State.onFree_link (h : Nat → Nat) : (s.onFree h).link = s.link := rfl
@[simp] theorem State.onFree_power (h : Nat → Nat) : (s.onFree h).power = s.power := rfl
@[simp] theorem State.onFree_clocks (h : Nat → Nat) : (s.onFree h).clocks = s.clocks := rfl
@[simp] theorem State.onFree_regs (h : Nat → Nat) : (s.onFree h).regs = s.regs := rfl
@[simp] theorem State.onFree_fns (h : Nat → Nat) : (s.onFree h).fns = s.fns := rfl
@[simp] theorem State.onFree_pairs (h : Nat → Nat) : (s.onFree h).pairs = s.pairs := rfl
@[simp] theorem State.onFree_jobs (h : Nat → Nat) : (s.onFree h).jobs = s.jobs := rfl
@[simp] theorem State.onFree_engines (h : Nat → Nat) : (s.onFree h).engines = s.engines := rfl
@[simp] theorem State.onFree_medulla (h : Nat → Nat) : (s.onFree h).medulla = s.medulla := rfl
@[simp] theorem State.onFree_entropy (h : Nat → Nat) : (s.onFree h).entropy = s.entropy := rfl
@[simp] theorem State.onFree_flash (h : Nat → Nat) : (s.onFree h).flash = s.flash := rfl
@[simp] theorem State.onFree_counters (h : Nat → Nat) : (s.onFree h).counters = s.counters := rfl
@[simp] theorem State.onFree_log (h : Nat → Nat) : (s.onFree h).log = s.log := rfl
@[simp] theorem State.onFree_spore (h : Nat → Nat) : (s.onFree h).spore = s.spore := rfl
@[simp] theorem State.onFree_reader (h : Nat → Nat) : (s.onFree h).reader = s.reader := rfl
@[simp] theorem State.onFree_tag (h : Nat → Nat) : (s.onFree h).tag = s.tag := rfl
@[simp] theorem State.onFree_ports (h : Nat → Nat) : (s.onFree h).ports = s.ports := rfl
@[simp] theorem State.onFree_update (h : Nat → Nat) : (s.onFree h).update = s.update := rfl
@[simp] theorem State.onFree_tamper (h : Nat → Nat) : (s.onFree h).tamper = s.tamper := rfl
@[simp] theorem State.onFree_pinnas (h : Nat → Nat) : (s.onFree h).pinnas = s.pinnas := rfl
@[simp] theorem State.onFree_health (h : Nat → Nat) : (s.onFree h).health = s.health := rfl
@[simp] theorem State.onFree_free (h : Nat → Nat) : (s.onFree h).free = h s.free := rfl
@[simp] theorem State.onFree_pending (h : Nat → Nat) : (s.onFree h).pending = s.pending := rfl

/-! ### Maps -/

theorem fnOf_onFn_same {f : FnId} {h : Fn → Fn} : fnOf (onFn s f h) f = h (fnOf s f) := by
  simp [fnOf, onFn]

theorem fnOf_onFn_ne {f g : FnId} {h : Fn → Fn} (hne : g ≠ f) : fnOf (onFn s f h) g = fnOf s g := by
  have : g.toNat ≠ f.toNat := fun e => hne (BitVec.eq_of_toNat_eq e)
  simp [fnOf, onFn, SMap.get_mod_ne this]

theorem pairKey_inj {f g : FnId} {q r : PairId} (h : pairKey f q = pairKey g r) : f = g ∧ q = r := by
  unfold pairKey at h
  have hq := q.isLt
  have hr := r.isLt
  exact ⟨BitVec.eq_of_toNat_eq (by omega), BitVec.eq_of_toNat_eq (by omega)⟩

theorem pairOf_onPair_same {f : FnId} {q : PairId} {h : Pair → Pair} : pairOf (onPair s f q h) f q = h (pairOf s f q) := by
  simp [pairOf, onPair]

theorem pairOf_onPair_ne {f g : FnId} {q r : PairId} {h : Pair → Pair} (hne : (g, r) ≠ (f, q)) :
    pairOf (onPair s f q h) g r = pairOf s g r := by
  have : pairKey g r ≠ pairKey f q := fun e => hne (by obtain ⟨a, b⟩ := pairKey_inj e; rw [a, b])
  simp [pairOf, onPair, SMap.get_mod_ne this]

theorem portOf_onPort_same {p : Fin 2} {h : Port → Port} : portOf (onPort s p h) p = h (portOf s p) := by
  simp [portOf, onPort]

theorem portOf_onPort_ne {p r : Fin 2} {h : Port → Port} (hne : r ≠ p) : portOf (onPort s p h) r = portOf s r := by
  have : r.val ≠ p.val := fun e => hne (Fin.ext e)
  simp [portOf, onPort, SMap.get_mod_ne this]

theorem pinnaOf_onPinna_same {u : Fin 8} {h : Pinna → Pinna} : pinnaOf (onPinna s u h) u = h (pinnaOf s u) := by
  simp [pinnaOf, onPinna, onPinnaNat]

theorem pinnaOf_onPinna_ne {u v : Fin 8} {h : Pinna → Pinna} (hne : v ≠ u) : pinnaOf (onPinna s u h) v = pinnaOf s v := by
  have : v.val ≠ u.val := fun e => hne (Fin.ext e)
  simp [pinnaOf, onPinna, onPinnaNat, SMap.get_mod_ne this]

theorem unitKey_inj {u v : UnitRef} (h : unitKey u = unitKey v) : u = v := by
  cases u <;> cases v <;> simp_all [unitKey] <;> omega

theorem unitOf_onUnit_same {u : UnitRef} {h : UnitSt → UnitSt} : unitOf (onUnit s u h) u = h (unitOf s u) := by
  simp [unitOf, onUnit]

theorem unitOf_onUnit_ne {u v : UnitRef} {h : UnitSt → UnitSt} (hne : v ≠ u) : unitOf (onUnit s u h) v = unitOf s v := by
  have : unitKey v ≠ unitKey u := fun e => hne (unitKey_inj e)
  simp [unitOf, onUnit, SMap.get_mod_ne this]

/-- A function's own memory after a write that stays below 2^64: every byte outside the bytes written reads as before. -/
theorem hostRead_hostWrite_apart {f : FnId} {a n b : Nat} {bs : Bytes} (ha : a % 2 ^ 64 + bs.length ≤ 2 ^ 64) (hb : b % 2 ^ 64 + n ≤ 2 ^ 64)
    (h : hostKey f b + n ≤ hostKey f a ∨ hostKey f a + bs.length ≤ hostKey f b) :
    hostRead (hostWrite s f a bs) f b n = hostRead s f b n := by
  have e1 : belowTop a bs.length = bs.length := by unfold belowTop; omega
  have e2 : belowTop b n = n := by unfold belowTop; omega
  have w : ∀ m : Memory, Memory.write 0 m (hostKey f 0) [] = m := fun m => rfl
  simp only [hostRead, hostWrite, e1, e2, State.onLink_link, List.take_length, List.drop_length, w, Nat.sub_self]
  rw [Memory.read_write_apart h]
  rfl

/-- Another function's memory reads as before (R177). -/
theorem hostRead_hostWrite_other {f g : FnId} {a n b : Nat} {bs : Bytes} (hf : g ≠ f) (hl : bs.length ≤ 2 ^ 64) (hn : n ≤ 2 ^ 64) :
    hostRead (hostWrite s f a bs) g b n = hostRead s g b n := by
  have hne : g.toNat ≠ f.toNat := fun e => hf (BitVec.eq_of_toNat_eq e)
  have key : ∀ (x y k l : Nat), x % 2 ^ 64 + k ≤ 2 ^ 64 → y % 2 ^ 64 + l ≤ 2 ^ 64 →
      hostKey g x + k ≤ hostKey f y ∨ hostKey f y + l ≤ hostKey g x := by
    intro x y k l hx hy
    unfold hostKey
    have := Nat.lt_or_gt_of_ne hne
    omega
  have l1 : a % 2 ^ 64 + (bs.take (belowTop a bs.length)).length ≤ 2 ^ 64 := by rw [List.length_take]; unfold belowTop; omega
  have l2 : 0 % 2 ^ 64 + (bs.drop (belowTop a bs.length)).length ≤ 2 ^ 64 := by rw [List.length_drop]; omega
  have r1 : b % 2 ^ 64 + belowTop b n ≤ 2 ^ 64 := by unfold belowTop; omega
  have r2 : 0 % 2 ^ 64 + (n - belowTop b n) ≤ 2 ^ 64 := by omega
  simp only [hostRead, hostWrite, State.onLink_link]
  rw [Memory.read_write_apart (key _ _ _ _ r1 l2), Memory.read_write_apart (key _ _ _ _ r1 l1),
    Memory.read_write_apart (key _ _ _ _ r2 l2), Memory.read_write_apart (key _ _ _ _ r2 l1)]

/-- The bytes written are read back, over the top of the address space as well (log entry 80). -/
theorem hostRead_hostWrite_same {f : FnId} {a : Nat} {bs : Bytes} (hl : bs.length ≤ 2 ^ 64) :
    hostRead (hostWrite s f a bs) f a bs.length = bs := by
  have hk : belowTop a bs.length ≤ bs.length := by unfold belowTop; omega
  have t1 : (bs.take (belowTop a bs.length)).length = belowTop a bs.length := by rw [List.length_take]; omega
  have t2 : (bs.drop (belowTop a bs.length)).length = bs.length - belowTop a bs.length := List.length_drop
  have apart : hostKey f a + belowTop a bs.length ≤ hostKey f 0 ∨ hostKey f 0 + (bs.drop (belowTop a bs.length)).length ≤ hostKey f a ∨
      (bs.drop (belowTop a bs.length)).length = 0 := by
    rw [t2]; unfold hostKey belowTop; omega
  simp only [hostRead, hostWrite, State.onLink_link]
  have second : ∀ m : Memory, Memory.read 0 (Memory.write 0 m (hostKey f 0) (bs.drop (belowTop a bs.length))) (hostKey f 0)
      (bs.length - belowTop a bs.length) = bs.drop (belowTop a bs.length) := by
    intro m; rw [← t2]; exact Memory.read_write_same
  have first : Memory.read 0 (Memory.write 0 (Memory.write 0 s.link.hostMem (hostKey f a) (bs.take (belowTop a bs.length))) (hostKey f 0)
      (bs.drop (belowTop a bs.length))) (hostKey f a) (belowTop a bs.length) = bs.take (belowTop a bs.length) := by
    have step : Memory.read 0 (Memory.write 0 (Memory.write 0 s.link.hostMem (hostKey f a) (bs.take (belowTop a bs.length))) (hostKey f 0)
        (bs.drop (belowTop a bs.length))) (hostKey f a) (belowTop a bs.length) =
        Memory.read 0 (Memory.write 0 s.link.hostMem (hostKey f a) (bs.take (belowTop a bs.length))) (hostKey f a) (belowTop a bs.length) := by
      rcases apart with h | h | h
      · exact Memory.read_write_apart (Or.inl h)
      · exact Memory.read_write_apart (Or.inr h)
      · rw [List.eq_nil_of_length_eq_zero h]; rfl
    rw [step]
    have := @Memory.read_write_same (m := s.link.hostMem) (a := hostKey f a) (bs := bs.take (belowTop a bs.length)) (d := (0 : Byte))
    rw [t1] at this
    exact this
  rw [first, second, List.take_append_drop]

end Sys2Proof.Machine
end

