-- ==== Sys2Proof/Laws/Pinna.lean ====
section
/-! SUPPORT. The Pinna registers after a write, and what each frame of an instruction answers on a unit whose next instruction issues: one
lemma per shared operation of PinnaOps. -/

namespace Sys2Proof.Machine

variable {s : State} {u : Fin 8} {gd : Guard} {i : Inv} {p : Pinna}

/-! ### Registers -/

@[simp] theorem gGet_zero : gGet p 0 = 0 := if_pos rfl

theorem gGet_gSet_same {r : GReg} {v : U32} (h : r ≠ 0) : gGet (gSet p r v) r = v := by
  unfold gGet gSet
  rw [if_neg h, if_neg h]
  exact SMap.get_set_same

theorem gGet_gSet_ne {r r' : GReg} {v : U32} (h : r' ≠ r) : gGet (gSet p r v) r' = gGet p r' := by
  have hn : r'.toNat ≠ r.toNat := fun e => h (BitVec.eq_of_toNat_eq e)
  unfold gGet gSet
  by_cases hr : r = 0
  · rw [if_pos hr]
  · rw [if_neg hr]
    split
    · rfl
    · exact SMap.get_set_ne hn

@[simp] theorem gSet_zero {v : U32} : gSet p 0 v = p := if_pos rfl

/-- A register write changes the register file alone. -/
theorem gSet_frame {r : GReg} {v : U32} : gSet p r v = { p with g := (gSet p r v).g } := by
  unfold gSet
  split <;> rfl

@[simp] theorem pGet_zero : pGet p 0 = true := if_pos rfl

theorem pGet_pSet_same {r : PReg} {v : Bool} (h : r ≠ 0) : pGet (pSet p r v) r = v := by
  obtain ⟨x⟩ := p
  unfold pGet pSet
  rw [if_neg h, if_neg h]
  have hb : ∀ (b : Byte) (r : PReg) (v : Bool), ((b &&& ~~~((1 : Byte) <<< r.toNat)) ||| (if v then (1 : Byte) <<< r.toNat else 0)).getLsbD r.toNat = v := by
    intro b r v
    have hr : r.toNat < 8 := r.isLt
    cases v <;> simp [hr]
  exact hb _ _ _

theorem pGet_pSet_ne {r r' : PReg} {v : Bool} (h : r' ≠ r) : pGet (pSet p r v) r' = pGet p r' := by
  have hn : r'.toNat ≠ r.toNat := fun e => h (BitVec.eq_of_toNat_eq e)
  unfold pGet pSet
  by_cases hr : r = 0
  · rw [if_pos hr]
  · rw [if_neg hr]
    split
    · rfl
    · have hb : ∀ (b : Byte) (r r' : PReg) (v : Bool), r'.toNat ≠ r.toNat →
          ((b &&& ~~~((1 : Byte) <<< r.toNat)) ||| (if v then (1 : Byte) <<< r.toNat else 0)).getLsbD r'.toNat = b.getLsbD r'.toNat := by
        intro b r r' v hne
        have hr' : r'.toNat < 8 := r'.isLt
        cases v <;> simp [hr'] <;> (try intro hlt) <;> (try omega) <;> grind
      exact hb _ _ _ _ hn

/-- A predicate write changes the predicates alone. -/
theorem pSet_frame {r : PReg} {v : Bool} : pSet p r v = { p with p := (pSet p r v).p } := by
  unfold pSet
  split <;> rfl

/-! ### Issue -/

/-- The next instruction of a unit issues with a true guard: the frame runs the effect. -/
theorem issue_runs {skip : State → State} {effect : State → Pinna → Inv → State} (he : unitExists s u = true)
    (hi : issues s u = some i) (hc : inCode i (pinnaOf s u).pc.toNat 4 = true) (ha : (pinnaOf s u).pc.toNat % 4 = 0)
    (hg : guardHolds (pinnaOf s u) gd = true) : issue u gd false skip s effect = .next (effect s (pinnaOf s u) i) := by
  simp [issue, he, hi, hc, ha, hg]

/-- With a false guard it runs the skip. -/
theorem issue_skips {skip : State → State} {effect : State → Pinna → Inv → State} (he : unitExists s u = true)
    (hi : issues s u = some i) (hc : inCode i (pinnaOf s u).pc.toNat 4 = true) (ha : (pinnaOf s u).pc.toNat % 4 = 0)
    (hg : guardHolds (pinnaOf s u) gd = false) : issue u gd false skip s effect = .next (skip s) := by
  simp [issue, he, hi, hc, ha, hg]

/-- An invalid encoding ends the invocation, whatever the guard. -/
theorem issue_illegal {skip : State → State} {effect : State → Pinna → Inv → State} (he : unitExists s u = true)
    (hi : issues s u = some i) (hc : inCode i (pinnaOf s u).pc.toNat 4 = true) (ha : (pinnaOf s u).pc.toNat % 4 = 0) :
    issue u gd true skip s effect = .next (trap s u i (pinnaOf s u).pc 1 0) := by
  simp [issue, he, hi, hc, ha]

/-- On a unit the mode in force does not have, every Pinna row faults. -/
theorem issue_no_unit {b : Bool} {skip : State → State} {effect : State → Pinna → Inv → State} (he : unitExists s u = false) :
    issue u gd b skip s effect = .fault (.noSuchUnit u.val) := by
  simp [issue, he]

/-- The frame answers a next state on every unit that exists. -/
theorem issue_goes_on {b : Bool} {skip : State → State} {effect : State → Pinna → Inv → State} (he : unitExists s u = true) :
    ∃ t, issue u gd b skip s effect = .next t := by
  unfold issue
  rw [he]
  simp only [Bool.not_true, Bool.false_eq_true, if_false]
  split
  · exact ⟨_, rfl⟩
  · split_ifs <;> exact ⟨_, rfl⟩

end Sys2Proof.Machine
end

