-- ==== Sys2Proof/Tests/Slice0.lean ====
section
/-! SUPPORT. The author's own tests: for every statement with hypotheses, states and operands that meet them, at the ends of the ranges the statement names; the
ill-formed terms WellFormed refuses; words of the Pinna encoding; a few single steps. Conditions on values the manual leaves to a cryptographic function or to the
implementation (opaque in Config) are the ones a test cannot show. -/

set_option Elab.async false

namespace Sys2Proof.Tests
open Sys2Proof.Machine Sys2Proof.Claims

/-! ### A small device -/

/-- PARAMS from (offset, bytes, value). -/
def pars (l : List (Nat × Nat × Nat)) : BitVec 448 :=
  BitVec.ofNat 448 (l.foldl (fun a e => a + e.2.2 % 2 ^ (8 * e.2.1) * 2 ^ (8 * e.1)) 0)
/-- A submission entry of function `fn`, pair 0. -/
def cmdOf (fn : FnId) (l : List (Nat × Nat × Nat)) (flags : Byte := 0) (tag : BitVec 16 := 7) (i : Issuer := .host) : Cmd :=
  { fn := fn, q := 0, issuer := i, tag := tag, flags := flags, format := 1, rsv := 0, params := pars l }
/-- An attribute word: TYPE, USAGE, MODES, ENGINES, OWNER, LENGTH, further bits. -/
def attrWord (ty usage modes eng : Nat) (own : Nat := 0) (len : Nat := typeBits ty 256) (extra : Nat := 0) : U64 :=
  BitVec.ofNat 64 (own + 2 ^ 8 + ty * 2 ^ 10 + len % 1024 * 2 ^ 15 + usage * 2 ^ 25 + modes * 2 ^ 33 + eng * 2 ^ 41 + extra + 2 ^ 52)
def bytesOf (n seed : Nat) : Bytes := (List.range n).map (fun i => BitVec.ofNat 8 (i * 7 + seed))
def drbg (k : Nat) : Drbg := { live := true, st := bytesOf 48 k, requests := 7, lastReseed := 999000000, reseeds := 2 }
/-- A device at READY with two functions, a queue pair each, some keys and every unit in service. -/
def ready : State := { State.reset with
  boot := { state := .ready, sentinelFresh := false, powerUp := 0, version := 0x010203, svn := 5 }
  link := { perst := false, phyGood := true, up := true, vfEnable := true, numVfs := 7, ari := true }
  power := { domains := BitVec.allOnes 50, vcore := 20, vinInRange := true, idleSince := 999000000 }
  clocks := { seta := 1000000000, epochAt := 1000000000, rollAt := 990000000, quantumAt := 1000000000, locked := BitVec.allOnes 19 }
  fns := [(0, { assigned := true, enabled := true, busMaster := true, ctxKey := bytesOf 32 99 }),
    (1, { assigned := true, enabled := true, busMaster := true, generation := 3, counterCap := 5, appletCap := 4, slots := [300, 301, 302], ctxKey := bytesOf 32 98 })]
  pairs := [(0, { active := true, depth := 16, cls := 1, vector := 1, sqBase := 0x10000, cqBase := 0x20000 }),
    (4, { active := true, depth := 16, cls := 0, vector := 2, sqBase := 0x30000, cqBase := 0x40000 })]
  engines := { units := (List.range 80).map (fun k => (k, { st := .inService, lastTest := 100000000 })) }
  medulla := { slots := [(0, { attr := attrWord 9 4 0 2, key := bytesOf 48 1 }), (32, { attr := attrWord 2 0xFF 0xFF 7, key := bytesOf 32 4 }),
      (34, { attr := attrWord 2 0xFF 0xFF 7 0 256 (2 ^ 44), key := bytesOf 32 6 }), (35, { attr := attrWord 2 0xFF 0xFF 7 0 256 (2 ^ 9), key := bytesOf 32 7 }),
      (36, { attr := attrWord 9 0xFF 0 2, key := bytesOf 48 8 }), (300, { attr := attrWord 2 0xFF 0xFF 7 1, key := bytesOf 32 12 })]
               kek := some (bytesOf 32 50) }
  entropy := { sources := (List.range 4).map (fun k => (k, { inService := true })), insts := [(0, drbg 1), (1, drbg 2), (260, drbg 5), (262, drbg 6), (263, drbg 7)] }
  flash := { otp := [(0, 0x1122334455667788), (1, 0x99), (30, 1)] }
  spore := { words := [(48, statusWord 0)] } }
/-- The device with a fetched command in flight. -/
def fetched (s : State) (op : Nat) (c : Cmd) : State := { s with jobs := s.jobs ++ [{ op := op, cmd := c, fetchedAt := 999 }] }
/-- Command `c` starts in `s`, and the other hypotheses `p` hold of the device and the job at that moment. -/
def startsWith (op : Nat) (c : Cmd) (s : State) (p : State → Job → Bool := fun _ _ => true) : Bool :=
  match admission op c s with
  | .go j => p (started s c j) j
  | _ => false
theorem startsWith_starts (op : Nat) (c : Cmd) (s : State) (p : State → Job → Bool) (h : startsWith op c s p = true) :
    ∃ j, Starts op c s j ∧ p (started s c j) j = true := by
  unfold startsWith at h
  split at h
  · exact ⟨_, ‹_›, h⟩
  · simp at h
/-- The same for the command just fetched into `s`. -/
def runs (op : Nat) (c : Cmd) (s : State := ready) (p : State → Job → Bool := fun _ _ => true) : Bool := startsWith op c (fetched s op c) p

/-! ### Commands in general -/

/-- CommandsStartInOrder, first part: each clause's hypotheses. -/
theorem test_witness_CommandsStartInOrder :
    (let c := cmdOf 0 [] 1
     let s := fetched (fetched ready 1 (cmdOf 0 [] 0 6)) 1 c
     (s.jobs.find? (fun j => j.op == 1 && j.cmd == c && j.stage == .fetched)).isSome ∧ holdsBack s 1 c = false ∧ fenceHolds s c = true) ∧
    (let c := cmdOf 0 []
     let s := fetched (fetched ready 1 (cmdOf 0 [] 0 6)) 1 c
     holdsBack s 1 c = false ∧ fenceHolds s c = false ∧ orderHolds s c = true) ∧
    (let c := cmdOf 1 []
     let s := fetched ready 0x0010 c
     holdsBack s 0x10 c = false ∧ fenceHolds s c = false ∧ orderHolds s c = false ∧ lateChecks s 0x10 c = some 4) ∧
    (let c := cmdOf 0 [] 3
     let s := onPair (fetched ready 1 c) 0 0 (fun p => { p with failed := true })
     holdsBack s 1 c = false ∧ fenceHolds s c = false ∧ orderHolds s c = false ∧ lateChecks s 1 c = none ∧ c.flags.getLsbD 1 = true ∧
       (pairOf s 0 0).failed = true) ∧
    (let c := cmdOf 0 [] 1
     let s := fetched ready 1 c
     holdsBack s 1 c = false ∧ fenceHolds s c = false ∧ orderHolds s c = false ∧ lateChecks s 1 c = none ∧ c.flags.getLsbD 1 = false) := by
  decide +kernel

/-- CommandsStartInOrder, second part: a limited, a suspended and an absent issuer, and none of these. -/
theorem test_witness_StateChecks :
    lateChecks (ready.onBoot (fun b => { b with state := .epochSpent })) 0x0301 (cmdOf 0 []) = some 0xE ∧
    lateChecks (ready.onBoot (fun b => { b with state := .epochSpent })) 0x0801 (cmdOf 0 []) = none ∧
    lateChecks (ready.onBoot (fun b => { b with state := .updating })) 0x0A02 (cmdOf 1 []) = some 0xE ∧
    lateChecks (ready.onTamper (fun t => { t with suspended := 1 })) 0x0301 (cmdOf 0 []) = some 0xD ∧
    lateChecks ready 0x0301 (cmdOf 2 []) = some 5 ∧ lateChecks ready 0x0002 (cmdOf 2 []) = none ∧ lateChecks ready 0x0101 (cmdOf 1 []) = some 4 := by
  decide +kernel

/-- RowsFollowAdmission: a row that waits, and one that is refused. -/
theorem test_witness_RowsFollowAdmission :
    (match admission 1 (cmdOf 0 []) ready with | .wait _ => true | _ => false) = true ∧
    (match admission 0x10 (cmdOf 1 []) (fetched ready 0x10 (cmdOf 1 [])) with | .deny _ _ => true | _ => false) = true ∧
    (xciRow (.nop (cmdOf 0 []))).isSome ∧ (xciRow (.deviceReset (cmdOf 1 []))).isSome := by decide +kernel

/-- CompletionEntryFields at the ends of its ranges. -/
theorem test_witness_CompletionEntryFields :
    let r : Reply := { status := 0xFFFF, detail := 2 ^ 64 - 1, res0 := 2 ^ 32 - 1, res1 := 2 ^ 32 - 1, res2 := 2 ^ 32 - 1, res3 := 2 ^ 32 - 1 }
    (r.status < 2 ^ 16 ∧ r.detail < 2 ^ 64 ∧ r.res0 < 2 ^ 32 ∧ r.res3 < 2 ^ 32 ∧ 0xFFFF < 2 ^ 16 ∧ 255 < 256) ∧
      (completionOf (cmdOf 0 []) r 0xFFFF 255 true).take 12 = [7, 0] ++ List.replicate 10 0xFF := by decide +kernel

/-- EntryIsParsedAsItIsLaidOut: the largest opcode, and an entry of 64 bytes. -/
theorem test_witness_EntryIsParsedAsItIsLaidOut :
    (entryOf 0xFFFF (cmdOf 0 [(55, 1, 9)] 3)).length = 64 ∧ (entryOf 0xFFFF (cmdOf 0 [(55, 1, 9)] 3)).take 5 = [0xFF, 0xFF, 7, 0, 3] := by decide +kernel

/-- CompletionIsPosted: to a resetting function or an inactive pair, to an active one; a signal at once, gathered, and after the count. -/
theorem test_witness_CompletionIsPosted :
    (cmdOf 0 []).issuer = .host ∧ (fnOf (onFn ready 0 (fun x => { x with resetting := true })) 0).resetting = true ∧
    (pairOf ready 0 1).active = false ∧ (pairOf ready 0 1).draining = false ∧ (pairOf ready 0 0).active = true ∧ (fnOf ready 0).resetting = false ∧
    (fnOf ready 0).busMaster = true ∧ (pairOf ready 0 0).lost = false ∧ (fnOf (onFn ready 0 (fun x => { x with busMaster := false })) 0).busMaster = false ∧
    (pairOf (onPair ready 0 0 (fun p => { p with lost := true })) 0 0).lost = true ∧
    (pairOf ready 1 0).cls = 0 ∧ reg ready (fnKey 0 0x180) = 0 ∧
    (let s := setReg ready (fnKey 0 0x180) (2 + 256 * 10)
     (pairOf s 0 0).cls ≠ 0 ∧ reg s (fnKey 0 0x180) % 256 = 2 ∧ (pairOf s 0 0).unsignalled + 1 < 2 ∧
       2 ≤ (pairOf (onPair s 0 0 (fun p => { p with unsignalled := 1 })) 0 0).unsignalled + 1) := by decide +kernel

/-- One entry at the head of pair 0 of function 0, ready to be fetched. -/
def placed (op : Nat) (c : Cmd) (s : State := ready) : State :=
  onPair (hostWrite s c.fn ((pairOf s c.fn 0).sqBase) (entryOf op c)) c.fn 0 (fun p => { p with sqTail := 1 })
def parsed (s : State) (f : FnId) : Nat × Cmd := parseEntry f 0 .host (hostRead s f (pairOf s f 0).sqBase 64)
def recorded' (op : Nat) (c : Cmd) (r : Bytes) (s : State) : State :=
  onPair s 0 0 (fun p => { p with window := [{ op := op, cmd := c, place := 0, record := r }] })

/-- FetchChecksInOrder: nothing to fetch; then each check in turn. -/
theorem test_witness_FetchChecksInOrder :
    mayFetch ready 0 0 = false ∧
    (let ok := fun s : State => mayFetch s 0 0 = true ∧ (0 + 1) % (pairOf s 0 0).depth = (pairOf s 0 0).sqTail
     let c := cmdOf 0 []
     ok (placed 1 c (onFn ready 0 (fun x => { x with quarantined := true }))) ∧
     ok (placed 1 { c with format := 2 }) ∧ (let e := parsed (placed 1 { c with format := 2 }) 0; malformed e.1 e.2 = true) ∧
     ok (placed 1 c (fetched ready 1 c)) ∧ parsed (placed 1 c (fetched ready 1 c)) 0 = (1, c) ∧ malformed 1 c = false ∧
     (hostJob (placed 1 c (fetched ready 1 c)) 0 0 7 = some { op := 1, cmd := c, fetchedAt := 999 }) ∧
     (hostJob (placed 1 c (fetched ready 2 c)) 0 0 7 = some { op := 2, cmd := c, fetchedAt := 999 }) ∧
     ok (recorded' 2 c [1] (placed 1 c)) ∧ ok (recorded' 1 c [1] (placed 1 c)) ∧
     hostRead (recorded' 1 c [1] (placed 1 c)) 0 (replayBase (pairOf (placed 1 c) 0 0)) 64 ≠ [1] ∧
     ok (recorded' 1 c (List.replicate 64 0) (placed 1 c)) ∧
     hostRead (placed 1 c) 0 (replayBase (pairOf (placed 1 c) 0 0)) 64 = List.replicate 64 0 ∧
     ok (placed 0xEEEE c) ∧ malformed 0xEEEE c = false ∧ knownOp 0xEEEE = false ∧
     ok (placed 1 c) ∧ knownOp 1 = true ∧ lateChecks (placed 1 c) 1 c = none) ∧
    lateChecks (placed 0x10 (cmdOf 1 [])) 0x10 (cmdOf 1 []) = some 4 := by decide +kernel

/-- DoorbellsMoveTheRings: the farthest valid index and one beyond, for each ring. -/
theorem test_witness_DoorbellsMoveTheRings :
    running ready = true ∧ reachable ready 0 = true ∧
    (let p := pairOf ready 0 0
     let span := fun lo hi => (hi + p.depth - lo) % p.depth
     (p.active = true ∧ 15 < p.depth ∧ span p.sqTail 15 ≤ p.depth - 1 - span p.sqHead p.sqTail) ∧ ¬(16 < p.depth) ∧
     (0 < p.depth ∧ span p.cqHead 0 ≤ span p.cqHead p.cqTail) ∧ ¬(span p.cqHead 1 ≤ span p.cqHead p.cqTail)) := by decide +kernel

/-- ViolationsAndQuarantine: the 64th and the 65th violation, a second count in quarantine, and its end. -/
theorem test_witness_ViolationsAndQuarantine :
    (let at_ := fun k : Nat => onFn ready 1 (fun x => { x with violations := [k] })
     (fnOf (violate (at_ 63) 1) 1).violations.sum = 64 ∧ (fnOf (at_ 63) 1).quarantined = false ∧ (fnOf (violate (at_ 64) 1) 1).quarantined = true) ∧
    (let s := onFn ready 1 (fun x => { x with quarantined := true, quarUntil := 1000000000 })
     (fnOf s 1).quarantined = true ∧ s.clocks.seta = (fnOf s 1).quarUntil) ∧ SMap.wf {} ready.fns = true := by decide +kernel

/-- HostLinkAndJobs: a gathered completion due; an active and an inactive pair; a job that has started. -/
theorem test_witness_HostLinkAndJobs :
    (let s := onPair (setReg ready (fnKey 0 0x180) (2 + 256 * 10)) 0 0 (fun p => { p with unsignalled := 1, oldest := 999999000 })
     (pairOf s 0 0).unsignalled ≠ 0 ∧ reg s (fnKey 0 0x180) / 256 % 1024 ≠ 0 ∧ s.clocks.seta = (pairOf s 0 0).oldest + 100 * 10) ∧
    (pairOf ready 0 0).active = true ∧ (fnOf ready 0).resetting = false ∧
    (let s := { ready with jobs := [{ op := 0x0301, cmd := cmdOf 0 [], stage := .waiting }] }
     (hostJob s 0 0 7).any (fun j => j.stage != .fetched && j.stage != .done && j.op != 0x0C03) = true) ∧
    ready.link.held = [] ∧ (∀ j ∈ ready.jobs, j.stage ≠ .done) ∧ (DmaEnd.poisoned, 12) ∈ [(DmaEnd.unsupported, 20), (.completerAbort, 15), (.poisoned, 12), (.timeout, 14)] := by
  decide +kernel

/-! ### Pinna -/

/-- An invocation with 64 bytes of code, 32 of data and a stack of 256. -/
def inv1 : Inv :=
  { fn := 1, q := 0, tag := 3, applet := 1, cls := 1, inAddr := 0x1000, inLen := 16, outAddr := 0x2000, outLen := 16, quanta := 100
    codeLen := 64, dataLen := 32, stackLen := 256, since := 999950000 }
/-- A unit that runs it, with registers. -/
def pinna1 (g : SMap U32 := []) (pc : U32 := 0) : Pinna := { inv := some inv1, g := g, pc := pc, p := 4, cycle := 5 }
def onUnit0 (p : Pinna) (s : State := ready) : State := s.onPinnas (fun x => { x with units := [(0, p)] })
def always : Guard := ⟨false, 0⟩
def never : Guard := ⟨true, 0⟩

/-- The hypotheses all Pinna statements share: PinnaRegisterForms, PinnaImmediateForms, PinnaComparesAndPredicates, DivisionByZeroRaisesNothing, SpecialRegisters, SleepReturnsOrSleeps,
SysServices, SysExitAndAbort and the others; and a guard that is false. -/
theorem test_witness_Pinna : Ready (onUnit0 (pinna1)) 0 inv1 ∧ guardHolds (pinnaOf (onUnit0 (pinna1)) 0) always = true ∧
    guardHolds (pinnaOf (onUnit0 (pinna1)) 0) never = false ∧ guardHolds (pinnaOf (onUnit0 (pinna1)) 0) ⟨false, 2⟩ = true := by
  unfold Ready; decide +kernel

/-- DivisionByZeroRaisesNothing: a zero divisor, and the quotient that overflows. -/
theorem test_witness_Division :
    gGet (pinna1 [(1, 9)]) 2 = 0 ∧ gGet (pinna1 [(1, 0x80000000), (2, 0xFFFFFFFF)]) 1 = 0x80000000 ∧
    gGet (pinna1 [(1, 0x80000000), (2, 0xFFFFFFFF)]) 2 = 0xFFFFFFFF := by decide +kernel

/-- BitFieldsBitByBit, PermuteByteByByte and InvalidEncodingsRaiseIllegal: fields that just fit and just do not, an even and an odd RA. -/
theorem test_witness_BitFields :
    (31 : BitVec 5).toNat + (0 : BitVec 5).toNat < 32 ∧ 32 ≤ (31 : BitVec 5).toNat + (1 : BitVec 5).toNat ∧ 0 < 32 ∧ 0 + 32 ≤ 32 ∧
    (30 : GReg).toNat % 2 = 0 ∧ (31 : GReg).toNat % 2 = 1 ∧ wellFormed (.perm 0 always 1 31 2) = false ∧
    wellFormed (.mts 0 always 3 1) = false ∧ wellFormed (.mfs 0 always 1 10) = false ∧ decodePinna 0 0xFFFFFFFF = none := by decide +kernel

/-- PinnaLoadsAndStores and PinnaAccessExceptions: the last word of the code, of the data and of the stack; one past each; misaligned addresses. -/
theorem test_witness_Memory :
    mayLoad inv1 60 4 = true ∧ mayLoad inv1 62 2 = true ∧ mayLoad inv1 63 1 = true ∧ mayLoad inv1 64 1 = false ∧ mayLoad inv1 64 4 = false ∧
    mayStore inv1 (0x10000000 + 28) 4 = true ∧ mayStore inv1 (0x10000000 + 30) 2 = true ∧ mayStore inv1 (0x10000000 + 31) 1 = true ∧
    mayStore inv1 (0x10000000 + 32) 4 = false ∧ mayStore inv1 60 4 = false ∧ mayStore inv1 0x1000FFFC 4 = true ∧ mayStore inv1 0x10010000 1 = false ∧
    memAddr (pinna1 [(1, 0x10000000)]) 1 28 = 0x10000000 + 28 ∧ 61 % 4 ≠ 0 ∧ 61 % 2 ≠ 0 := by decide +kernel

/-- PinnaBranches and PinnaAccessExceptions: the last word of the code, one past it, a misaligned target. -/
theorem test_witness_Branches :
    inCode inv1 60 4 = true ∧ inCode inv1 64 4 = false ∧ ((0 : U32) + 4 * (15 : BitVec 22).signExtend 32).toNat = 60 ∧
    ((0 : U32) + 4 * (16 : BitVec 22).signExtend 32).toNat = 64 ∧ (2 : U32).toNat % 4 ≠ 0 := by decide +kernel

/-- FalseGuardTakesFullCycles: a well-formed instruction of each number of cycles. -/
theorem test_witness_FixedCycles :
    fixedCycles (.add 0 never 1 2 3) = some (0, never, 1) ∧ fixedCycles (.mul 0 never 1 2 3) = some (0, never, 3) ∧
    fixedCycles (.divS 0 never 1 2 3) = some (0, never, 34) ∧ fixedCycles (.ldw 0 never 1 2 3) = some (0, never, 2) ∧
    wellFormed (.add 0 never 1 2 3) = true := by decide +kernel

/-- InvocationEndsPrecisely. -/
theorem test_witness_InvocationEnds : 255 < 256 ∧ unitExists ready 3 = true ∧ unitExists ready 4 = false := by decide +kernel

/-- SpecialRegisters: an RNG buffer with a word and an empty one. -/
theorem test_witness_SpecialRegisters : ({ pinna1 with rng := [5, 6] } : Pinna).rng = 5 :: [6] ∧ (pinna1).rng = [] ∧
    (∃ k, ({ pinna1 with goAt := some (5, 1000000000) } : Pinna).goAt = some ((pinna1).cycle, k) ∧ ready.clocks.seta ≤ k + 1) ∧
    (¬∃ k, (pinna1).goAt = some ((pinna1).cycle, k) ∧ ready.clocks.seta ≤ k + 1) ∧ (3 : U32).getLsbD 0 = true ∧ (2 : U32).getLsbD 0 = false :=
  ⟨rfl, rfl, ⟨1000000000, rfl, by decide⟩, fun ⟨_, h, _⟩ => by simp [pinna1] at h, by decide, by decide⟩

/-- SysServices, SysExitAndAbort and SysArgumentsOutsideTheirLimits at the ends of their ranges; a COMMAND that is accepted and one refused. -/
theorem test_witness_SysServices :
    (0 + 16 ≤ inv1.inLen ∧ mayStore inv1 0x10000010 16 = true) ∧ inv1.inLen < 1 + 16 ∧ mayStore inv1 0x10000011 16 = false ∧
    (16 ≤ inv1.outLen ∧ inv1.outLen < 17) ∧ 15 < 16 ∧ (6 : BitVec 16).toNat = 6 ∧ mayStore inv1 0x1000FF00 64 = true ∧
    appletChecks (onUnit0 (pinna1)) 0x0801 (cmdOf 1 [] 0 7 (.applet 0)) = none ∧
    (appletChecks (onUnit0 (pinna1)) 0x0101 (cmdOf 1 [] 0 7 (.applet 0))).isSome ∧ decodePinna 0 0xFFFFFFFF = none := by decide +kernel

/-- PinnaDecodeOfEncode, both ways. -/
theorem test_witness_PinnaDecode :
    encodePinna (.add 3 always 1 2 3) = some (encodePinna (.add 3 always 1 2 3)).get! ∧ pinnaUnit (.add 3 always 1 2 3) = some 3 ∧
    0x018A0000 < 2 ^ 32 ∧ (decodePinna 0 0x018A0000).isSome := by decide +kernel

/-! ### System, configuration, tenants, resets, keys -/

def got : Draw → Bool | .got _ _ => true | _ => false
/-- CONFIRM of an opcode. -/
def sure (op : Nat) : Nat := 0xFFFF - op

/-- SystemReadCommands: each command, each range at its ends. -/
theorem test_witness_SystemReadCommands :
    runs 0x0001 (cmdOf 1 []) ∧ runs 0x0002 (cmdOf 1 [(0, 1, 0)]) ∧ runs 0x0002 (cmdOf 1 [(0, 1, 1)]) ∧ runs 0x0002 (cmdOf 1 [(0, 1, 2)]) ∧ runs 0x0003 (cmdOf 0 []) ∧
    runs 0x0003 (cmdOf 1 []) ∧ runs 0x0015 (cmdOf 0 [(0, 1, 3)]) ∧ runs 0x0015 (cmdOf 0 [(0, 1, 2), (1, 1, 128)]) ∧
    runs 0x0015 (cmdOf 0 [(0, 1, 2), (1, 1, 127), (2, 1, 2)]) ∧ runs 0x0015 (cmdOf 0 [(1, 1, 127), (2, 1, 1)]) ∧ runs 0x0015 (cmdOf 0 [(1, 1, 126), (2, 1, 2)]) ∧
    runs 0x0018 (cmdOf 0 [(0, 1, 1), (1, 1, 7)]) ready (fun _ _ => (configTarget 1 7).isSome) ∧
    runs 0x0018 (cmdOf 0 [(0, 1, 6), (1, 1, 3), (2, 1, 1), (3, 1, 32)]) ready (fun _ _ => (configTarget 6 3).isSome) ∧
    runs 0x0019 (cmdOf 0 [(0, 1, 15)]) ∧ runs 0x0019 (cmdOf 0 [(0, 1, 16)]) := by decide +kernel

/-- ConfigurationCommands: a part staged, applied at once and applied later; option words that fail and that hold; TENANT_SET. -/
theorem test_witness_ConfigurationCommands :
    runs 0x0017 (cmdOf 0 [(0, 1, 2)]) ready (fun t _ => (configTarget 2 0).isSome && !(commitReg t (commitKey .gpio)).busy) ∧
    runs 0x0017 (cmdOf 0 [(0, 1, 2), (2, 1, 1)]) ready (fun t _ => !waits t .gpio && !(commitReg t (commitKey .gpio)).busy) ∧
    runs 0x0017 (cmdOf 0 [(0, 1, 3), (2, 1, 1)]) (ready.onPorts (fun _ => [(0, { running := true })])) (fun t _ => waits t (.turtis 0) && (configTarget 3 0).isSome) ∧
    (let c := cmdOf 0 [(0, 1, 2), (1, 1, 6), (8, 8, 115), (16, 8, 601 * 65536)]
     runs 0x0016 c ready (fun _ _ => optFail 2 115 == none && (optFail 3 (601 * 65536)).isSome)) ∧
    (let c := cmdOf 0 [(0, 1, 6), (1, 1, 6)]
     runs 0x0016 c ready (fun _ _ => (List.range 6).all (fun i => optFail (6 + i) (param c (8 + 8 * i) 8) == none) && !wornMark ready ⟨3, 0⟩ && !wornMark ready ⟨3, 1⟩ &&
       ready.flash.ops.isEmpty)) ∧
    runs 0x0103 (cmdOf 0 [(0, 1, 1), (8, 4, 0x400010)]) ready (fun t _ => !(commitReg t (commitKey (.tenant 1))).busy && !releasing t 1) ∧
    runs 0x0103 (cmdOf 0 [(0, 1, 1), (8, 4, 0x400010)]) (onCommit ready (commitKey (.tenant 1)) (fun r => { r with busy := true }))
      (fun t _ => (commitReg t (commitKey (.tenant 1))).busy) := by decide +kernel

/-- TenantCommands: each refusal of TENANT_CREATE and its success, and the others. -/
theorem test_witness_TenantCommands :
    (let c := fun l => cmdOf 0 ([(8, 4, 0x400010)] ++ l)
     let free := fun (t : State) (_ : Job) => !tenantBusy t
     runs 0x0101 (c [(0, 1, 1)]) ready free ∧ runs 0x0101 (c [(0, 1, 2), (2, 2, 4096)]) ready free ∧ runs 0x0101 (c [(0, 1, 2), (4, 2, 511)]) ready free ∧
     runs 0x0101 (c [(0, 1, 2), (6, 1, 65)]) ready free ∧ runs 0x0101 (cmdOf 0 [(0, 1, 2), (8, 4, 0x410010)]) ready (fun t j => free t j && tenantFail t 2 0x410010 == 3) ∧
     runs 0x0101 (c [(0, 1, 2), (2, 2, 3809)]) ready (fun t j => free t j && decide ((freeSlots t).length < 3809)) ∧
     runs 0x0101 (c [(0, 1, 2), (2, 2, 64), (6, 1, 61)]) ready (fun t j => free t j && decide (64 < capSum t + 61)) ∧
     runs 0x0101 (c [(0, 1, 2), (2, 2, 64), (4, 2, 510), (6, 1, 60)]) ready (fun t j => free t j && decide (64 ≤ (freeSlots t).length ∧ capSum t + 60 ≤ 64)) ∧
     runs 0x0102 (c [(0, 1, 2)]) ready free ∧ runs 0x0102 (c [(0, 1, 1), (4, 2, 2)]) ready free ∧ runs 0x0102 (cmdOf 0 [(0, 1, 1), (4, 2, 3)]) ready (fun t j => free t j && !settingTenant t 1)) ∧
    runs 0x0104 (cmdOf 1 [(0, 1, 0)]) ∧ runs 0x0104 (cmdOf 1 [(0, 1, 1)]) ∧ runs 0x0104 (cmdOf 0 [(0, 1, 255)]) ∧
    runs 0x0105 (cmdOf 0 [(0, 1, 1)]) ∧ runs 0x0105 (cmdOf 0 [(0, 1, 2)]) := by decide +kernel

/-- A debug token that is well formed for the device. -/
def token (s : State) : Bytes :=
  leBytes 4 0x47424451 ++ leBytes 4 1 ++ identity s ++ leBytes 4 (bootEpoch s).toNat ++ leBytes 4 15 ++ leBytes 8 8640000000000 ++ List.replicate 392 0
/-- ResetAndLifecycleCommands: confirmed and not; a token formed and not; each state of the root words; idle and not. -/
theorem test_witness_ResetAndLifecycleCommands :
    runs 0x0010 (cmdOf 0 [(0, 2, sure 0x10)]) ∧ runs 0x0010 (cmdOf 0 []) ∧ runs 0x0011 (cmdOf 0 [(0, 2, sure 0x11)]) ∧ runs 0x0011 (cmdOf 0 []) ∧
    runs 0x0012 (cmdOf 0 [(0, 8, 0x1000)]) ∧
    runs 0x0012 (cmdOf 0 [(0, 8, 0x1000), (8, 2, sure 0x12)]) ready (fun t _ => !tokenFormed t (hostRead t 0 0x1000 432)) ∧
    runs 0x0012 (cmdOf 0 [(0, 8, 0x1000), (8, 2, sure 0x12)]) (hostWrite ready 0 0x1000 (token ready)) (fun t _ => tokenFormed t (hostRead t 0 0x1000 432)) ∧
    (let c := cmdOf 0 [(0, 8, 0x1000), (8, 2, sure 0x13)]
     runs 0x0013 c (ready.onFlash (fun f => { f with otp := [(31, 1)] })) (fun t _ => lifecycle t == 2) ∧
     runs 0x0013 c (ready.onEntropy (fun e => { e with insts := SMap.set {} e.insts 256 (drbg 3) })) (fun t _ => lifecycle t == 1 && rootNow t == List.replicate 6 0 &&
       (match generate t (.i 0) 32 [] with | .got _ u => got (generate u (.i 7) 48 []) | _ => false)) ∧
     runs 0x0013 c (ready.onFlash (fun f => { f with otp := [(20, 5), (30, 1)] })) (fun t _ => lifecycle t == 1 && rootNow t != List.replicate 6 0)) ∧
    runs 0x0014 (cmdOf 0 [(0, 2, sure 0x14)]) ∧ runs 0x0014 (cmdOf 0 []) ∧
    runs 0x0908 (cmdOf 0 [(0, 2, sure 0x908)]) ready (fun t _ => !t.jobs.any (fun x => !x.isFor (cmdOf 0 [(0, 2, sure 0x908)]))) ∧
    runs 0x0908 (cmdOf 0 [(0, 2, sure 0x908)]) { ready with jobs := [{ op := 0x301, cmd := cmdOf 1 [], stage := .waiting }] }
      (fun t _ => t.jobs.any (fun x => !x.isFor (cmdOf 0 [(0, 2, sure 0x908)]))) := by decide +kernel

/-- A key template. -/
def tmpl (ty usage modes eng : Nat) (len : Nat := 0) : Nat := ty * 2 ^ 10 + len * 2 ^ 15 + usage * 2 ^ 25 + modes * 2 ^ 33 + eng * 2 ^ 41
def fills (c : Cmd) (t : State) (k : Nat) : Bool := newSlotNamed t c 0 (param c 0 2) == none && (match slotToFill t c (param c 0 2) with | .ok n => n == k | _ => false)
/-- KeysAreMade: each command, with the lowest free slot and with a named one, and the lengths at their ends. -/
theorem test_witness_KeysAreMade :
    (let c := cmdOf 0 [(0, 2, 0xFFFF), (8, 8, tmpl 7 3 0 1)]
     runs 0x0201 c ready (fun t j => fills c t 33 && !t.medulla.wrapFailed && templateOk (tmpl 7 3 0 1) && got (generate t (instOf c) 32 []) && !j.rerun)) ∧
    (let c := cmdOf 1 [(0, 2, 302), (8, 8, tmpl 6 3 0 1 576)]
     runs 0x0201 c ready (fun t _ => fills c t 302 && templateOk (tmpl 6 3 0 1 576) && got (generate t (instOf c) 72 []))) ∧
    (let c := cmdOf 0 [(0, 2, 287), (2, 2, 32), (8, 8, tmpl 0 3 1 1)]
     runs 0x0203 c ready (fun t _ => fills c t 287 && templateOk (tmpl 0 3 1 1) &&
       (slotRefusal t c 2 32 (fun a => attrUsage a 4 && (attrType a == 2 || attrType a == 6)) == none))) ∧
    (let ok := fun (c : Cmd) (t : State) (_ : Job) => fills c t 40 && !bufBad t c 0x1000 (param c 16 1) false &&
       (slotRefusal t c 2 32 (fun a => attrUsage a 6 && (attrType a == 2 || attrType a == 7)) == none)
     let c := cmdOf 0 [(0, 2, 40), (2, 2, 32), (8, 8, 0x1000), (16, 1, 32)]
     let d := cmdOf 0 [(0, 2, 40), (2, 2, 32), (8, 8, 0x1000), (16, 1, 88)]
     runs 0x0202 c ready (ok c) ∧ runs 0x0202 d ready (ok d)) ∧
    blobOk (tmpl 2 3 0 1) (bytesOf 32 1) = true ∧ blobOk (tmpl 2 3 0 1) (bytesOf 31 1) = false := by decide +kernel

def keyRec (slot : Nat) : KeyRec := { slot := slot, owner := 0, wrapped := bytesOf 88 4, committed := true }
/-- KeysAreReadSavedAndDeleted: each branch of KEY_INFO, KEY_EXPORT_WRAPPED, KEY_PERSIST and KEY_DELETE. -/
theorem test_witness_KeysAreReadSavedAndDeleted :
    (let c := cmdOf 0 [(0, 2, 0xFFFF), (2, 2, 255), (8, 8, 0x1000)]
     runs 0x0205 c ready (fun t _ => !bufBad t c 0x1000 2 true && (infoList t 0 255).length == 1)) ∧
    (let c := cmdOf 0 [(0, 2, 2)]
     runs 0x0205 c ready (fun t _ => slotNamed t c 0 2 [] != none)) ∧
    (let c := cmdOf 0 [(0, 2, 33)]
     runs 0x0205 c ready (fun t _ => slotNamed t c 0 33 [] == none && appletMay t c 33 == none)) ∧
    (let c := cmdOf 0 [(0, 2, 34), (2, 2, 32), (8, 8, 0x1000)]
     runs 0x0207 c ready (fun t _ => slotRefusal t c 0 34 (fun a => bitOf a 44) == none && slotRefusal t c 2 32 (fun a => attrUsage a 5 && attrType a == 2) == none)) ∧
    runs 0x0206 (cmdOf 0 [(0, 2, 35)]) ready (fun t _ => attrPersistent (attrOf t 35)) ∧
    runs 0x0206 (cmdOf 0 [(0, 2, 32)]) (setStatusBit ready 1 true) (fun t _ => !attrPersistent (attrOf t 32) && seedErased t) ∧
    runs 0x0206 (cmdOf 0 [(0, 2, 32)]) ready (fun t _ => !seedErased t && t.medulla.kek.isSome && t.medulla.compacting.isNone && (freeRecord t).isSome) ∧
    runs 0x0206 (cmdOf 0 [(0, 2, 32)]) (ready.onMedulla (fun m => { m with compacting := some 3 })) (fun t _ => !seedErased t && t.medulla.compacting.isSome) ∧
    (let c := cmdOf 0 [(0, 2, 33)]
     runs 0x0204 c ready (fun t _ => slotNamed t c 0 33 [] == none && !occupied t 0 33)) ∧
    (let c := cmdOf 0 [(0, 2, 32)]
     runs 0x0204 c ready (fun t _ => occupied t 0 32 && !beingDeleted t 32 && !slotInUse t 32 && (recordFor t 32 0).isNone) ∧
     runs 0x0204 c { ready with jobs := [{ op := 0x0301, cmd := cmdOf 1 [(0, 2, 32)], stage := .waiting }] } (fun t _ => occupied t 0 32 && slotInUse t 32) ∧
     runs 0x0204 c (ready.onMedulla (fun m => { m with records := [(5, keyRec 32)] })) (fun t _ => !slotInUse t 32 && (recordFor t 32 0).isSome)) := by decide +kernel

/-- KEY_PERSIST with no free record (1024 live ones, at the limit of R339). -/
theorem test_witness_KeyPersistFull :
    runs 0x0206 (cmdOf 0 [(0, 2, 32)]) (ready.onMedulla (fun m => { m with records := (List.range 1024).map (fun k => (k, keyRec 40)) }))
      (fun t _ => freeRecord t == none && !seedErased t && !attrPersistent (attrOf t 32)) := by decide +kernel

/-! ### Ciphers, public keys, rings, shares -/

/-- PARAMS of a frond command: slot, mode, flags, TAG_LEN, IV_LEN, LEN. -/
def piece (slot mode flags tagLen ivLen len : Nat) (fn : FnId := 0) (tag : BitVec 16 := 7) : Cmd :=
  cmdOf fn [(0, 2, slot), (2, 1, mode), (3, 1, flags), (5, 1, tagLen), (6, 1, ivLen), (8, 8, 0x100000), (16, 8, 0x200000), (24, 8, len), (48, 8, 0x400000)] 0 tag
/-- The device with one job at a stage. -/
def withJob (s : State) (op : Nat) (c : Cmd) (h : Job → Job) : State := { s with jobs := s.jobs ++ [h { op := op, cmd := c }] }
def gotDraw : Draw → Bool | .got _ _ => true | _ => false

/-- FrondCommandsQueueAndRun: each row passing its checks, one that fails them, an IV drawn. -/
theorem test_witness_FrondCommandsQueue :
    let ok := fun (op : Nat) (c : Cmd) => runs op c ready (fun t _ => (firstOf (frondChecks t op c)).isNone && (frondRow op c).isSome)
    ok 0x0301 (piece 32 3 16 0 16 33) ∧ ok 0x0302 (piece 32 5 16 16 12 0) ∧ ok 0x0303 (piece 32 5 16 16 64 40) ∧
    ok 0x0304 (cmdOf 0 [(0, 2, 32), (2, 1, 8), (3, 1, 16), (5, 1, 4), (8, 8, 0x100000), (24, 8, 40), (48, 8, 0x400000)]) ∧
    runs 0x0301 (piece 32 3 16 0 15 33) ready (fun t _ => (firstOf (frondChecks t 0x0301 (piece 32 3 16 0 15 33))).isSome) ∧
    runs 0x0301 (piece 32 3 18 0 16 33) ready (fun t j => (firstOf (frondChecks t 0x0301 (piece 32 3 18 0 16 33))).isNone &&
      (pieceOf (piece 32 3 18 0 16 33)).flag 1 && !j.rerun) := by decide +kernel

/-- FrondCommandsQueueAndRun: a job at work whose tag is checked, and a segmented one that waits. -/
theorem test_witness_FrondCommandsRun :
    (let s := withJob ready 0x0303 (piece 32 5 16 16 12 40) (fun j => { j with stage := .running (.frond 63), copies := [(63, bytesOf 32 4)] })
     (jobOn s (.frond 63)).any (fun j => j.keyed && mayRun s j && isFrondOp j.op && segments j == 0 && !(pieceOf j.cmd).flag 2) = true) ∧
    (let s := withJob ready 0x0303 (piece 32 5 16 16 12 20000) (fun j => { j with stage := .waiting })
     (hostJob s 0 0 7).any (fun j => j.stage == .waiting && j.tags == 0 && segments j != 0 && tagsInUse s + segments j ≤ 65536) = true) := by decide +kernel

/-- A sound context record: CCM, type 2, slot 32, version 1, 64 bytes done. -/
def recHead : Bytes := leBytes 4 0x51584354 ++ [1, 3, 2, 0] ++ leBytes 2 32 ++ leBytes 2 0 ++ leBytes 2 1 ++ leBytes 2 0 ++ leBytes 8 64
def zeros : Bytes := List.replicate 56 0
def record : Bytes := recHead ++ zeros ++ zeros ++ zeros ++ zeros ++ leBytes 8 16575649363630886342
/-- Host memory in which it lies at 0x1000. -/
def recordMem : State := ready.onLink (fun l => { l with hostMem := (record.zipIdx 0x1000).filterMap (fun e => if e.1 = 0 then none else some (hostKey 0 e.2, e.1)) })
theorem crc_head : recHead.foldl crc64Byte 0 = 11610703732200813453 := by decide +kernel
theorem crc_zeros1 : zeros.foldl crc64Byte 11610703732200813453 = 4324707762490437037 := by decide +kernel
theorem crc_zeros2 : zeros.foldl crc64Byte 4324707762490437037 = 8548622806646768631 := by decide +kernel
theorem crc_zeros3 : zeros.foldl crc64Byte 8548622806646768631 = 13577644036329451753 := by decide +kernel
theorem crc_zeros4 : zeros.foldl crc64Byte 13577644036329451753 = 16575649363630886342 := by decide +kernel
theorem record_sound : recordSound record = true := by
  have h : record.take 248 = recHead ++ zeros ++ zeros ++ zeros ++ zeros := by decide +kernel
  have hc : crc64 (record.take 248) = 16575649363630886342 := by
    simp only [h, crc64, List.foldl_append, crc_head, crc_zeros1, crc_zeros2, crc_zeros3, crc_zeros4]
  have hr : recField record 0 4 == 0x51584354 && recField record 4 1 == 1 && recField record 248 8 == 16575649363630886342 := by decide +kernel
  simpa [recordSound, hc] using hr
theorem record_read : bufRead recordMem (cmdOf 0 []) 0x1000 256 = record := by decide +kernel
/-- FrondCommandsQueueAndRun: a record to save and one to restore. -/
theorem test_witness_ContextRecords :
    let c := cmdOf 0 [(8, 8, 0x1000), (16, 8, 0x2000)]
    runs 0x0305 c recordMem (fun t _ => !bufBad t c 0x1000 256 false && !bufBad t c 0x2000 272 true && !t.medulla.wrapFailed &&
      bufRead t c 0x1000 256 == record && [1, 2, 3, 4].contains (recField record 5 1) &&
      (slotRefusal t c 8 (recField record 8 2) (fun _ => true)).isNone && recordFits t record) ∧ recordSound record = true ∧
    runs 0x0306 c recordMem (fun t _ => !bufBad t c 0x1000 272 false && !bufBad t c 0x2000 256 true && !t.medulla.wrapFailed) :=
  ⟨by decide +kernel, record_sound, by decide +kernel⟩

/-- FrondEventsAndTwins: a Vein load at each count of failures, twins at each count of passes, a frond that fails, a frond lent, a preemption point. -/
theorem test_witness_FrondEventsAndTwins :
    (let at_ := fun (slot k : Nat) => withJob ready 0x0301 (piece slot 3 16 0 16 64) (fun j => { j with stage := .running (.frond 1), veinFails := [(1, k)] })
     let found := fun (slot k : Nat) (p : State → Job → Bool) => (veinNext (at_ slot k)).any (fun e => e.1 == .frond 1 && p (at_ slot k) e.2)
     found 32 1 (fun s j => (loadRefused s j).isNone && segments j == 0 && decide (SMap.get 0 j.veinFails 1 < 2) &&
       (slotOf s (keySlot j)).key.length == typeBytes (attrType (attrOf s (keySlot j))) (attrLength (attrOf s (keySlot j))) &&
       decide ((slotOf s (keySlot j)).key.length ≤ 8 * payloadBeats (attrType (attrOf s (keySlot j))))) ∧
     found 32 2 (fun s j => (loadRefused s j).isNone && decide (2 ≤ SMap.get 0 j.veinFails 1)) ∧ found 33 0 (fun s j => (loadRefused s j).isSome) ∧
     ready.clocks.lost.getLsbD 11 = false ∧ ready.clocks.isolated.getLsbD 11 = false ∧ (0 : Byte) ≠ parityOf 1) ∧
    (let s := fun k => withJob ready 0x0301 (piece 32 3 16 0 16 64) (fun j => { j with stage := .running (.frond 0), twin := some 63, pairs := k })
     (jobOn (s 1) (.frond 0)).any (fun j => j.twin == some 63 && decide (j.pairs < 2)) ∧ (jobOn (s 2) (.frond 0)).any (fun j => j.twin == some 63 && decide (2 ≤ j.pairs))) ∧
    frondState ready 63 = .inService ∧
    (let s := withJob ready 0x0502 (cmdOf 0 [(32, 2, 32)]) (fun j => { j with stage := .running (.slice 3), reserved := true, need := 3 })
     (jobOn s (.slice 3)).any (fun j => wantsBorrow j && mayRun s j)) ∧
    (let s := withJob ready 0x0301 (piece 32 3 16 0 16 64) (fun j => { j with stage := .running (.frond 0), copies := [(0, bytesOf 32 4)] })
     let f := onUnit s (.frond 0) (fun u => { u with forced := true })
     running s = true ∧ s.power.quiesced = false ∧ (occupant s (.frond 0)).any (fun j => reaches s j (.frond 0) && sharedPoint j (.frond 0) == [.frond 0]) ∧
     (unitOf f (.frond 0)).forced = true ∧ slotFree f (.frond 0) = true ∧ (unitOf s (.frond 0)).forced = false ∧ holdsPreempted s (.frond 0) = false) ∧
    (let s := onPair (withJob ready 0x0301 (piece 32 3 16 0 16 64) (fun j => { j with stage := .running (.frond 0), copies := [(0, bytesOf 32 4)] })) 0 0 (fun p => { p with cls := 0 })
     (occupant s (.frond 0)).any (fun j => reaches s j (.frond 0) && classOf s j.cmd == 0)) := by decide +kernel

/-- PARAMS of a public-key command. -/
def pkCmd (slot alg scheme flags msgLen outLen : Nat) : Cmd :=
  cmdOf 0 [(0, 2, slot), (2, 1, alg), (3, 1, scheme), (4, 1, flags), (6, 2, 0xFFFF), (8, 8, 0x100000), (16, 4, msgLen), (20, 4, outLen), (24, 8, 0x200000),
    (32, 8, 0x300000), (40, 8, 0x400000), (48, 8, 0x500000)]
/-- PublicKeyCommands: a row that passes its checks and draws, one that draws nothing, one that fails; a job at work, a verification among them. -/
theorem test_witness_PublicKeyCommands :
    (let ok := fun (op : Nat) (c : Cmd) (d : Bool) => runs op c ready (fun t j => (firstOf (pkChecks t op c)).isNone && (pkRow op c).isSome &&
       (drawBytes op (pkOf c) != 0) == d && !j.rerun)
     ok 0x0403 (pkCmd 36 0x11 0x20 1 48 96) true ∧ ok 0x0404 (pkCmd 0xFFFF 0x10 0x10 0 16 0) false ∧ ok 0x0402 (pkCmd 0xFFFF 1 0x10 0 8 256) false ∧
     runs 0x0403 (pkCmd 32 0x11 0x20 1 48 96) ready (fun t _ => (firstOf (pkChecks t 0x0403 (pkCmd 32 0x11 0x20 1 48 96))).isSome)) ∧
    (let s := withJob (hostWrite (hostWrite ready 0 0x200000 (bytesOf 300 9)) 0 0x300000 (0xA5 :: bytesOf 63 8)) 0x0404 (pkCmd 0xFFFF 0x10 0x10 0 16 0)
       (fun j => { j with stage := .running (.calyptra 1) })
     (jobOn s (.calyptra 1)).any (fun j => j.keyed && j.lattice != .due && mayRun s j && isCalyptraOp j.op && isVerify j.op (pkOf j.cmd) && j.op != 0x0401) = true) := by decide +kernel

/-- A modulus set of three primes for N = 1024, a program, operands and the first chunk's header of a switching key. -/
def ringMem : State :=
  let pr := [(1099511678977, 928976858506), (1099511683073, 1026523052212), (1099511795713, 586142483230)]
  let s := hostWrite ready 0 0x1000 (leBytes 4 0x51534D53 ++ [10, 2, 1, 0] ++ List.replicate 8 0 ++ pr.flatMap (fun e => leBytes 8 e.1 ++ leBytes 8 e.2))
  let s := hostWrite s 0 0x2000 ([5, 2, 0, 1, 0, 0, 1, 0, 5, 2, 2, 2, 0, 0, 1, 0])
  let d := fun (a : Nat) (f : Byte) => leBytes 8 a ++ [0, 1, f] ++ List.replicate 5 0
  let s := hostWrite s 0 0x3000 (d 0x10000 5 ++ d 0x20000 5 ++ d 0x30000 6)
  hostWrite s 0 0x4000 (leBytes 8 5 ++ leBytes 8 7)
def kernelCmd : Cmd := cmdOf 0 [(0, 8, 0x1000), (8, 8, 0x2000), (16, 2, 2), (18, 1, 3), (19, 1, 2), (24, 8, 0x3000), (32, 8, 0x4000)]
def switchCmd (len : Nat) : Cmd := cmdOf 0 [(0, 8, 0x1000), (8, 8, 0x10000), (16, 8, 0x30000), (24, 8, 0x80000), (32, 2, 32), (34, 1, 2), (35, 1, 1), (36, 4, 9), (40, 8, len)]
/-- RingCommands: a kernel that passes, an unsound modulus set, an unsound program; a key switch of the right and of a wrong length; an unsound REFRESH
description; an encryption; a reservation; a slice at work. -/
theorem test_witness_RingCommands :
    (let fits := fun (n : Nat) => decide (granulesFor n ≤ 240)
     runs 0x0501 kernelCmd ringMem (fun t _ => (slicesGone t).isNone && (ringRefused t kernelCmd).isNone && (programRefused t kernelCmd).isNone &&
       fits (((opnds t kernelCmd).map (·.limbs)).sum * limbSize (modSet t kernelCmd))) ∧
     runs 0x0501 kernelCmd ready (fun t _ => (slicesGone t).isNone && (ringRefused t kernelCmd).isSome) ∧
     runs 0x0501 kernelCmd (hostWrite ringMem 0 0x2000 [12]) (fun t _ => (ringRefused t kernelCmd).isNone && (programRefused t kernelCmd).isSome)) ∧
    (let n := keyBytes (modSet ringMem kernelCmd) 2 1
     runs 0x0502 (switchCmd n) ringMem (fun t _ => (ringRefused t (switchCmd n)).isNone && (slotRefusal t (switchCmd n) 32 32 (streamSlot 1)).isNone &&
       decide (granulesFor ((4 * 2 + 3 * 1) * limbSize (modSet t (switchCmd n)) + 65536) ≤ 240)) ∧
     runs 0x0502 (switchCmd (n + 1)) ringMem (fun t _ => (ringRefused t (switchCmd (n + 1))).isNone && (slicesGone t).isNone)) ∧
    (let c := cmdOf 0 [(0, 8, 0x1000), (8, 8, 0x10000), (16, 8, 0x30000), (24, 8, 0x5000), (32, 2, 32)]
     runs 0x0503 c ringMem (fun t _ => (ringRefused t c).isNone && (refreshRefused t c).isSome)) ∧
    (let c := cmdOf 0 [(0, 8, 0x1000), (8, 8, 0x10000), (16, 8, 0x30000), (24, 8, 0x40000), (34, 1, 2)]
     runs 0x0504 c ringMem (fun t j => (ringRefused t c).isNone && !j.rerun &&
       decide (granulesFor (6 * 2 * limbSize (modSet t c) + 65536) ≤ 240))) ∧
    sorusOff ready = false ∧ ownLattice ready = false ∧ latticeDue ready = [] ∧
    (let s := withJob ringMem 0x0501 kernelCmd (fun j => { j with stage := .waiting })
     (hostJob s 0 0 7).any (fun j => j.stage == .waiting && isSliceOp j.op && !j.reserved && decide (granulesFor (workingSet s j) ≤ (freeGranules s).length)) = true) ∧
    (let s := withJob ringMem 0x0501 kernelCmd (fun j => { j with stage := .running (.slice 3), reserved := true })
     (jobOn s (.slice 3)).any (fun j => mayRun s j && isSliceOp j.op && sliceJobReady s j) = true) ∧
    (let n := keyBytes (modSet ringMem kernelCmd) 2 1
     let s := onUnit (withJob ringMem 0x0502 (switchCmd n) (fun j => { j with stage := .running (.slice 2), reserved := true, need := 6, borrowed := some 5, copies := [(5, bytesOf 32 4)] })) (.frond 5) (fun u => { u with st := .borrowed })
     (jobOn s (.slice 2)).any (fun j => mayRun s j && loanAtWork s j && decide (j.chunks < j.need) && (nextChunk s j).isSome) = true) := by decide +kernel

/-- A SHARE program: two inputs, their product, revealed to both. -/
def shareProg : Bytes :=
  let i := fun (op d a b : Byte) (imm : Nat) => [op, d, a, b] ++ leBytes 4 imm
  i 0x10 0 0 0 0 ++ i 0x10 1 0 0 1 ++ i 4 2 0 1 0 ++ i 0x20 0 2 0 1 ++ i 0x20 0 2 0 0 ++ i 0 0 0 0 0
def shareMem : State := hostWrite (hostWrite ready 0 0x1000 shareProg) 0 0x1400 ([3, 1, 0, 0, 0, 0, 0, 0] ++ List.replicate 8 0)
/-- An open session of functions 0 and 1. -/
def session (h : Share → Share) : State :=
  { shareMem with engines := { shareMem.engines with share := h { isOpen := true, session := 1, opened := 1, parties := [0, 1], vlen := 3, prog := progWords shareProg } } }
def openCmd (a len : Nat) : Cmd := cmdOf 0 [(0, 1, 2), (1, 1, 0), (2, 1, 1), (6, 2, 1024), (8, 8, a), (16, 2, len)]
/-- ShareCommands: an opening that passes and one whose program fails; the commands of an open session at each state of it; of a closed one; an instruction on
registers of the vector's length. -/
theorem test_witness_ShareCommands :
    (let ok := fun (t : State) (c : Cmd) => partiesRefused t c == none && !bufBad t c (param c 8 8) (param c 16 2) false && (openParties c).contains c.fn && (slicesGone t).isNone
     runs 0x0505 (openCmd 0x1000 48) shareMem (fun t _ => ok t (openCmd 0x1000 48) && (shareProgFail 2 (progWords (bufRead t (openCmd 0x1000 48) 0x1000 48)) 0 [] []).isNone &&
       gotDraw (generate t (.i 4) 32 [])) ∧
     runs 0x0505 (openCmd 0x1400 16) shareMem (fun t _ => ok t (openCmd 0x1400 16) && (shareProgFail 2 (progWords (bufRead t (openCmd 0x1400 16) 0x1400 16)) 0 [] []).isSome)) ∧
    (let c := cmdOf 0 [(0, 4, 1)]
     runs 0x0507 c (session id) (fun t _ => missingInputs t != 0) ∧ runs 0x0507 c (session (fun x => { x with filled := [0, 1] })) (fun t _ => missingInputs t == 0) ∧
     runs 0x0509 c (session id) (fun t _ => !shareRunning t) ∧
     runs 0x0509 c (withJob (session id) 0x0506 (cmdOf 0 [(0, 4, 1)] 0 8) (fun j => { j with stage := .running (.slice 0), begun := true })) (fun t _ => shareRunning t) ∧
     runs 0x0509 c (session (fun x => { x with isOpen := false, memFault := true }))) ∧
    (let c := cmdOf 0 [(0, 4, 1), (4, 1, 2), (6, 2, 32), (8, 8, 0x4000)]
     let ok := fun (t : State) => (outputParties t 2).contains (partyIndex t 0) && !bufBad t c 0x4000 (shareBuf t) true && (slotRefusal t c 6 32 (streamSlot 0)).isNone
     runs 0x0508 c (session id) (fun t _ => ok t) ∧
     runs 0x0508 c (session (fun x => { x with computed := true })) (fun t j => ok t && !j.rerun)) ∧
    (let x : Share := { vlen := 3, regs := [(0, [1, 2, 3]), (1, [4, 5, 0xFFFFFFFFFFFFFFFF])] }
     let w : U64 := BitVec.ofNat 64 (leNat [4, 2, 0, 1, 0, 0, 0, 0])
     insOp w = 4 ∧ (shareReg x (insA w)).length = 3 ∧ (shareReg x (insB w)).length = 3) := by decide +kernel

/-- ShareCommands: an input of the session's party. -/
theorem test_witness_ShareInput :
    let c := cmdOf 0 [(0, 4, 1), (4, 1, 0), (6, 2, 32), (8, 8, 0x4000), (16, 4, 52), (20, 32, leNat (bytesOf 32 1))]
    runs 0x0506 c (session (fun x => { x with digest := bytesOf 48 1 })) (fun t _ => inputParty t 0 == some (partyIndex t 0) && !bufBad t c 0x4000 (shareBuf t) false &&
      shareBuf t == 52 && paramBytes c 20 32 == (shareDigest t).take 32 && (slotRefusal t c 6 32 (streamSlot 1)).isNone && !t.engines.share.filled.contains 0 &&
      !t.jobs.any (fun k => k.op == 0x0506 && k.stage != .fetched && !k.isFor c)) := by decide +kernel

/-! ### Random numbers, counters, the log, the pool, update -/

def drawn : Draw → Bool | .got _ _ => true | _ => false
def rawNow (s : State := ready) : State := s.onEntropy (fun e => { e with rawMode := true })
def dryNow (s : State := ready) : State := s.onEntropy (fun e => { e with coreFailed := true })
/-- RandomCommandsAndSources: each command at the ends of its ranges and in each state of the entropy core. -/
theorem test_witness_RandomCommands :
    (let ok := fun (c : Cmd) (t : State) (j : Job) => !bufBad t c (param c 0 8) (param c 8 4) true && !j.rerun && drawn (generate t (instOf c) (param c 8 4) (if param c 12 1 = 1 then paramBytes c 16 32 else []))
     let c := cmdOf 0 [(0, 8, 0x1000), (8, 4, 1)]
     let d := cmdOf 1 [(0, 8, 0x1000), (8, 4, 16), (12, 1, 1), (16, 8, 77)]
     runs 0x0601 c ready (ok c) ∧ runs 0x0601 d ready (ok d)) ∧
    runs 0x0602 (cmdOf 0 [(0, 1, 1), (8, 8, 99)]) ready (fun t _ => !entropyFailed t && !t.entropy.rawMode && blockReady t) ∧
    runs 0x0602 (cmdOf 0 [(0, 1, 1)]) (ready.onEntropy (fun e => { e with sources := [] })) (fun t _ => !blockReady t) ∧
    runs 0x0602 (cmdOf 1 [(0, 1, 1)] 0 7 (.applet 0)) (onUnit0 pinna1) (fun t _ => isApplet (cmdOf 1 [(0, 1, 1)] 0 7 (.applet 0))) ∧
    runs 0x0602 (cmdOf 0 []) dryNow (fun t _ => entropyFailed t) ∧ runs 0x0602 (cmdOf 0 []) rawNow ∧ runs 0x0603 (cmdOf 1 []) ∧
    runs 0x0604 (cmdOf 0 [(0, 1, 0)]) ∧ runs 0x0604 (cmdOf 0 [(0, 1, 1)]) ready (fun t _ => rawAllowed t) ∧
    runs 0x0604 (cmdOf 0 [(0, 1, 1)]) (ready.onFlash (fun f => { f with otp := [(30, 1), (31, 1)] })) (fun t _ => !rawAllowed t) ∧
    runs 0x0604 (cmdOf 0 [(0, 1, 3), (8, 8, 0x1000)]) ready (fun t _ => lifecycle t == 1 && !bufBad t (cmdOf 0 [(0, 1, 3), (8, 8, 0x1000)]) 0x1000 64 false) ∧
    (let c := cmdOf 0 [(0, 1, 3), (8, 8, 0x1000), (16, 4, 65536)]
     runs 0x0605 c ready (fun t _ => !bufBad t c 0x1000 65536 true) ∧ runs 0x0605 c rawNow (fun t _ => !bufBad t c 0x1000 65536 true)) := by decide +kernel

def source3 (x : Source) : State := ready.onEntropy (fun e => { e with sources := SMap.set {} e.sources 3 x })
/-- RandomCommandsAndSources: a source in service, with two failures kept of three; one under start-up test; an instance due. -/
theorem test_witness_Sources :
    (sourceState ready 3).inService = true ∧ (sourceState ready 3).retired = false ∧ ready.entropy.rawMode = false ∧ islandWorks ready 12 = true ∧
    (let s := source3 { inService := true, failures := [899999000, 999999000, 999999999] }
     ((sourceState s 3).failures.filter (fun k => s.clocks.seta < k + 100000000)).length = 2) ∧
    ((sourceState (source3 {}) 3).inService = false ∧ (sourceState (source3 {}) 3).retired = false ∧ running (source3 {}) = true) ∧
    (let s := onDrbg ready (.f 1) (fun d => { d with requests := 65536 })
     (drbgOf s (.f 1)).live = true ∧ 65536 ≤ (drbgOf s (.f 1)).requests ∧ entropyFailed s = false ∧ blockReady s = true ∧ entropyFailed (dryNow s) = true ∧
     (drbgOf s (.f 1)).blocked = false ∧ ∀ u, Inst.f 1 ≠ .inv u) := by decide +kernel

/-- Counters 0, 1, 5 (at 100) and 7 (spent); 2, 5 and 7 belong to function 0. -/
def counting : State :=
  let put := fun (k : Counters) (n v : Nat) => (writeRecords k n v).getD k
  { ready with counters := { put (put (put (put {} 0 4) 1 2) 5 100) 7 0x03D2D2D3 with owner := [(2, 1), (5, 1), (7, 1), (9, 2)] } }
/-- The counter at 100 with all 64 cells of its block used. -/
def cellsUsed : State := counting.onCounters (fun k => match baseOf k 5 with
  | some b => { k with blocks := SMap.mod {} k.blocks (currentBlock k 5 b) (fun x => { x with used := 64 }) } | none => k)
/-- The same with no erased block left. -/
def noBlocks : State := cellsUsed.onCounters (fun k => { k with blocks := (List.range 868).map (fun i => (i, if blockErased k i then { damaged := true } else SMap.get {} k.blocks i)) })
/-- CounterCommands: reads at the ends of the ranges: held, not held, free for all, a Spore counter. -/
theorem test_witness_CounterReads :
    runs 0x0702 (cmdOf 0 [(0, 2, 511)]) counting (fun t _ => !holdsCounter t 0 511) ∧ runs 0x0702 (cmdOf 0 [(0, 2, 2)]) counting (fun t _ => holdsCounter t 0 2) ∧
    runs 0x0702 (cmdOf 0 [(0, 2, 1)]) counting ∧ runs 0x0702 (cmdOf 1 [(0, 2, 15), (2, 1, 1)]) counting ∧ runs 0x0702 (cmdOf 0 [(0, 2, 15), (2, 1, 1)]) counting ∧
    runs 0x0704 (cmdOf 1 [(0, 1, 3)]) counting ∧ runs 0x0704 (cmdOf 1 [(0, 1, 3), (1, 1, 1)]) counting ∧ runs 0x0704 (cmdOf 0 [(1, 1, 1)]) counting := by decide +kernel
/-- CounterCommands: increments of a counter reserved, not held, spent, with a cell left, with none left, and with no block left. -/
theorem test_witness_CounterIncrements :
    runs 0x0703 (cmdOf 0 [(0, 2, 1)]) counting ∧ runs 0x0703 (cmdOf 0 [(0, 2, 511)]) counting (fun t _ => !holdsCounter t 0 511) ∧
    runs 0x0703 (cmdOf 0 [(0, 2, 7)]) counting (fun t _ => holdsCounter t 0 7 && counterSpent t.counters 7) ∧
    (let c := cmdOf 0 [(0, 2, 5)]
     let held := fun (t : State) => holdsCounter t 0 5 && !counterSpent t.counters 5 && !t.jobs.any (fun x => x.op == 0x0703 && x.stage == .flash && x.aux == 6)
     runs 0x0703 c counting (fun t _ => held t && !rollsForward t.counters 5) ∧
     runs 0x0703 c cellsUsed (fun t _ => held t && rollsForward t.counters 5 && (incrementCounter t.counters 5).isSome)) := by decide +kernel
theorem test_witness_CounterNoBlock :
    runs 0x0703 (cmdOf 0 [(0, 2, 5)]) noBlocks (fun t _ => holdsCounter t 0 5 && !counterSpent t.counters 5 && rollsForward t.counters 5 && (incrementCounter t.counters 5).isNone) := by
  decide +kernel
/-- CounterCommands: allocations: outside the range, taken, and one that brings an old base back. -/
theorem test_witness_CounterAllocations :
    runs 0x0701 (cmdOf 0 [(0, 2, 1)]) counting ∧ runs 0x0701 (cmdOf 0 [(0, 2, 512)]) counting ∧ runs 0x0701 (cmdOf 0 [(0, 2, 2)]) counting (fun t _ => !counterFree t 2) ∧
    runs 0x0701 (cmdOf 0 [(0, 2, 5)]) (counting.onCounters (fun k => { k with owner := [(2, 1)] })) (fun t _ => counterFree t 5 && (baseOf t.counters 5).isSome) := by decide +kernel

/-! ### The log, the pool and power, update and flash -/

/-- A device whose log holds entries 0 to 4, and one whose free slots are used up. -/
def logged : State := { ready with log := { ready.log with seq := 5, next := 5 } }
def logFull : State := { ready with log := { ready.log with next := 1984, seq := 5 } }
/-- LogAndTimeCommands: each command, with room and without, with entries and without, at the ends of its ranges. -/
theorem test_witness_LogAndTimeCommands :
    runs 0x0801 (cmdOf 1 []) ∧ runs 0x0802 (cmdOf 0 [(0, 8, 77)]) ready (fun t _ => (noteRefused t).isNone) ∧
    runs 0x0802 (cmdOf 0 []) logFull (fun t _ => (noteRefused t).isSome && logFree t == 0 && !t.log.noChain) ∧
    runs 0x0807 (cmdOf 1 []) ready (fun t _ => (noteRefused t).isNone) ∧ runs 0x0807 (cmdOf 1 []) logFull (fun t _ => (noteRefused t).isSome) ∧
    runs 0x0803 (cmdOf 0 []) ∧
    (let c := cmdOf 0 [(0, 4, 1), (4, 2, 4), (8, 8, 0x1000)]
     runs 0x0804 c logged (fun t _ => !bufBad t c 0x1000 192 true && t.log.seq != 0 && !programOn t 2 && decide (1 + 4 - 1 ≤ newestSeq t)) ∧
     runs 0x0804 c (logged.onFlash (fun f => { f with ops := [{ unit := ⟨2, 130⟩, erase := false, use := .command c }] })) (fun t _ => programOn t 2) ∧ runs 0x0804 c ready (fun t _ => t.log.seq == 0)) ∧
    (let c := cmdOf 0 [(0, 4, 2), (4, 2, 4), (8, 8, 0x1000)]
     runs 0x0804 c logged (fun t _ => !bufBad t c 0x1000 192 true && decide (newestSeq t < 2 + 4 - 1))) ∧
    (let c := fun n => cmdOf 0 [(0, 4, 0), (4, 4, 4), (8, 8, 0x1000), (16, 4, n)]
     let ok := fun (n : Nat) (t : State) => !bufBad t (c n) 0x1000 n true && t.log.seq != 0 && decide (4 ≤ newestSeq t)
     runs 0x0805 (c 1015) logged (fun t _ => ok 1015 t) ∧
     runs 0x0805 (c 1016) logged (fun t _ => ok 1016 t && attrValid (attrOf t 0) && (unitOf t (.calyptra 0)).st == .inService && !programOn t 2 && gotDraw (generate (suspendErase t 2 false) (.i 7) 48 []))) ∧
    runs 0x0806 (cmdOf 0 [(0, 1, 0)]) ∧ runs 0x0806 (cmdOf 0 [(0, 1, 5)]) ∧
    runs 0x0806 (cmdOf 0 [(0, 1, 4)]) ready (fun t _ => decide (12 * (t.flash.extensions + 4) + poolTaken t ≤ 48) && t.flash.ops.all (fun o => o.unit.kind != 3)) ∧
    runs 0x0806 (cmdOf 0 [(0, 1, 4)]) (ready.onFlash (fun f => { f with replaced := [(5, 78)] }))
      (fun t _ => decide (48 < 12 * (t.flash.extensions + 4) + poolTaken t)) := by decide +kernel

def setUnit (u : UnitRef) (st : PoolState) (s : State := ready) : State := onUnit s u (fun x => { x with st := st })
/-- Only fronds 0 to 3 left in service. -/
def fourLeft : State := { ready with engines := { ready.engines with units := (List.range 64).map (fun k => (k, { st := if k < 4 then .inService else .out })) } }
/-- PoolAndPowerCommands: every command at each branch and at the ends of its ranges. -/
theorem test_witness_PoolCommands :
    runs 0x0901 (cmdOf 0 [(0, 1, 1)]) ∧ runs 0x0901 (cmdOf 0 [(0, 1, 3)]) ∧
    (let c := cmdOf 0 [(0, 1, 0), (1, 1, 63)]
     runs 0x0902 c (setUnit (.frond 63) .out) (fun t _ => (unitNamed 0 63).isNone && (unitsOfKind 0 63).any (fun u => (unitOf t u).st == .out)) ∧
     runs 0x0902 c ready (fun t _ => frondsLeft t (unitsOfKind 0 63) != 0 && (unitsOfKind 0 63).all (fun u => !(unitOf t u).forced && !inSlot t u)) ∧
     runs 0x0902 c (onUnit ready (.frond 63) (fun x => { x with forced := true })) (fun t _ => frondsLeft t (unitsOfKind 0 63) != 0 && (unitOf t (.frond 63)).forced) ∧
     runs 0x0903 c (setUnit (.frond 63) .out) (fun t _ => !(unitsOfKind 0 63).any (fun u => (unitOf t u).st != .out)) ∧
     runs 0x0903 c ready (fun t _ => (unitsOfKind 0 63).any (fun u => (unitOf t u).st != .out))) ∧
    (let c := cmdOf 0 [(0, 1, 1), (1, 1, 0)]
     runs 0x0902 c fourLeft (fun t _ => (unitNamed 1 0).isNone && frondsLeft t (unitsOfKind 1 0) == 0 &&
       !(unitsOfKind 1 0).any (fun u => (unitOf t u).st == .out || (unitOf t u).st == .shed))) ∧
    (let c := cmdOf 0 [(0, 1, 0), (1, 1, 63)]
     runs 0x0D02 c ready (fun t _ => !(unitsOfKind 0 63).isEmpty && !(selfTested t 0 63).isEmpty) ∧
     runs 0x0D02 c (setUnit (.frond 63) .out) (fun t _ => (selfTested t 0 63).isEmpty)) ∧
    runs 0x0D03 (cmdOf 0 [(0, 1, 1)]) ready (fun t _ => lifecycle t == 1) ∧
    runs 0x0D03 (cmdOf 0 [(0, 1, 1)]) (ready.onFlash (fun f => { f with otp := [(30, 1), (31, 1)] })) (fun t _ => lifecycle t != 1) := by decide +kernel
theorem test_witness_PowerCommands :
    runs 0x0904 (cmdOf 0 [(0, 2, 29), (2, 2, 1)]) ∧ runs 0x0904 (cmdOf 0 [(0, 2, 116), (2, 2, 1)]) ∧ runs 0x0904 (cmdOf 0 [(0, 2, 30), (2, 2, 0)]) ∧
    runs 0x0904 (cmdOf 0 [(0, 2, 115), (2, 2, 1001)]) ∧
    runs 0x0904 (cmdOf 0 [(0, 2, 115), (2, 2, 1000), (4, 1, 1)]) ready (fun t _ => !(commitReg t (commitKey .power)).busy) ∧
    runs 0x0907 (cmdOf 0 [(0, 4, 0x04040404)]) ready (fun t _ => !(commitReg t (commitKey .sched)).busy) ∧
    runs 0x0905 (cmdOf 0 []) ∧ runs 0x0906 (cmdOf 0 [(0, 8, 0x1000000)]) ready (fun t _ => (offFail t 0x1000000).isSome) ∧
    runs 0x0906 (cmdOf 0 [(0, 8, 0x30000)]) ready (fun t _ => (offFail t 0x30000).isNone && t.power.offNext.isNone) ∧ runs 0x0D01 (cmdOf 0 []) := by decide +kernel

/-- A manifest of a security version and a size, with MONOTONIC counter 1 at 5. -/
def manifest (svn size : Nat) : Bytes :=
  leBytes 4 0x514B4D46 ++ [1, 0, 0, 0] ++ leBytes 4 svn ++ leBytes 3 0x010203 ++ [0] ++ leBytes 4 size ++ [0, 30] ++ List.replicate 42 0 ++ bytesOf 48 3 ++ List.replicate 400 0
def floorAt (v : Nat) (s : State := ready) : State := s.onCounters (fun k => (writeRecords k 1 v).getD k)
/-- Host memory in which it lies at 0x8000, as a list of its bytes. -/
def offering (svn : Nat) : State := (floorAt 5).onLink (fun l => { l with
  hostMem := ((manifest svn 1000).zipIdx 0x8000).filterMap (fun e => if e.1 = 0 then none else some (hostKey 0 e.2, e.1)) })
def updateCmd : Cmd := cmdOf 0 [(0, 8, 0x8000), (8, 1, 1), (10, 2, 0xFFFF - 0x0A01)]
/-- The floor: counter 1 spent, and at 5. -/
theorem test_witness_Floor : floorSpent (floorAt 0x03D2D2D3) = true ∧ floorSpent (floorAt 5) = false ∧ floorValue (floorAt 5) = 5 := by decide +kernel
/-- UpdateAndFlashCommands: UPDATE_START at each check, and admitted; the counters, and with them the floor, are those of `test_witness_Floor`, and
the manifests differ in SVN alone. -/
theorem test_witness_UpdateStart :
    let man := fun (t : State) => manifestOf (hostRead t 0 0x8000 512)
    runs 0x0A01 updateCmd { offering 5 with update := { state := 2 } } ∧ runs 0x0A01 updateCmd (floorAt 0x03D2D2D3) (fun t _ => t.update.state == 0) ∧
    runs 0x0A01 updateCmd (floorAt 5) (fun t _ => t.update.state == 0 && !(man t).ok) ∧
    runs 0x0A01 updateCmd ((offering 5).onFlash (fun f => { f with crozierTorn := true })) ∧ runs 0x0A01 updateCmd (offering 4) (fun t _ => (man t).svn == 4) ∧
    runs 0x0A01 updateCmd (offering 5) (fun t _ => (man t).ok && (man t).svn == 5 && !t.flash.crozierTorn) ∧ bankWorn ready = false := by decide +kernel

def roster (a b : Byte) : Bytes := [a, 1, 2, 0, 0, 0, 0, 0] ++ bytesOf 16 2 ++ [b, 1, 2, 1, 0, 0, 0, 0] ++ bytesOf 16 3
def rosterCmd (n : Nat) : Cmd := cmdOf 0 [(0, 8, 0x9000), (8, 1, n), (12, 4, 9), (16, 2, 0xFFFF - 0x0A04)]
def withUpdate : State := { fetched ready 0x0A01 updateCmd with update := { state := 1 }, boot := { ready.boot with state := .updating } }
/-- UpdateAndFlashCommands: the other commands at the ends of their ranges, and a handover. -/
theorem test_witness_UpdateAndFlashCommands :
    runs 0x0A02 (cmdOf 0 []) ∧ runs 0x0A03 (cmdOf 0 [(0, 1, 1)]) ∧ runs 0x0A03 (cmdOf 0 [(1, 1, 1)]) ∧ runs 0x0A03 (cmdOf 0 [(1, 1, 2)]) ∧
    runs 0x0A04 (rosterCmd 2) (hostWrite ready 0 0x9000 (roster 1 63)) (fun t _ => let bs := hostRead t 0 0x9000 48
      !rosterBad bs && decide (((rosterOf bs).map (·.address)).Nodup) && t.update.state == 0) ∧
    runs 0x0A04 (rosterCmd 2) { hostWrite ready 0 0x9000 (roster 1 63) with update := { state := 1 } } ∧
    runs 0x0A04 (rosterCmd 2) (hostWrite ready 0 0x9000 (roster 1 64)) (fun t _ => rosterBad (hostRead t 0 0x9000 48)) ∧
    runs 0x0A05 (cmdOf 0 [(0, 1, 4)]) ∧ runs 0x0A05 (cmdOf 0 [(0, 1, 0), (2, 2, 32)]) ready (fun _ _ => unitsOf 0 == 32) ∧ runs 0x0A05 (cmdOf 0 [(0, 1, 3), (2, 2, 1)]) ready (fun _ _ => decide (1 < unitsOf 3)) ∧
    runs 0x0A06 (cmdOf 0 [(0, 1, 31), (1, 1, 1), (2, 2, 0xFFFF - 0x0A06)]) ∧
    (let s := withUpdate
     s.update.state = 1 ∧ s.boot.state = .updating ∧ s.update.erased = [] ∧ openErase s = false ∧
     s.jobs.all (fun j => j.op == 0x0A01 || (j.cmd.fn == 0 && [0x00, 0x08, 0x0A, 0x0D].contains (range j.op))) = true ∧
     s.jobs.find? (fun j => j.op == 0x0A01 && j.stage == .waiting) = none) ∧
    runs 0x0A01 { updateCmd with params := pars [(8, 1, 2), (10, 2, 0xFFFF - 0x0A01)] } ready (fun t _ => silent t) ∧
    (xciRow (.updateStart updateCmd)).isSome ∧ withUpdate.update.chunks = 0 := by decide +kernel

/-! ### The reader, applets, invocations, registers -/

def drawn' : Draw → Bool | .got _ _ => true | _ => false
def onReader (r : Reader) : State := { ready with reader := r }
/-- One reader job at its stage. -/
def readerAt (op : Nat) (l : List (Nat × Nat × Nat)) (r : Reader) : State :=
  { onReader r with jobs := [{ op := op, cmd := cmdOf 0 l, stage := .reader }] }
/-- ReaderCommandsAndCards: the commands in each state of the reader; VISIT_READ at the ends of its range; the events at each count of retries. -/
theorem test_witness_ReaderCommandsAndCards :
    (let c := cmdOf 0 [(0, 1, 3), (1, 1, 3), (2, 1, 1), (4, 2, 1000), (8, 8, 0x1000)]
     let ok := fun (t : State) => pollTypes t c != 0 && !bufBad t c 0x1000 64 true
     readerJob ready = none ∧ runs 0x0B01 c ready (fun t _ => ok t && (readerGone t).isNone && !t.reader.fieldOn && !t.tag.field && !t.tag.opened) ∧
     runs 0x0B01 c (onReader { fieldOn := true }) (fun t _ => ok t && (readerGone t).isNone) ∧
     runs 0x0B01 c (ready.onTag (fun x => { x with field := true })) (fun t _ => ok t && (readerGone t).isNone && t.tag.field) ∧
     runs 0x0B01 c (onReader { fault := 1 }) (fun t _ => ok t && (readerGone t).isSome)) ∧
    (let c := cmdOf 0 [(8, 8, 0x1000), (16, 2, 261), (24, 8, 0x2000), (32, 2, 258)]
     let ok := fun (t : State) => !bufBad t c 0x1000 261 false && !bufBad t c 0x2000 258 true && (readerGone t).isNone
     runs 0x0B02 c ready (fun t _ => ok t && !t.reader.layer4) ∧ runs 0x0B02 c (onReader { fieldOn := true, card := true, layer4 := true }) (fun t _ => ok t)) ∧
    runs 0x0B03 (cmdOf 0 []) ready (fun t _ => (readerGone t).isNone) ∧
    runs 0x0B04 (cmdOf 0 [(0, 1, 1)]) (onReader { fieldOn := true, card := true, layer4 := true })
      (fun t _ => (readerGone t).isNone && (calyptraGone t).isNone && gotDraw (generate t (.i 6) 32 [])) ∧ readerWorks (onReader { fieldOn := true }) = true ∧
    runs 0x0B05 (cmdOf 0 [(0, 1, 8)]) ∧ runs 0x0B05 (cmdOf 0 [(0, 1, 7)]) ∧
    (let c := cmdOf 0 [(0, 1, 7), (8, 8, 0x1000)]
     runs 0x0B05 c ready (fun t _ => !bufBad t c 0x1000 72 true)) ∧
    (readerJob (readerAt 0x0B01 [] {})).any (fun j => j.op == 0x0B01) ∧
    (readerJob (readerAt 0x0B02 [(32, 2, 2)] { retries := 2 })).any (fun j => j.op == 0x0B02 && param j.cmd 32 2 == 2) ∧
    (readerJob (readerAt 0x0B04 [] { retries := 3 })).any (fun j => j.op != 0x0B01) := by decide +kernel

/-- An applet image of 8 bytes of code, 8 of data, a stack and a name. -/
def image (ver stack : Nat) (name : Byte := 65) : Bytes :=
  leBytes 4 0x51415050 ++ [1, 0, 0, 0] ++ leBytes 4 ver ++ leBytes 4 8 ++ leBytes 4 8 ++ leBytes 4 0 ++ leBytes 4 stack ++ leBytes 4 0 ++
    List.replicate 16 name ++ List.replicate 16 0 ++ bytesOf 16 1 ++ (0xA5 :: bytesOf 95 1)
/-- Applets 2 of function 0 and 5 of function 1; images at 0x8000 and 0x8400; slot 36 verifies. -/
def applets : State :=
  let s := hostWrite (hostWrite ready 0 0x8000 (image 4 256)) 0 0x8400 (image 4 255)
  { s with pinnas := { s.pinnas with applets := [(2, appletOf (image 3 256) 0 2), (5, appletOf (image 3 256) 1 2)] }
           medulla := { s.medulla with slots := SMap.set {} s.medulla.slots 36 { attr := attrWord 9 0xFF 0 2, key := bytesOf 48 4 } } }
def installCmd (a len : Nat) : Cmd := cmdOf 0 [(0, 8, a), (8, 4, len), (12, 2, 36)]
def invokeCmd (fn : FnId) (a quanta : Nat) (tag : BitVec 16 := 7) : Cmd :=
  cmdOf fn [(0, 1, a), (2, 2, quanta), (4, 4, 9), (8, 8, 0x1000), (16, 4, 8), (24, 8, 0x2000), (32, 4, 16), (36, 4, 7)] 0 tag
/-- AppletCommands: installing a sound image, an unsound one, one too long; the others with the applet there and not. -/
theorem test_witness_AppletInstall :
    (let c := installCmd 0x8000 176
     let b := fun (t : State) => hostRead t 0 0x8000 176
     runs 0x0C01 c applets (fun t _ => !bufBad t c 0x8000 176 false && (imgFault (b t)).isNone &&
       (slotRefusal t c 12 36 (fun a => attrType a == 9 && attrUsage a 3 && attrEngine a 1)).isNone && (installRefused t 0 (b t)).isNone &&
       !storeFull t (pagesOf 176) && (calyptraGone t).isNone && !t.jobs.any (fun x => x.op == 0x0C01 && x.stage != .fetched && !x.isFor c))) ∧
    runs 0x0C01 (installCmd 0x8400 176) applets (fun t _ => (imgFault (hostRead t 0 0x8400 176)).isSome) ∧
    runs 0x0C01 (installCmd 0x8000 131073) applets (fun t _ => !bufBad t (installCmd 0x8000 131073) 0x8000 131073 false) := by decide +kernel
theorem test_witness_AppletCommands :
    runs 0x0C02 (cmdOf 0 [(0, 1, 5)]) applets (fun t _ => !appletHere t 0 5) ∧ runs 0x0C02 (cmdOf 0 [(0, 1, 2)]) applets (fun t _ => appletHere t 0 2) ∧
    (let ok := fun (c : Cmd) (t : State) => !bufBad t c 0x1000 8 false && !bufBad t c 0x2000 16 true
     runs 0x0C03 (invokeCmd 0 5 1) applets (fun t _ => ok (invokeCmd 0 5 1) t && !appletHere t 0 5) ∧
     runs 0x0C03 (invokeCmd 1 5 60000) applets (fun t j => ok (invokeCmd 1 5 60000) t && appletHere t 1 5 && (coresGone t).isNone && !j.rerun)) ∧
    (let c := fun fn => cmdOf fn [(0, 1, 0), (8, 8, 0x1000)]
     runs 0x0C04 (c 0) applets (fun t _ => !bufBad t (c 0) 0x1000 2048 true) ∧ runs 0x0C04 (c 1) applets (fun t _ => !bufBad t (c 1) 0x1000 2048 true)) ∧
    (let c := cmdOf 0 [(0, 1, 1), (2, 2, 0xFFFF - 0x0C05)]
     runs 0x0C05 c ready (fun t _ => !t.jobs.any (·.op == 0x0C03)) ∧
     runs 0x0C05 c { ready with jobs := [{ op := 0x0C03, cmd := invokeCmd 1 5 1, stage := .waiting }] } (fun t _ => t.jobs.any (·.op == 0x0C03))) := by decide +kernel

/-- An invocation of function 1 on unit 0 or elsewhere. -/
def invAt (since : Nat) (cls : Nat := 3) : Inv := { fn := 1, q := 0, tag := 3, applet := 5, cls := cls, inAddr := 0, inLen := 0, outAddr := 0, outLen := 0, quanta := 10, codeLen := 8, dataLen := 8, stackLen := 256, since := since }
def onUnits (l : List (Nat × Pinna)) (s : State := applets) : State := s.onPinnas (fun p => { p with units := l })
/-- InvocationsComeAndGo: an invocation dispatched; a quantum boundary with no one waiting and with all units taken; one resumed; a budget spent; a compare
match; a task's wake-up. -/
theorem test_witness_InvocationsComeAndGo :
    (let s := { applets with jobs := [{ op := 0x0C03, cmd := invokeCmd 1 5 60000, stage := .waiting, drawNeed := 32 }] }
     (firstJob s 3 (waitingInvokes s)).any (fun j => j.cmd.issuer == .host && (startDraw (countClass s 3 (waitingInvokes s) j 1) j).2 && ((List.finRange 8).find? (fun u => unitFree s u && !resumesFirst s u (classOf s j.cmd) j.cmd.fn)).isSome &&
       (SMap.get {} s.pinnas.applets (param j.cmd 0 1)).installed && (SMap.get {} s.pinnas.applets (param j.cmd 0 1)).owner == j.cmd.fn)) ∧
    waitingClass ((atInstant ready (nextBoundary ready.clocks.quantumAt 100000)).onClocks (fun c => { c with
      quantumAt := nextBoundary ready.clocks.quantumAt 100000 })) = none ∧
    (let p : Pinna := { inv := some (invAt 5), drbg := drbg 9 }
     let s := applets.onPinnas (fun x => { x with saved := [(3, p)] })
     savedFor s 3 = some p ∧ unitFree s 3 = true) ∧
    (let s := onUnits [(0, { inv := some (invAt 999000000) })]
     (pinnaOf s 0).blocked = false ∧ s.clocks.seta = 999000000 + (10 * 100000 - 0)) ∧
    (let s := onUnits [(0, { inv := some (invAt 999000000), en := true, cmpLo := 1000000000, asleep := false })]
     s.clocks.seta = (pinnaOf s 0).cmpLo.toNat + (pinnaOf s 0).cmpHi.toNat * 2 ^ 32) ∧
    (let s := (onUnits [(7, { inv := some (invAt 5), asleep := true })]).onPinnas (fun p => { p with split := true })
     s.pinnas.split = true ∧ (taskOf s 55).running = false ∧ (pinnaOf s 7).asleep = true) := by decide +kernel
/-- All four units taken by invocations of class 3, and one of class 0 waiting. -/
def crowded : State :=
  { onUnits ((List.range 4).map (fun u => (u, { inv := some { invAt 999990000 with tag := BitVec.ofNat 16 (100 + u) } }))) with
    jobs := [{ op := 0x0C03, cmd := invokeCmd 1 5 60000, stage := .waiting, draws := bytesOf 32 1 }] }
theorem test_witness_QuantumBoundary :
    let t := nextBoundary crowded.clocks.quantumAt 100000
    let m := (atInstant crowded t).onClocks (fun c => { c with quantumAt := t })
    (waitingClass m).any (fun cls => !(List.finRange 8).any (unitFree m) && maySuspend m && (lowestInOrder m ((runningUnits m).filter (suspendable m cls))).isSome) := by
  decide +kernel

/-- A staged value. -/
def stagedAt (k v : Nat) : State := setStage ready k v
/-- RegistersAndCommitGroups: a group busy and not, with a sound and an unsound stage, one that waits; a region that answers; a random word there and not. -/
theorem test_witness_RegistersAndCommitGroups :
    Serves ready 1 ∧ (groupIndex .glBar 0x30).isSome ∧ (commitReg ready (commitKey .power)).busy = false ∧
    (commitReg (onCommit ready (commitKey .power) (fun r => { r with busy := true })) (commitKey .power)).busy = true ∧
    (commitReg (onCommit ready (commitKey .power) (fun r => { r with clearedAt := some 1000000000 })) (commitKey .power)).clearedAt = some ready.clocks.seta ∧
    (waits ready .gpio = false ∧ groupFail (stagedAt (glKey 0x200) 0) .gpio = 0 ∧ groupFail (stagedAt (glKey 0x200) 0x21) .gpio ≠ 0) ∧
    waits (ready.onPorts (fun _ => [(0, { running := true })])) (.turtis 0) = true ∧ running ready = true ∧ (0x157C : Nat) = 0x1400 + 4 * 95 ∧
    (let s := onDrbg (onUnits [(0, { inv := some (invAt 5), rng := [1, 2, 3, 4], itcm := Memory.write 0 [] 0 [0x00, 0x20, 0x0E, 0x04] }), (1, { inv := some (invAt 5) })]) (.inv 0) (fun _ => drbg 3)
     (issues s 0).isSome ∧ (pinnaOf s 0).rng = 1 :: [2, 3, 4] ∧ (pinnaOf s 1).rng = [] ∧ (issues s 1).isSome ∧ drawn' (generate s (.inv 0) 16 []) = true ∧ (pinnaOf s 0).rng.length ≤ 4) := by
  decide +kernel

/-! ### Resets, boot, recovery, the feed, islands -/

def inBoot (b : BootState) (s : State := ready) : State := s.onBoot (fun x => { x with state := b })
def inPower (p : PowerState) (s : State := ready) : State := s.onPower (fun x => { x with state := p })
/-- Off, with the Sentinel powered or not; in step 1 of the power-up. -/
def offNow : State := inBoot .resetting (ready.onPower (fun p => { p with state := .off, domains := 0, sentinel := true }))
def dead : State := offNow.onPower (fun p => { p with sentinel := false })
def debouncing : State := (offNow.onPower (fun p => { p with state := .active })).onBoot (fun b => { b with powerUp := 1 })
/-- ResetsAndTheLink: a device in last gasp with a reset held, a running device, one in debug, in HIBERNATE, off, without its Sentinel, in step 1 of the power-up, with the link down. -/
theorem test_witness_ResetsAndTheLink :
    (let s := ready.onPower (fun p => { p with quiesced := true, feedWarn := true, heldReset := 3 })
     coreUp s = true ∧ s.power.quiesced = true ∧ s.power.feedWarn = true ∧ s.power.heldReset ≠ 0 ∧ s.link.perst = false ∧ s.link.up = true) ∧
    SMap.wf {} ready.fns = true ∧ coreUp ready = true ∧ ready.power.quiesced = false ∧ ready.link.perst = false ∧ ready.link.up = true ∧ running ready = true ∧ ready.update.crozier = false ∧
    domainOn ready 24 = true ∧ (coreUp (ready.onBoot (fun b => { b with debug := true })) = true) ∧
    ((inPower .hibernate).power.state = .hibernate ∧ (inPower .hibernate).power.feedWarn = false) ∧ dead.power.sentinel = false ∧
    (offNow.power.state = .off ∧ offNow.power.sentinel = true ∧ (offNow.onPower (fun p => { p with vinStopped := true })).power.vinStopped = true) ∧ ready.link.held = [] ∧ releasing ready 1 = false ∧ (fed debouncing = true ∧ debouncing.boot.powerUp = 1) ∧ running offNow = false ∧
    (let s := ready.onLink (fun l => { l with up := false })
     s.link.up = false ∧ s.link.perst = false ∧ s.link.phyGood = true ∧ domainOn s 44 = true) ∧
    (fnKey 1 0 ≤ fnKey 1 0 + (2 ^ 20 - 1) ∧ (1 : FnId) ≠ 0) := by decide +kernel

/-- All units pass. -/
def allPass : BootEnv := ⟨[], true, 0xF, BitVec.allOnes 64, 3, 0xF, 0xFF, 0xF, true, true, 0, 200⟩
/-- A device at step 0 of a device reset, with a journal. -/
def atStep0 : State := initJournal ((inBoot .resetting).onBoot (fun b => { b with powerUp := 3 }))
def otpNow (l : SMap U64) : State := atStep0.onFlash (fun f => { f with otp := l })
/-- BootAndRecovery: ROM starts, with the phases, the latch, the OTP row, the life cycle and the PUF as each clause asks, and a request for recovery. -/
theorem test_witness_Boot :
    RomStarts atStep0 ∧ (romStep1 allPass atStep0).power.phasesLost < 3 ∧ 3 ≤ (romStep1 { allPass with phases := 1 } atStep0).power.phasesLost ∧
    atStep0.tamper.retirePending = false ∧ latched atStep0 = false ∧ latched (atStep0.onTamper (fun t => { t with latch := 1 })) = true ∧ lifecycle atStep0 = 1 ∧
    bitOf (sporeWord atStep0 48).toNat 0 = false ∧ otpReadable allPass atStep0 = true ∧ otpReadable { allPass with otpEccOk := false } atStep0 = false ∧
    lifecycle (otpNow [(0, 1), (1, 1)]) = 0 ∧ lifecycle (otpNow [(30, 1), (31, 1)]) = 2 ∧ lifecycle (otpNow [(30, 1), (31, 1), (32, 1)]) = 3 := by decide +kernel
theorem test_witness_JournalCloses : (romJournalled allPass atStep0).2 = false := by decide +kernel
theorem test_witness_JournalTorn :
    (romJournalled allPass (jAppend atStep0 1 ⟨0, 3⟩)).2 = true ∧ (romJournalled allPass (jAppend atStep0 1 ⟨0, 3⟩)).1.boot.verified = false := by decide +kernel
theorem openChain_boot (env : BootEnv) (s : State) (h : s.log.reports ++ s.log.staged = []) : (openChain env s).boot = s.boot := by
  unfold openChain
  split
  · rfl
  · simp only [h]; split <;> rfl
theorem romStep7_boot (env : BootEnv) (s : State) (h : (romStep5 env s).log.reports ++ (romStep5 env s).log.staged = [] ∧ (romStep5 env s).boot.armedToken = none) :
    (romStep7 env s).boot = { (romStep5 env s).boot with armedToken := none } := by
  have e := openChain_boot env (romStep5 env s) h.1
  show (checkToken (openChain env (romStep5 env s))).boot = _
  unfold checkToken
  rw [e, h.2]
  show { (openChain env (romStep5 env s)).boot with armedToken := none } = _
  rw [e]
theorem imageCause_asked (s : State) (h : s.boot.recoveryRequest = true ∧ s.boot.verified = false) : imageCause s = some 9 := by
  unfold imageCause; rw [h.1, h.2]; rfl
theorem test_witness_RecoveryRequested : imageCause (romStep7 allPass (atStep0.onBoot (fun b => { b with recoveryRequest := true }))) = some 9 := by
  apply imageCause_asked
  rw [romStep7_boot _ _ (by decide +kernel)]
  decide +kernel
theorem test_witness_EpochSpent :
    counterSpent (ready.onCounters (fun k => (writeRecords k 0 0x03D2D2D3).getD k)).counters 0 = true := by decide +kernel

/-- Chunk `c` in the window, `n` next, with a CRC. -/
def chunkAt (c n : Nat) (crc : U32) (st : BootState := .recoveryLoading) : State :=
  (inBoot st).onBoot (fun b => { b with rcvClaim := true, rcvChunk := BitVec.ofNat 6 c, rcvNext := BitVec.ofNat 6 n, rcvCrc := crc })
def zeroCrc : U32 := crc32c (Memory.read 0 [] 0 65536)
/-- BootAndRecovery: a chunk whose CRC is right, in order, the last and another; one out of order; one whose CRC is wrong. -/
theorem test_witness_Chunks :
    crc32c (windowBytes (chunkAt 63 63 zeroCrc)) = (chunkAt 63 63 zeroCrc).boot.rcvCrc ∧ bankWorn (chunkAt 63 63 zeroCrc) = false ∧
    crc32c (windowBytes (chunkAt 62 62 zeroCrc)) = (chunkAt 62 62 zeroCrc).boot.rcvCrc ∧ bankWorn (chunkAt 62 62 zeroCrc) = false ∧
    crc32c (windowBytes (chunkAt 60 61 zeroCrc)) = (chunkAt 60 61 zeroCrc).boot.rcvCrc ∧
    (chunkAt 60 61 zeroCrc).boot.rcvChunk ≠ (chunkAt 60 61 zeroCrc).boot.rcvNext ∧
    crc32c (windowBytes (chunkAt 60 60 (~~~zeroCrc))) ≠ (chunkAt 60 60 (~~~zeroCrc)).boot.rcvCrc := by
  refine ⟨rfl, by decide +kernel, rfl, by decide +kernel, rfl, by decide +kernel, ?_⟩
  show zeroCrc ≠ ~~~zeroCrc
  exact fun h => by have := congrArg (BitVec.getLsbD · 0) h; simp at this
/-- BootAndRecovery: recovery waiting, claimed over PCIe, with Turtis at it; an image not loaded; a latch to acknowledge; the wait at its end, with and
without the link key; a pull given up. -/
theorem test_witness_Recovery :
    (inRecovery (inBoot .recoveryWait) = true ∧ (inBoot .recoveryWait).boot.rcvTurtis = false) ∧
    ((inBoot .recoveryLoading).onBoot (fun b => { b with rcvTurtis := true })).boot.rcvTurtis = true ∧
    ((chunkAt 60 60 0).boot.state = .recoveryLoading ∧ (chunkAt 60 60 0).boot.rcvClaim = true ∧ (chunkAt 60 60 0).boot.rcvLoaded = false) ∧
    (let s := (chunkAt 60 60 0).onBoot (fun b => { b with rcvLoaded := true })
     s.boot.rcvLoaded = true ∧ (runningManifest s).ok = false ∧ imageAccepted s = false) ∧
    ((inBoot .tampered).boot.state = .tampered ∧ ackAccepted (inBoot .tampered) (Memory.read 0 (inBoot .tampered).boot.rcvWindow 0 229) = false) ∧
    (let s := (inBoot .recoveryWait).onBoot (fun b => { b with opt := [(9, 3)] })
     s.boot.rcvClaim = false ∧ s.boot.rcvPcieOnly = false ∧ s.update.pulling = false ∧ optField s 9 0 1 1 ≠ 0 ∧
     s.power.feedWarn = false ∧ seedErased s = false ∧ attrValid (attrOf (loadLinkKey s) 2) = false ∧ seedErased (setStatusBit s 1 true) = true) ∧
    (let s := { inBoot .recoveryWait with update := { pulling := true, srcPort := 1 } }
     s.update.pulling = true ∧ inRecovery s = true) := by decide +kernel

def warned (q : Bool) (at_ : Nat) (s : State := ready) : State := s.onPower (fun p => { p with feedWarn := true, qualified := q, warnAt := at_ })
def heat (t : Int) (h : Bool) : State := ready.onPower (fun p => { p with temps := [(0, t), (3, 200)], hot := h })
/-- FeedPhasesAndTheEpoch: the feed before and after a warning, qualified and not, at the end of 20 us; phases at each count; the temperatures at 105.0, 110.0
and 120.0; DOZE allowed and idle, and in it; a transition under way. -/
theorem test_witness_Feed :
    (fed ready = true ∧ ready.boot.powerUp ≠ 1 ∧ ready.boot.powerUp ≠ 2 ∧ ready.power.feedWarn = false) ∧
    fed (ready.onBoot (fun b => { b with powerUp := 2 })) = true ∧
    ((warned false 999998000).clocks.seta ≤ (warned false 999998000).power.warnAt + 2000 ∧ (warned false 999998000).power.quiesced = false) ∧
    (running (warned true 5) = true ∧ (warned true 5).power.qualified = true) ∧
    ((warned true 5).onPower (fun p => { p with quiesced := true })).power.feedWarn = true ∧ ready.power.heldReset = 0 ∧ (ready.onPower (fun p => { p with heldReset := 2 })).power.heldReset ≠ 0 ∧ ready.power.lastFeedDip = none ∧
    (900000000 + 100000000 ≤ ready.clocks.seta ∧ ready.clocks.seta < 900000001 + 100000000) ∧
    (coreUp ready = true ∧ ready.power.phaseOk.getLsbD 3 = true ∧ ready.power.phasesLost < 2 ∧ running (inBoot .romChecks) = false ∧
     2 ≤ (ready.onPower (fun p => { p with phasesLost := 2 })).power.phasesLost) ∧
    (ready.onPower (fun p => { p with vcoreLow := true })).power.vcoreLow = true ∧ ready.power.backupClock = false := by decide +kernel
theorem test_witness_HeatAndDoze :
    Governs ready ∧ junction (sampled (heat 0 false) 0 1099) = 1099 ∧ (heat 0 false).power.hot = false ∧ junction (sampled (heat 0 true) 0 1050) = 1050 ∧
    junction (sampled (heat 0 false) 0 1100) = 1100 ∧ junction (sampled (heat 0 false) 0 1199) = 1199 ∧ junction (sampled (heat 0 true) 0 1049) = 1049 ∧
    (heat 0 true).power.hot = true ∧ (heat 0 true).power.safeHold = none ∧ 1100 ≤ junction (heat 1100 true) ∧ junction (heat 1099 true) < 1100 ∧
    (let s := setReg ready (glKey 0x30) (80 + 10 * 2 ^ 8 + 2 ^ 18)
     s.boot.state = .ready ∧ s.power.state = .active ∧ s.power.safeHold = none ∧ s.power.quiesced = false ∧ dozeAllowed s = true ∧ queuesEmpty s = true ∧
     s.flash.ops.any (·.begun) = false) ∧
    (inPower .doze).power.state = .doze ∧ ready.clocks.epochAt % 1000 = 0 ∧ ready.power.target = none ∧
    (ready.onPower (fun p => { p with target := some .doze, vcore := 20 })).power.target = some .doze := by decide +kernel

/-- IslandsEventsAndAlarms: tasks in each state; alarms before and after the compare value; edges; islands on, lost, on the third try; the reference. -/
theorem test_witness_IslandsEventsAndAlarms :
    (let s := ready.onClocks (fun c => { c with tasks := [(55, { running := true, pending := true, merged := 7 })] })
     running s = true ∧ (taskOf s 55).running = true ∧ (taskOf s 55).pending = true ∧ taskStops s 55 = true) ∧
    (let b := 0x100 + 0x20 * 7
     let s := fun (mark : Nat) => (setReg (setReg (setReg ready (glKey b) 1000) (glKey (b + 8)) 300) (glKey (b + 12)) 1).onClocks (fun c => { c with alarmMark := [(7, mark)] })
     bitOf (reg (s 999) (glKey (b + 12))) 0 = true ∧ SMap.get 0 (s 999).clocks.alarmMark 7 = 999 ∧ reg (s 1000) (glKey b) + reg (s 1000) (glKey (b + 4)) * 2 ^ 32 = 1000 ∧
     reg (s 1000) (glKey (b + 8)) ≠ 0) ∧
    (let s := setReg (ready.onClocks (fun c => { c with gpioIn := 0 })) (glKey 0x204) (0x10 * 2 ^ 24)
     s.clocks.gpioIn.getLsbD 7 = !true ∧ bitOf (pinCfg s 7) 0 = false ∧ bitOf (pinCfg s 7) 4 = true) ∧
    (0 ∉ ready.clocks.faulty ∧ 258 ∈ (ready.onClocks (fun c => { c with faulty := [258] })).clocks.faulty) ∧
    (coreUp ready = true ∧ islandOn ready 2 = true ∧ islandOn ready 18 = true ∧ ready.clocks.lost.getLsbD 18 = false ∧ ready.clocks.isolated.getLsbD 18 = false) ∧
    (let s := ready.onClocks (fun c => { c with lost := BitVec.allOnes 19, relockTries := [(3, 2), (7, 1)] })
     s.clocks.lost.getLsbD 3 = true ∧ SMap.get 0 s.clocks.relockTries 3 + 1 = 3 ∧ SMap.get 0 s.clocks.relockTries 7 + 1 < 3) ∧
    islandJoined ready 2 = true ∧ islandJoined (ready.onClocks (fun c => { c with isolated := 4 })) 2 = false ∧
    (let good := fun (w : BitVec 320) => decide (crc32c (leBytes 36 (w.toNat % 2 ^ 288)) = BitVec.ofNat 32 (w.toNat / 2 ^ 288))
     let w : BitVec 320 := BitVec.ofNat 320 (77 + (crc32c (leBytes 36 77)).toNat * 2 ^ 288)
     good w = true ∧ good 77 = false) ∧
    ready.clocks.refLostAt = none ∧ (ready.onClocks (fun c => { c with refLostAt := some 5 })).clocks.refLostAt = some 5 ∧
    ready.clocks.seta / 2 ^ 56 = ready.clocks.setaTop ∧ (2 ^ 56 + 3) / 2 ^ 56 ≠ ready.clocks.setaTop := by decide +kernel

/-! ### Tests and ECC, flash, tamper, Spore, Turtis -/

def tested (u : UnitRef) (why : TestCause) : State := onUnit ready u (fun x => { x with st := .testing, why := why, passed := false })
def runningJob : State := { ready with jobs := [{ op := 0x0301, cmd := cmdOf 0 [(0, 2, 32)], stage := .running (.frond 3) }] }
def inv3 : Inv := { fn := 1, q := 0, tag := 3, applet := 1, cls := 1, inAddr := 0, inLen := 0, outAddr := 0, outLen := 0, quanta := 100, codeLen := 64, dataLen := 0, stackLen := 64 }
def invoked : State := ready.onPinnas (fun p => { p with units := [(0, { inv := some inv3 })] })
def keyRec9 : KeyRec := { slot := 35, owner := 0, wrapped := bytesOf 88 7, committed := true }
/-- TestsDoubleBitFaultsAndScrubs: a test due; a unit under test for each reason; each memory a fault can stand in; a pass; a pair with an invocation and without. -/
theorem test_witness_TestsDoubleBitFaultsAndScrubs :
    testsRun ready = true ∧ aging ready (.frond 63) = true ∧
    UnderTest (tested (.frond 63) .slot) (.frond 63) ∧ UnderTest (tested (.slice 3) .join) (.slice 3) ∧ (unitOf (tested (.slice 3) .join) (.slice 3)).why = .join ∧
    UnderTest (tested (.pinna 7) .returning) (.pinna 7) ∧ HandlesEcc ready ∧ (hostJob runningJob 0 0 7).isSome ∧ (pinnaOf invoked 0).inv = some inv3 ∧
    frondState ready 63 = .inService ∧ (unitOf ready (.calyptra 1)).st = .inService ∧
    (attrValid (attrOf ready 300) = true ∧ attrPersistent (attrOf ready 300) = false) ∧
    (let s := ready.onMedulla (fun m => { m with records := [(3, keyRec9)] })
     attrValid (attrOf s 35) = true ∧ attrPersistent (attrOf s 35) = true ∧ recordFor s 35 (attrOf s 35 % 256) = some (3, keyRec9)) ∧
    domainOn ready (scrubDomain (.tcm 7)) = true ∧ domainOn ready 25 = true ∧ xemberon ready = true ∧ ready.power.quiesced = false ∧ ready.pinnas.split = false ∧
    (List.range 3).any (programOn ready) = false ∧ (List.range 3).any (programOn (ready.onFlash (fun f => { f with ops := [{ unit := ⟨0, 3⟩, erase := false, use := .crozierPage 5 }] }))) = true ∧
    max ready.clocks.seta (ready.health.lastPatrol + 8640000000000) < 2 ^ 64 ∧
    (unitOf ready (.pinna 6)).st = .inService ∧ (unitOf ready (.pinna 7)).st = .inService ∧ (pinnaOf ready 3).inv = none := by decide +kernel

def note0 : Note := ⟨0, 0, 0, 0, 0, 0⟩
/-- A device whose newest log entry is at place 4. -/
def logged9 : State := ready.onLog (fun l => { l with next := 5, seq := 5, slots := [(4, .entry 0 note0 [])] })
/-- A flash operation open, its journal entry written. -/
def opOpen (o : FlashOp) (s : State := initJournal ready) : State := s.onFlash (fun f => { f with ops := [o] })
def programOp (fails : Nat := 0) : FlashOp := { unit := ⟨2, 130⟩, erase := false, use := .command (cmdOf 0 [(0, 2, 5)]), fails := fails, startedAt := 5 }
def eraseOp (starved : Bool := false) : FlashOp := { unit := ⟨1, 5⟩, erase := true, use := .appletErase 5, startedAt := 5, starved := starved }
def flashJob (op : Nat) : State := { opOpen (programOp) with jobs := [{ op := op, cmd := cmdOf 0 [(0, 2, 5)], stage := .flash, aux := 6 }] }
theorem test_witness_OneErasePerArray : OneErasePerArray (opOpen eraseOp) := fun _ => List.length_filter_le _ _
/-- FlashWorkEnds: an operation open that programs and one that erases, failed once and not, gated and not; a command of each kind that waits for it;
a configuration half full and not quite; an OTP program for word 32. -/
theorem test_witness_FlashWorkEnds :
    OpenOp (opOpen (programOp)) 0 (programOp) ∧ gateRefuses (opOpen (programOp)) ⟨2, 130⟩ = false ∧
    OpenOp (opOpen (programOp 1)) 0 (programOp 1) ∧ OpenOp (opOpen eraseOp) 0 eraseOp ∧ gateRefuses (opOpen eraseOp) ⟨1, 5⟩ = false ∧
    OpenOp (opOpen (eraseOp true)) 0 (eraseOp true) ∧ OpenOp (opOpen { eraseOp with suspended := true }) 0 { eraseOp with suspended := true } ∧
    (let s := fun n => logged9.onLog (fun l => { l with writing := n })
     flashAlive (s (some 1)) = true ∧ SMap.get LogSlot.erased (s (some 1)).log.slots ((s (some 1)).log.next - 1) = .entry 0 note0 [] ∧ (s (some 1)).log.next < logRoom (s (some 1)) 0 ∧
     (s (some 0)).log.writing = some 0 ∧ (s none).log.writing = none) ∧
    (∀ op ∈ [0x0013, 0x0101, 0x0103, 0x0206, 0x0703, 0x0C05], ((flashJob op).jobs.find? (fun j => j.isFor (cmdOf 0 [(0, 2, 5)]) && j.stage == .flash)).isSome = true) ∧
    (OwnWork ready ∧ ready.flash.configCopying = false ∧ ready.flash.configUsed + 64 ≤ configRoom ready ∧ ready.flash.ops = []) ∧
    (let s := ready.onFlash (fun f => { f with configUsed := 449 })
     OwnWork s ∧ configRoom s < s.flash.configUsed + 64) ∧
    (ready.power.feedWarn = false ∧ ready.power.state ≠ .off ∧ ready.power.state ≠ .hibernate ∧
     (ready.onFlash (fun f => { f with otpPending := some 32 })).flash.otpPending = some 32 ∧ ready.flash.otpPending ≠ some 32) := by decide +kernel

/-- FlashWorkEnds: a counter that finds a place for its first record, and one that finds none; no counter word under program. -/
theorem test_witness_FirstRecord : firstRecord ready.counters 5 ≠ none ∧ firstRecord noBlocks.counters 6 = none ∧ counterWriting ready = false := by decide +kernel
/-- FlashWorkEnds: the key-record region with 31 free records and dead ones in sector 7. -/
def regionFull : State := (initJournal ready).onMedulla (fun m => { m with records := (List.range 993).map (fun k => (k, { keyRec9 with slot := k % 250, tombstone := 224 ≤ k && k < 229 })) })
theorem test_witness_Compaction : OwnWork regionFull ∧ regionFull.medulla.compacting = none ∧ regionFull.jobs.any (·.place.isSome) = false ∧ freeRecords regionFull < 32 ∧ keyVictim regionFull = some 7 ∧
    (emptySectors regionFull).head? = some 32 := by decide +kernel

def tampering (h : Tamper → Tamper) (s : State := ready) : State := s.onTamper h
/-- TamperResponses: every source watched at each level; Xemberon and the Sentinel alone answering; levels 0 to 4; an escalation; an end. -/
theorem test_witness_TamperResponses :
    watched ready 12 = true ∧ policyLevel ready 12 = 5 ∧ policyLevel ready 0 = 3 ∧ policyLevel (setReg ready (glKey 0x280) (7 * 2 ^ 27)) 9 = 7 ∧
    XemberonAnswers ready ∧ SentinelAnswers ((ready.onPower (fun p => { p with state := .off })).onBoot (fun b => { b with state := .resetting })) ∧
    (SMap.wf {} ready.engines.units = true ∧ SMap.wf {} ready.fns = true) ∧ ready.power.sentinel = true ∧
    (tampering (fun t => { t with live := 0x1FFF })).tamper.live.getLsbD 12 = true ∧
    (let e := fun (n : Nat) => tampering (fun t => { t with live := 1 <<< n, latch := 1 <<< n, liveSince := [(n, 5)] })
     Escalates (e 2) 2 ∧ Escalates (e 5) 5 ∧ running (e 2) = true) ∧
    (let s := tampering (fun t => { t with live := 1, suspended := 6, quietSince := [(1, 999999999), (2, 7)], escalated := 2 })
     s.tamper.suspended ≠ 0 ∧ s.tamper.suspended &&& s.tamper.live = 0 ∧ running s = true ∧ s.power.sentinel = true ∧
       ∀ n < 13, SMap.get 0 s.tamper.quietSince n + 1000000 ≤ 2 ^ 64) ∧
    zeroisedInForce ready 3 = false ∧ zeroisedInForce (tampering (fun t => { t with live := 1, latch := 1 })) 3 = true ∧
    (0x5A : Byte) ∈ fsmCodes .alarm ∧ (0xFF : Byte) ∉ fsmCodes .alarm := by decide +kernel

def tagAt (x : Tag) : State := ready.onTag (fun _ => x)
def apduOf (cla ins p1 p2 : Byte) (data : Bytes := []) (le : Option (BitVec 16) := none) : Apdu := ⟨cla, ins, p1, p2, data, le⟩
def onBattery (hei : Nat) (x : Tag) : State := (tagAt { x with field := true, hei := hei }).onPower (fun p => { p with sentinel := false })
/-- SporeStoreAndTagMode: the store powered; the field on and off; a session open, selected, and in each state its commands ask for. -/
theorem test_witness_SporeStoreAndTagMode :
    1 ≤ heiOf ready ∧ (539 : BitVec 10).toNat < 540 ∧ (539 : BitVec 10).toNat ≠ 50 ∧ running ready = true ∧ (tagAt { opened := true }).tag.opened = true ∧
    ready.tag.opened = false ∧ ready.tag.field = false ∧ ((tagAt { field := true }).tag.field = true ∧ (tagAt { field := true }).reader.fieldOn = false) ∧ ready.spore.bad = [] ∧
    TagOpen (tagAt { opened := true }) ∧ ApduIs (apduOf 0 0xA4 4 0 sporeAid (some 0)) 0 0xA4 4 0 ∧ Readable (tagAt { opened := true }) [38, 39, 48] ∧
    (let s := tagAt { opened := true, selected := true }
     Selected s ∧ 2 ≤ heiOf s ∧ sporeSpent s 3 = false ∧ sporeSpent (setSpore s 6 (sporeCounterWord 0xFFFFFF 3 false)) 3 = true ∧
     Readable s ((List.range 5).map (poolBase (sporeCounter s 3 % 32) + ·)) ∧ poolUse s 0 ≠ some 0 ∧
     poolUse (setSpore s (poolBase 0) (BitVec.ofNat 64 ((2 ^ 24 - 1) * 2 ^ 32))) 0 = some (sporeCounter s 3)) ∧
    (Selected (onBattery 1 { opened := true, selected := true }) ∧ heiOf (onBattery 1 { opened := true, selected := true }) < 2) ∧
    (apduOf 0x80 0x10 0 0 (List.replicate 360 0)).data.length = 360 ∧ Selected (tagAt { opened := true, selected := true, challenge := some (0, bytesOf 32 1), fails := 3 }) ∧
    (let s := tagAt { opened := true, selected := true, challenge := some (0, bytesOf 32 1), fails := 2 }
     Selected s ∧ 2 ≤ heiOf s ∧ sporeSpent s 3 = false ∧ Readable s [32, 33, 34, 35, 36, 37, 38, 39] ∧ sporeSpent (setSpore s 6 (sporeCounterWord 0xFFFFFF 3 false)) 3 = true) ∧
    (let s := tagAt { opened := true, selected := true, scope := some 7 }
     Selected s ∧ scopeHas s 0 = true ∧ scopeHas s 1 = true ∧ scopeHas s 2 = true ∧ s.tag.visitDone = false ∧ sporeSpent s 1 = false ∧ countersUnreadable s = none ∧
     Readable s ((List.range 9).map (visitBase 7 + ·)) ∧ Readable s (((List.range 5).map (fun i => ringSlot s (31 + i))).flatMap (fun k => (List.range 6).map (52 + 6 * k + ·)))) ∧
    scopeHas (tagAt { opened := true, selected := true }) 1 = false := by decide +kernel

/-- A device with a roster of nodes 1 and 63 and itself at 2, its port 0 running and in step. -/
def chained : State :=
  { ready with
    medulla := { ready.medulla with slots := SMap.set {} ready.medulla.slots 2 { attr := attrWord 7 0xFF 0xFF 7 255, key := bytesOf 32 9 } }
    update := { ready.update with roster := [⟨1, 1, 2, false, bytesOf 16 1⟩, ⟨2, 1, 2, false, identity ready⟩, ⟨63, 1, 2, false, bytesOf 16 3⟩] }
    ports := [(0, { running := true, word := 0x20000000201, synced := true, master := 1, nonce := [1], nbrs := [(1, { known := true, nonce := [9, 9] }), (63, { known := true, nonce := [3] })] })] }
def frameOf (src : Byte) (payload : Bytes) (offset : Int := 0) (dst : Byte := 0xFF) : Frame := ⟨0, dst, src, 0, 1, payload, [], 0, 3, offset⟩
/-- The frame with the MAC it must have. -/
def sealed' (s : State) (f : Frame) (pid : Nat) : Frame :=
  let m := expectedMac s f pid (frameNonce s f pid) (frameSfn s f pid) (withSession s pid)
  { f with mac := m, crc := crc32 (frameBytes f.dst f.src pid f.flags f.seq f.payload ++ m) }
theorem mac_right (s : State) (f : Frame) (pid : Nat) (h : frameNonce s f pid ≠ []) (k : macRuns s 3 = true) : MacRight s (sealed' s f pid) pid := ⟨h, k, rfl⟩
theorem listens (s : State) (f : Frame) (pid : Nat) (h : portWorks s f.port = true ∧ enrolled s f.port f.src = true ∧ (portOf s f.port).mutes.any (·.1 == f.src) = false) :
    Listens s (sealed' s f pid) pid := ⟨h.1, rfl, h.2⟩
/-- TurtisFramesAndSlots: frames that are accepted, of every PID, inside the guard band to its ends; the reasons that discard one. -/
theorem test_witness_TurtisFrames :
    (∀ pid ∈ [0x01, 0x02, 0x03, 0x04, 0x10, 0x11, 0x12, 0x13, 0x14, 0x15], Accepted chained (sealed' chained (frameOf 63 (bytesOf 24 1) 80) pid) pid ∧
      ForUs chained (sealed' chained (frameOf 63 (bytesOf 24 1) 80) pid)) ∧
    Accepted chained (sealed' chained (frameOf 63 (bytesOf 24 1) (-80) 1) 0x04) 0x04 ∧ ¬ForUs chained (sealed' chained (frameOf 63 (bytesOf 24 1) (-80) 1) 0x04) ∧
    portWorks ready 0 = false ∧ enrolled chained 0 5 = false ∧ ¬InGuard chained (frameOf 63 [] 81) ∧ Listens chained (sealed' chained (frameOf 63 [] 81) 0x04) 0x04 ∧
    ¬MacRight (chained.onPorts (fun _ => [(0, { running := true })])) (frameOf 63 []) 0x04 ∧ ¬CrcRight { frameOf 63 [] with crc := 0 } 0x04 := by
  refine ⟨?_, ⟨listens _ _ _ (by decide +kernel), mac_right _ _ _ (by decide +kernel) (by decide +kernel), by decide +kernel⟩, by decide +kernel, by decide +kernel,
    by decide +kernel, by decide +kernel, listens _ _ _ (by decide +kernel), fun h => absurd h.1 (by decide +kernel), by decide +kernel⟩
  intro pid h
  have g : ∀ pid ∈ [0x01, 0x02, 0x03, 0x04, 0x10, 0x11, 0x12, 0x13, 0x14, 0x15],
      frameNonce chained (frameOf 63 (bytesOf 24 1) 80) pid ≠ [] ∧ InGuard chained (sealed' chained (frameOf 63 (bytesOf 24 1) 80) pid) ∧
      ForUs chained (sealed' chained (frameOf 63 (bytesOf 24 1) 80) pid) := by decide +kernel
  exact ⟨⟨listens _ _ _ (by decide +kernel), mac_right _ _ _ (g pid h).1 (by decide +kernel), (g pid h).2.1⟩, (g pid h).2.2⟩
/-- TurtisFramesAndSlots: neighbours at two empty slots, lost, gone; offers of each answer; a line busy 15 and 16 times. -/
theorem test_witness_TurtisSlots :
    (let n := fun (x : Nbr) => nbrOf (portOf (onNbr chained 0 63 (fun _ => x)) 0) 63
     (n { known := true, empty := 2 }).known = true ∧ (n { known := true, empty := 2 }).lost = false ∧ 2 ≤ (n { known := true, empty := 2 }).empty ∧
     (n { known := true, lost := true }).lost = true ∧ (n { known := true, lost := true }).gone = false) ∧
    ¬(isMaster (portOf chained 0) = true ∧ (portAddr (portOf chained 0)).toNat < (63 : Byte).toNat) ∧
    (isMaster (portOf (onPort chained 0 (fun x => { x with master := 2 })) 0) = true ∧ (2 : Byte).toNat < (63 : Byte).toNat) ∧
    (nbrOf (portOf chained 0) 63).returning = false ∧ portWorks chained 0 = true ∧ portWorks ready 0 = false ∧
    runs 0x0A01 (cmdOf 0 [(0, 8, 0x8000), (8, 1, 3), (10, 2, 0xF5FE)]) { chained with link := (offering 5).link } (fun t _ => !silent t && (manifestOf (hostRead t 0 0x8000 512)).ok) ∧
    chained.update.state = 0 ∧ chained.power.safeHold = none ∧ floorSpent chained = false ∧ (portOf chained 0).running = true ∧
    (portOf (onPort chained 0 (fun x => { x with busy := 15 })) 0).busy + 1 = 16 ∧ (portOf chained 0).busFault = false := by decide +kernel

/-- EveryStepKeepsTheCanonicalForm: the state after reset, whose queue is empty, meets the premise. -/
theorem test_witness_CanonicalForm : CanonicalRecords State.reset ∧ CanonicalMemories State.reset ∧ CanonicalRecords chained ∧ CanonicalMemories chained := by decide +kernel

/-- CatalogueIsTheTable: the first and the last opcode. -/
theorem test_witness_CatalogueIsTheTable :
    xciRow (.nop (cmdOf 0 [])) = some (0x0001, cmdOf 0 []) ∧ xciRow (.istControl (cmdOf 0 [])) = some (0x0D03, cmdOf 0 []) ∧ knownOp 0x0D03 = true := by decide +kernel

/-! ### Well-formed and not -/

/-- WellFormed refuses each ill-formed term: FORMAT, the reserved bits, FLAGS past its two bits, FAIL_STOP without FENCE. -/
theorem test_illformed_commands :
    wellFormed (.nop (cmdOf 0 [])) = true ∧ wellFormed (.nop { cmdOf 0 [] with format := 2 }) = false ∧ wellFormed (.nop { cmdOf 0 [] with rsv := 1 }) = false ∧
    wellFormed (.nop { cmdOf 0 [] with flags := 4 }) = false ∧ wellFormed (.nop { cmdOf 0 [] with flags := 2 }) = false ∧
    wellFormed (.nop { cmdOf 0 [] with flags := 3 }) = true := by decide +kernel
/-- An APDU of 361 data bytes, a payload of 257, a MAC of 7; a Hypha source twice in a cycle. -/
theorem test_illformed_frames :
    wellFormed (.authenticate ⟨0x80, 0x10, 0, 0, List.replicate 361 0, none⟩) = false ∧ wellFormed (.authenticate ⟨0x80, 0x10, 0, 0, List.replicate 360 0, none⟩) = true ∧
    wellFormed (.hello ⟨0, 0xFF, 1, 0, 0, List.replicate 257 0, List.replicate 8 0, 0, 1, 0⟩) = false ∧
    wellFormed (.hello ⟨0, 0xFF, 1, 0, 0, List.replicate 256 0, List.replicate 8 0, 0, 1, 0⟩) = true ∧
    wellFormed (.hello ⟨0, 0xFF, 1, 0, 0, [], List.replicate 7 0, 0, 1, 0⟩) = false ∧
    wellFormed (.hyphaEvent [(3, true), (3, false)]) = false ∧ wellFormed (.hyphaEvent [(3, true), (4, true)]) = true := by decide +kernel
/-- An odd pair for PERM; fields that leave the word; special registers that are not there, or not writable; a service that exists. -/
theorem test_illformed_pinna :
    wellFormed (.perm 0 ⟨false, 0⟩ 1 3 2) = false ∧ wellFormed (.perm 0 ⟨false, 0⟩ 1 4 2) = true ∧ wellFormed (.bfx 0 ⟨false, 0⟩ 1 2 31 1) = false ∧
    wellFormed (.bfxs 0 ⟨false, 0⟩ 1 2 1 31) = false ∧ wellFormed (.bfi 0 ⟨false, 0⟩ 1 2 16 16) = false ∧ wellFormed (.bfi 0 ⟨false, 0⟩ 1 2 16 15) = true ∧
    wellFormed (.mfs 0 ⟨false, 0⟩ 1 10) = false ∧ wellFormed (.mfs 0 ⟨false, 0⟩ 1 9) = true ∧ wellFormed (.mts 0 ⟨false, 0⟩ 3 1) = false ∧
    wellFormed (.mts 0 ⟨false, 0⟩ 4 1) = true ∧ wellFormed (.sysInvalid 0 ⟨false, 0⟩ 5) = false ∧ wellFormed (.sysInvalid 0 ⟨false, 0⟩ 6) = true := by decide +kernel

/-! ### Pinna words -/

/-- Words put together by hand from Tables 19.2 to 19.4: the guard in [31:28], MAJOR in [27:22], RD in [21:17], RA in [16:12], RB in [11:7], FN or an immediate
below. The word of zeros and the erased word are the two the chapter itself names. -/
theorem test_pinna_words :
    decodePinna 0 0 = some (.add 0 ⟨false, 0⟩ 0 0 0) ∧ decodePinna 0 0xFFFFFFFF = none ∧ decodePinna 0 0x018A0000 = some (.movi 0 ⟨false, 0⟩ 5 0) ∧
    decodePinna 0 0x040E2000 = some (.ldw 0 ⟨false, 0⟩ 7 2 0) ∧ decodePinna 0 0x000E7404 = some (.xorR 0 ⟨false, 0⟩ 7 7 8) ∧
    decodePinna 0 0x004C6FFF = some (.addi 0 ⟨false, 0⟩ 6 6 0xFFF) ∧ decodePinna 0 0x02C26200 = some (.cmpi 0 ⟨false, 0⟩ 1 6 1 0) ∧
    decodePinna 0 0x183FFFF8 = some (.br 0 ⟨false, 1⟩ 0x3FFFF8) ∧ decodePinna 0 0x21860001 = some (.movi 0 ⟨false, 2⟩ 3 1) ∧
    decodePinna 0 0x0C043000 = some (.mfs 0 ⟨false, 0⟩ 2 3) ∧ decodePinna 0 0x0F400000 = some (.sleep 0 ⟨false, 0⟩) := by decide +kernel

/-! ### One step each -/

/-- StepRunsTheFrontCommand: an empty queue with the Sentinel powered, at the last tick of Seta, in a ramp, and without power. -/
theorem test_witness_StepRunsTheFrontCommand :
    (ready.pending = [] ∧ ready.power.sentinel = true ∧ ready.clocks.seta < 2 ^ 64 ∧ ready.power.target = none) ∧
    (ready.onClocks (fun c => { c with seta := 2 ^ 64 - 1 })).clocks.seta < 2 ^ 64 ∧ (dead.pending = [] ∧ dead.power.sentinel = false) := by decide +kernel
/-- StepRunsTheFrontCommand: an empty queue lets one Seta tick pass (log entry 4). -/
theorem test_idle_step : (match step ready with | .next t => t.clocks.seta == 1000000001 && t.pending.isEmpty | _ => false) = true := by decide +kernel
/-- NOP posts its completion: the CQ of pair 0 moves by one. -/
theorem test_nop_completes : (match exec (.nop (cmdOf 0 [])) (fetched ready 0x0001 (cmdOf 0 [])) with
    | .next t => (pairOf t 0 0).cqTail == 1 && t.jobs.isEmpty | _ => false) = true := by decide +kernel
/-- StepRunsTheFrontCommand: the first command of the queue runs, the second waits. -/
theorem test_queue_order : (match step { ready with pending := [.perstDeassert, .linkLoss] } with
    | .next t => t.pending == [.linkLoss] && t.link.up | _ => false) = true := by decide +kernel

end Sys2Proof.Tests
end

section
/-! SUPPORT. What the frame of a command answers once the command starts (Table 7.3), the refusals of a list of checks, what a change of the
jobs leaves unchanged, and how a fold over units establishes a property of each. -/

namespace Sys2Proof.Proofs
open Sys2Proof Sys2Proof.Machine Sys2Proof.Claims

variable {s t : State} {c : Cmd} {j : Job} {r : Reply} {op : Nat}

/-! ### The frame of a command -/

/-- A command that starts runs as its own job: the job carries its entry and its opcode. -/
theorem cmd_op_of_starts (h : Starts op c s j) : j.cmd = c ∧ j.op = op := by
  unfold Starts admission at h
  split at h
  · cases h
  next j0 hfind =>
    have hj0 := List.find?_some hfind
    simp only [Bool.and_eq_true, beq_iff_eq] at hj0
    obtain ⟨⟨hop, hcmd⟩, -⟩ := hj0
    split_ifs at h
    all_goals split at h
    all_goals cases h -- only the last branch answers `.go`
    exact ⟨hcmd, hop⟩

/-- A command that starts and whose body completes is answered. -/
theorem xci_answers {body : State → Job → State × Option Reply} (h : Starts op c s j)
    (hb : body (started s c j) j = (t, some r)) : xci op c s body = .next (post t j r) := by
  simp only [xci, h, hb]

/-- A command that starts and whose body does not complete goes on. -/
theorem xci_begins {body : State → Job → State × Option Reply} (h : Starts op c s j)
    (hb : body (started s c j) j = (t, none)) : xci op c s body = .next t := by
  simp only [xci, h, hb]

/-! ### Refusals -/

@[simp] theorem when_true : when true r = some r := rfl
@[simp] theorem when_false : when false r = none := rfl
@[simp] theorem when_eq_none {b : Bool} : when b r = none ↔ b = false := by cases b <;> simp

section
variable {l : List (Option Reply)} {go : State × Option Reply}

@[simp] theorem unlessRefused_nil : unlessRefused s [] go = go := rfl
@[simp] theorem unlessRefused_refused : unlessRefused s (some r :: l) go = (s, some r) := rfl
@[simp] theorem unlessRefused_passed : unlessRefused s (none :: l) go = unlessRefused s l go := rfl

@[simp] theorem unlessRefused_when {b : Bool} (hb : b = true) : unlessRefused s (when b r :: l) go = (s, some r) := by
  rw [hb, when_true, unlessRefused_refused]
@[simp] theorem unlessRefused_when_not {b : Bool} (hb : b = false) : unlessRefused s (when b r :: l) go = unlessRefused s l go := by
  rw [hb, when_false, unlessRefused_passed]
end

/-! ### What a change of the jobs leaves unchanged -/

section
variable {h : Job → Job} {u : UnitRef} {us : List UnitRef} {k i : Nat}

@[simp] theorem onJob_engines : (onJob s c h).engines = s.engines := rfl
@[simp] theorem onJob_power : (onJob s c h).power = s.power := rfl
@[simp] theorem onJob_pinnas : (onJob s c h).pinnas = s.pinnas := rfl
@[simp] theorem onJob_health : (onJob s c h).health = s.health := rfl
@[simp] theorem unitOf_onJob : unitOf (onJob s c h) u = unitOf s u := rfl
@[simp] theorem inSlot_onJob : inSlot (onJob s c h) u = inSlot s u := rfl
@[simp] theorem codes_onJob : codes (onJob s c h) us = codes s us := rfl
@[simp] theorem frondsLeft_onJob : frondsLeft (onJob s c h) us = frondsLeft s us := rfl
@[simp] theorem selfTested_onJob : selfTested (onJob s c h) k i = selfTested s k i := rfl
@[simp] theorem lifecycle_onJob : lifecycle (onJob s c h) = lifecycle s := rfl
@[simp] theorem commitReg_onJob : commitReg (onJob s c h) k = commitReg s k := rfl
end

/-! ### Folds over units -/

/-- A fold whose every step gives its own unit a property, and takes it from no unit, gives it to every unit of the list. -/
theorem forall_mem_foldl {P : State → UnitRef → Prop} {f : State → UnitRef → State} {us : List UnitRef}
    (makes : ∀ a u, P (f a u) u) (keeps : ∀ a u v, P a v → P (f a u) v) : ∀ u ∈ us, P (us.foldl f s) u := by
  induction us generalizing s with
  | nil => simp
  | cons v vs ih =>
    intro u hu
    rcases List.mem_cons.mp hu with rfl | hu
    · exact List.foldlRecOn vs f (makes s u) (fun a ha w _ => keeps a w u ha)
    · exact ih u hu

end Sys2Proof.Proofs
end

section
/-! SUPPORT. What the operations of the pool do to the units: a unit taken for its known-answer set, one taken out of service, and the
borrowed fronds that come back when a run is abandoned (R291, R398, Table 9.9). -/

namespace Sys2Proof.Proofs
open Sys2Proof Sys2Proof.Machine Sys2Proof.Claims

variable {s : State} {c : Cmd} {j : Job} {u v : UnitRef} {us : List UnitRef}

/-! ### Charging for frond time leaves the units alone -/

@[simp] theorem onFn_engines {f : FnId} {h : Fn → Fn} : (onFn s f h).engines = s.engines := rfl

@[simp] theorem bill_engines {f : FnId} {k : Nat} {ns : Int} : (bill s f k ns).engines = s.engines := by
  unfold bill setDeficit
  split <;> rfl

@[simp] theorem payTo_engines {n : Nat} : (payTo s c n).engines = s.engines := by
  unfold payTo
  split
  · rfl
  · split <;> simp

@[simp] theorem stopPay_engines : (stopPay s c).engines = s.engines := by simp [stopPay]

@[simp] theorem refund_engines {k : Int} : (refund s c k).engines = s.engines := by
  unfold refund
  split <;> simp

@[simp] theorem latticeLost_engines : (latticeLost s u).engines = s.engines := by
  cases u <;> rfl

theorem unitOf_congr {t : State} (h : t.engines = s.engines) : unitOf t u = unitOf s u := by
  unfold unitOf
  rw [h]

/-! ### Abandoned runs -/

/-- A unit as it was, or back in service where it was lent. -/
def GivenBack (x y : UnitSt) : Prop := y = x ∨ (x.st = .borrowed ∧ y = { x with st := .inService })

theorem GivenBack.refl (x : UnitSt) : GivenBack x x := .inl rfl

theorem GivenBack.trans {x y z : UnitSt} (hxy : GivenBack x y) (hyz : GivenBack y z) : GivenBack x z := by
  rcases hxy with rfl | ⟨hx, rfl⟩
  · exact hyz
  · rcases hyz with rfl | ⟨hy, -⟩
    · exact .inr ⟨hx, rfl⟩
    · cases hy

/-- A unit that was not lent is as it was. -/
theorem GivenBack.eq_of_ne {x y : UnitSt} (h : GivenBack x y) (hx : x.st ≠ .borrowed) : y = x :=
  h.resolve_right (fun hb => hx hb.1)

/-- A fold whose every step gives at most lent units back does so as a whole. -/
theorem givenBack_foldl {α : Type} {f : State → α → State} {l : List α}
    (step : ∀ a x, GivenBack (unitOf a u) (unitOf (f a x) u)) : GivenBack (unitOf s u) (unitOf (l.foldl f s) u) :=
  List.foldlRecOn l f (motive := fun a => GivenBack (unitOf s u) (unitOf a u)) (.refl _) (fun a ha x _ => ha.trans (step a x))

/-- R467: ending a run gives lent fronds back and leaves every other unit as it was. -/
theorem givenBack_giveBack : GivenBack (unitOf s u) (unitOf (giveBack s j) u) := by
  unfold giveBack
  refine (GivenBack.trans (.inl (unitOf_congr ?_)) (givenBack_foldl fun a n => ?_))
  · split <;> simp
  · by_cases hu : u = .frond n
    · subst hu
      rw [unitOf_onUnit_same]
      split
      next hst => exact .inr ⟨by simpa using hst, rfl⟩
      · exact .refl _
    · rw [unitOf_onUnit_ne hu]
      exact .refl _

theorem givenBack_abandon : GivenBack (unitOf s u) (unitOf (abandon s j) u) := by
  refine (givenBack_giveBack (j := j)).trans (.inl (unitOf_congr ?_))
  simp [abandon]

/-- R398: stopping the jobs of a unit changes no unit but the lent ones. -/
theorem givenBack_stopUnit : GivenBack (unitOf s u) (unitOf (stopUnit s v).1 u) := by
  unfold stopUnit
  refine GivenBack.trans (givenBack_foldl fun a j => ?_) (.inl (unitOf_congr latticeLost_engines))
  split
  · refine (givenBack_giveBack (j := j)).trans (.inl (unitOf_congr ?_))
    simp
  · exact givenBack_abandon

/-! ### Units that go OUT -/

@[simp] theorem st_takeOut_same : (unitOf (takeOut s u) u).st = .out := by
  simp [takeOut, unitOf_onUnit_same]

/-- Another unit that is OUT stays OUT. -/
theorem st_takeOut_of_out (h : (unitOf s v).st = .out) : (unitOf (takeOut s u) v).st = .out := by
  by_cases hv : v = u
  · subst hv
    exact st_takeOut_same
  · rw [takeOut, unitOf_onUnit_ne hv, givenBack_stopUnit.eq_of_ne (by simp [h]), h]

/-- R291: every unit of a list taken out is OUT. -/
theorem st_foldl_takeOut : ∀ u ∈ us, (unitOf (us.foldl takeOut s) u).st = .out :=
  forall_mem_foldl (P := fun a u => (unitOf a u).st = .out) (fun _ _ => st_takeOut_same) (fun _ _ _ => st_takeOut_of_out)

/-! ### Units taken for their known-answer set -/

@[simp] theorem unitOf_startTest_same {w : TestCause} :
    unitOf (startTest s u w) u = { unitOf s u with st := .testing, why := w, passed := false, forced := false } := unitOf_onUnit_same

theorem unitOf_startTest_ne {w : TestCause} (h : v ≠ u) : unitOf (startTest s u w) v = unitOf s v := unitOf_onUnit_ne h

/-- R293: units returned are TESTING, to join when they pass. -/
theorem foldl_startTest_mem {w : TestCause} : ∀ u ∈ us,
    (unitOf (us.foldl (fun a u => startTest a u w) s) u).st = .testing ∧ (unitOf (us.foldl (fun a u => startTest a u w) s) u).why = w := by
  refine forall_mem_foldl (P := fun a u => (unitOf a u).st = .testing ∧ (unitOf a u).why = w) (fun a u => by simp) (fun a u v hv => ?_)
  by_cases h : v = u
  · subst h
    simp
  · rwa [unitOf_startTest_ne h]

theorem foldl_startTest_not_mem {w : TestCause} (hu : u ∉ us) : unitOf (us.foldl (fun a u => startTest a u w) s) u = unitOf s u :=
  List.foldlRecOn us _ (motive := fun a => unitOf a u = unitOf s u) rfl (fun a ha v hv => by
    rw [unitOf_startTest_ne (ne_of_mem_of_not_mem hv hu).symm, ha])

/-! ### Units that a SELF_TEST names -/

/-- A test slot of the unit is due, or the unit is in a test. -/
def TestDue (s : State) (u : UnitRef) : Prop := (unitOf s u).forced = true ∨ (unitOf s u).st = .testing

theorem testDue_startTest_same {w : TestCause} : TestDue (startTest s u w) u := .inr (by simp)

theorem testDue_startTest {w : TestCause} (h : TestDue s v) : TestDue (startTest s u w) v := by
  by_cases hv : v = u
  · subst hv
    exact testDue_startTest_same
  · rwa [TestDue, unitOf_startTest_ne hv]

theorem testDue_forceTest_same : TestDue (forceTest s u) u := by
  unfold forceTest
  split
  next hst => exact .inr (by simpa using hst)
  · exact .inl (by rw [unitOf_onUnit_same])

theorem testDue_forceTest (h : TestDue s v) : TestDue (forceTest s u) v := by
  by_cases hv : v = u
  · subst hv
    exact testDue_forceTest_same
  · unfold forceTest
    split
    · exact h
    · rwa [TestDue, unitOf_onUnit_ne hv]

/-- R301: every unit of a list forced has its test due. -/
theorem testDue_foldl_forceTest : ∀ u ∈ us, TestDue (us.foldl forceTest s) u :=
  forall_mem_foldl (fun _ _ => testDue_forceTest_same) (fun _ _ _ => testDue_forceTest)

/-- R780: a forced slot that is taken at once becomes a test, and no other unit's is lost. -/
theorem testDue_startForced (h : TestDue s u) : TestDue (startForced s) u := by
  unfold startForced
  refine List.foldlRecOn _ _ (motive := fun a => TestDue a u) h (fun a ha v _ => ?_)
  split
  · exact testDue_startTest ha
  · exact ha

end Sys2Proof.Proofs
end

section
/-! SUPPORT. Fields of the numbers the pool and power commands report: 4-bit digits of unit states, flags of a sum of bits (Tables 7.10 and
7.11). -/

namespace Sys2Proof.Proofs
open Sys2Proof Sys2Proof.Machine Sys2Proof.Claims

variable {s : State} {us : List UnitRef}

/-! ### Bits -/

theorem bitOf_eq_testBit {x i : Nat} : bitOf x i = x.testBit i := by
  rw [Nat.testBit_eq_decide_div_mod_eq]
  rfl

@[simp] theorem flagBit_true {k : Nat} : flagBit true k = 2 ^ k := rfl
@[simp] theorem flagBit_false {k : Nat} : flagBit false k = 0 := rfl

theorem sum_flagBit_lt (f : Nat → Bool) (n : Nat) : ((List.range n).map (fun g => flagBit (f g) g)).sum < 2 ^ n := by
  induction n with
  | zero => simp
  | succ n ih =>
    have hn : flagBit (f n) n ≤ 2 ^ n := by unfold flagBit; split <;> omega
    simp only [List.range_succ, List.map_append, List.map_cons, List.map_nil, List.sum_append, List.sum_cons, List.sum_nil]
    omega

/-- Bit `k` of a sum of flags, each at its own bit, is flag `k`. -/
theorem bitOf_sum_flagBit (f : Nat → Bool) {n k : Nat} (hk : k < n) :
    bitOf ((List.range n).map (fun g => flagBit (f g) g)).sum k = f k := by
  rw [bitOf_eq_testBit]
  induction n with
  | zero => omega
  | succ n ih =>
    have hlt := sum_flagBit_lt f n
    simp only [List.range_succ, List.map_append, List.map_cons, List.map_nil, List.sum_append, List.sum_cons, List.sum_nil, Nat.add_zero,
      Nat.add_comm _ (flagBit (f n) n)]
    rcases Nat.lt_succ_iff_lt_or_eq.mp hk with h | rfl
    · rw [← ih h]
      cases hf : f n
      · simp
      · simpa using Nat.testBit_two_pow_add_gt h _
    · cases hf : f k
      · simpa using Nat.testBit_lt_two_pow hlt
      · simp [Nat.testBit_two_pow_add_eq, Nat.testBit_lt_two_pow hlt]

/-! ### Digits -/

theorem code_lt (p : PoolState) : p.code < 16 := by cases p <;> decide

/-- Digit `n` of a number put together from digits of 4 bits. -/
theorem bitsOf_leNat4 {l : List Nat} {n : Nat} (hl : ∀ x ∈ l, x < 16) : bitsOf (codes.leNat4 l) (4 * n) 4 = l.getD n 0 := by
  induction l generalizing n with
  | nil => simp [codes.leNat4, bitsOf]
  | cons x r ih =>
    have hx := hl x (by simp)
    cases n with
    | zero => simp only [codes.leNat4, bitsOf, List.getD_cons_zero]; omega
    | succ n =>
      rw [List.getD_cons_succ, ← ih (fun y hy => hl y (by simp [hy]))]
      have hpow : 2 ^ (4 * (n + 1)) = 16 * 2 ^ (4 * n) := by rw [Nat.mul_add, Nat.pow_add, Nat.mul_comm]
      have hdiv : (x + 16 * codes.leNat4 r) / 16 = codes.leNat4 r := by omega
      simp only [codes.leNat4, bitsOf, hpow, ← Nat.div_div_eq_div_mul, hdiv]

/-- The state code of frond `n`, 0 for a number no frond has. -/
def frondCode (s : State) (n : Nat) : Nat := if h : n < 64 then (frondState s ⟨n, h⟩).code else 0

/-- Digit `n` of the codes of eight fronds is the state of frond `a + n`. -/
theorem bitsOf_codes_fronds {a n : Nat} (hn : n < 8) (h : a + n < 64) :
    bitsOf (codes s (((fronds.map .frond).drop a).take 8)) (4 * n) 4 = frondCode s (a + n) := by
  rw [codes, bitsOf_leNat4 (by
    intro x hx
    obtain ⟨u, -, rfl⟩ := List.mem_map.mp hx
    exact code_lt _)]
  simp [fronds, frondState, frondCode, hn, h]

theorem countFailed_le : countFailed s us ≤ us.length := List.length_filter_le _ _

end Sys2Proof.Proofs
end

section
/-! SUPPORT. The pool, power and health commands, one by one: what each answers once it starts (Tables 7.10 to 7.12, R290 to R303), and O45. -/

namespace Sys2Proof.Proofs
open Sys2Proof Sys2Proof.Machine Sys2Proof.Claims

variable {s : State} {c : Cmd} {j : Job}

/-! ### The rows -/

theorem exec_poolStatus : exec (.poolStatus c) s = execPoolStatus c s := rfl
theorem exec_unitOut : exec (.unitOut c) s = execUnitOut c s := rfl
theorem exec_unitReturn : exec (.unitReturn c) s = execUnitReturn c s := rfl
theorem exec_powerSet : exec (.powerSet c) s = execPowerSet c s := rfl
theorem exec_powerStatus : exec (.powerStatus c) s = execPowerStatus c s := rfl
theorem exec_domainSet : exec (.domainSet c) s = execDomainSet c s := rfl
theorem exec_schedSet : exec (.schedSet c) s = execSchedSet c s := rfl
theorem exec_healthStatus : exec (.healthStatus c) s = execHealthStatus c s := rfl
theorem exec_selfTest : exec (.selfTest c) s = execSelfTest c s := rfl
theorem exec_istControl : exec (.istControl c) s = execIstControl c s := rfl

/-! ### POOL_STATUS -/

theorem poolStatus_refused (h : Starts 0x0901 c s j) (hk : 2 < param c 0 1) : Answers (.poolStatus c) s (started s c j) j (bad 0) :=
  exec_poolStatus.trans (xci_answers h (by simp [hk]))

/-- The reply for KIND 0 and 1: the states of 32 fronds. -/
def frondCodes (s : State) (k : Nat) : Reply :=
  let w := fun i => codes s (((fronds.map .frond).drop (32 * k + 8 * i)).take 8)
  { res0 := w 0, res1 := w 1, res2 := w 2, res3 := w 3 }

theorem poolStatus_answers (h : Starts 0x0901 c s j) (hk : param c 0 1 ≤ 1) :
    Answers (.poolStatus c) s (started s c j) j (frondCodes s (param c 0 1)) := by
  have h2 : ¬ 2 < param c 0 1 := by omega
  have hne : param c 0 1 ≠ 2 := by omega
  exact exec_poolStatus.trans (xci_answers h (by simp [h2, hne, frondCodes]))

/-- Digit `n` of each of its words is the state of one frond, in ascending order. -/
theorem bitsOf_frondCodes {k : Nat} (hk : k ≤ 1) (n : Fin 8) : let r := frondCodes s k
    bitsOf r.res0 (4 * n) 4 = frondCode s (32 * k + 0 + n) ∧ bitsOf r.res1 (4 * n) 4 = frondCode s (32 * k + 8 + n) ∧
      bitsOf r.res2 (4 * n) 4 = frondCode s (32 * k + 16 + n) ∧ bitsOf r.res3 (4 * n) 4 = frondCode s (32 * k + 24 + n) := by
  have hn := n.isLt
  exact ⟨bitsOf_codes_fronds hn (by omega), bitsOf_codes_fronds hn (by omega), bitsOf_codes_fronds hn (by omega),
    bitsOf_codes_fronds hn (by omega)⟩

/-! ### UNIT_OUT and UNIT_RETURN -/

/-- The units that KIND and INDEX of a command name. -/
abbrev namedUnits (c : Cmd) : List UnitRef := unitsOfKind (param c 0 1) (param c 1 1)

/-- R290: none of the named units of a UNIT_OUT is OUT or SHED, and they leave a frond in service. -/
structure MayGoOut (s : State) (c : Cmd) : Prop where
  named : unitNamed (param c 0 1) (param c 1 1) = none
  inside : (namedUnits c).any (fun u => (unitOf s u).st == .out || (unitOf s u).st == .shed) = false
  enough : 2 ≤ param c 0 1 ∨ frondsLeft s (namedUnits c) ≠ 0

theorem unitOut_poolState (h : Starts 0x0902 c s j) (hn : unitNamed (param c 0 1) (param c 1 1) = none)
    (hout : (namedUnits c).any (fun u => (unitOf s u).st == .out || (unitOf s u).st == .shed) = true) :
    Answers (.unitOut c) s (started s c j) j { status := 0x0901 } :=
  exec_unitOut.trans (xci_answers h (by simp [hn, hout, fail, Status.poolState, -List.any_eq_true]))

theorem unitOut_poolMinimum (h : Starts 0x0902 c s j) (hn : unitNamed (param c 0 1) (param c 1 1) = none)
    (hin : (namedUnits c).any (fun u => (unitOf s u).st == .out || (unitOf s u).st == .shed) = false)
    (hk : param c 0 1 < 2) (hleft : frondsLeft s (namedUnits c) = 0) :
    Answers (.unitOut c) s (started s c j) j { status := 0x0902 } :=
  exec_unitOut.trans (xci_answers h (by simp [hn, hin, hk, hleft, fail, Status.poolMinimum, -List.any_eq_false]))

/-- The check of R290 on what stays in service passes. -/
theorem MayGoOut.minimum_met (hm : MayGoOut s c) : (decide (param c 0 1 < 2) && frondsLeft s (namedUnits c) == 0) = false := by
  rcases hm.enough with hk | hleft
  · simp [Nat.not_lt.mpr hk]
  · simp [hleft]

theorem unitOut_answers (h : Starts 0x0902 c s j) (hm : MayGoOut s c)
    (hfree : (namedUnits c).any (fun u => (unitOf s u).forced || inSlot s u) = false) :
    let gone := (namedUnits c).foldl takeOut (started s c j)
    let v := dispatch (if param c 0 1 < 2 then poolChanged gone else gone)
    Answers (.unitOut c) s v j { res0 := ((namedUnits c).head?.map (fun u => (unitOf s u).st.code)).getD 0, res1 := poolStatus v } :=
  exec_unitOut.trans (xci_answers h (by
    simp only [hm.named, hm.inside, hm.minimum_met, hfree, when_false, unlessRefused_passed, unlessRefused_nil, unitOf_onJob, inSlot_onJob,
      frondsLeft_onJob, Bool.false_eq_true, if_false]))

/-- Table 7.14: a test slot that is due or taken ends first, and until then the command has not started. -/
theorem unitOut_waits (h : Starts 0x0902 c s j) (hm : MayGoOut s c)
    (htest : (namedUnits c).any (fun u => (unitOf s u).forced || inSlot s u) = true) :
    Begins (.unitOut c) s (onJob (started s c j) c (fun x => { x with stage := .fetched })) :=
  exec_unitOut.trans (xci_begins h (by
    simp only [hm.named, hm.inside, hm.minimum_met, htest, when_false, unlessRefused_passed, unlessRefused_nil, unitOf_onJob, inSlot_onJob,
      frondsLeft_onJob, if_true, backToQueue]))

theorem unitReturn_poolState (h : Starts 0x0903 c s j) (hn : unitNamed (param c 0 1) (param c 1 1) = none)
    (hin : (namedUnits c).any (fun u => (unitOf s u).st != .out) = true) :
    Answers (.unitReturn c) s (started s c j) j { status := 0x0901 } :=
  exec_unitReturn.trans (xci_answers h (by simp [hn, hin, fail, Status.poolState, -List.any_eq_true]))

/-- R293: the named units start their known-answer sets, and no other unit changes. -/
theorem unitReturn_starts_tests (h : Starts 0x0903 c s j) (hn : unitNamed (param c 0 1) (param c 1 1) = none)
    (hout : (namedUnits c).any (fun u => (unitOf s u).st != .out) = false) :
    ∃ v, exec (.unitReturn c) s = .next v ∧ (∀ u ∈ namedUnits c, (unitOf v u).st = .testing ∧ (unitOf v u).why = .returning) ∧
      ∀ u, u ∉ namedUnits c → unitOf v u = unitOf s u := by
  refine ⟨_, exec_unitReturn.trans (xci_begins h (by simp [hn, hout, -List.any_eq_false]; rfl)), ?_, fun u hu => ?_⟩
  · exact foldl_startTest_mem
  · exact (unitOf_onJob.trans (foldl_startTest_not_mem hu)).trans unitOf_onJob

/-! ### POWER_SET and SCHED_SET -/

/-- A change of the command's job is the same under the entry it runs and under the one its job carries. -/
theorem onJob_cmd_of_starts {op : Nat} {t : State} {f : Job → Job} (h : Starts op c s j) : onJob t j.cmd f = onJob t c f := by
  rw [(cmd_op_of_starts h).1]

/-- A commit group set on an issuer's behalf that applies at a later boundary is staged, its GO written, and the command waits (R109). -/
theorem setGroup_deferred {t : State} {g : CommitGroup} {v off : Nat} {res : Bool} (hw : waits t g = true) :
    setGroup t j g v off res =
      (onJob (commitGo (onCommit (stageGroup t g v) (commitKey g) (fun r => { r with rejected := false })) g) j.cmd
        (fun x => { x with aux := commitKey g + 1, aux2 := off + (if res then 2 ^ 16 else 0) }), none) := by
  simp [setGroup, hw, groupMark]

theorem powerSet_cap_refused (h : Starts 0x0904 c s j) (hcap : param c 0 2 < 30 ∨ 115 < param c 0 2) :
    Answers (.powerSet c) s (started s c j) j (bad 0) :=
  exec_powerSet.trans (xci_answers h (by simp [hcap]))

section
variable (hlo : 30 ≤ param c 0 2) (hhi : param c 0 2 ≤ 115)
include hlo hhi

theorem powerSet_idle_refused (h : Starts 0x0904 c s j) (hidle : param c 2 2 = 0 ∨ 1000 < param c 2 2) :
    Answers (.powerSet c) s (started s c j) j (bad 2) :=
  exec_powerSet.trans (xci_answers h (by simp [Nat.not_lt.mpr hlo, Nat.not_lt.mpr hhi, hidle]))

theorem powerSet_begins (h : Starts 0x0904 c s j) (hidle : 1 ≤ param c 2 2) (hidle' : param c 2 2 ≤ 1000) (hd : param c 4 1 ≤ 1)
    (hb : (commitReg s (commitKey .power)).busy = false) :
    Begins (.powerSet c) s (onJob (commitGo (onCommit
      (stageGroup (started s c j) .power (param c 0 2 + param c 2 2 * 2 ^ 8 + param c 4 1 * 2 ^ 18)) (commitKey .power)
      (fun r => { r with rejected := false })) .power) c (fun x => { x with aux := commitKey .power + 1, aux2 := 0 })) := by
  have hne : param c 2 2 ≠ 0 := by omega
  exact exec_powerSet.trans (xci_begins h (by
    simp [Nat.not_lt.mpr hlo, Nat.not_lt.mpr hhi, hne, Nat.not_lt.mpr hidle', Nat.not_lt.mpr hd, hb,
      setGroup_deferred (g := .power) rfl, onJob_cmd_of_starts h]))
end

theorem schedSet_begins (h : Starts 0x0907 c s j) (hb : (commitReg s (commitKey .sched)).busy = false) :
    Begins (.schedSet c) s (onJob (commitGo (onCommit (stageGroup (started s c j) .sched (param c 0 4)) (commitKey .sched)
      (fun r => { r with rejected := false })) .sched) c (fun x => { x with aux := commitKey .sched + 1, aux2 := 0 })) :=
  exec_schedSet.trans (xci_begins h (by simp [hb, setGroup_deferred (g := .sched) rfl, onJob_cmd_of_starts h]))

/-! ### POWER_STATUS and DOMAIN_SET -/

theorem powerStatus_answers (h : Starts 0x0905 c s j) :
    ∃ r, Answers (.powerStatus c) s (started s c j) j r ∧ r.status = 0 ∧ r.res0 = rhzStatus s ∧
      r.res1 = effectiveCap s + custodianCap s * 2 ^ 8 + budgetMw s / 100 % 256 * 2 ^ 16 + s.power.allowance * 2 ^ 24 ∧
      ∀ g : Fin 16, bitOf r.res3 g.val = domainOn s g.val :=
  ⟨_, exec_powerStatus.trans (xci_answers h rfl), rfl, rfl, rfl, fun g => bitOf_sum_flagBit _ g.isLt⟩

theorem domainSet_refused {d : Nat} (h : Starts 0x0906 c s j) (hd : offFail (started s c j) (param c 0 8) = some d) :
    Answers (.domainSet c) s (started s c j) j (bad (d / 8)) :=
  exec_domainSet.trans (xci_answers h (by simp [hd]))

/-- R297: the set waits for the next epoch boundary. -/
theorem domainSet_begins (h : Starts 0x0906 c s j) (hd : offFail (started s c j) (param c 0 8) = none) (hnext : s.power.offNext = none) :
    Begins (.domainSet c) s ((started s c j).onPower (fun p => { p with offNext := some (BitVec.ofNat 64 (param c 0 8)) })) :=
  exec_domainSet.trans (xci_begins h (by simp [hd, hnext]))

/-! ### HEALTH_STATUS, SELF_TEST and IST_CONTROL -/

/-- R300: COVERAGE is bit 19, since no count of failed units below it reaches that far. -/
theorem bitOf_healthFlags (a b d n : Nat) (x y z w : Bool) (ha : a ≤ 64) (hb : b ≤ 2) (hd : d ≤ 4) :
    bitOf (a + b * 2 ^ 8 + d * 2 ^ 10 + flagBit x 16 + flagBit y 17 + flagBit z 18 + flagBit w 19 + n * 2 ^ 20) 19 = w := by
  have hf : ∀ (b : Bool) (k : Nat), flagBit b k = b.toNat * 2 ^ k := by
    intro b k
    cases b <;> simp
  have hx := x.toNat_le
  have hy := y.toNat_le
  have hz := z.toNat_le
  have hw := w.toNat_le
  have : (a + b * 2 ^ 8 + d * 2 ^ 10 + x.toNat * 2 ^ 16 + y.toNat * 2 ^ 17 + z.toNat * 2 ^ 18 + w.toNat * 2 ^ 19 + n * 2 ^ 20) / 2 ^ 19 % 2
      = w.toNat := by omega
  simp only [bitOf, hf, this]
  cases w <;> rfl

theorem healthStatus_answers (h : Starts 0x0D01 c s j) :
    ∃ r, Answers (.healthStatus c) s (started s c j) j r ∧ r.status = 0 ∧
      (bitOf r.res0 19 = true ↔ s.health.istDisabled = false ∧ s.pinnas.split = false ∧ s.power.vinInRange = true) ∧
      r.detail = s.clocks.retransmissions % 2 ^ 32 + s.health.doubles % 2 ^ 32 * 2 ^ 32 ∧ r.res2 = s.health.scrubPasses % 2 ^ 32 := by
  refine ⟨_, exec_healthStatus.trans (xci_answers h rfl), rfl, ?_, rfl, rfl⟩
  rw [bitOf_healthFlags _ _ _ _ _ _ _ _ countFailed_le countFailed_le countFailed_le]
  simp [and_assoc]

theorem unitNamed_eq_none {k i : Nat} (hk : k ≤ 3) (hus : unitsOfKind k i ≠ []) : unitNamed k i = none := by
  simp [unitNamed, Nat.not_lt.mpr hk, hus]

theorem selfTest_poolState (h : Starts 0x0D02 c s j) (hk : param c 0 1 ≤ 3) (hus : namedUnits c ≠ [])
    (hnone : selfTested s (param c 0 1) (param c 1 1) = []) : Answers (.selfTest c) s (started s c j) j { status := 0x0901 } :=
  exec_selfTest.trans (xci_answers h (by
    simp [hk, hk.trans (Nat.le_add_right 3 2), unitNamed_eq_none hk hus, hnone, fail, Status.poolState]))

/-- R301: a forced slot is due on every named unit, or it is in test already. -/
theorem selfTest_forces (h : Starts 0x0D02 c s j) (hk : param c 0 1 ≤ 3) (hus : namedUnits c ≠ [])
    (hsome : selfTested s (param c 0 1) (param c 1 1) ≠ []) :
    ∃ v, exec (.selfTest c) s = .next v ∧ ∀ u ∈ selfTested s (param c 0 1) (param c 1 1), TestDue v u := by
  refine ⟨_, exec_selfTest.trans (xci_begins h (by
    simp [hk, hk.trans (Nat.le_add_right 3 2), unitNamed_eq_none hk hus, hsome]; rfl)), fun u hu => ?_⟩
  exact testDue_startForced (testDue_foldl_forceTest (s := started s c j) u hu)

theorem istControl_locked (h : Starts 0x0D03 c s j) (hk : param c 0 1 ≤ 1) (hl : lifecycle s ≠ 1) :
    Answers (.istControl c) s (started s c j) j { status := 0x0D02 } :=
  exec_istControl.trans (xci_answers h (by simp [Nat.not_lt.mpr hk, hl, fail, Status.testLocked]))

theorem istControl_sets (h : Starts 0x0D03 c s j) (hk : param c 0 1 ≤ 1) (hl : lifecycle s = 1) :
    Answers (.istControl c) s ((started s c j).onHealth (fun x => { x with istDisabled := decide (param c 0 1 = 1) })) j {
      res0 := 1 - param c 0 1 } := by
  have hbit : bitOf (param c 0 1) 0 = decide (param c 0 1 = 1) := by
    have : param c 0 1 % 2 = param c 0 1 := by omega
    rw [bitOf, pow_zero, Nat.div_one, this]
    rfl
  have hres : (if param c 0 1 = 1 then 0 else 1) = 1 - param c 0 1 := by split <;> omega
  exact exec_istControl.trans (xci_answers h (by simp [Nat.not_lt.mpr hk, hl, hbit, hres]))

/-! ### The statement -/

/-- Settles O45: each command by its own lemmas above. -/
theorem poolAndPowerCommands : Obligations.PoolAndPowerCommands := by
  unfold Obligations.PoolAndPowerCommands
  intro s c j t us
  refine ⟨fun h => ?poolStatus, fun h hn => ?unitOut, fun h hn => ?unitReturn, fun h => ?powerSet, schedSet_begins, powerStatus_answers,
    fun h => ?domainSet, healthStatus_answers, fun h hk hus => ?selfTest, fun h hk => ?istControl⟩
  case poolStatus => exact ⟨poolStatus_refused h, fun hk => ⟨_, poolStatus_answers h hk, rfl, bitsOf_frondCodes hk⟩⟩
  case unitOut =>
    refine ⟨unitOut_poolState h hn, fun hin => ⟨unitOut_poolMinimum h hn hin, fun hk hfree => ?_, fun hk => unitOut_waits h ⟨hn, hin, hk⟩⟩⟩
    exact ⟨unitOut_answers h ⟨hn, hin, hk⟩ hfree, st_foldl_takeOut⟩
  case unitReturn => exact ⟨unitReturn_poolState h hn, unitReturn_starts_tests h hn⟩
  case powerSet =>
    exact ⟨powerSet_cap_refused h, fun hlo hhi => powerSet_idle_refused hlo hhi h, fun hlo hhi => powerSet_begins hlo hhi h⟩
  case domainSet => exact ⟨fun _ => domainSet_refused h, domainSet_begins h⟩
  case selfTest => exact ⟨selfTest_poolState h hk hus, selfTest_forces h hk hus⟩
  case istControl => exact ⟨istControl_locked h hk, istControl_sets h hk⟩

end Sys2Proof.Proofs
end

section
/-! SUPPORT. What raising Hypha sources and appending log entries leave in the power registers: all but what a wake from DOZE writes (R51,
R52). The events of the feed, the regulator and the sensors read on after they have raised and logged. -/

namespace Sys2Proof.Proofs
open Sys2Proof Sys2Proof.Machine Sys2Proof.Claims

variable {s : State}

/-- The power registers but those that a wake from DOZE writes. -/
def restOfPower (s : State) : Power := { s.power with state := .active, waking := false, idleSince := 0 }

theorem restOfPower_congr {t : State} (h : t.power = s.power) : restOfPower t = restOfPower s := by
  unfold restOfPower
  rw [h]

@[simp] theorem restOfPower_dozeWake : restOfPower (dozeWake s) = restOfPower s := by
  unfold dozeWake
  split <;> rfl

/-! ### What leaves the power registers alone -/

@[simp] theorem setSpore_power {w : Nat} {v : U64} : (setSpore s w v).power = s.power := rfl
@[simp] theorem hostWrite_power {f : FnId} {a : Nat} {bs : Bytes} : (hostWrite s f a bs).power = s.power := rfl
@[simp] theorem setStatusBit_power {k : Nat} {b : Bool} : (setStatusBit s k b).power = s.power := setSpore_power
@[simp] theorem countOverflow_power {k : Nat} : (countOverflow s k).power = s.power := setStatusBit_power.trans setSpore_power

@[simp] theorem bumpSpore_power {n : Nat} : (bumpSpore s n).power = s.power := by
  simp only [bumpSpore]
  split
  · rfl
  · exact setSpore_power.trans setSpore_power

@[simp] theorem writeEntry_power {n : Note} : (writeEntry s n).power = s.power := by
  simp only [writeEntry]
  split
  · rw [bumpSpore_power, State.onLog_power]
  · rw [State.onLog_power]

@[simp] theorem logPlace_power {n : Note} : (logPlace s n).power = s.power := by
  simp only [logPlace]
  split_ifs <;> simp

@[simp] theorem signal_power {f : FnId} {v : Nat} : (signal s f v).power = s.power := by
  simp only [signal]
  split
  · exact hostWrite_power
  · rw [State.onLink_power]

@[simp] theorem wakeUnit_power {u : Nat} : (wakeUnit s u).1.power = s.power := by
  simp only [wakeUnit]
  split_ifs <;> rfl

@[simp] theorem restOfPower_onLog {h : Log → Log} : restOfPower (s.onLog h) = restOfPower s := rfl

/-! ### Tasks and entries -/

section
variable {put : State → Note → State} (hput : ∀ a n, restOfPower (put a n) = restOfPower a)
include hput

theorem restOfPower_taskAction {t e : Nat} : restOfPower (taskAction put s t e) = restOfPower s := by
  simp only [taskAction]
  split_ifs
  · rfl
  · exact restOfPower_congr wakeUnit_power
  · exact restOfPower_congr wakeUnit_power
  · rfl
  · rfl
  · rfl
  · exact restOfPower_congr signal_power
  · exact hput ..

theorem restOfPower_reachTasks {l : List Nat} : restOfPower (reachTasks put s l) = restOfPower s := by
  refine List.foldlRecOn _ _ (motive := fun a => restOfPower a = restOfPower s) rfl (fun a ha t _ => ?_)
  rw [← ha]
  dsimp only
  split_ifs
  · rfl
  · exact restOfPower_taskAction hput
  · rfl

theorem restOfPower_raiseWith {l : List Nat} : restOfPower (raiseWith put s l) = restOfPower s := by
  simp only [raiseWith]
  split
  · rw [restOfPower_dozeWake, restOfPower_reachTasks hput]
  · exact restOfPower_reachTasks hput
end

@[simp] theorem restOfPower_logPlace {n : Note} : restOfPower (logPlace s n) = restOfPower s := restOfPower_congr logPlace_power

theorem restOfPower_logLevels {r : State → List Nat → State} (hr : ∀ a l, restOfPower (r a l) = restOfPower a) :
    restOfPower (logLevels r s) = restOfPower s := by
  simp only [logLevels]
  split_ifs <;> simp only [restOfPower_logPlace, hr, restOfPower_onLog]

theorem restOfPower_appendNote {n : Note} : restOfPower (appendNote s n) = restOfPower s := by
  rw [appendNote, restOfPower_logLevels (fun _ _ => restOfPower_raiseWith (fun _ _ => restOfPower_logPlace)), restOfPower_logPlace]

@[simp] theorem restOfPower_append {k src d : Nat} : restOfPower (append s k src d) = restOfPower s := restOfPower_appendNote

@[simp] theorem restOfPower_raise {l : List Nat} : restOfPower (raise s l) = restOfPower s :=
  restOfPower_raiseWith (fun _ _ => restOfPower_appendNote)

@[simp] theorem restOfPower_thermalEntry {k n : Nat} {t : Int} : restOfPower (thermalEntry s k n t) = restOfPower s := restOfPower_append

end Sys2Proof.Proofs
end

section
/-! SUPPORT. FEED_WARN, dips, last gasp, VIN_STOP and the faults of the regulator (chapter 2, R74 to R90). -/

namespace Sys2Proof.Proofs
open Sys2Proof Sys2Proof.Machine Sys2Proof.Claims

variable {s : State}

/-! ### The rows -/

theorem exec_feedWarn {dip : Bool} : exec (.feedWarn dip) s = execFeedWarn dip s := rfl
theorem exec_dipRideThrough : exec .dipRideThrough s = execDipRideThrough s := rfl
theorem exec_feedLossQualify : exec .feedLossQualify s = execFeedLossQualify s := rfl
theorem exec_feedDip : exec .feedDip s = execFeedDip s := rfl
theorem exec_vinStop {vbak : Bool} : exec (.vinStop vbak) s = execVinStop vbak s := rfl
theorem exec_phaseLost {ph : Fin 4} {c : PhaseCause} : exec (.phaseLost ph c) s = execPhaseLost ph c s := rfl
theorem exec_vcoreLow {mv : BitVec 16} {ok : Bool} : exec (.vcoreLow mv ok) s = execVcoreLow mv ok s := rfl
theorem exec_vcoreLowTimeout : exec .vcoreLowTimeout s = execVcoreLowTimeout s := rfl
theorem exec_vcoreHigh {mv : BitVec 16} : exec (.vcoreHigh mv) s = execVcoreHigh mv s := rfl
theorem exec_rhzClock : exec .rhzClock s = execRhzClock s := rfl

/-! ### FEED_WARN (R74, R85, R893) -/

/-- FEED_WARN is recorded with VCORE and Seta as they stand. -/
def warnedState (s : State) (dip : Bool) : State :=
  s.onPower (fun p => { p with
    feedWarn := true, vcoreAtWarn := p.vcore, warnAt := s.clocks.seta, abortedAtWarn := s.power.target.isSome, qualified := dip })

/-- A transition is aborted, to the safe point (R85). -/
def abortMove (p : Power) : Power := { p with aborted := true, target := none, vcore := 20, op := .safe, clk := .safe }

theorem moveToSafe_of_moving {t : State} (h : t.power.target.isSome = true) : moveToSafe t = t.onPower abortMove := by
  simp only [moveToSafe, State.onPower, h, Bool.or_true]
  rfl

section
variable {dip : Bool}

theorem feedWarn_in_powerUp (hfed : fed s = true) (h2 : s.boot.powerUp = 2) : exec (.feedWarn dip) s = .next (switchedOff s true) := by
  simp [exec_feedWarn, execFeedWarn, hfed, h2]

variable (hfed : fed s = true) (h1 : s.boot.powerUp ≠ 1) (h2 : s.boot.powerUp ≠ 2)
include hfed h1 h2

theorem feedWarn_again (hw : s.power.feedWarn = true) :
    exec (.feedWarn dip) s = .next (s.onPower (fun p => { p with qualified := p.qualified || (dip && !p.quiesced) })) := by
  simp [exec_feedWarn, execFeedWarn, hfed, h1, h2, hw]

theorem feedWarn_taken (hw : s.power.feedWarn = false) :
    let n := if s.power.target.isSome then (warnedState s dip).onPower abortMove else warnedState s dip
    exec (.feedWarn dip) s = .next (if running s then raiseWaking n [31] else n) := by
  have aborted : (if s.power.target.isSome then (warnedState s dip).onPower abortMove else warnedState s dip) =
      if s.power.target.isSome then moveToSafe (warnedState s dip) else warnedState s dip := by
    split
    next hmv => exact (moveToSafe_of_moving (t := warnedState s dip) hmv).symm
    · rfl
  simp only [aborted, exec_feedWarn, execFeedWarn, hfed, h1, h2, hw, Bool.not_true, Bool.false_or, beq_iff_eq, if_false, Bool.false_eq_true]
  rfl
end

/-! ### Dips and last gasp (R75, R76) -/

theorem dipRideThrough_clears (hw : s.power.feedWarn = true) (hz : s.power.quiesced = false) (hq : s.power.qualified = false)
    (ht : s.clocks.seta ≤ s.power.warnAt + 2000) : exec .dipRideThrough s = .next (clearWarn (bumpDip s)) := by
  simp [exec_dipRideThrough, execDipRideThrough, hw, hz, hq, ht]

theorem feedLossQualify_starts (hw : s.power.feedWarn = true) (hz : s.power.quiesced = false) (hr : running s = true) :
    exec .feedLossQualify s = .next (lastGasp (if s.power.qualified then s else atInstant s (s.power.warnAt + 2000))) := by
  simp [exec_feedLossQualify, execFeedLossQualify, hw, hz, hr]

/-! ### The resume (R78, R79, R80, R880) -/

/-- FEED_DIP clears FEED_WARN, powers what was held back, appends what was held and logs the dip (R78, R79). -/
def resumed (s : State) : State :=
  let m := (clearWarn s).onPower (fun p => { p with quiesced := false })
  pwrEvent (logDip (releaseHeld (unhold m (resumeDomains m)))) 0

section
variable (hz : s.power.quiesced = true) (hw : s.power.feedWarn = true)
include hz hw

theorem feedDip_resets (hr : s.power.heldReset ≠ 0) :
    exec .feedDip s = .next (deviceReset (resumed s) .pcieIncluded s.power.heldReset) := by
  simp [exec_feedDip, execFeedDip, hz, hw, hr, resumed]

theorem feedDip_resumes (hr : s.power.heldReset = 0) :
    let n := notePool s (answerHeld (startErases (resumed s)))
    exec .feedDip s = .next (dispatch (raise (n.onPairs (SMap.mapV {} (fun _ p => { p with doorbell := false }))) (recordedDoorbells n))) := by
  simp [exec_feedDip, execFeedDip, hz, hw, hr, resumed]
end

/-! ### FEED_DIP in the log (R79) -/

/-- A second has passed since the last FEED_DIP, or none was logged. -/
def DipDue (s : State) : Prop := s.power.lastFeedDip = none ∨ ∃ t, s.power.lastFeedDip = some t ∧ t + 100000000 ≤ s.clocks.seta

theorem logDip_due (h : DipDue s) :
    logDip s = append (s.onPower (fun p => { p with
        dipCount := BitVec.ofNat 8 (min 255 (s.power.dipCount.toNat + 1)), lastFeedDip := some s.clocks.seta, dipsSince := 0 }))
      Entry.feedDip Src.xemberon (min 255 s.power.dipsSince + s.power.vcoreAtWarn * 2 ^ 8 + bit s.power.abortedAtWarn 16 +
        min 0xFFFFFFFF (s.clocks.seta - s.power.warnAt) * 2 ^ 32) := by
  rcases h with h | ⟨t, h, ht⟩
  · simp only [logDip, h, if_true]
    rfl
  · simp only [logDip, h, ge_iff_le, ht, decide_true, if_true]
    rfl

theorem logDip_early {t : Nat} (h : s.power.lastFeedDip = some t) (ht : s.clocks.seta < t + 100000000) :
    logDip s = s.onPower (fun p => { p with
      dipCount := BitVec.ofNat 8 (min 255 (s.power.dipCount.toNat + 1)), dipsSince := p.dipsSince + 1 }) := by
  simp only [logDip, h, ge_iff_le, Nat.not_le.mpr ht, decide_false, Bool.false_eq_true, if_false]
  rfl

/-! ### VIN_STOP (R80, R81, R893) -/

theorem sporeWord_setSpore_ne {w k : Nat} {v : U64} (h : k ≠ w) : sporeWord (setSpore s w v) k = sporeWord s k := SMap.get_set_ne h

/-- R753: the overflow words lie behind the seed. -/
theorem overflowPlace_ge {k : Nat} : 476 ≤ overflowPlace s k := by
  unfold overflowPlace
  split <;> omega

theorem sporeWord_countOverflow {k w : Nat} (hw : w < 48) : sporeWord (countOverflow s k) w = sporeWord s w := by
  have := overflowPlace_ge (s := s) (k := k)
  exact (sporeWord_setSpore_ne (by omega)).trans (sporeWord_setSpore_ne (by omega))

/-- The Spore store alone differs. -/
def OnlySpore (s t : State) : Prop := ∃ p, t = s.onSpore (fun _ => p)

theorem OnlySpore.refl : OnlySpore s s := ⟨s.spore, rfl⟩

theorem OnlySpore.trans {t u : State} (h : OnlySpore s t) (h' : OnlySpore t u) : OnlySpore s u := by
  obtain ⟨p, rfl⟩ := h
  obtain ⟨q, rfl⟩ := h'
  exact ⟨q, rfl⟩

theorem onlySpore_setSpore {w : Nat} {v : U64} : OnlySpore s (setSpore s w v) := ⟨_, rfl⟩
theorem onlySpore_setStatusBit {k : Nat} {b : Bool} : OnlySpore s (setStatusBit s k b) := onlySpore_setSpore
theorem onlySpore_countOverflow {k : Nat} : OnlySpore s (countOverflow s k) := onlySpore_setSpore.trans onlySpore_setStatusBit

/-- Counting the entries held in last gasp changes the Spore store, not its seed, and drops them. -/
theorem countHeld_eq : ∃ p, countHeld s = (s.onSpore (fun _ => p)).onLog (fun l => { l with held := [] }) ∧
    ∀ w < 48, SMap.get 0 p.words w = sporeWord s w := by
  have counted : OnlySpore s (s.log.held.foldl (fun a n => countOverflow a n.type) s) ∧
      ∀ w < 48, sporeWord (s.log.held.foldl (fun a n => countOverflow a n.type) s) w = sporeWord s w :=
    List.foldlRecOn _ _ (motive := fun a => OnlySpore s a ∧ ∀ w < 48, sporeWord a w = sporeWord s w) ⟨.refl, fun _ _ => rfl⟩
      (fun _ ha _ _ => ⟨ha.1.trans onlySpore_countOverflow, fun w hw => (sporeWord_countOverflow hw).trans (ha.2 w hw)⟩)
  obtain ⟨⟨p, hp⟩, hwords⟩ := counted
  rw [hp] at hwords
  exact ⟨p, by rw [countHeld, hp], hwords⟩

/-- What VIN_STOP leaves of a device: off, the seed and the non-volatile records as they were. -/
structure StoppedFrom (s : State) (vbak : Bool) (t : State) : Prop where
  state : t.power.state = .off
  domains : t.power.domains = 0
  inRange : t.power.vinInRange = false
  sentinel : t.power.sentinel = vbak
  seta : t.clocks.seta = if vbak then s.clocks.seta else 0
  latch : t.tamper.latch = if vbak then s.tamper.latch else 0
  jobs : t.jobs = []
  slots : t.medulla.slots = []
  seed : seedWords t = seedWords s
  held : t.log.held = []
  counters : t.counters = s.counters
  records : t.medulla.records = s.medulla.records

theorem vinStop_resets {vbak : Bool} (hs : s.power.sentinel = true) (hv : s.power.vinStopped = false) :
    ∃ t, exec (.vinStop vbak) s = .next t ∧ StoppedFrom s vbak t := by
  refine ⟨_, by rw [exec_vinStop, execVinStop, hs, hv]; rfl, ?_⟩
  obtain ⟨p, hp, hwords⟩ := countHeld_eq (s := s)
  have hseed : (List.range 4).map (fun i => SMap.get 0 p.words (44 + i)) = seedWords s :=
    List.map_congr_left (fun i hi => hwords _ (by have := List.mem_range.mp hi; omega))
  rw [hp]
  cases vbak
  · exact ⟨rfl, rfl, rfl, rfl, rfl, rfl, rfl, rfl, hseed, rfl, rfl, rfl⟩
  · exact ⟨rfl, rfl, rfl, rfl, rfl, rfl, rfl, rfl, hseed, rfl, rfl, rfl⟩

/-! ### Lost phases (Table 2.12, R87) -/

/-- A phase is disabled and counted. -/
def phaseDisabled (s : State) (ph : Fin 4) : State :=
  s.onPower (fun p => { p with phaseOk := p.phaseOk &&& ~~~((1 : BitVec 4) <<< ph.val), phasesLost := p.phasesLost + 1 })

theorem phasesLost_raiseWaking {ph : Fin 4} {l : List Nat} : (raiseWaking (phaseDisabled s ph) l).power.phasesLost = s.power.phasesLost + 1 :=
  congrArg Power.phasesLost (restOfPower_raise (s := phaseDisabled s ph) (l := l))

section
variable {ph : Fin 4} {c : PhaseCause} (hc : coreUp s = true) (hok : s.power.phaseOk.getLsbD ph.val = true)
include hc hok

theorem phaseLost_noted (hr : running s = false) (hl : s.power.phasesLost < 2) : exec (.phaseLost ph c) s =
    .next ((phaseDisabled s ph).onPower (fun p => { p with phaseNotes := p.phaseNotes ++ [(ph.val, PhaseCause.code c)] })) := by
  simp [exec_phaseLost, execPhaseLost, hc, hok, hr, Nat.not_le.mpr hl, phaseDisabled]

theorem phaseLost_rom_fails (hr : running s = false) (hl : 2 ≤ s.power.phasesLost) : exec (.phaseLost ph c) s =
    .next ((deviceReset (phaseDisabled s ph) .pcieKept 7).onBoot (fun b => { b with heldInReset := true })) := by
  simp [exec_phaseLost, execPhaseLost, hc, hok, hr, hl, phaseDisabled]

theorem phaseLost_reacts (hr : running s = true) (hl : s.power.phasesLost < 2) : exec (.phaseLost ph c) s =
    .next (phaseReaction (raiseWaking (phaseDisabled s ph) [30]) ph.val (PhaseCause.code c)) := by
  have hlost := phasesLost_raiseWaking (s := s) (ph := ph) (l := [30])
  have hlt : ¬ 3 ≤ (raiseWaking (phaseDisabled s ph) [30]).power.phasesLost := by omega
  simp only [exec_phaseLost, execPhaseLost, hc, hok, hr, Bool.not_true, Bool.or_false, Bool.false_eq_true, if_false]
  exact congrArg _ (if_neg hlt)

theorem phaseLost_fails (hr : running s = true) (hl : 2 ≤ s.power.phasesLost) : exec (.phaseLost ph c) s =
    .next (regulatorFailed (raiseWaking (phaseDisabled s ph) [30]) ph.val (PhaseCause.code c)) := by
  have hlost := phasesLost_raiseWaking (s := s) (ph := ph) (l := [30])
  have hge : 3 ≤ (raiseWaking (phaseDisabled s ph) [30]).power.phasesLost := by omega
  simp only [exec_phaseLost, execPhaseLost, hc, hok, hr, Bool.not_true, Bool.or_false, Bool.false_eq_true, if_false]
  exact congrArg _ (if_pos hge)
end

/-- REGULATOR_FAILED holds the device in reset (Table 2.12). -/
theorem regulatorFailed_boot {ph c : Nat} : let b := (regulatorFailed s ph c).boot
    b.heldInReset = true ∧ b.state = .resetting ∧ b.lastReset = 7 := ⟨rfl, rfl, rfl⟩

/-! ### VCORE and the reference clock (R87 to R90) -/

section
variable {mv : BitVec 16} {ok : Bool}

theorem vcoreLow_moves (hc : coreUp s = true) (hr : running s = true) :
    exec (.vcoreLow mv ok) s = .next (append ((moveToSafe (raiseWaking s [32])).onPower (fun p => { p with vcoreLow := !ok }))
      Entry.vcoreLow Src.xemberon (s.power.vcore + mv.toNat * 2 ^ 8 + bit ok 24)) := by
  simp [exec_vcoreLow, execVcoreLow, hc, hr]

theorem vcoreLowTimeout_resets (h : s.power.vcoreLow = true) : exec .vcoreLowTimeout s = .next (faultReset s []) := by
  simp [exec_vcoreLowTimeout, execVcoreLowTimeout, h]

theorem vcoreHigh_resets (hc : coreUp s = true) :
    exec (.vcoreHigh mv) s = .next (faultReset s [note s Entry.vcoreHigh Src.rom (s.power.vcore + mv.toNat * 2 ^ 8)]) := by
  simp [exec_vcoreHigh, execVcoreHigh, hc]

theorem rhzClock_switches (hc : coreUp s = true) (hb : s.power.backupClock = false) :
    let m := s.onPower (fun p => { p with backupClock := true })
    exec .rhzClock s = .next (if running s then noteClock m else m.onPower (fun p => { p with clockNote := true })) := by
  simp [exec_rhzClock, execRhzClock, hc, hb]
end

end Sys2Proof.Proofs
end

section
/-! SUPPORT. Temperatures, DOZE and its wake, epoch boundaries and voltage transitions (chapter 2, R45, R51, R63, R64, R126), and O53. -/

namespace Sys2Proof.Proofs
open Sys2Proof Sys2Proof.Machine Sys2Proof.Claims

variable {s : State}

/-! ### The rows -/

theorem exec_thermalSample {n : Fin 8} {t : BitVec 16} : exec (.thermalSample n t) s = execThermalSample n t s := rfl
theorem exec_thermalAllowanceStep : exec .thermalAllowanceStep s = execThermalAllowanceStep s := rfl
theorem exec_dozeEntry : exec .dozeEntry s = execDozeEntry s := rfl
theorem exec_epochBoundary : exec .epochBoundary s = execEpochBoundary s := rfl

/-! ### Thresholds (Table 2.5, R63, R64) -/

theorem junction_congr {t : State} (h : restOfPower t = restOfPower s) : junction t = junction s := by
  have htemps : (restOfPower t).temps = (restOfPower s).temps := congrArg Power.temps h
  exact congrArg (fun m => m.foldl (fun (x : Int) e => max x e.2) (SMap.get 0 m 0)) htemps

section
variable {n : Nat} {t : Int}

theorem reach110_of_cool (h : junction s < 1100) : reach110 s n t = s := by simp [reach110, h]

theorem reach110_of_reached (h : 1100 ≤ junction s) (hh : s.power.hot = false) :
    reach110 s n t = thermalEntry (raiseWaking (s.onPower (fun p => { p with hot := true })) [34]) 1 n t := by
  simp [reach110, Int.not_lt.mpr h, hh]

theorem reach120_of_below (h : junction s < 1200) : reach120 s n t = s := by simp [reach120, h]
theorem reach125_of_below (h : junction s < 1250) : reach125 s n t = s := by simp [reach125, h]
theorem below105_of_above (h : 1050 ≤ junction s) : below105 s n t = s := by simp [below105, h]
theorem below105_of_not_hot (h : s.power.hot = false) : below105 s n t = s := by simp [below105, h]

theorem below105_ends (h : junction s < 1050) (hh : s.power.hot = true) (hs : s.power.safeHold = none) :
    below105 s n t = dispatch (thermalEntry (raise (s.onPower (fun p => { p with hot := false, sorusStopped := false })) [37]) 4 n t) := by
  have hnone : (thermalEntry (raise (s.onPower (fun p => { p with hot := false, sorusStopped := false })) [37]) 4 n t).power.safeHold = none :=
    (congrArg Power.safeHold (restOfPower_thermalEntry.trans restOfPower_raise)).trans hs
  simp [below105, Int.not_le.mpr h, hh, hnone]
end

section
variable {n : Fin 8} {t : BitVec 16} (hg : Governs s)
include hg

/-- A sample meets the thresholds in turn. -/
theorem thermalSample_governs : exec (.thermalSample n t) s =
    .next (below105 (reach125 (reach120 (reach110 (sampled s n t) n.val t.toInt) n.val t.toInt) n.val t.toInt) n.val t.toInt) := by
  obtain ⟨hr, hz⟩ := hg
  simp [exec_thermalSample, execThermalSample, hr, hz]

theorem thermalSample_below110 (hj : junction (sampled s n t) < 1100) :
    exec (.thermalSample n t) s = .next (below105 (sampled s n t) n.val t.toInt) := by
  rw [thermalSample_governs hg, reach110_of_cool hj, reach120_of_below (by omega), reach125_of_below (by omega)]

theorem thermalSample_cool (hj : junction (sampled s n t) < 1100) (hh : s.power.hot = false) :
    exec (.thermalSample n t) s = .next (sampled s n t) := by
  rw [thermalSample_below110 hg hj, below105_of_not_hot (by exact hh)]

theorem thermalSample_between (hlo : 1050 ≤ junction (sampled s n t)) (hj : junction (sampled s n t) < 1100) :
    exec (.thermalSample n t) s = .next (sampled s n t) := by
  rw [thermalSample_below110 hg hj, below105_of_above hlo]

theorem thermalSample_reaches110 (hlo : 1100 ≤ junction (sampled s n t)) (hj : junction (sampled s n t) < 1200) (hh : s.power.hot = false) :
    exec (.thermalSample n t) s =
      .next (thermalEntry (raiseWaking ((sampled s n t).onPower (fun p => { p with hot := true })) [34]) 1 n.val t.toInt) := by
  have hsame : junction (thermalEntry (raiseWaking ((sampled s n t).onPower (fun p => { p with hot := true })) [34]) 1 n.val t.toInt) =
      junction (sampled s n t) :=
    (junction_congr (restOfPower_thermalEntry.trans restOfPower_raise)).trans rfl
  rw [thermalSample_governs hg, reach110_of_reached hlo (by exact hh), reach120_of_below (by omega), reach125_of_below (by omega),
    below105_of_above (by omega)]

theorem thermalSample_ends (hj : junction (sampled s n t) < 1050) (hh : s.power.hot = true) (hs : s.power.safeHold = none) :
    exec (.thermalSample n t) s = .next (dispatch (thermalEntry
      (raise ((sampled s n t).onPower (fun p => { p with hot := false, sorusStopped := false })) [37]) 4 n.val t.toInt)) := by
  rw [thermalSample_below110 hg (by omega), below105_ends hj (by exact hh) (by exact hs)]

/-! ### The allowance (R63) -/

theorem thermalAllowanceStep_falls (hj : 1100 ≤ junction s) :
    exec .thermalAllowanceStep s = .next (s.onPower (fun p => { p with allowance := max 1 (p.allowance - 1) })) := by
  obtain ⟨hr, hz⟩ := hg
  simp [exec_thermalAllowanceStep, execThermalAllowanceStep, hr, hz, hj]

theorem thermalAllowanceStep_stays (hj : junction s < 1100) (hh : s.power.hot = true) : exec .thermalAllowanceStep s = .next s := by
  obtain ⟨hr, hz⟩ := hg
  simp [exec_thermalAllowanceStep, execThermalAllowanceStep, hr, hz, Int.not_le.mpr hj, hh]

theorem thermalAllowanceStep_rises (hj : junction s < 1100) (hh : s.power.hot = false) :
    exec .thermalAllowanceStep s = .next (s.onPower (fun p => { p with allowance := min 16 (p.allowance + 1) })) := by
  obtain ⟨hr, hz⟩ := hg
  simp [exec_thermalAllowanceStep, execThermalAllowanceStep, hr, hz, Int.not_le.mpr hj, hh]
end

/-! ### DOZE (R50, R51) -/

theorem dozeEntry_enters (hb : s.boot.state = .ready) (ha : s.power.state = .active ∨ s.power.state = .trim) (hs : s.power.safeHold = none)
    (hw : s.power.feedWarn = false) (hz : s.power.quiesced = false) (hd : dozeAllowed s = true) (hq : queuesEmpty s = true)
    (hf : s.flash.ops.any (·.begun) = false) :
    let m := atInstant s (boundaryFrom (max s.clocks.seta (s.power.idleSince + dozeIdle s)))
    exec .dozeEntry s = .next (notePool s ((startTransition (hold m ((List.range 50).filter (fun d => !dozeKeeps.contains d))) .doze).onPower
      (fun p => { p with dozeFrom := p.state, state := .doze, waking := false, retained := maskOf (dozeRetains.filter (domainOn m)) }))) := by
  have hawake : (s.power.state != .active && s.power.state != .trim) = false := by rcases ha with h | h <;> rw [h] <;> rfl
  simp only [exec_dozeEntry, execDozeEntry, hb, hawake, hs, hw, hz, hd, hq, hf, bne_self_eq_false, Option.isSome_none, Bool.not_true,
    Bool.or_false, Bool.false_eq_true, if_false]

theorem dozeWake_of_doze (h : s.power.state = .doze) : dozeWake s = s.onPower (fun p => { p with
    state := p.dozeFrom, waking := true, idleSince := s.clocks.seta }) := by
  simp [dozeWake, h]

/-! ### Domains switched on -/

/-- An operation on one domain that leaves it powered, and every domain that was. -/
def PowersItsDomain (f : State → Nat → State) : Prop :=
  ∀ a d e, e < 50 → domainOn a e = true ∨ e = d → domainOn (f a d) e = true

theorem PowersItsDomain.foldl {f : State → Nat → State} (hf : PowersItsDomain f) {ds : List Nat} {e : Nat} (he : e < 50)
    (h : domainOn s e = true ∨ e ∈ ds) : domainOn (ds.foldl f s) e = true := by
  induction ds generalizing s with
  | nil => simpa using h
  | cons d ds ih =>
    rw [List.mem_cons, ← or_assoc] at h
    exact ih (h.imp_left (hf s d e he))

theorem powersItsDomain_setDomain : PowersItsDomain (fun a d => setDomain a d true) := by
  rintro a d e he (h | rfl)
  · rw [domainOn] at h
    simp [domainOn, setDomain, h]
  · simp [domainOn, setDomain, he]

/-- The known-answer sets of the units that get power leave the domains alone. -/
theorem onOne_power {d : Nat} : (onOne s d).power = (setDomain s d true).power :=
  List.foldlRecOn _ _ (motive := fun a : State => a.power = (setDomain s d true).power) rfl (fun a ha u _ => by
    split
    · exact ha
    · exact ha)

theorem powersItsDomain_onOne : PowersItsDomain onOne := by
  intro a d e he h
  rw [domainOn, onOne_power]
  exact powersItsDomain_setDomain a d e he h

/-- A domain is among those that switch with it (Table 2.3). -/
theorem mem_together {d : Nat} : d ∈ together s d := by
  unfold together
  split
  · simp only [List.mem_cons, List.not_mem_nil, or_false]
    omega
  · simp

theorem powersItsDomain_powerOn : PowersItsDomain powerOn := by
  rintro a d e he (h | rfl)
  · exact powersItsDomain_onOne.foldl he (.inl h)
  · exact powersItsDomain_onOne.foldl he (.inr mem_together)

theorem domainOn_unhold {ds : List Nat} {d : Nat} (hd : d < 50) (h : domainOn s d = true ∨ (d ∈ ds ∧ s.power.dozeDomains.getLsbD d = true)) :
    domainOn (unhold s ds) d = true :=
  powersItsDomain_powerOn.foldl hd (h.imp_right List.mem_filter.mpr)

/-- R48: the boundary after a wake powers what DOZE switched off. -/
theorem domainOn_wakeDomains (hw : s.power.waking = true) (hs : s.power.safeHold = none) {d : Nat} (hd : d < 50)
    (h : domainOn s d = true ∨ s.power.dozeDomains.getLsbD d = true) : domainOn (wakeDomains s) d = true := by
  simp only [wakeDomains, hw, hs, Bool.not_true, Bool.false_eq_true, if_false, Option.isNone_none, Bool.true_or, Bool.and_true]
  exact domainOn_unhold hd (h.imp_right (fun hd' => ⟨List.mem_filter.mpr ⟨List.mem_range.mpr hd, hd'⟩, hd'⟩))

/-! ### Epoch boundaries (R126) -/

theorem nextBoundary_of_dvd {last period : Nat} (h : last % period = 0) : nextBoundary last period = last + period := by
  rw [nextBoundary, Nat.succ_mul, Nat.div_mul_cancel (Nat.dvd_of_mod_eq_zero h)]

theorem stepVcore_boot : (stepVcore s).boot = s.boot := by
  unfold stepVcore
  split <;> rfl

theorem stepVcore_quiesced : (stepVcore s).power.quiesced = s.power.quiesced := by
  unfold stepVcore
  split
  · rfl
  · rw [State.onPower_power]
    split <;> rfl

theorem atInstant_boot {t : Nat} : (atInstant s t).boot = s.boot := by
  unfold atInstant
  split
  · exact stepVcore_boot
  · rfl

theorem atInstant_quiesced {t : Nat} : (atInstant s t).power.quiesced = s.power.quiesced := by
  unfold atInstant
  split
  · exact stepVcore_quiesced
  · rfl

theorem running_atEpoch : running (atEpoch s) = running s := by
  have hboot : (atEpoch s).boot = s.boot := atInstant_boot
  rw [running, running, hboot]

theorem quiesced_raise_atEpoch {l : List Nat} : (raise (atEpoch s) l).power.quiesced = s.power.quiesced :=
  (congrArg Power.quiesced restOfPower_raise).trans atInstant_quiesced

theorem epochBoundary_stopped (h : running s = false) : exec .epochBoundary s = .next (atEpoch s) := by
  have hr : running (atEpoch s) = false := running_atEpoch.trans h
  simp [exec_epochBoundary, execEpochBoundary, hr]

theorem epochBoundary_running (h : running s = true) : exec .epochBoundary s =
    .next (if s.power.quiesced then applyEpochGroups (raise (atEpoch s) [46]) else epochWork (raise (atEpoch s) [46])) := by
  have hr : running (atEpoch s) = true := running_atEpoch.trans h
  rw [← quiesced_raise_atEpoch (l := [46])]
  simp only [exec_epochBoundary, execEpochBoundary, hr, Bool.not_true, Bool.false_eq_true, if_false]
  split <;> rfl

theorem epochWork_of_doze (h : s.power.state = .doze) : epochWork s = applyOffMask (applyEpochGroups s) := by simp [epochWork, h]

/-! ### Voltage transitions (R45, R46) -/

theorem startTransition_starts {p : OpPoint} (h : s.power.op ≠ p ∨ s.power.target ≠ none) : startTransition s p = s.onPower (fun y => { y with
    target := some p, aborted := false, moveFrom := y.vcore, moveAt := s.clocks.seta / 1000 * 1000, clk := if p.vcode ≤ y.vcore then p else y.clk }) := by
  have hmoves : (s.power.op == p && s.power.target.isNone) = false := by
    rcases h with h | h
    · simp [h]
    · simp [Option.isNone_eq_false_iff, Option.isSome_iff_ne_none, h]
  simp [startTransition, hmoves]

theorem stepVcore_of_still (h : s.power.target = none) : stepVcore s = s := by simp [stepVcore, h]

theorem stepVcore_ends {p : OpPoint} (h : s.power.target = some p) (ht : s.power.settledAt p ≤ s.clocks.seta) :
    (stepVcore s).power = { s.power with vcore := p.vcode, target := none, op := p, clk := p } := by
  simp [stepVcore, h, ht]

theorem stepVcore_moves {p : OpPoint} (h : s.power.target = some p) (ht : s.clocks.seta < s.power.settledAt p) :
    (stepVcore s).power = { s.power with vcore := s.power.codeAt p s.clocks.seta } := by
  simp [stepVcore, h, Nat.not_le.mpr ht]

/-! ### VIN in range (R861) -/

theorem vinInRangeChange_recorded {b : Bool} : exec (.vinInRangeChange b) s = .next (s.onPower (fun p => { p with vinInRange := b })) := rfl

/-! ### The statement -/

/-- Settles O53: each event by its own lemmas above. -/
theorem feedPhasesAndTheEpoch : Obligations.FeedPhasesAndTheEpoch := by
  unfold Obligations.FeedPhasesAndTheEpoch
  refine ⟨fun s dip hfed h1 => ?feedWarn, fun s hw hz => ?dip, fun s hz hw => ⟨feedDip_resets hz hw, feedDip_resumes hz hw⟩,
    fun s => ⟨logDip_due, fun t => logDip_early⟩, fun s vbak hs hv => ?vinStop, fun s ph c hc hok => ?phaseLost, fun s mv ok hc => ?vcore,
    fun s n t hg => ?thermal, fun s hg => ?allowance, fun s => dozeEntry_enters,
    fun s => ⟨dozeWake_of_doze, fun hw hs d hd => domainOn_wakeDomains hw hs hd⟩, fun s => ?epoch, fun s p => ?transition, fun _ _ => vinInRangeChange_recorded⟩
  case feedWarn => exact ⟨feedWarn_in_powerUp hfed, feedWarn_again hfed h1, feedWarn_taken hfed h1⟩
  case dip =>
    refine ⟨dipRideThrough_clears hw hz, fun hr hq => ?_, fun hr hq => ?_⟩
    · rw [feedLossQualify_starts hw hz hr, if_pos hq]
    · rw [feedLossQualify_starts hw hz hr, hq, if_neg Bool.false_ne_true]
  case vinStop =>
    obtain ⟨t, ht, h⟩ := vinStop_resets (vbak := vbak) hs hv
    exact ⟨t, ht, h.state, h.domains, h.inRange, h.sentinel, h.seta, h.latch, h.jobs, h.slots, h.seed, h.held, h.counters, h.records⟩
  case phaseLost =>
    exact ⟨phaseLost_noted hc hok, phaseLost_rom_fails hc hok, phaseLost_reacts hc hok,
      fun hr hl => ⟨_, phaseLost_fails hc hok hr hl, regulatorFailed_boot⟩⟩
  case vcore =>
    refine ⟨vcoreLow_moves hc, vcoreLowTimeout_resets, vcoreHigh_resets hc, fun hb hr => ?_, fun hb hr => ?_⟩
    · rw [rhzClock_switches hc hb, if_pos hr]
      rfl
    · rw [rhzClock_switches hc hb, hr, if_neg Bool.false_ne_true]
      rfl
  case thermal =>
    exact ⟨thermalSample_cool hg, thermalSample_between hg, thermalSample_reaches110 hg, thermalSample_ends hg⟩
  case allowance =>
    exact ⟨thermalAllowanceStep_falls hg, thermalAllowanceStep_stays hg, thermalAllowanceStep_rises hg⟩
  case epoch =>
    refine ⟨nextBoundary_of_dvd, epochBoundary_stopped, fun hr hz => ?_, fun ⟨hr, hz⟩ => ?_, epochWork_of_doze⟩
    · rw [epochBoundary_running hr, if_pos hz]
    · rw [epochBoundary_running hr, hz, if_neg Bool.false_ne_true]
  case transition => exact ⟨startTransition_starts, stepVcore_of_still, stepVcore_ends, stepVcore_moves⟩

end Sys2Proof.Proofs
end

section
/-! SUPPORT. A step of the machine (R121), and what the fresh part holds (Tables 4.1 and 4.6): O1 and O2. -/

namespace Sys2Proof.Proofs
open Sys2Proof Sys2Proof.Machine Sys2Proof.Claims

variable {s : State} {t : Nat}

/-! ### Seta moves (R121) -/

/-- A voltage ramp changes the power registers alone. -/
theorem stepVcore_frame : stepVcore s = s.onPower (fun _ => (stepVcore s).power) := by
  unfold stepVcore
  split <;> rfl

theorem stepVcore_clocks : (stepVcore s).clocks = s.clocks := by rw [stepVcore_frame, State.onPower_clocks]
theorem stepVcore_tamper : (stepVcore s).tamper = s.tamper := by rw [stepVcore_frame, State.onPower_tamper]

theorem stepVcore_power_frame : (stepVcore s).power = { s.power with
      vcore := (stepVcore s).power.vcore, target := (stepVcore s).power.target
      op := (stepVcore s).power.op, clk := (stepVcore s).power.clk } := by
  unfold stepVcore
  split
  · rfl
  · rw [State.onPower_power]
    split <;> rfl

theorem setaTo_frame : setaTo s t = { s with
    clocks := (setaTo s t).clocks, power := (setaTo s t).power, tamper := (setaTo s t).tamper } := by
  rw [setaTo, stepVcore_clocks, stepVcore_tamper]
  exact stepVcore_frame

theorem setaTo_seta : (setaTo s t).clocks.seta = t % 2 ^ 64 := by
  rw [setaTo, stepVcore_clocks, State.onClocks_clocks]
  by_cases h : t < 2 ^ 64
  · rw [if_pos h, Nat.mod_eq_of_lt h]
  · rw [if_neg h]

theorem setaTo_tamper : (setaTo s t).tamper = s.tamper.pass (s.power.state != .off) (t - s.clocks.seta) := by
  rw [setaTo, stepVcore_tamper, State.onClocks_tamper, State.onTamper_tamper]

theorem setaTo_power_frame : (setaTo s t).power = { s.power with
      vcore := (setaTo s t).power.vcore, target := (setaTo s t).power.target
      op := (setaTo s t).power.op, clk := (setaTo s t).power.clk } := stepVcore_power_frame

theorem setaTo_power_of_still (h : s.power.target = none) : (setaTo s t).power = s.power := by
  rw [setaTo, stepVcore_of_still (by exact h), State.onClocks_power, State.onTamper_power]

/-! ### Ticks of the shield's streams (R718) -/

section
variable {x : Tamper} {vin : Bool} {n : Nat}

theorem pass_frame : x.pass vin n = { x with vinTicks := (x.pass vin n).vinTicks, vbakTicks := (x.pass vin n).vbakTicks } := by
  unfold Tamper.pass
  split <;> rfl

theorem pass_counts : (x.pass vin n).vinTicks + (x.pass vin n).vbakTicks = x.vinTicks + x.vbakTicks + n := by
  unfold Tamper.pass
  split
  · exact Nat.add_right_comm ..
  · exact (Nat.add_assoc ..).symm
end

/-! ### Steps -/

theorem step_pending {c : Instr} {rest : List Instr} : step { s with pending := c :: rest } = exec c { s with pending := rest } := rfl

theorem step_empty (h : s.pending = []) : step s = .next (idle s) := by simp only [step, h]

theorem idle_unpowered (h : s.power.sentinel = false) : idle s = s := by simp [idle, atInstant, h]
theorem idle_powered (h : s.power.sentinel = true) : idle s = setaTo s (s.clocks.seta + 1) := by simp [idle, atInstant, h]

/-- Settles O1: the queue's front by definition, and an empty queue by one tick of Seta. -/
theorem stepRunsTheFrontCommand : Obligations.StepRunsTheFrontCommand := by
  unfold Obligations.StepRunsTheFrontCommand
  refine ⟨fun s c rest => step_pending, fun s hq => ⟨fun hz => ?unpowered, fun hz _ => ⟨setaTo s (s.clocks.seta + 1), ?powered⟩⟩⟩
  case unpowered => rw [step_empty hq, idle_unpowered hz]
  case powered =>
    refine ⟨by rw [step_empty hq, idle_powered hz], setaTo_seta, setaTo_frame, setaTo_power_frame, ?frame, ?count, setaTo_power_of_still⟩
    case frame =>
      rw [setaTo_tamper]
      exact pass_frame
    case count => rw [setaTo_tamper, pass_counts, Nat.add_sub_cancel_left]

/-! ### The fresh part (Tables 4.1 and 4.6) -/

/-- Settles O2: every map of the fresh part is empty, so each read gives its default. -/
theorem resetStartsUnpowered : Obligations.ResetStartsUnpowered := by
  unfold Obligations.ResetStartsUnpowered
  have records : CanonicalRecords State.reset := ⟨rfl, rfl, rfl, rfl, rfl, rfl, rfl, rfl⟩
  have memories : CanonicalMemories State.reset := ⟨rfl, rfl, rfl, rfl, rfl, rfl, rfl, rfl, rfl⟩
  have notInService : ∀ u, (unitOf State.reset u).st ≠ .inService := fun u => (nofun : PoolState.testing ≠ .inService)
  exact ⟨rfl, rfl, rfl, rfl, rfl, fun _ _ => rfl, notInService, fun _ => rfl, rfl, rfl, fun _ => rfl, rfl, fun _ => rfl, records, memories⟩

end Sys2Proof.Proofs
end

section
/-! SUPPORT. MFS and MTS of the special registers (Tables 19.8 and 12.2, R106, R125, R514, R822), and O25. -/

namespace Sys2Proof.Proofs
open Sys2Proof Sys2Proof.Machine Sys2Proof.Claims

variable {s : State} {u : Fin 8} {i : Inv} {gd : Guard} {p after : Pinna} {v : U32}

theorem exec_mfs {rd : GReg} {n : SReg} : exec (.mfs u gd rd n) s = execMfs u gd rd n s := rfl
theorem exec_mts {n : SReg} {ra : GReg} : exec (.mts u gd n ra) s = execMts u gd n ra s := rfl

/-- A change of a unit changes no other and nothing else. -/
theorem onlyUnit_onPinna {h : Pinna → Pinna} : OnlyUnit s (onPinna s u h) u := ⟨rfl, fun _ hv => pinnaOf_onPinna_ne hv⟩

theorem gGet_congr {q : Pinna} {r : GReg} (h : q.g = p.g) : gGet q r = gGet p r := by
  unfold gGet
  rw [h]

theorem popRng_cons {w : U32} {r : List U32} (h : p.rng = w :: r) : popRng p = (w, { p with rng := r }) := by simp only [popRng, h]
theorem popRng_nil (h : p.rng = []) : popRng p = (0, { p with rngErr := true }) := by
  unfold popRng
  split
  · rfl
  next hw => cases h.symm.trans hw

/-! ### Busy (R106) -/

theorem wakeBusy_iff : wakeBusy s p = true ↔ ∃ k, p.goAt = some (p.cycle, k) ∧ s.clocks.seta ≤ k + 1 := by
  unfold wakeBusy
  cases h : p.goAt with
  | none => simp
  | some x => simp [Prod.ext_iff, and_assoc]

/-! ### The two rows -/

section
variable (hr : Ready s u i) (hg : guardHolds (pinnaOf s u) gd = true)
include hr hg

/-- MFS of a register that exists answers what the read gives; the read touches no general register. -/
theorem mfs_reads {rd : GReg} {n : SReg} (hn : n.toNat < 10) (hread : sRead s u i (pinnaOf s u) n.toNat = (v, after))
    (hgs : after.g = (pinnaOf s u).g) : ReadsS s u gd rd n v after := by
  obtain ⟨he, hi, hc, ha⟩ := hr
  have hrun : exec (.mfs u gd rd n) s = .next (onPinna s u (fun _ => advance 1 (gSet after rd v))) := by
    rw [exec_mfs, execMfs, decide_eq_false (Nat.not_le.mpr hn), issue_runs he hi hc ha hg, hread]
  refine ⟨_, hrun, onlyUnit_onPinna, ?_, fun hrd => ?_, fun r hne => ?_⟩ <;> rw [pinnaOf_onPinna_same]
  · rw [gSet_frame]
    rfl
  · exact gGet_gSet_same hrd
  · exact (gGet_gSet_ne hne).trans (gGet_congr hgs)

/-- MTS to a register with a writable field does what the write does to the unit. -/
theorem mts_writes {n : SReg} {ra : GReg} (hlo : 4 ≤ n.toNat) (hhi : n.toNat ≤ 7)
    (hwrite : sWrite s (pinnaOf s u) n.toNat (gGet (pinnaOf s u) ra) = after) : WritesS s u gd n ra after := by
  obtain ⟨he, hi, hc, ha⟩ := hr
  have hn : ¬ (n.toNat < 4 ∨ n.toNat > 7) := by omega
  have hrun : exec (.mts u gd n ra) s = .next (onPinna s u (fun _ => advance 1 after)) := by
    rw [exec_mts, execMts, decide_eq_false hn, issue_runs he hi hc ha hg, hwrite]
  exact ⟨_, hrun, onlyUnit_onPinna, pinnaOf_onPinna_same⟩
end

/-! ### Writes of WAKECTL -/

/-- The W1C bits written 1 are cleared and VIEW is set, whether BUSY or not. -/
def wakeCleared (p : Pinna) (v : U32) : Pinna := { p with
  overrun := p.overrun && !v.getLsbD 2, matched := p.matched && !v.getLsbD 4, wokeTask := p.wokeTask && !v.getLsbD 5, view := v.getLsbD 31 }

theorem wakeCtlWrite_of_busy (h : wakeBusy s p = true) :
    wakeCtlWrite s p v = { wakeCleared p v with overrun := (wakeCleared p v).overrun || v.getLsbD 0 } := by
  simp only [wakeCtlWrite, h, if_true, wakeCleared]

theorem wakeCtlWrite_stages (h : wakeBusy s p = false) (hgo : v.getLsbD 0 = false) :
    wakeCtlWrite s p v = { wakeCleared p v with enStage := v.getLsbD 3 } := by
  simp only [wakeCtlWrite, h, hgo, Bool.false_eq_true, if_false, wakeCleared]

theorem wakeCtlWrite_applies (h : wakeBusy s p = false) (hgo : v.getLsbD 0 = true) :
    wakeCtlWrite s p v = { wakeCleared p v with
      enStage := v.getLsbD 3, cmpLo := p.cmpLoStage, cmpHi := p.cmpHiStage, en := v.getLsbD 3, goAt := some (p.cycle + 1, s.clocks.seta) } := by
  simp only [wakeCtlWrite, h, hgo, Bool.false_eq_true, if_false, if_true, wakeCleared]

/-- Settles O25: every register by what `sRead` and `sWrite` give for its number. -/
theorem specialRegisters : Obligations.SpecialRegisters := by
  unfold Obligations.SpecialRegisters
  refine ⟨fun s u i gd rd hr hg => ?reads, fun s u i gd ra hr hg => ⟨?rngstat, fun hbusy => ?busy, fun hfree => ?free⟩⟩
  case reads =>
    exact ⟨mfs_reads hr hg (by decide) rfl rfl, mfs_reads hr hg (by decide) rfl rfl, mfs_reads hr hg (by decide) rfl rfl,
      fun w r hw => mfs_reads hr hg (by decide) (popRng_cons hw) rfl, fun hw => mfs_reads hr hg (by decide) (popRng_nil hw) rfl,
      mfs_reads hr hg (by decide) rfl rfl, mfs_reads hr hg (by decide) rfl rfl, mfs_reads hr hg (by decide) rfl rfl,
      mfs_reads hr hg (by decide) rfl rfl, mfs_reads hr hg (by decide) rfl rfl, mfs_reads hr hg (by decide) rfl rfl⟩
  case rngstat => exact mts_writes hr hg (by decide) (by decide) rfl
  case busy =>
    have hb := wakeBusy_iff.mpr hbusy
    exact ⟨mts_writes hr hg (by decide) (by decide) (if_pos hb), mts_writes hr hg (by decide) (by decide) (if_pos hb),
      mts_writes hr hg (by decide) (by decide) (wakeCtlWrite_of_busy hb)⟩
  case free =>
    have hb := Bool.eq_false_iff.mpr (mt wakeBusy_iff.mp hfree)
    have hnot := Bool.eq_false_iff.mp hb
    exact ⟨mts_writes hr hg (by decide) (by decide) (if_neg hnot), mts_writes hr hg (by decide) (by decide) (if_neg hnot),
      fun hgo => mts_writes hr hg (by decide) (by decide) (wakeCtlWrite_stages hb hgo),
      fun hgo => mts_writes hr hg (by decide) (by decide) (wakeCtlWrite_applies hb hgo)⟩

end Sys2Proof.Proofs
end

section
/-! SUPPORT. CONFIG_SET, OPTION_WRITE and TENANT_SET once they start (R109, R270, R271, R276, R283, R571), and O32. -/

namespace Sys2Proof.Proofs
open Sys2Proof Sys2Proof.Machine Sys2Proof.Claims

variable {s : State} {c : Cmd} {j : Job}

theorem exec_configSet : exec (.configSet c) s = execConfigSet c s := rfl
theorem exec_optionWrite : exec (.optionWrite c) s = execOptionWrite c s := rfl
theorem exec_tenantSet : exec (.tenantSet c) s = execTenantSet c s := rfl

@[simp] theorem waits_onJob {h : Job → Job} {g : CommitGroup} : waits (onJob s c h) g = waits s g := rfl
@[simp] theorem wornMark_onJob {h : Job → Job} {u : FlashUnit} : wornMark (onJob s c h) u = wornMark s u := rfl
@[simp] theorem targetCopy_onJob {h : Job → Job} : targetCopy (onJob s c h) = targetCopy s := rfl
@[simp] theorem onJob_flash {h : Job → Job} : (onJob s c h).flash = s.flash := rfl

/-! ### CONFIG_SET (R109, R270, R271) -/

/-- Staging values leaves every COMMIT register. -/
theorem commitReg_stagePart {g : CommitGroup} {first n v k : Nat} : commitReg (stagePart s g first n v) k = commitReg s k :=
  List.foldlRecOn (List.range n) _ (motive := fun a => commitReg a k = commitReg s k) rfl (fun _ ha _ _ => ha)

theorem waits_stagePart {g g' : CommitGroup} {first n v : Nat} : waits (stagePart s g first n v) g' = waits s g' :=
  List.foldlRecOn (List.range n) _ (motive := fun a => waits a g' = waits s g') rfl (fun _ ha _ _ => ha)

section
variable {g : CommitGroup} {first n : Nat} (h : Starts 0x0017 c s j) (ht : configTarget (param c 0 1) (param c 1 1) = some (g, first, n))
  (hb : (commitReg s (commitKey g)).busy = false)
include h ht hb

theorem configSet_stages (happly : param c 2 1 = 0) :
    Answers (.configSet c) s (stagePart (started s c j) g first n (param c 8 48)) j { res0 := (commitReg s (commitKey g)).applied.toNat } :=
  exec_configSet.trans (xci_answers h (by simp [ht, hb, happly, commitReg_stagePart]))

/-- GO is written over a cleared REJECTED (log entry 79), and the command answers the outcome. -/
theorem configSet_applies (happly : param c 2 1 = 1)
    (hw : waits (stagePart (started s c j) g first n (param c 8 48)) g = false) :
    let go := commitGo (onCommit (stagePart (started s c j) g first n (param c 8 48)) (commitKey g) (fun r => { r with rejected := false })) g
    Answers (.configSet c) s go j (groupReply go g 8 true) :=
  exec_configSet.trans (xci_answers h (by 
    rw [waits_stagePart, waits_onJob] at hw
    simp [ht, hb, happly, hw, configReply]))

theorem configSet_waits (happly : param c 2 1 = 1)
    (hw : waits (stagePart (started s c j) g first n (param c 8 48)) g = true) :
    let go := commitGo (onCommit (stagePart (started s c j) g first n (param c 8 48)) (commitKey g) (fun r => { r with rejected := false })) g
    Begins (.configSet c) s (onJob go c (fun x => { x with aux := commitKey g + 1, aux2 := 8 + 2 ^ 16 })) :=
  exec_configSet.trans (xci_begins h (by 
    rw [waits_stagePart, waits_onJob] at hw
    simp [ht, hb, happly, hw, groupMark]))
end

/-! ### OPTION_WRITE (R148, R276, R306, R571) -/

/-- The first of the numbers below `n` that has a value gives the value. -/
theorem findSome?_range_of_first {α : Type} {f : Nat → Option α} {n i : Nat} {x : α} (hi : i < n) (hx : f i = some x)
    (hbefore : ∀ k < i, f k = none) : (List.range n).findSome? f = some x := by
  have hnone : (List.range i).findSome? f = none := List.findSome?_eq_none_iff.mpr (fun k hk => hbefore k (List.mem_range.mp hk))
  obtain ⟨m, rfl⟩ := Nat.exists_eq_add_of_lt hi
  rw [Nat.add_right_comm, List.range_add, List.findSome?_append, List.range_succ, List.findSome?_append, hnone]
  simp [hx]

/-- The words named stand in the option area: the first two checks pass. -/
theorem unlessRefused_option_range {t : State} {l : List (Option Reply)} {go : State × Option Reply} {w n : Nat}
    (hw : 1 ≤ w) (hn : 1 ≤ n) (hn6 : n ≤ 6) (hsum : w + n ≤ 12) :
    unlessRefused t (when (w < 1 || w > 11) (bad 0) :: when (n < 1 || n > 6 || w + n > 12) (bad 1) :: l) go = unlessRefused t l go := by
  rw [unlessRefused_when_not (by simp; omega), unlessRefused_when_not (by simp; omega)]

section
variable (h : Starts 0x0016 c s j) (hw : 1 ≤ param c 0 1) (hn : 1 ≤ param c 1 1) (hn6 : param c 1 1 ≤ 6) (hsum : param c 0 1 + param c 1 1 ≤ 12)
include h hw hn hn6 hsum

theorem optionWrite_refused {r : Reply} (hr : optionRefusal c = some r) : Answers (.optionWrite c) s (started s c j) j r :=
  exec_optionWrite.trans (xci_answers h (by
    dsimp only
    rw [unlessRefused_option_range hw hn hn6 hsum, hr, unlessRefused_refused]))

theorem optionWrite_begins (hr : optionRefusal c = none) (ha : wornMark s ⟨3, 0⟩ = false) (hb : wornMark s ⟨3, 1⟩ = false)
    (hops : s.flash.ops.all (fun o => o.unit.kind != 3) = true) :
    Begins (.optionWrite c) s (onJob (openFlash (started s c j) ⟨3, targetCopy s⟩ true (.command c)) c (fun x => { x with stage := .flash })) := by
  have hany : ¬ s.flash.ops.any (fun o => o.unit.kind == 3) = true := by simpa using hops
  exact exec_optionWrite.trans (xci_begins h (by
    dsimp only
    rw [unlessRefused_option_range hw hn hn6 hsum, hr, unlessRefused_passed, wornMark_onJob, wornMark_onJob, ha, hb,
      Bool.or_false, when_false, unlessRefused_passed, unlessRefused_nil, onJob_flash, if_neg hany, targetCopy_onJob]))
end

/-- R276: the refusal names the byte of the first field that fails. -/
theorem optionRefusal_of_first {i b : Nat} (hi : i < param c 1 1) (hfail : optFail (param c 0 1 + i) (param c (8 + 8 * i) 8) = some b)
    (hbefore : ∀ k < i, optFail (param c 0 1 + k) (param c (8 + 8 * k) 8) = none) : optionRefusal c = some (bad (8 + 8 * i + b / 8)) := by
  have hfirst := findSome?_range_of_first
    (f := fun i => (optFail (param c 0 1 + i) (param c (8 + 8 * i) 8)).map (fun b => 8 + 8 * i + b / 8)) hi
    (by rw [hfail, Option.map_some]) (fun k hk => by rw [hbefore k hk, Option.map_none])
  rw [optionRefusal, hfirst]

theorem optionRefusal_none (hpass : ∀ i < param c 1 1, optFail (param c 0 1 + i) (param c (8 + 8 * i) 8) = none) : optionRefusal c = none := by
  have hnone : (List.range (param c 1 1)).findSome?
      (fun i => (optFail (param c 0 1 + i) (param c (8 + 8 * i) 8)).map (fun b => 8 + 8 * i + b / 8)) = none := by
    simpa using hpass
  rw [optionRefusal, hnone]

/-! ### TENANT_SET (R109, R283) -/

section
variable (h : Starts 0x0103 c s j)
include h

theorem tenantSet_waits (hb : (commitReg s (commitKey (.tenant (BitVec.ofNat 8 (param c 0 1))))).busy = true ∨
      releasing (started s c j) (BitVec.ofNat 8 (param c 0 1)) = true) :
    Begins (.tenantSet c) s (onJob (started s c j) c (fun x => { x with stage := .fetched })) :=
  exec_tenantSet.trans (xci_begins h (by rw [if_pos (by simpa using hb), backToQueue]))

theorem tenantSet_begins (hb : (commitReg s (commitKey (.tenant (BitVec.ofNat 8 (param c 0 1))))).busy = false)
    (hr : releasing (started s c j) (BitVec.ofNat 8 (param c 0 1)) = false) :
    let g := CommitGroup.tenant (BitVec.ofNat 8 (param c 0 1))
    Begins (.tenantSet c) s (onJob (commitGo (onCommit (stageGroup (started s c j) g (param c 8 4)) (commitKey g)
      (fun r => { r with rejected := false })) g) c (fun x => { x with aux := commitKey g + 1, aux2 := 8 })) :=
  exec_tenantSet.trans (xci_begins h (by
    simp [hb, hr, setGroup_deferred (g := .tenant (BitVec.ofNat 8 (param c 0 1))) rfl, onJob_cmd_of_starts h]))
end

/-- Settles O32: each command by its own lemmas above. -/
theorem configurationCommands : Obligations.ConfigurationCommands := by
  unfold Obligations.ConfigurationCommands
  refine fun s c j => ⟨fun h g first n ht hb => ⟨configSet_stages h ht hb, configSet_applies h ht hb, configSet_waits h ht hb⟩,
    fun h hw hn hn6 hsum => ⟨fun i hi b hfail hbefore => ?_, fun hpass => ?_⟩, fun h => ⟨tenantSet_waits h, tenantSet_begins h⟩⟩
  · exact optionWrite_refused h hw hn hn6 hsum (optionRefusal_of_first hi hfail hbefore)
  · exact optionWrite_begins h hw hn hn6 hsum (optionRefusal_none hpass)

end Sys2Proof.Proofs
end

section
/-! SUPPORT. The time and log commands once they start (R128, R285 to R289, R542, R543, R751, R757 to R760), and O44. -/

namespace Sys2Proof.Proofs
open Sys2Proof Sys2Proof.Machine Sys2Proof.Claims

variable {s : State} {c : Cmd} {j : Job}

theorem exec_timeRead : exec (.timeRead c) s = execTimeRead c s := rfl
theorem exec_anchorRecord : exec (.anchorRecord c) s = execAnchorRecord c s := rfl
theorem exec_logNote : exec (.logNote c) s = execLogNote c s := rfl
theorem exec_logInfo : exec (.logInfo c) s = execLogInfo c s := rfl
theorem exec_logRead : exec (.logRead c) s = execLogRead c s := rfl
theorem exec_logExport : exec (.logExport c) s = execLogExport c s := rfl
theorem exec_logExtend : exec (.logExtend c) s = execLogExtend c s := rfl

/-! ### TIME_READ, ANCHOR_RECORD, LOG_NOTE and LOG_INFO -/

theorem timeRead_answers (h : Starts 0x0801 c s j) : Answers (.timeRead c) s (started s c j) j {
    res0 := (bootEpoch s).toNat, res1 := s.clocks.seta % 2 ^ 32, res2 := s.clocks.seta / 2 ^ 32 % 2 ^ 32 } :=
  exec_timeRead.trans (xci_answers h rfl)

theorem anchorRecord_refused {r : Reply} (h : Starts 0x0802 c s j) (hr : noteRefused (started s c j) = some r) :
    Answers (.anchorRecord c) s (started s c j) j r :=
  exec_anchorRecord.trans (xci_answers h (by simp only [hr, unlessRefused_refused]))

theorem anchorRecord_appends (h : Starts 0x0802 c s j) (hr : noteRefused (started s c j) = none) :
    Answers (.anchorRecord c) s (appendNote (started s c j) {
        epoch := bootEpoch s, seta := s.clocks.seta, kind := 2, type := 0x0004, source := 0x0500, detail := param c 0 8 }) j {
      res0 := s.log.seq.toNat, res1 := s.clocks.seta % 2 ^ 32, res2 := s.clocks.seta / 2 ^ 32 % 2 ^ 32 } :=
  exec_anchorRecord.trans (xci_answers h (by
    simp only [hr, unlessRefused_passed, unlessRefused_nil]
    rfl))

theorem logNote_refused {r : Reply} (h : Starts 0x0807 c s j) (hr : noteRefused (started s c j) = some r) :
    Answers (.logNote c) s (started s c j) j r :=
  exec_logNote.trans (xci_answers h (by simp only [hr, unlessRefused_refused]))

theorem logNote_appends (h : Starts 0x0807 c s j) (hr : noteRefused (started s c j) = none) :
    Answers (.logNote c) s (append (started s c j) 0x0005 (sourceOf (started s c j) c) (param c 0 8)) j { res0 := s.log.seq.toNat } :=
  exec_logNote.trans (xci_answers h (by
    simp only [hr, unlessRefused_passed, unlessRefused_nil]
    rfl))

theorem noteRefused_of_full (hk : s.log.noChain = false) (hf : logFree s = 0) : noteRefused s = some { status := 0x0801 } := by
  simp [noteRefused, hk, hf, fail, Status.logFull]

theorem logInfo_answers (h : Starts 0x0803 c s j) : Answers (.logInfo c) s (started s c j) j {
    res0 := 0, res1 := newestSeq s, res2 := logSlots s + logFree s * 2 ^ 16
    res3 := bit (noteRefused s).isSome 0 + bit (bitOf (sporeWord s 48).toNat 2) 1 + s.flash.extensions * 2 ^ 4 } :=
  exec_logInfo.trans (xci_answers h rfl)

/-! ### The range of entries (R286, R760) -/

theorem rangeRefused_onJob {h : Job → Job} {a b : Nat} : rangeRefused (onJob s c h) a b = rangeRefused s a b := rfl

theorem rangeRefused_eq_none {a b : Nat} (hseq : s.log.seq ≠ 0) (hab : a ≤ b) (hb : b ≤ newestSeq s) : rangeRefused s a b = none := by
  simpa [rangeRefused, oldestSeq, hab, hb] using hseq

theorem rangeRefused_outside {a b : Nat} (h : s.log.seq = 0 ∨ newestSeq s < b) :
    rangeRefused s a b = some { status := 0x0802, detail := newestSeq s * 2 ^ 32 } := by
  rw [rangeRefused, oldestSeq, Nat.zero_add]
  rcases h with h | h
  · simp [h, Status.logRange]
  · simp [h, Status.logRange]

/-! ### Reads of data flash (R542, R543) -/

@[simp] theorem programOn_onJob {h : Job → Job} {a : Nat} : programOn (onJob s c h) a = programOn s a := rfl

section
variable {body : State → State × Option Reply}

theorem readingFlash_waits (hp : programOn s 2 = true) :
    readingFlash s c body = (onJob (raise s [79]) c (fun x => { x with stage := .fetched }), none) := by
  simp only [readingFlash, hp, if_true, backToQueue]

theorem readingFlash_reads (hp : programOn s 2 = false) : readingFlash s c body = body (suspendErase s 2 false) := by
  simp only [readingFlash, hp, Bool.false_eq_true, if_false]
end

/-! ### LOG_READ -/

section
variable (h : Starts 0x0804 c s j) (hlo : 1 ≤ param c 4 2) (hhi : param c 4 2 ≤ 1024)
  (hbuf : bufBad (started s c j) c (param c 8 8) (48 * param c 4 2) true = false)
include h hlo hhi hbuf

theorem logRead_outside (hout : s.log.seq = 0 ∨ newestSeq s < param c 0 4 + param c 4 2 - 1) :
    Answers (.logRead c) s (started s c j) j { status := 0x0802, detail := newestSeq s * 2 ^ 32 } :=
  exec_logRead.trans (xci_answers h (by
    dsimp only
    rw [unlessRefused_when_not (by simp; omega), unlessRefused_when_not hbuf, rangeRefused_onJob, rangeRefused_outside hout,
      unlessRefused_refused]))

variable (hseq : s.log.seq ≠ 0) (hin : param c 0 4 + param c 4 2 - 1 ≤ newestSeq s)
include hseq hin

theorem logRead_waits (hp : programOn s 2 = true) :
    Begins (.logRead c) s (onJob (raise (started s c j) [79]) c (fun x => { x with stage := .fetched })) :=
  exec_logRead.trans (xci_begins h (by
    dsimp only
    rw [unlessRefused_when_not (by simp; omega), unlessRefused_when_not hbuf, rangeRefused_onJob,
      rangeRefused_eq_none hseq (by omega) hin, unlessRefused_passed, unlessRefused_nil, readingFlash_waits (programOn_onJob.trans hp)]))

theorem logRead_answers (hp : programOn s 2 = false) :
    let u := suspendErase (started s c j) 2 false
    let qs := (List.range (param c 4 2)).map (· + param c 0 4)
    Answers (.logRead c) s (bufWrite u c (param c 8 8) (qs.flatMap (logBytes u))) j { res0 := (qs.filter (readable u)).length } :=
  exec_logRead.trans (xci_answers h (by
    dsimp only
    rw [unlessRefused_when_not (by simp; omega), unlessRefused_when_not hbuf, rangeRefused_onJob,
      rangeRefused_eq_none hseq (by omega) hin, unlessRefused_passed, unlessRefused_nil, readingFlash_reads (programOn_onJob.trans hp)]))
end

/-! ### LOG_EXPORT -/

/-- A draw of Xemberon's own that gives its bytes runs the body with them. -/
theorem withOwn_got {t u : State} {k : Fin 8} {n : Nat} {bs : Bytes} {body : State → Bytes → State × Option Reply}
    (hd : generate t (.i k) n [] = .got bs u) : withOwn t c k n body = body u bs := by
  simp only [withOwn, hd]

section
variable (h : Starts 0x0805 c s j) (hbuf : bufBad (started s c j) c (param c 8 8) (param c 16 4) true = false)
include h hbuf

theorem logExport_small (hsmall : param c 16 4 < 776 + 48 * (param c 4 4 + 1 - param c 0 4)) :
    Answers (.logExport c) s (started s c j) j (bad 16) :=
  exec_logExport.trans (xci_answers h (by
    dsimp only
    rw [unlessRefused_when_not hbuf, unlessRefused_when (decide_eq_true hsmall)]))

theorem logExport_answers (hroom : 776 + 48 * (param c 4 4 + 1 - param c 0 4) ≤ param c 16 4) (hseq : s.log.seq ≠ 0)
    (hfl : param c 0 4 ≤ param c 4 4) (hln : param c 4 4 ≤ newestSeq s) (hkey : attrValid (attrOf s 0) = true)
    (hcal : (unitOf s (.calyptra 0)).st = .inService) (hp : programOn s 2 = false) {k : Bytes} {u : State}
    (hd : generate (suspendErase (started s c j) 2 false) (.i 7) 48 [] = .got k u) :
    let body := exportBody u (param c 0 4) (param c 4 4) (paramBytes c 20 16)
    let out := body ++ Config.ecdsaSign 384 (slotOf u 0).key k body
    Answers (.logExport c) s (append (bufWrite u c (param c 8 8) out) 0x0008 0 (param c 0 4 + param c 4 4 * 2 ^ 32)) j {
      res0 := out.length } := by
  have hkey' : (!attrValid (attrOf (started s c j) 0)) = false := by
    rw [Bool.not_eq_false']
    exact hkey
  have hfailed : (List.finRange 2).all (fun n => (unitOf (started s c j) (.calyptra n)).st == .failed) = false :=
    List.all_eq_false.mpr ⟨0, List.mem_finRange 0, by rw [unitOf_onJob, hcal]; decide⟩
  have hserves : ¬ (List.finRange 2).all (fun n => (unitOf (started s c j) (.calyptra n)).st != .inService) = true :=
    fun hall => by simpa [hcal] using List.all_eq_true.mp hall 0 (List.mem_finRange 0)
  exact exec_logExport.trans (xci_answers h (by
    dsimp only
    rw [unlessRefused_when_not hbuf, unlessRefused_when_not (decide_eq_false (Nat.not_lt.mpr hroom)), rangeRefused_onJob,
      rangeRefused_eq_none hseq hfl hln, unlessRefused_passed, unlessRefused_when_not hkey', unlessRefused_when_not hfailed,
      unlessRefused_nil, if_neg hserves, readingFlash_reads (programOn_onJob.trans hp), withOwn_got hd]
    rfl))
end

/-! ### LOG_EXTEND (R288) -/

section
variable (h : Starts 0x0806 c s j)
include h

theorem logExtend_bad (hn : param c 0 1 = 0 ∨ 4 < param c 0 1 ∨ 4 < s.flash.extensions + param c 0 1) :
    Answers (.logExtend c) s (started s c j) j (bad 0) :=
  exec_logExtend.trans (xci_answers h (unlessRefused_when (by simpa [or_assoc] using hn)))

variable (hn : 1 ≤ param c 0 1) (htotal : s.flash.extensions + param c 0 1 ≤ 4)
include hn htotal

theorem logExtend_exhausted (hpool : 48 < 12 * (s.flash.extensions + param c 0 1) + poolTaken s) :
    Answers (.logExtend c) s (started s c j) j { status := 0x0010, detail := 3 } :=
  exec_logExtend.trans (xci_answers h (by
    dsimp only
    rw [onJob_flash, unlessRefused_when_not (by simp; omega), unlessRefused_when (decide_eq_true (by exact hpool))]
    rfl))

theorem logExtend_begins (hpool : 12 * (s.flash.extensions + param c 0 1) + poolTaken s ≤ 48)
    (hops : s.flash.ops.all (fun o => o.unit.kind != 3) = true) :
    Begins (.logExtend c) s (onJob (openFlash (started s c j) ⟨3, targetCopy (started s c j)⟩ true (.command c)) c
      (fun x => { x with stage := .flash })) := by
  have hany : ¬ s.flash.ops.any (fun o => o.unit.kind == 3) = true := by simpa using hops
  have hroom : ¬ 12 * (s.flash.extensions + param c 0 1) + poolTaken (started s c j) > 48 := Nat.not_lt.mpr hpool
  exact exec_logExtend.trans (xci_begins h (by
    dsimp only
    rw [onJob_flash, unlessRefused_when_not (by simp; omega), unlessRefused_when_not (decide_eq_false hroom),
      unlessRefused_nil, if_neg hany]))
end

/-- Settles O44: each command by its own lemmas above. -/
theorem logAndTimeCommands : Obligations.LogAndTimeCommands := by
  unfold Obligations.LogAndTimeCommands
  intro s c j t buf newest
  refine ⟨timeRead_answers, fun h => ⟨fun _ => anchorRecord_refused h, anchorRecord_appends h⟩,
    fun h => ⟨fun _ => logNote_refused h, logNote_appends h⟩, noteRefused_of_full, logInfo_answers, fun h hlo hhi hbuf => ?read,
    fun h hbuf hseq hfl hln => ?signed, fun h => ⟨logExtend_bad h, fun hn ht => ⟨logExtend_exhausted h hn ht, logExtend_begins h hn ht⟩⟩⟩
  case read =>
    exact ⟨fun hseq hin => ⟨logRead_waits h hlo hhi hbuf hseq hin, logRead_answers h hlo hhi hbuf hseq hin⟩, logRead_outside h hlo hhi hbuf⟩
  case signed =>
    exact ⟨logExport_small h hbuf,
      fun hroom hkey hcal hp k u hd => logExport_answers h hbuf hroom hseq hfl hln hkey hcal hp hd⟩

end Sys2Proof.Proofs
end

section
/-! SUPPORT. What raising Hypha sources and appending log entries leave alone: every group but the log, the Spore store, the link, the power
registers, the clocks, the Pinna units and the count of free values (Tables 3.8 and 17.9, R51). -/

namespace Sys2Proof.Proofs
open Sys2Proof Sys2Proof.Machine Sys2Proof.Claims

variable {s : State}

/-- The groups that neither a fired task nor an entry writes. -/
def apartFromHypha (s : State) : State :=
  { s with log := {}, spore := {}, link := {}, power := {}, clocks := {}, pinnas := {}, free := 0 }

theorem apartFromHypha_onLog {h : Log → Log} : apartFromHypha (s.onLog h) = apartFromHypha s := rfl
theorem apartFromHypha_onLink {h : Link → Link} : apartFromHypha (s.onLink h) = apartFromHypha s := rfl
theorem apartFromHypha_onPower {h : Power → Power} : apartFromHypha (s.onPower h) = apartFromHypha s := rfl
theorem apartFromHypha_onClocks {h : Clocks → Clocks} : apartFromHypha (s.onClocks h) = apartFromHypha s := rfl
theorem apartFromHypha_onTask {t : Nat} {h : Task → Task} : apartFromHypha (onTask s t h) = apartFromHypha s := rfl
theorem apartFromHypha_onPinnaNat {u : Nat} {h : Pinna → Pinna} : apartFromHypha (onPinnaNat s u h) = apartFromHypha s := rfl
theorem apartFromHypha_onFree {h : Nat → Nat} : apartFromHypha (s.onFree h) = apartFromHypha s := rfl
theorem apartFromHypha_setSpore {w : Nat} {v : U64} : apartFromHypha (setSpore s w v) = apartFromHypha s := rfl

theorem apartFromHypha_countOverflow {k : Nat} : apartFromHypha (countOverflow s k) = apartFromHypha s :=
  apartFromHypha_setSpore.trans apartFromHypha_setSpore

theorem apartFromHypha_bumpSpore {n : Nat} : apartFromHypha (bumpSpore s n) = apartFromHypha s := by
  simp only [bumpSpore]
  split
  · rfl
  · exact apartFromHypha_setSpore.trans apartFromHypha_setSpore

theorem apartFromHypha_writeEntry {n : Note} : apartFromHypha (writeEntry s n) = apartFromHypha s := by
  simp only [writeEntry]
  split
  · rw [apartFromHypha_bumpSpore, apartFromHypha_onLog]
  · rw [apartFromHypha_onLog]

theorem apartFromHypha_logPlace {n : Note} : apartFromHypha (logPlace s n) = apartFromHypha s := by
  simp only [logPlace]
  split_ifs <;> simp only [apartFromHypha_onLog, apartFromHypha_countOverflow, apartFromHypha_writeEntry]

theorem apartFromHypha_signal {f : FnId} {v : Nat} : apartFromHypha (signal s f v) = apartFromHypha s := by
  simp only [signal, hostWrite]
  split <;> rw [apartFromHypha_onLink]

theorem apartFromHypha_wakeUnit {u : Nat} : apartFromHypha (wakeUnit s u).1 = apartFromHypha s := by
  simp only [wakeUnit, awaken, takeFree]
  split_ifs <;> simp only [apartFromHypha_onPinnaNat, apartFromHypha_onFree]

theorem apartFromHypha_dozeWake : apartFromHypha (dozeWake s) = apartFromHypha s := by
  simp only [dozeWake]
  split
  · rfl
  · rw [apartFromHypha_onPower]

section
variable {put : State → Note → State} (hput : ∀ a n, apartFromHypha (put a n) = apartFromHypha a)
include hput

theorem apartFromHypha_taskAction {t e : Nat} : apartFromHypha (taskAction put s t e) = apartFromHypha s := by
  simp only [taskAction]
  split_ifs
  · rfl
  · exact apartFromHypha_wakeUnit
  · rw [apartFromHypha_onTask, apartFromHypha_wakeUnit]
  · rw [apartFromHypha_onClocks]
  · rw [apartFromHypha_onClocks, takeFree, apartFromHypha_onFree]
  · rw [apartFromHypha_onClocks, takeFree, apartFromHypha_onFree]
  · exact apartFromHypha_signal
  · exact hput ..

theorem apartFromHypha_reachTasks {l : List Nat} : apartFromHypha (reachTasks put s l) = apartFromHypha s := by
  refine List.foldlRecOn _ _ (motive := fun a => apartFromHypha a = apartFromHypha s) rfl (fun a ha t _ => ?_)
  rw [← ha]
  dsimp only
  split_ifs
  · rfl
  · rw [apartFromHypha_taskAction hput, apartFromHypha_onTask]
  · rw [apartFromHypha_onTask]

theorem apartFromHypha_raiseWith {l : List Nat} : apartFromHypha (raiseWith put s l) = apartFromHypha s := by
  simp only [raiseWith]
  split
  · rw [apartFromHypha_dozeWake, apartFromHypha_reachTasks hput]
  · exact apartFromHypha_reachTasks hput
end

theorem apartFromHypha_logLevels {r : State → List Nat → State} (hr : ∀ a l, apartFromHypha (r a l) = apartFromHypha a) :
    apartFromHypha (logLevels r s) = apartFromHypha s := by
  simp only [logLevels]
  split_ifs <;> simp only [apartFromHypha_logPlace, hr, apartFromHypha_onLog]

theorem apartFromHypha_appendNote {n : Note} : apartFromHypha (appendNote s n) = apartFromHypha s := by
  rw [appendNote, apartFromHypha_logLevels (fun _ _ => apartFromHypha_raiseWith (fun _ _ => apartFromHypha_logPlace)), apartFromHypha_logPlace]

@[simp] theorem apartFromHypha_append {k src d : Nat} : apartFromHypha (append s k src d) = apartFromHypha s := apartFromHypha_appendNote

@[simp] theorem apartFromHypha_raise {l : List Nat} : apartFromHypha (raise s l) = apartFromHypha s :=
  apartFromHypha_raiseWith (fun _ _ => apartFromHypha_appendNote)

theorem append_regs {k src d : Nat} : (append s k src d).regs = s.regs := by
  have happart : apartFromHypha (append s k src d) = apartFromHypha s := apartFromHypha_append
  exact (congrArg State.regs happart :)

end Sys2Proof.Proofs
end

section
/-! SUPPORT. The register files: reads after a write of the active, the staged and the COMMIT values, and what a commit group's apply leaves
in them (R101 to R106, Table 3.4). -/

namespace Sys2Proof.Proofs
open Sys2Proof Sys2Proof.Machine Sys2Proof.Claims

variable {s : State} {f : FnId} {q : PairId} {k x v : Nat}

/-! ### Reads after a write -/

@[simp] theorem reg_setReg_same : reg (setReg s k v) k = v % 2 ^ 32 := by
  simp [reg, setReg]

theorem reg_setReg_ne (h : x ≠ k) : reg (setReg s k v) x = reg s x := by
  simp [reg, setReg, SMap.get_set_ne h]

@[simp] theorem staged_setReg : staged (setReg s k v) x = staged s x := rfl

theorem staged_lt : staged s k < 2 ^ 32 := BitVec.isLt _

@[simp] theorem commitReg_onCommit_same {h : CommitReg → CommitReg} : commitReg (onCommit s k h) k = h (commitReg s k) := by
  simp [commitReg, onCommit]

theorem commitReg_onCommit_ne {h : CommitReg → CommitReg} (hne : x ≠ k) : commitReg (onCommit s k h) x = commitReg s x := by
  simp [commitReg, onCommit, SMap.get_mod_ne hne]

/-! ### The registers that take their staged values -/

/-- Registers of a list take their staged values. -/
def takeStaged (s : State) (ks : List Nat) : State := ks.foldl (fun a k => setReg a k (staged a k)) s

theorem staged_takeStaged {ks : List Nat} : staged (takeStaged s ks) x = staged s x :=
  List.foldlRecOn ks _ (motive := fun a => staged a x = staged s x) rfl (fun _ ha _ _ => ha)

theorem commitReg_takeStaged {ks : List Nat} : commitReg (takeStaged s ks) x = commitReg s x :=
  List.foldlRecOn ks _ (motive := fun a => commitReg a x = commitReg s x) rfl (fun _ ha _ _ => ha)

theorem reg_takeStaged {ks : List Nat} : reg (takeStaged s ks) x = if x ∈ ks then staged s x else reg s x := by
  induction ks generalizing s with
  | nil => simp [takeStaged]
  | cons k ks ih =>
    have hcons : takeStaged s (k :: ks) = takeStaged (setReg s k (staged s k)) ks := rfl
    rw [hcons, ih, staged_setReg]
    by_cases hks : x ∈ ks
    · simp [hks]
    · by_cases hx : x = k
      · subst hx
        rw [if_neg hks, if_pos List.mem_cons_self, reg_setReg_same, Nat.mod_eq_of_lt staged_lt]
      · simp [hks, hx, reg_setReg_ne hx]

/-! ### What the apply of a group does beside leaves the register files alone -/

/-- Active, staged and COMMIT values. -/
def regFiles (s : State) : SMap U32 × SMap U32 × SMap CommitReg := (s.regs.active, s.regs.stage, s.regs.commit)

section
variable {t : State} (h : regFiles t = regFiles s)
include h

theorem reg_congr : reg t k = reg s k := by
  have hactive : t.regs.active = s.regs.active := congrArg Prod.fst h
  rw [reg, hactive, reg]

theorem staged_congr : staged t k = staged s k := by
  have hstage : t.regs.stage = s.regs.stage := congrArg (fun p => p.2.1) h
  rw [staged, hstage, staged]

theorem commitReg_congr : commitReg t k = commitReg s k := by
  have hcommit : t.regs.commit = s.regs.commit := congrArg (fun p => p.2.2) h
  rw [commitReg, hcommit, commitReg]
end

theorem regFiles_onPair {h : Pair → Pair} : regFiles (onPair s f q h) = regFiles s := rfl
theorem regFiles_onPort {p : Fin 2} {h : Port → Port} : regFiles (onPort s p h) = regFiles s := rfl
theorem regFiles_onLink {h : Link → Link} : regFiles (s.onLink h) = regFiles s := rfl
theorem regFiles_onClocks {h : Clocks → Clocks} : regFiles (s.onClocks h) = regFiles s := rfl

theorem regFiles_signal : regFiles (signal s f v) = regFiles s := by
  simp only [signal, hostWrite]
  split <;> rw [regFiles_onLink]

theorem regFiles_fnEvent {b : Nat} : regFiles (fnEvent s f b) = regFiles s := by
  simp only [fnEvent, setEvents]
  split
  · rw [regFiles_signal]
    rfl
  · rfl

theorem regFiles_conflict : regFiles (conflict s f q) = regFiles s := by rw [conflict, regFiles_fnEvent, regFiles_onPair]
theorem regFiles_openPair : regFiles (openPair s f q) = regFiles s := regFiles_onPair

theorem regFiles_drained : regFiles (drained s f q) = regFiles s := by
  simp only [drained]
  split_ifs
  · rfl
  · rw [regFiles_conflict, regFiles_onPair]
  · rw [regFiles_openPair, regFiles_onPair]
  · rfl

theorem regFiles_closePair {b : Bool} : regFiles (closePair s f q b) = regFiles s := by rw [closePair, regFiles_drained, regFiles_onPair]

theorem regFiles_applyQueue : regFiles (applyQueue s f q) = regFiles s := by
  simp only [applyQueue]
  split_ifs <;> simp only [regFiles_closePair, regFiles_onPair, regFiles_conflict, regFiles_openPair]

theorem regFiles_append {c src d : Nat} : regFiles (append s c src d) = regFiles s :=
  congrArg (fun r : Regs => (r.active, r.stage, r.commit)) append_regs

/-! ### The check and the apply of a group (R102, R103) -/

variable {g : CommitGroup}

/-- The check reads the staged values, not the COMMIT registers. -/
theorem groupFail_onCommit {h : CommitReg → CommitReg} : groupFail (onCommit s k h) g = groupFail s g := by cases g <;> rfl

/-- R103: a check that fails applies nothing. -/
theorem applyGroup_rejects (h : groupFail s g ≠ 0) : applyGroup s g = onCommit s (commitKey g) (fun r => { r with
    busy := false, rejected := true, reason := BitVec.ofNat 8 (groupFail s g), clearedAt := some s.clocks.seta }) := by
  simp [applyGroup, h]

/-- All registers of a group take their staged values, and COMMIT says so. -/
def groupApplied (s : State) (g : CommitGroup) : State :=
  onCommit (takeStaged s (groupRegs g)) (commitKey g) (fun r => { r with
    busy := false, reason := 0, applied := r.applied + 1, clearedAt := some s.clocks.seta })

/-- R102: what an apply does beside, it does outside the register files. -/
theorem regFiles_applyGroup (h : groupFail s g = 0) : regFiles (applyGroup s g) = regFiles (groupApplied s g) := by
  simp only [applyGroup, h, bne_self_eq_false, Bool.false_eq_true, if_false]
  rw [groupApplied, takeStaged]
  cases g with
  | queue f q => exact regFiles_applyQueue
  | turtis p => exact regFiles_onPort
  | gpio => exact regFiles_onClocks
  | alarm k => exact regFiles_onClocks
  | tamper => exact regFiles_append
  | imod | sched | tenant | power | hypha | cless => rfl

/-! ### GO (R102, R106) -/

/-- BUSY, or the cycle in which BUSY clears. -/
def MeetsBusy (s : State) (g : CommitGroup) (cl : Bool) : Prop :=
  (commitReg s (commitKey g)).busy = true ∨ (cl = true ∧ (commitReg s (commitKey g)).clearedAt = some s.clocks.seta)

theorem meetsBusy_iff {cl : Bool} : MeetsBusy s g cl ↔ ((commitReg s (commitKey g)).busy || inClearing s g cl) = true := by
  simp [MeetsBusy, inClearing]

theorem exec_commitGo {cl : Bool} (hs : Serves s (fnOfGroup g)) : exec (.commitGo ⟨g, cl⟩) s = .next (commitStart s g cl) := by
  obtain ⟨hrun, hreach⟩ := hs
  have hrow : exec (.commitGo ⟨g, cl⟩) s = execCommitGo ⟨g, cl⟩ s := rfl
  simp [hrow, execCommitGo, hrun, hreach]

section
variable {cl : Bool}

theorem commitStart_of_busy (h : MeetsBusy s g cl) : commitStart s g cl = onCommit s (commitKey g) (fun x => { x with overrun := true }) := by
  rw [meetsBusy_iff, Bool.or_eq_true] at h
  simp only [commitStart, commitGo]
  split_ifs with hcl hbusy
  · rfl
  · rfl
  · exact absurd h (by simp [hcl, hbusy])
  · exact absurd h (by simp [hcl, hbusy])

/-- The state once the check has started. -/
theorem commitStart_of_free (h : ¬MeetsBusy s g cl) : commitStart s g cl =
    if waits s g then onCommit s (commitKey g) (fun x => { x with busy := true })
    else applyGroup (onCommit s (commitKey g) (fun x => { x with busy := true })) g := by
  rw [meetsBusy_iff, Bool.or_eq_true, not_or] at h
  simp only [commitStart, commitGo, if_neg h.1, if_neg h.2]

variable (hs : Serves s (fnOfGroup g))
include hs

theorem commitGo_overruns (h : MeetsBusy s g cl) :
    exec (.commitGo ⟨g, cl⟩) s = .next (onCommit s (commitKey g) (fun x => { x with overrun := true })) := by
  rw [exec_commitGo hs, commitStart_of_busy h]

theorem commitGo_waits (h : ¬MeetsBusy s g cl) (hw : waits s g = true) :
    exec (.commitGo ⟨g, cl⟩) s = .next (onCommit s (commitKey g) (fun x => { x with busy := true })) := by
  rw [exec_commitGo hs, commitStart_of_free h, if_pos hw]

/-- R103: a GO whose check fails changes the COMMIT register alone. -/
theorem commitGo_rejects (h : ¬MeetsBusy s g cl) (hw : waits s g = false) (hwhy : groupFail s g ≠ 0) :
    ∃ t, exec (.commitGo ⟨g, cl⟩) s = .next t ∧
      commitReg t (commitKey g) = { commitReg s (commitKey g) with
        busy := false, rejected := true, reason := BitVec.ofNat 8 (groupFail s g), clearedAt := some s.clocks.seta } ∧
      (∀ x, reg t x = reg s x) ∧ (∀ x, staged t x = staged s x) ∧ (∀ x, x ≠ commitKey g → commitReg t x = commitReg s x) ∧
      t = { s with regs := t.regs } := by
  have hrow : exec (.commitGo ⟨g, cl⟩) s = .next (applyGroup (onCommit s (commitKey g) (fun x => { x with busy := true })) g) := by
    rw [exec_commitGo hs, commitStart_of_free h, hw, if_neg Bool.false_ne_true]
  rw [applyGroup_rejects (groupFail_onCommit.trans_ne hwhy), groupFail_onCommit] at hrow
  refine ⟨_, hrow, ?_, fun _ => rfl, fun _ => rfl, fun x hx => ?_, rfl⟩
  · rw [commitReg_onCommit_same, commitReg_onCommit_same]
    rfl
  · rw [commitReg_onCommit_ne hx, commitReg_onCommit_ne hx]

/-- R102: a GO whose check passes applies every register of the group and no other. -/
theorem commitGo_applies (h : ¬MeetsBusy s g cl) (hw : waits s g = false) (hwhy : groupFail s g = 0) :
    ∃ t, exec (.commitGo ⟨g, cl⟩) s = .next t ∧
      commitReg t (commitKey g) = { commitReg s (commitKey g) with
        busy := false, reason := 0, applied := (commitReg s (commitKey g)).applied + 1, clearedAt := some s.clocks.seta } ∧
      (∀ x, x ∈ groupRegs g → reg t x = staged s x) ∧ (∀ x, x ∉ groupRegs g → reg t x = reg s x) ∧ (∀ x, staged t x = staged s x) ∧
      ∀ x, x ≠ commitKey g → commitReg t x = commitReg s x := by
  let b := onCommit s (commitKey g) (fun x => { x with busy := true })
  have hrow : exec (.commitGo ⟨g, cl⟩) s = .next (applyGroup b g) := by
    rw [exec_commitGo hs, commitStart_of_free h, hw, if_neg Bool.false_ne_true]
  have hfiles : regFiles (applyGroup b g) = regFiles (groupApplied b g) := regFiles_applyGroup (groupFail_onCommit.trans hwhy)
  have hreg : ∀ x, reg (applyGroup b g) x = if x ∈ groupRegs g then staged s x else reg s x :=
    fun x => (reg_congr hfiles).trans reg_takeStaged
  refine ⟨_, hrow, ?_, fun x hx => (hreg x).trans (if_pos hx), fun x hx => (hreg x).trans (if_neg hx),
    fun x => (staged_congr hfiles).trans staged_takeStaged, fun x hx => (commitReg_congr hfiles).trans ?_⟩
  · rw [commitReg_congr hfiles, groupApplied, commitReg_onCommit_same, commitReg_takeStaged, commitReg_onCommit_same]
    rfl
  · rw [groupApplied, commitReg_onCommit_ne hx, commitReg_takeStaged, commitReg_onCommit_ne hx]

end

end Sys2Proof.Proofs
end

section
/-! SUPPORT. Writes and reads of single registers by the host and of RNGDATA by a Pinna unit (R104 to R106, R125, R180, R513, R514), and O50. -/

namespace Sys2Proof.Proofs
open Sys2Proof Sys2Proof.Machine Sys2Proof.Claims

variable {s : State} {r : Region} {off : BitVec 20} {v : U32} {cl : Bool} {f : FnId} {u : Fin 8}

theorem exec_registerWrite : exec (.registerWrite r off ⟨v, cl⟩) s = .next (registerWrite s r (off.toNat / 4 * 4) v.toNat cl) := rfl
theorem exec_rcFieldRead {a : Byte} : exec (.rcFieldRead r off a) s = execRcFieldRead r off a s := rfl
theorem exec_setaLoRead {reader : FnId ⊕ Fin 8} {b : Bool} : exec (.setaLoRead reader b) s = execSetaLoRead reader b s := rfl
theorem exec_rngdataRead : exec (.rngdataRead u) s = execRngdataRead u s := rfl
theorem exec_rngdataRefill : exec (.rngdataRefill u) s = execRngdataRefill u s := rfl

/-! ### Writes -/

/-- A write of a region's own registers, those of no commit group. -/
def ownWrite (s : State) : Region → Nat → Nat → State
  | .fnBar f, o, n => fnWrite s f o n
  | .glBar, o, n => glWrite s o n
  | .config f, o, n => configWrite s f o n

section
variable {o n : Nat} (hs : Serves s (regionFn r))
include hs

/-- A write to a register of a commit group is a staging write. -/
theorem registerWrite_of_group {g : CommitGroup} {i : Nat} (hg : groupIndex r o = some (g, i)) :
    registerWrite s r o n cl = stageWrite s g i (regionKey r o) n cl := by
  obtain ⟨hrun, hreach⟩ := hs
  simp [registerWrite, hrun, hreach, hg]

/-- A write outside every commit group goes to the region's own registers. -/
theorem registerWrite_of_no_group (hg : groupAt r o = none) : registerWrite s r o n cl = ownWrite s r o n := by
  obtain ⟨hrun, hreach⟩ := hs
  simp only [registerWrite, hrun, hreach, groupIndex, commitAt, hg, Option.bind_none, Option.filter_none, Bool.not_true, Bool.false_eq_true,
    if_false]
  cases r <;> rfl
end

theorem stageWrite_of_busy {g : CommitGroup} {i k n : Nat} (h : MeetsBusy s g cl) :
    stageWrite s g i k n cl = onCommit s (commitKey g) (fun x => { x with dropped := true }) := if_pos (meetsBusy_iff.mp h)

theorem stageWrite_of_free {g : CommitGroup} {i k n : Nat} (h : ¬MeetsBusy s g cl) :
    stageWrite s g i k n cl = setStage s k (n &&& groupMask g i) := if_neg (mt meetsBusy_iff.mpr h)

theorem clearEvents_eq {k : Nat} : clearEvents s k v.toNat = s.onRegs (fun r => { r with events := SMap.mod 0 r.events k (fun x => x &&& ~~~v) }) := by
  rw [clearEvents, BitVec.ofNat_toNat, BitVec.setWidth_eq]

/-! ### STAGE views (R180) -/

section
variable {o : Nat}

/-- No register of BAR0 stands at 0x8000 or above. -/
theorem fnGroup_beyond (h : 0x8000 ≤ o) : fnGroup f o = none := by
  have hne : ∀ k < 0x8000, o ≠ k := fun k hk => by omega
  have hlt : ∀ k < 0x8000, ¬ o < k := fun k hk => by omega
  simp [fnGroup, hne, hlt]

theorem fnWrite_beyond {n : Nat} (h : 0x8000 ≤ o) : fnWrite s f o n = s := by
  have hne : ∀ k < 0x8000, o ≠ k := fun k hk => by omega
  have hlt : ∀ k < 0x8000, ¬ o < k := fun k hk => by omega
  have hmsix : 0x2000 + 16 * msixCount f < 0x8000 := by unfold msixCount; split <;> decide
  simp [fnWrite, hne, hlt, hlt _ hmsix]

/-- No register of BAR2 but the windows stands at 0x4000 or above. -/
theorem glGroup_beyond (h : 0x4000 ≤ o) : glGroup o = none := by
  have hne : ∀ k < 0x4000, o ≠ k := fun k hk => by omega
  have hlt : ∀ k < 0x4000, ¬ o < k := fun k hk => by omega
  have hle : ∀ k < 0x4000, ¬ o ≤ k := fun k hk => by omega
  simp [glGroup, hne, hlt, hle]

theorem glWrite_beyond {n : Nat} (h : 0x4000 ≤ o) : glWrite s o n = s := by
  have hne : ∀ k < 0x4000, o ≠ k := fun k hk => by omega
  have hlt : ∀ k < 0x4000, ¬ o < k := fun k hk => by omega
  simp [glWrite, hne, hlt]

theorem clearField_beyond {a : Byte} (h : 0x4000 ≤ o) : clearField s .glBar o a = s := by
  have hne : ∀ k < 0x4000, o ≠ k := fun k hk => by omega
  have hlt : ∀ k < 0x4000, ¬ o < k := fun k hk => by omega
  simp [clearField, hne, hlt]

theorem stageOf_fnBar {k : Nat} (h : stageOf (.fnBar f) o = some k) : 0x8000 ≤ o := by
  simp only [stageOf] at h
  split at h
  next hin => simp only [Bool.and_eq_true, decide_eq_true_eq] at hin; exact hin.1
  · cases h

theorem stageOf_glBar {k : Nat} (h : stageOf .glBar o = some k) : 0x4000 ≤ o := by
  simp only [stageOf] at h
  split at h
  next hin => simp only [Bool.and_eq_true, decide_eq_true_eq] at hin; omega
  · cases h

theorem registerWrite_of_stageOf {k n : Nat} (hs : Serves s (regionFn r)) (h : stageOf r o = some k) : registerWrite s r o n cl = s := by
  cases r with
  | config f => cases h
  | fnBar f =>
    have ho := stageOf_fnBar h
    rw [registerWrite_of_no_group hs (fnGroup_beyond ho)]
    exact fnWrite_beyond ho
  | glBar =>
    have ho := stageOf_glBar h
    rw [registerWrite_of_no_group hs (glGroup_beyond ho)]
    exact glWrite_beyond ho
end

/-! ### Event registers -/

theorem registerWrite_events {n : Nat} (hs : Serves s f) : registerWrite s (.fnBar f) 0x24 n cl = clearEvents s (fnKey f 0x24) n :=
  registerWrite_of_no_group hs rfl

theorem registerWrite_eventMask {n : Nat} (hs : Serves s f) : registerWrite s (.fnBar f) 0x28 n cl = setReg s (fnKey f 0x28) (n % 64) :=
  registerWrite_of_no_group hs rfl

/-! ### Reads that clear (R105, R180) -/

/-- The state in which the value read is returned. -/
abbrev readReturned (s : State) (o : Nat) : State := s.onLink (fun l => { l with readData := readReg s .glBar o })

section
variable {a : Byte} (hr : running s = true)
include hr

theorem rcFieldRead_running : exec (.rcFieldRead .glBar off a) s =
    .next (clearField (readReturned s (off.toNat / 4 * 4)) .glBar (off.toNat / 4 * 4) a) := by
  simp only [exec_rcFieldRead, execRcFieldRead, hr, if_true]

theorem rcFieldRead_dipCount (ho : off.toNat / 4 * 4 = 0x20) : exec (.rcFieldRead .glBar off a) s =
    .next ((readReturned s (off.toNat / 4 * 4)).onPower (fun p => { p with dipCount := a })) := by
  rw [rcFieldRead_running hr, ho]
  rfl

theorem rcFieldRead_merged {n : Nat} (hn : n < 96) (ho : off.toNat / 4 * 4 = 0x1400 + 4 * n) : exec (.rcFieldRead .glBar off a) s =
    .next (onTask (readReturned s (off.toNat / 4 * 4)) n (fun x => { x with merged := a.toNat })) := by
  have hne : 0x1400 + 4 * n ≠ 0x20 := by omega
  have hlt : 0x1400 + 4 * n < 0x1580 := by omega
  have hmod : (0x1400 + 4 * n) % 4 = 0 := by omega
  have hdiv : (0x1400 + 4 * n - 0x1400) / 4 = n := by omega
  rw [rcFieldRead_running hr, ho]
  simp only [clearField, hdiv, hmod, hlt, hne, Nat.le_add_right, beq_iff_eq, decide_true, Bool.and_true, beq_self_eq_true, if_true, if_false]

theorem rcFieldRead_stage {k : Nat} (h : stageOf .glBar (off.toNat / 4 * 4) = some k) :
    exec (.rcFieldRead .glBar off a) s = .next (readReturned s (off.toNat / 4 * 4)) := by
  rw [rcFieldRead_running hr, clearField_beyond (stageOf_glBar h)]
end

/-! ### The low word of Seta (R122, R125, R141) -/

theorem setaLoRead_absent (h : ¬(running s = true ∧ (f = 0 ∨ (fnOf s f).enabled = true))) :
    exec (.setaLoRead (.inl f) false) s = .next (s.onLink (fun l => { l with readData := 0xFFFFFFFF })) := by
  have hgone : (!running s || !(f == 0 || (fnOf s f).enabled)) = true := by
    rw [← Bool.not_and, Bool.not_eq_true', Bool.eq_false_iff]
    simpa using h
  simp only [exec_setaLoRead, execSetaLoRead, hgone, if_true, returns]

theorem setaLoRead_host (hr : running s = true) (hf : f = 0 ∨ (fnOf s f).enabled = true) :
    exec (.setaLoRead (.inl f) false) s = .next ((onFn s f (fun x => { x with setaHi := BitVec.ofNat 32 (s.clocks.seta / 2 ^ 32) })).onLink
      (fun l => { l with readData := BitVec.ofNat 32 s.clocks.seta })) := by
  have hthere : (f == 0 || (fnOf s f).enabled) = true := by simpa using hf
  simp only [exec_setaLoRead, execSetaLoRead, hr, hthere, Bool.not_true, Bool.or_false, Bool.false_eq_true, if_false, returns]

theorem setaLoRead_pinna : exec (.setaLoRead (.inr u) false) s =
    .next ((onPinna s u (fun x => { x with setaHi := BitVec.ofNat 32 (s.clocks.seta / 2 ^ 32) })).onLink
      (fun l => { l with readData := BitVec.ofNat 32 s.clocks.seta })) := rfl

/-! ### RNGDATA (R513, R514) -/

section
variable {i : Inv} (hi : issues s u = some i)
include hi

theorem rngdataRead_takes {w : U32} {rest : List U32} (h : (pinnaOf s u).rng = w :: rest) : exec (.rngdataRead u) s =
    .next ((onPinna s u (fun x => { x with rng := rest })).onLink (fun l => { l with readData := w })) := by
  simp only [exec_rngdataRead, execRngdataRead, hi, popRng_cons h]
  rfl

theorem rngdataRead_empty (h : (pinnaOf s u).rng = []) : exec (.rngdataRead u) s =
    .next ((onPinna s u (fun x => { x with rngErr := true })).onLink (fun l => { l with readData := 0 })) := by
  simp only [exec_rngdataRead, execRngdataRead, hi, popRng_nil h]
  rfl
end

theorem rngdataRefill_adds {i : Inv} {bs : Bytes} {t : State} (hi : (pinnaOf s u).inv = some i) (hn : (pinnaOf s u).rng.length ≤ 4)
    (hd : generate s (.inv u) 16 [] = .got bs t) :
    exec (.rngdataRefill u) s = .next (onPinna t u (fun x => { x with rng := x.rng ++ wordsOf bs })) := by
  simp [exec_rngdataRefill, execRngdataRefill, hi, Nat.not_lt.mpr hn, hd]

/-! ### The statement -/

/-- Settles O50: writes, GO, and each read by its own lemmas above. -/
theorem registersAndCommitGroups : Obligations.RegistersAndCommitGroups := by
  unfold Obligations.RegistersAndCommitGroups
  refine ⟨fun s r off v cl hs => ⟨fun g i hg => ⟨fun h => ?dropped, fun h => ?staged⟩, fun f hr ho => ?events, fun f hr ho => ?mask,
      fun k h => ?view⟩,
    fun s g cl hs => ⟨commitGo_overruns hs, commitGo_waits hs, commitGo_rejects hs, commitGo_applies hs⟩,
    fun s off a hr => ⟨rcFieldRead_dipCount hr, fun n hn => rcFieldRead_merged hr hn, fun k => rcFieldRead_stage hr⟩,
    fun s => ⟨fun f => setaLoRead_absent, fun f => setaLoRead_host, fun u => setaLoRead_pinna⟩,
    fun s u => ⟨fun i hi => ⟨fun w rest => rngdataRead_takes hi, rngdataRead_empty hi⟩, fun i bs t => rngdataRefill_adds⟩⟩
  case dropped => rw [exec_registerWrite, registerWrite_of_group hs hg, stageWrite_of_busy h]
  case staged => rw [exec_registerWrite, registerWrite_of_group hs hg, stageWrite_of_free h]
  case events =>
    subst hr
    refine ⟨_, by rw [exec_registerWrite, ho, registerWrite_events (f := f) hs, clearEvents_eq], ?_, fun k hk => ?_, rfl⟩
    · rw [State.onRegs_regs, SMap.get_mod_same]
    · rw [State.onRegs_regs, SMap.get_mod_ne hk]
  case mask =>
    subst hr
    rw [exec_registerWrite, ho, registerWrite_eventMask (f := f) hs]
  case view => rw [exec_registerWrite, registerWrite_of_stageOf hs h]

end Sys2Proof.Proofs
end

section
/-! SUPPORT. Hypha tasks and their events, alarms and pins (R113 to R120, Tables 3.7, 3.9 and 3.14). -/

namespace Sys2Proof.Proofs
open Sys2Proof Sys2Proof.Machine Sys2Proof.Claims

variable {s : State}

theorem exec_hyphaEvent {ev : List (BitVec 7 × Bool)} : exec (.hyphaEvent ev) s = execHyphaEvent ev s := rfl
theorem exec_hyphaPendingFire {t : Fin 96} : exec (.hyphaPendingFire t) s = execHyphaPendingFire t s := rfl
theorem exec_hyphaFault {v : Byte} : exec (.hyphaFault v) s = execHyphaFault v s := rfl
theorem exec_setaAlarm {k : Fin 8} : exec (.setaAlarm k) s = execSetaAlarm k s := rfl
theorem exec_gpioEdge {n : Fin 8} {l : Bool} : exec (.gpioEdge n l) s = execGpioEdge n l s := rfl

/-! ### Events that reach a task (R116 to R118) -/

section
variable {x : Task} {k : Nat} {l : Bool}

theorem reach_zero : x.reach 0 l = (x, false) := rfl

variable (hk : 0 < k)
include hk

theorem reach_idle (hr : x.running = false) :
    x.reach k l = ({ x with running := l, fired := x.fired + 1, merged := min 255 (x.merged + (k - 1)) }, true) := by
  simp [Task.reach, Nat.ne_of_gt hk, hr, satAdd]

theorem reach_running (hr : x.running = true) (hp : x.pending = false) :
    x.reach k l = ({ x with pending := true, merged := min 255 (x.merged + (k - 1)) }, false) := by
  simp [Task.reach, Nat.ne_of_gt hk, hr, hp, satAdd]

theorem reach_pending (hr : x.running = true) (hp : x.pending = true) :
    x.reach k l = ({ x with merged := min 255 (x.merged + k) }, false) := by
  simp [Task.reach, Nat.ne_of_gt hk, hr, hp, satAdd]
end

theorem hyphaEvent_running {ev : List (BitVec 7 × Bool)} (hr : running s = true) : exec (.hyphaEvent ev) s =
    .next (raiseWaking (((ev.filter (·.2)).map (·.1.toNat)).foldl mergeOnly s)
      ((ev.filter (fun e => !e.2)).map (·.1.toNat)).eraseDups) := by
  simp [exec_hyphaEvent, execHyphaEvent, hr]

/-! ### Events that only merge (R119) -/

@[simp] theorem taskOf_onTask_same {t : Nat} {h : Task → Task} : taskOf (onTask s t h) t = h (taskOf s t) := by
  simp [taskOf, onTask]

theorem taskOf_onTask_ne {t u : Nat} {h : Task → Task} (hne : u ≠ t) : taskOf (onTask s t h) u = taskOf s u := by
  simp [taskOf, onTask, SMap.get_mod_ne hne]

@[simp] theorem taskHits_onTask {t u : Nat} {h : Task → Task} {l : List Nat} : taskHits (onTask s t h) u l = taskHits s u l := rfl

/-- MERGED of a task counts one event more. -/
def mergeTask (x : Task) : Task := { x with merged := satAdd 0xFF x.merged 1 }

/-- One step of `mergeOnly`. -/
def mergeAt (src : Nat) (s : State) (t : Nat) : State := if taskHits s t [src] == 0 then s else onTask s t mergeTask

theorem taskHits_mergeAt {src t u : Nat} {l : List Nat} : taskHits (mergeAt src s t) u l = taskHits s u l := by
  unfold mergeAt
  split
  · rfl
  · exact taskHits_onTask

theorem taskOf_mergeAt {src t u : Nat} : taskOf (mergeAt src s t) u =
    if u = t ∧ taskHits s u [src] ≠ 0 then mergeTask (taskOf s u) else taskOf s u := by
  by_cases hu : u = t
  · subst hu
    by_cases hz : taskHits s u [src] = 0
    · simp [mergeAt, hz]
    · simp [mergeAt, hz]
  · unfold mergeAt
    split
    · simp [hu]
    · simp [hu, taskOf_onTask_ne hu]

/-- Each task of a list without repetition is reached once. -/
theorem taskOf_foldl_mergeAt {src u : Nat} {ts : List Nat} (hts : ts.Nodup) : taskOf (ts.foldl (mergeAt src) s) u =
    if u ∈ ts ∧ taskHits s u [src] ≠ 0 then mergeTask (taskOf s u) else taskOf s u := by
  induction ts generalizing s with
  | nil => simp
  | cons t ts ih =>
    obtain ⟨hnot, hts⟩ := List.nodup_cons.mp hts
    rw [List.foldl_cons, ih hts, taskHits_mergeAt, taskOf_mergeAt]
    by_cases hu : u = t
    · subst hu
      simp [hnot]
    · simp [hu]

theorem taskOf_mergeOnly {e t : Nat} : taskOf (mergeOnly s e) t =
    if t < 96 ∧ taskHits s t [e] ≠ 0 then { taskOf s t with merged := min 255 ((taskOf s t).merged + 1) } else taskOf s t := by
  have h := taskOf_foldl_mergeAt (s := s) (src := e) (u := t) (List.nodup_range (n := 96))
  simp only [List.mem_range] at h
  exact h

/-! ### Held activations and a Hypha reset (R117, Table 3.14) -/

theorem hyphaPendingFire_fires {t : Fin 96} (hr : running s = true) (hrun : (taskOf s t.val).running = true)
    (hp : (taskOf s t.val).pending = true) (hstop : taskStops s t.val = true) : exec (.hyphaPendingFire t) s =
    .next (taskAction appendNote (onTask s t.val (fun x => { x with
      pending := false, running := decide (t.val < 56), fired := x.fired + 1 })) t.val 0) := by
  simp [exec_hyphaPendingFire, execHyphaPendingFire, hr, hrun, hp, hstop]

theorem get_map_range {α : Type} {d v : α} {n t : Nat} (h : t < n) : SMap.get d ((List.range n).map (fun k => (k, v))) t = v := by
  suffices hget : ∀ l : List Nat, t ∈ l → SMap.get d (l.map (fun k => (k, v))) t = v from hget _ (List.mem_range.mpr h)
  intro l hl
  induction l with
  | nil => cases hl
  | cons k l ih =>
    by_cases hk : k = t
    · simp [SMap.get, hk]
    · simpa [SMap.get, hk] using ih (List.mem_of_ne_of_mem (Ne.symm hk) hl)

theorem hyphaFault_resets {v : Byte} (hc : coreUp s = true) : ∃ m, exec (.hyphaFault v) s = .next (append m Entry.hyphaFault Src.xemberon v.toNat) ∧
    (∀ t, t < 96 → taskOf m t = { merged := 0xFF }) ∧ m = { s with clocks := { s.clocks with tasks := m.clocks.tasks } } :=
  ⟨s.onClocks (fun c => { c with tasks := (List.range 96).map (fun t => (t, { merged := 0xFF })) }),
    by simp [exec_hyphaFault, execHyphaFault, hc], fun _ ht => get_map_range ht, rfl⟩

/-! ### Alarms (Tables 3.5 and 3.7, log entry 71) -/

/-- Compare value, period and mark of alarm `k` (Table 5.2). -/
abbrev alarmCmp (s : State) (k : Nat) : Nat := reg s (glKey (0x100 + 0x20 * k)) + reg s (glKey (0x100 + 0x20 * k + 4)) * 2 ^ 32
abbrev alarmPeriod (s : State) (k : Nat) : Nat := reg s (glKey (0x100 + 0x20 * k + 8))
abbrev alarmMark (s : State) (k : Nat) : Nat := SMap.get 0 s.clocks.alarmMark k

/-- The first instant after `m` that lies a whole number of periods after `c`. -/
theorem next_period {c m p : Nat} (h : c ≤ m) (hp : p ≠ 0) : let t := c + ((m - c) / p + 1) * p
    m < t ∧ t ≤ m + p ∧ (t - c) % p = 0 := by
  have hdiv := Nat.div_add_mod (m - c) p
  have hmod := Nat.mod_lt (m - c) (Nat.pos_of_ne_zero hp)
  have hmul : ((m - c) / p + 1) * p = p * ((m - c) / p) + p := by rw [Nat.add_mul, Nat.mul_comm, Nat.one_mul]
  refine ⟨by omega, by omega, ?_⟩
  rw [Nat.add_sub_cancel_left, Nat.mul_mod_left]

section
variable {k : Fin 8}

/-- The alarm raises its source at the instant it has come to. -/
theorem setaAlarm_fires (hr : running s = true) {t : Nat} (ht : alarmInstant s k.val = some t) : exec (.setaAlarm k) s =
    .next (raiseWaking ((reached s t).onClocks (fun c => { c with alarmMark := SMap.set 0 c.alarmMark k.val t })) [38 + k.val]) := by
  simp [exec_setaAlarm, execSetaAlarm, hr, ht]

variable (hon : bitOf (reg s (glKey (0x100 + 0x20 * k.val + 12))) 0 = true)
include hon

theorem alarmInstant_first (h : alarmMark s k.val < alarmCmp s k.val) : alarmInstant s k.val = some (alarmCmp s k.val) := by
  simp only [alarmInstant, hon, Bool.not_true, Bool.false_eq_true, if_false]
  exact if_pos h

theorem alarmInstant_periodic (h : alarmCmp s k.val ≤ alarmMark s k.val) (hp : alarmPeriod s k.val ≠ 0) : alarmInstant s k.val =
    some (alarmCmp s k.val + ((alarmMark s k.val - alarmCmp s k.val) / alarmPeriod s k.val + 1) * alarmPeriod s k.val) := by
  simp only [alarmInstant, hon, Bool.not_true, Bool.false_eq_true, if_false, beq_iff_eq, hp]
  exact if_neg (Nat.not_lt.mpr h)
end

/-! ### Pins (log entry 12) -/

/-- An input sees an edge of its configured polarity. -/
def SeesEdge (s : State) (n : Fin 8) (l : Bool) : Prop :=
  s.clocks.gpioIn.getLsbD n.val = !l ∧ bitOf (pinCfg s n.val) 0 = false ∧ bitOf (pinCfg s n.val) 4 = !l

/-- The level of a pin is taken. -/
def pinLevel (s : State) (n : Fin 8) (l : Bool) : State :=
  s.onClocks (fun c => { c with gpioIn := if l then c.gpioIn ||| (1 <<< n.val : Byte) else c.gpioIn &&& ~~~(1 <<< n.val : Byte) })

section
variable {n : Fin 8} {l : Bool} (hr : running s = true)
include hr

/-- The condition of the row under which the pin raises nothing. -/
theorem seesEdge_iff : SeesEdge s n l ↔
    (s.clocks.gpioIn.getLsbD n.val == l || bitOf (pinCfg s n.val) 0 || bitOf (pinCfg s n.val) 4 == l || !running s) = false := by
  simp only [SeesEdge, hr, Bool.or_eq_false_iff, beq_eq_false_iff_ne, Bool.eq_not, Bool.not_true, and_true, and_assoc]

theorem gpioEdge_raises (h : SeesEdge s n l) : exec (.gpioEdge n l) s = .next (raiseWaking (pinLevel s n l) [48 + n.val]) := by
  simp only [exec_gpioEdge, execGpioEdge, (seesEdge_iff hr).mp h, Bool.false_eq_true, if_false]
  rfl

theorem gpioEdge_silent (h : ¬SeesEdge s n l) : exec (.gpioEdge n l) s = .next (pinLevel s n l) := by
  have hno := Bool.of_not_eq_false (mt (seesEdge_iff hr).mpr h)
  simp only [exec_gpioEdge, execGpioEdge, hno, if_true]
  rfl
end

end Sys2Proof.Proofs
end

section
/-! SUPPORT. Rachis transfers, islands that lose their clock or are retired, the reference and the top of Seta (R95, R97, R131, R133 to R136, Table
3.14), and O54. -/

namespace Sys2Proof.Proofs
open Sys2Proof Sys2Proof.Machine Sys2Proof.Claims

variable {s : State}

theorem exec_rachisTransfer {x : RachisWord} {i : Island} {w : BitVec 320} {ws : List (BitVec 320)} :
    exec (.rachisTransfer x i w ws) s = execRachisTransfer x i w ws s := rfl
theorem exec_islandClockLoss {i : Island} : exec (.islandClockLoss i) s = execIslandClockLoss i s := rfl
theorem exec_islandRelock {i : Island} {ok : Bool} : exec (.islandRelock i ok) s = execIslandRelock i ok s := rfl
theorem exec_pllLock {i : Island} : exec (.pllLock i) s = execPllLock i s := rfl
theorem exec_refLost {lost : Bool} : exec (.refLost lost) s = execRefLost lost s := rfl
theorem exec_setaHigh : exec .setaHigh s = execSetaHigh s := rfl

/-! ### The attempts of a transfer (R95, Table 3.14) -/

section
variable {rx : List (BitVec 320)}

theorem rachisGood_iff {w : BitVec 320} :
    rachisGood w = true ↔ crc32c (leBytes 36 (w.toNat % 2 ^ 288)) = BitVec.ofNat 32 (w.toNat / 2 ^ 288) := beq_iff_eq

/-- The first attempt whose check is right, among the first three. -/
theorem findIdx?_take_of_first {n : Nat} {w : BitVec 320} (hn : n < 3) (hw : rx[n]? = some w) (hgood : rachisGood w = true)
    (hbefore : ∀ h < n, ∀ y, rx[h]? = some y → ¬rachisGood y = true) : (rx.take 3).findIdx? rachisGood = some n := by
  obtain ⟨hlt, rfl⟩ := List.getElem?_eq_some_iff.mp hw
  rw [List.findIdx?_eq_some_iff_getElem]
  refine ⟨by rw [List.length_take]; omega, by rwa [List.getElem_take], fun h hh => ?_⟩
  rw [List.getElem_take]
  exact hbefore h hh _ (List.getElem?_eq_getElem (by omega))

theorem findIdx?_take_of_none (hall : ∀ h < 3, ∀ y, rx[h]? = some y → ¬rachisGood y = true) : (rx.take 3).findIdx? rachisGood = none := by
  rw [List.findIdx?_eq_none_iff]
  intro y hy
  obtain ⟨h, hlt, rfl⟩ := List.getElem_of_mem hy
  rw [List.length_take] at hlt
  rw [List.getElem_take]
  exact Bool.eq_false_iff.mpr (hall h (by omega) _ (List.getElem?_eq_getElem (by omega)))
end

section
variable {x : RachisWord} {i : Island} {w0 : BitVec 320} {ws : List (BitVec 320)} (hc : coreUp s = true)
include hc

theorem rachisTransfer_islandOff (hj : islandJoined s i.val = false) :
    exec (.rachisTransfer x i w0 ws) s = .next (s.onClocks (fun c => { c with nak := some .islandOff })) := by
  simp [exec_rachisTransfer, execRachisTransfer, hc, hj]

variable (hj : islandJoined s i.val = true)
include hj

theorem rachisTransfer_delivers {n : Nat} {w : BitVec 320} (hw : (w0 :: ws)[n]? = some w)
    (hfirst : ((w0 :: ws).take 3).findIdx? rachisGood = some n) :
    exec (.rachisTransfer x i w0 ws) s = .next (s.onClocks (fun c => { c with
      retransmissions := c.retransmissions + n, nak := if n = 0 then none else some .crc, delivered := some (rachisWord w)
      rachisSeq := SMap.set 0 c.rachisSeq (x.src.toNat * 256 + x.dest.toNat) ((x.seq.toNat + 1) % 2 ^ 12) })) := by
  simp only [exec_rachisTransfer, execRachisTransfer, hc, hj, Bool.not_true, Bool.false_eq_true, if_false, hfirst, hw, Option.map_some,
    beq_iff_eq]

theorem rachisTransfer_fails (hlen : 3 ≤ (w0 :: ws).length) (hnone : ((w0 :: ws).take 3).findIdx? rachisGood = none) :
    exec (.rachisTransfer x i w0 ws) s = .next (rachisFailed x.src x.dest i.val s) := by
  simp only [exec_rachisTransfer, execRachisTransfer, hc, hj, Bool.not_true, Bool.false_eq_true, if_false, hnone, if_neg (Nat.not_lt.mpr hlen)]
end

/-! ### Three failed attempts (Table 3.14) -/

section
variable {src dst : Byte} {i : Nat}

/-- Two retransmissions are counted and E088 is raised (log entry 69). -/
def rachisRetried (s : State) : State :=
  raiseWaking (s.onClocks (fun c => { c with retransmissions := c.retransmissions + 2, nak := some .crc })) [88]

/-- The islands whose loss resets the device: the Stipe, the Medulla and PCIe. -/
abbrev FatalIsland (i : Nat) : Prop := i = 2 ∨ i = 11 ∨ i = 13

theorem rachisFailed_first (hk : src.toNat * 256 + dst.toNat ∉ s.clocks.faulty) : rachisFailed src dst i s =
    append ((rachisRetried s).onClocks (fun c => { c with faulty := (src.toNat * 256 + dst.toNat) :: c.faulty }))
      Entry.rachisFault Src.xemberon (src.toNat + dst.toNat * 2 ^ 8 + 2 ^ 16) := by
  simp [rachisFailed, hk, rachisDetail, rachisRetried]

variable (hk : src.toNat * 256 + dst.toNat ∈ s.clocks.faulty)
include hk

theorem rachisFailed_retires (hi : ¬FatalIsland i) : rachisFailed src dst i s =
    append (retireIsland (rachisRetried s) i) Entry.rachisFault Src.xemberon (src.toNat + dst.toNat * 2 ^ 8 + 2 ^ 16 + 2 ^ 17) := by
  simp [rachisFailed, hk, rachisDetail, rachisRetried, or_assoc, hi]

theorem rachisFailed_resets (hi : FatalIsland i) : rachisFailed src dst i s = faultReset (rachisRetried s)
    [note (rachisRetried s) Entry.rachisFault Src.rom (src.toNat + dst.toNat * 2 ^ 8 + 2 ^ 16 + 2 ^ 18)] := by
  simp [rachisFailed, hk, rachisDetail, rachisRetried, or_assoc, hi]
end

/-- A fault that resets the device leaves its reports for the next boot (Table 2.12). -/
theorem faultReset_fields {l : List Note} : let t := faultReset s l
    t.boot.state = .resetting ∧ t.boot.lastReset = 7 ∧ t.log.reports = s.log.reports ++ l := ⟨rfl, rfl, rfl⟩

/-! ### Clocks of islands (R133, R134, R136) -/

section
variable {i : Island} (hc : coreUp s = true)
include hc

section
variable (hon : islandOn s i.val = true) (hl : s.clocks.lost.getLsbD i.val = false)
include hon hl

theorem islandClockLoss_stipe (h2 : i.val = 2) :
    exec (.islandClockLoss i) s = .next (faultReset s [note s Entry.islandClock Src.sentinel 2]) := by
  rw [h2] at hon hl
  simp only [exec_islandClockLoss, execIslandClockLoss, hc, h2, hon, hl, clockDetail]
  rfl

theorem islandClockLoss_stops (h0 : i.val ≠ 0) (h2 : i.val ≠ 2) (h17 : i.val ≠ 17) (hiso : s.clocks.isolated.getLsbD i.val = false) :
    exec (.islandClockLoss i) s = .next (dispatch ((stopIsland (raiseWaking s [89]) i.val).onClocks (fun c => { c with
      lost := c.lost ||| islandBit i, relockTries := SMap.set 0 c.relockTries i.val 0 }))) := by
  simp only [exec_islandClockLoss, execIslandClockLoss, hc, hon, hl, hiso, h2, Bool.not_true, Bool.or_false, beq_iff_eq,
    beq_eq_false_iff_ne.mpr h0, beq_eq_false_iff_ne.mpr h17, Bool.false_eq_true, if_false]

omit hc in
theorem pllLock_joins : exec (.pllLock i) s =
    .next (dispatch (raiseField (s.onClocks (fun c => { c with locked := c.locked ||| islandBit i })))) := by
  simp only [exec_pllLock, execPllLock, hon, hl, Bool.not_true, Bool.or_false, Bool.false_eq_true, if_false]
end

section
variable (hl : s.clocks.lost.getLsbD i.val = true)
include hl

/-- ISLAND_CLOCK with the tries a relock took. -/
def islandClockLogged (s a : State) (i : Island) : State :=
  append a Entry.islandClock Src.sentinel (i.val + (SMap.get 0 s.clocks.relockTries i.val + 1) * 2 ^ 8)

theorem islandRelock_resumes : exec (.islandRelock i true) s = .next (islandClockLogged s (resumeIsland s i.val) i) := by
  simp only [exec_islandRelock, execIslandRelock, hc, hl, Bool.not_true, Bool.or_false, Bool.false_eq_true, if_false, if_true]
  rfl

theorem islandRelock_again (hn : SMap.get 0 s.clocks.relockTries i.val + 1 < 3) : exec (.islandRelock i false) s =
    .next (s.onClocks (fun c => { c with
      relockTries := SMap.set 0 c.relockTries i.val (SMap.get 0 s.clocks.relockTries i.val + 1) })) := by
  simp only [exec_islandRelock, execIslandRelock, hc, hl, Bool.not_true, Bool.or_false, Bool.false_eq_true, if_false, if_pos hn]

theorem islandRelock_retires (hn : 3 ≤ SMap.get 0 s.clocks.relockTries i.val + 1) :
    let t := append (retireIsland (islandClockLogged s s i) i.val) Entry.islandClockFail Src.sentinel
      (i.val + (SMap.get 0 s.clocks.relockTries i.val + 1) * 2 ^ 8)
    exec (.islandRelock i false) s = .next (if i.val = 13 then deviceReset t .pcieIncluded 3 else t) := by
  simp only [exec_islandRelock, execIslandRelock, hc, hl, Bool.not_true, Bool.or_false, Bool.false_eq_true, if_false,
    if_neg (Nat.not_lt.mpr hn), beq_iff_eq]
  rfl
end
end

/-! ### The reference and the top of Seta (R131, Table 3.14) -/

theorem refLost_stops (hc : coreUp s = true) (h : s.clocks.refLostAt = none) : exec (.refLost true) s = .next (append
    (raiseWaking (readerRefLost (s.onClocks (fun c => { c with refLostAt := some s.clocks.seta }))) [94]) Entry.refLost Src.sentinel 1) := by
  simp only [exec_refLost, execRefLost, h, hc, if_true]

theorem refLost_returns {t : Nat} (hc : coreUp s = true) (h : s.clocks.refLostAt = some t) : exec (.refLost false) s =
    .next (append (s.onClocks (fun c => { c with refLostAt := none })) Entry.refLost Src.sentinel
      (min 0xFFFFFFFF (s.clocks.seta - t) * 2 ^ 32)) := by
  simp only [exec_refLost, execRefLost, h, hc, if_true]

section
variable (hr : running s = true)
include hr

theorem setaHigh_same (h : s.clocks.seta / 2 ^ 56 = s.clocks.setaTop) : exec .setaHigh s = .next s := by
  simp only [exec_setaHigh, execSetaHigh, hr, if_true, noteSetaHigh, h, beq_self_eq_true]

theorem setaHigh_logs (h : s.clocks.seta / 2 ^ 56 ≠ s.clocks.setaTop) : exec .setaHigh s =
    .next (append (s.onClocks (fun c => { c with setaTop := s.clocks.seta / 2 ^ 56 })) Entry.setaHigh Src.xemberon (s.clocks.seta / 2 ^ 56)) := by
  simp only [exec_setaHigh, execSetaHigh, hr, if_true, noteSetaHigh, beq_iff_eq, if_neg h]
end

/-! ### The statement -/

/-- Settles O54: each event by its own lemmas above. -/
theorem islandsEventsAndAlarms : Obligations.IslandsEventsAndAlarms := by
  unfold Obligations.IslandsEventsAndAlarms
  refine ⟨fun x k l => ⟨reach_zero, reach_idle, reach_running, reach_pending⟩, fun s ev => hyphaEvent_running, fun s e t => taskOf_mergeOnly,
    fun s t => hyphaPendingFire_fires, fun s v => hyphaFault_resets, fun s k hr => ?alarm, fun s n l hr => ⟨gpioEdge_raises hr, gpioEdge_silent hr⟩,
    fun s x i w0 ws hc => ⟨rachisTransfer_islandOff hc, fun hj => ⟨fun n w hn hw hgood hbefore => ?delivered, fun hlen hall => ?failed⟩⟩,
    fun s i hc hon hl => ⟨islandClockLoss_stipe hc hon hl, islandClockLoss_stops hc hon hl, pllLock_joins hon hl⟩,
    fun s i hc hl => ⟨islandRelock_resumes hc hl, islandRelock_again hc hl, islandRelock_retires hc hl⟩,
    fun s hc => ⟨refLost_stops hc, fun t => refLost_returns hc⟩, fun s hr => ⟨setaHigh_same hr, setaHigh_logs hr⟩⟩
  case alarm =>
    intro b cmp period mark fires hon
    exact ⟨fun h => setaAlarm_fires hr (alarmInstant_first hon h),
      fun h hp => ⟨_, setaAlarm_fires hr (alarmInstant_periodic hon h hp), next_period h hp⟩⟩
  case delivered =>
    exact rachisTransfer_delivers hc hj hw (findIdx?_take_of_first hn hw (rachisGood_iff.mpr hgood)
      (fun h hh y hy => mt rachisGood_iff.mp (hbefore h hh y hy)))
  case failed =>
    have hnone := findIdx?_take_of_none (fun h hh y hy => mt rachisGood_iff.mp (hall h hh y hy))
    rw [rachisTransfer_fails hc hj hlen hnone]
    refine ⟨fun hk => ?_, fun hk hi => ?_, fun hk hi => ⟨_, rfl, ?_⟩⟩
    · rw [rachisFailed_first hk]
      rfl
    · rw [rachisFailed_retires hk hi]
      rfl
    · rw [rachisFailed_resets hk hi]
      obtain ⟨hstate, hlast, hreports⟩ := faultReset_fields (s := rachisRetried s)
        (l := [note (rachisRetried s) Entry.rachisFault Src.rom (x.src.toNat + x.dest.toNat * 2 ^ 8 + 2 ^ 16 + 2 ^ 18)])
      exact ⟨hstate, hlast, _, hreports⟩

end Sys2Proof.Proofs
end

section
/-! SUPPORT. Reads of a sparse map after a filter by key and after a change of every listed value. -/

namespace Sys2Proof.Proofs
open Sys2Proof Sys2Proof.Machine Sys2Proof.Claims

variable {α : Type} {d : α} {m : SMap α} {k : Nat}

/-- A filter by key leaves the keys it keeps and takes the others out. -/
theorem get_filter_key (p : Nat → Bool) : SMap.get d (m.filter (fun e => p e.1)) k = if p k then SMap.get d m k else d := by
  induction m with
  | nil => simp
  | cons e r ih =>
    obtain ⟨j, v⟩ := e
    by_cases hj : j = k
    · subst hj
      cases hp : p j <;> simp_all [SMap.get]
    · cases hp : p j <;> simp_all [SMap.get]

variable [DecidableEq α]

/-- A key at or below the lower bound of a canonical map is not listed. -/
theorem get_of_wfFrom {b : Nat} (h : SMap.wfFrom d (some b) m = true) (hk : k ≤ b) : SMap.get d m k = d := by
  induction m generalizing b with
  | nil => rfl
  | cons e r ih =>
    obtain ⟨j, v⟩ := e
    simp only [SMap.wfFrom, Bool.and_eq_true, decide_eq_true_eq] at h
    obtain ⟨⟨hbj, -⟩, hr⟩ := h
    rw [SMap.get, if_neg (by omega)]
    exact ih hr (by omega)

/-- In a canonical map a change of every value that leaves the default changes what each key reads. -/
theorem get_mapV {f : Nat → α → α} {lo : Option Nat} (h : SMap.wfFrom d lo m = true) (hd : f k d = d) :
    SMap.get d (SMap.mapV d f m) k = f k (SMap.get d m k) := by
  induction m generalizing lo with
  | nil => exact hd.symm
  | cons e r ih =>
    obtain ⟨j, v⟩ := e
    simp only [SMap.wfFrom, Bool.and_eq_true] at h
    obtain ⟨-, hr⟩ := h
    have split : SMap.mapV d f ((j, v) :: r) = if f j v = d then SMap.mapV d f r else (j, f j v) :: SMap.mapV d f r := by
      by_cases hv : f j v = d <;> simp [SMap.mapV, hv]
    rw [split]
    by_cases hj : j = k
    · subst hj
      split
      next hv => simp [SMap.get, hv, get_of_wfFrom (SMap.wfFrom_mapV hr) le_rfl]
      · simp [SMap.get]
    · split <;> simp [SMap.get, hj, ih hr]

end Sys2Proof.Proofs
end

section
/-! SUPPORT. What each reset of Table 4.1 keeps and clears (Table 4.2, R139). -/

namespace Sys2Proof.Proofs
open Sys2Proof Sys2Proof.Machine Sys2Proof.Claims

variable {s : State} {k : ResetKind} {row : Nat} {f : FnId}

theorem keptOverReset_deviceReset : KeptOverReset s (deviceReset s k row) := ⟨rfl, rfl, rfl, rfl, rfl, rfl, rfl, rfl, rfl, rfl⟩

theorem keptOverReset_switchedOff {t : State} {b : Bool} (h : KeptOverReset s t) : KeptOverReset s (switchedOff t b) := by
  obtain ⟨hcounters, hspore, hrecords, hflash, hslots, hnext, hseq, hchain, happlets, hpending⟩ := h
  exact ⟨hcounters, hspore, hrecords, hflash, hslots, hnext, hseq, hchain, happlets, hpending⟩

theorem keptOverReset_sentinelLost {h : Power → Power} : KeptOverReset s (sentinelLost (s.onPower h)) :=
  keptOverReset_switchedOff ⟨rfl, rfl, rfl, rfl, rfl, rfl, rfl, rfl, rfl, rfl⟩

/-- What a device without its Sentinel has lost. -/
theorem deviceReset_seta : (deviceReset s k row).clocks.seta = if k = .fresh then 0 else s.clocks.seta := by cases k <;> rfl
theorem deviceReset_latch : (deviceReset s k row).tamper.latch = if k = .fresh then 0 else s.tamper.latch := by cases k <;> rfl

/-- R139: the configuration space stays with the link. -/
theorem deviceReset_link_kept : (deviceReset s .pcieKept row).link = { s.link with held := [], rings := 0 } := rfl

theorem deviceReset_link_down (h : k ≠ .pcieKept) : let l := (deviceReset s k row).link
    l.up = false ∧ l.vfEnable = false ∧ l.numVfs = 0 := by
  cases k
  case pcieKept => exact absurd rfl h
  all_goals exact ⟨rfl, rfl, rfl⟩

/-- The tamper policy stays while the Sentinel is powered. -/
theorem reg_deviceReset_policy {n : Nat} (hlo : 0x280 ≤ n) (hhi : n < 0x290) :
    reg (deviceReset s k row) n = if k = .fresh then 0 else reg s n := by
  have hpol : isPolicy n = true := by simp [isPolicy, hlo, hhi]
  have hmsix : isMsix n = false := by simp [isMsix]; omega
  have hdef : regDefault n = 0 := if_neg (by simp; omega)
  have hget : SMap.get 0 (deviceReset s k row).regs.active n = if k = .fresh then 0 else SMap.get 0 s.regs.active n := by
    refine (get_filter_key (fun j => (k == .pcieKept && isMsix j) || (k != .fresh && isPolicy j))).trans ?_
    cases k <;> simp [hpol, hmsix]
  rw [reg, hget, reg, hdef]
  split <;> simp

/-- A function keeps its tenant record over every reset. -/
theorem fnOf_deviceReset (h : SMap.wf {} s.fns = true) : fnOf (deviceReset s k row) f = (fnOf s f).overReset k :=
  get_mapV (d := ({} : Fn)) (k := f.toNat) (f := fun _ (x : Fn) => x.overReset k) h (by cases k <;> rfl)

end Sys2Proof.Proofs
end

section
/-! SUPPORT. The events that bring a reset about, the pins and the link (Table 4.1, R71, R139, R167, R210, R216, R880). -/

namespace Sys2Proof.Proofs
open Sys2Proof Sys2Proof.Machine Sys2Proof.Claims

variable {s : State} {row : Nat}

/-! ### The rows -/

theorem exec_resetNAssert : exec .resetNAssert s = execResetNAssert s := rfl
theorem exec_perstAssert : exec .perstAssert s = execPerstAssert s := rfl
theorem exec_linkLoss : exec .linkLoss s = execLinkLoss s := rfl
theorem exec_watchdogExpiry : exec .watchdogExpiry s = execWatchdogExpiry s := rfl
theorem exec_lockstepMismatch : exec .lockstepMismatch s = execLockstepMismatch s := rfl
theorem exec_debugExpiry : exec .debugExpiry s = execDebugExpiry s := rfl
theorem exec_hibernateWake {w : HibWake} : exec (.hibernateWake w) s = execHibernateWake w s := rfl
theorem exec_sentinelPowerUp : exec .sentinelPowerUp s = execSentinelPowerUp s := rfl
theorem exec_sentinelPowerLoss : exec .sentinelPowerLoss s = execSentinelPowerLoss s := rfl
theorem exec_linkUp {d : Bool} : exec (.linkUp d) s = execLinkUp d s := rfl

/-! ### RESET_N, PERST# and the loss of the link -/

theorem outerReset_now (hq : s.power.quiesced = false) : outerReset s row = deviceReset s .pcieIncluded row := by
  simp [outerReset, hq]

/-- R880: in last gasp a reset waits; of two the one of the lower row is kept. -/
theorem outerReset_held (hq : s.power.quiesced = true) : outerReset s row = s.onPower (fun p => { p with
    heldReset := if s.power.heldReset = 0 then row else min row s.power.heldReset }) := by
  simp [outerReset, hq, State.onPower]

/-- The link goes down with PERST#. -/
abbrev perstDown (s : State) : State := s.onLink (fun l => { l with perst := true, up := false, degraded := false })
/-- The link goes down by itself. -/
abbrev linkDown (s : State) : State := s.onLink (fun l => { l with up := false, degraded := false })

section
variable (hc : coreUp s = true)
include hc

theorem resetNAssert_resets : exec .resetNAssert s = .next (outerReset s 2) := by simp [exec_resetNAssert, execResetNAssert, hc]

theorem perstAssert_resets (hp : s.link.perst = false) : exec .perstAssert s = .next (outerReset (perstDown s) 3) := by
  simp [exec_perstAssert, execPerstAssert, hc, hp]

theorem linkLoss_resets (hu : s.link.up = true) : exec .linkLoss s = .next (outerReset (linkDown s) 3) := by
  simp [exec_linkLoss, execLinkLoss, hc, hu]
end

/-! ### Faults, the debug session and HIBERNATE -/

theorem watchdogExpiry_resets (hr : running s = true) (hz : s.update.crozier = false) :
    exec .watchdogExpiry s = .next (deviceReset s .pcieKept 6) := by
  simp [exec_watchdogExpiry, execWatchdogExpiry, hr, hz]

theorem lockstepMismatch_resets (hc : coreUp s = true) (hd : domainOn s 24 = true) :
    exec .lockstepMismatch s = .next (deviceReset s .pcieKept 7) := by
  simp [exec_lockstepMismatch, execLockstepMismatch, hc, hd]

theorem debugExpiry_resets (hc : coreUp s = true) (hd : s.boot.debug = true) :
    exec .debugExpiry s = .next (deviceReset (atInstant s s.boot.debugUntil) .pcieKept 5) := by
  simp [exec_debugExpiry, execDebugExpiry, hc, hd]

section
variable (hs : s.power.state = .hibernate) (hw : s.power.feedWarn = false)
include hs hw

theorem hibernateWake_resetN : exec (.hibernateWake .resetN) s = .next (deviceReset s .pcieIncluded 4) := by
  simp [exec_hibernateWake, execHibernateWake, hs, hw, wakes]

theorem hibernateWake_perst : exec (.hibernateWake .perst) s =
    .next (deviceReset (s.onLink (fun l => { l with perst := false })) .pcieIncluded 4) := by
  simp [exec_hibernateWake, execHibernateWake, hs, hw, wakes]

/-- R55: a pin wakes the device where its wake bit is set. -/
theorem hibernateWake_gpio {n : Fin 8} : exec (.hibernateWake (.gpio n)) s =
    .next (if bitOf (pinCfg s n.val) 5 then deviceReset s .pcieIncluded 4 else s) := by
  simp only [exec_hibernateWake, execHibernateWake, hs, hw, wakes]
  cases bitOf (pinCfg s n.val) 5 <;> rfl
end

/-! ### The Sentinel's power -/

theorem sentinelPowerUp_resets (h : s.power.sentinel = false) :
    exec .sentinelPowerUp s = .next (switchedOff (deviceReset s .fresh 0) true) := by
  simp [exec_sentinelPowerUp, execSentinelPowerUp, h]

theorem sentinelPowerLoss_resets (ho : s.power.state = .off) (hv : s.power.vinStopped = true) (h : s.power.sentinel = true) :
    exec .sentinelPowerLoss s = .next (sentinelLost (s.onPower (fun p => { p with vbak := false }))) := by
  simp [exec_sentinelPowerLoss, execSentinelPowerLoss, ho, hv, h]

/-! ### The link -/

/-- R71, R210: the link comes up, and a served device raises E080. -/
theorem linkUp_raises {d : Bool} (hu : s.link.up = false) (hp : s.link.perst = false) (hg : s.link.phyGood = true)
    (hd : domainOn s 44 = true) : let m := s.onLink (fun l => { l with up := true, degraded := d, eventDetail := d })
    exec (.linkUp d) s = .next (if running s then raiseWaking m [80] else m) := by
  simp [exec_linkUp, execLinkUp, hu, hp, hg, hd]

end Sys2Proof.Proofs
end

section
/-! SUPPORT. VF Enable while Xemberon does not run, and the power-up to the ROM start (R178, R198, R893, Tables 2.13 and 5.17). -/

namespace Sys2Proof.Proofs
open Sys2Proof Sys2Proof.Machine Sys2Proof.Claims

variable {s : State} {f : FnId} {n : Nat} {l : List Nat}

theorem exec_vfEnable {on ari : Bool} : exec (.vfEnable on f ari) s = execVfEnable on f ari s := rfl
theorem exec_vinResumePowerUp : exec .vinResumePowerUp s = execVinResumePowerUp s := rfl
theorem exec_debounceStop : exec .debounceStop s = execDebounceStop s := rfl
theorem exec_powerUpDebounceDone {ph : BitVec 4} : exec (.powerUpDebounceDone ph) s = execPowerUpDebounceDone ph s := rfl

/-! ### The same change of several functions -/

/-- One change of each function of a list. -/
def onFnList (s : State) (l : List Nat) (h : Fn → Fn) : State := l.foldl (fun a n => onFn a (BitVec.ofNat 8 n) h) s

theorem onFnList_frame {h : Fn → Fn} : onFnList s l h = s.onFns (fun _ => (onFnList s l h).fns) :=
  List.foldlRecOn l _ (motive := fun a => a = s.onFns (fun _ => a.fns)) rfl (fun a ha n _ => by
    rw [ha]
    rfl)

theorem enabled_onFnList {h : Fn → Fn} {b : Bool} (hb : ∀ x, (h x).enabled = b) :
    (fnOf (onFnList s l h) f).enabled = if f ∈ l.map (BitVec.ofNat 8) then b else (fnOf s f).enabled := by
  induction l generalizing s with
  | nil => rfl
  | cons n r ih =>
    refine ih.trans ?_
    by_cases hf : f = BitVec.ofNat 8 n
    · subst hf
      simp [fnOf_onFn_same, hb]
    · simp [fnOf_onFn_ne hf, hf]

/-! ### VF Enable -/

/-- A VF that vanishes. -/
def vfGone (x : Fn) : Fn := { x with enabled := false, busMaster := false }
/-- A VF that appears. -/
def vfShown (x : Fn) : Fn := { x with enabled := true }

/-- While Xemberon does not run a VF that vanishes is not reset. -/
theorem foldl_vanish_stopped (h : running s = false) : l.foldl vanish s = onFnList s l vfGone := by
  induction l generalizing s with
  | nil => rfl
  | cons n r ih =>
    have hone : vanish s n = onFn s (BitVec.ofNat 8 n) vfGone := by
      rw [vanish, h]
      rfl
    rw [List.foldl_cons, hone]
    exact ih h

/-- How many VFs VF Enable makes appear. -/
def topVf (s : State) (on : Bool) (n : FnId) (ari : Bool) : Nat := if on then min n.toNat (totalVfs s ari) else 0

/-- The VFs above a number that are there, and those up to it. -/
def vfsGoing (s : State) (top : Nat) : List Nat :=
  ((List.range 255).map (· + 1)).filter (fun n => n > top && (fnOf s (BitVec.ofNat 8 n)).enabled)
def vfsShown (top : Nat) : List Nat := ((List.range 255).map (· + 1)).filter (fun n => n ≤ top)

/-- VF Enable and NumVFs have taken effect. -/
def vfsSet (s : State) (on : Bool) (n : FnId) (ari : Bool) : State :=
  (onFnList (onFnList s (vfsGoing s (topVf s on n ari)) vfGone) (vfsShown (topVf s on n ari)) vfShown).onLink
    (fun l => { l with vfEnable := on, numVfs := n, ari := ari })

theorem vfEnable_stopped {on ari : Bool} {n : FnId} (h : running s = false) : exec (.vfEnable on n ari) s = .next (vfsSet s on n ari) := by
  simp only [exec_vfEnable, execVfEnable]
  rw [foldl_vanish_stopped h, h]
  rfl

/-- A VF by its number. -/
theorem mem_vfs {p : Nat → Bool} :
    f ∈ (((List.range 255).map (· + 1)).filter p).map (BitVec.ofNat 8) ↔ f.toNat ≠ 0 ∧ p f.toNat = true := by
  have hlt := f.isLt
  simp only [List.mem_map, List.mem_filter, List.mem_range]
  constructor
  · rintro ⟨n, ⟨⟨i, hi, rfl⟩, hp⟩, rfl⟩
    have hmod : (BitVec.ofNat 8 (i + 1)).toNat = i + 1 := by rw [BitVec.toNat_ofNat]; omega
    exact ⟨by omega, by rw [hmod]; exact hp⟩
  · rintro ⟨hne, hp⟩
    exact ⟨f.toNat, ⟨⟨f.toNat - 1, by omega, by omega⟩, hp⟩, by simp⟩

theorem le_topVf_iff {on ari : Bool} {n : FnId} (hf : f.toNat ≠ 0) :
    f.toNat ≤ topVf s on n ari ↔ (on && decide (f.toNat ≤ n.toNat) && decide (f.toNat ≤ totalVfs s ari)) = true := by
  cases on <;> simp [topVf, hf]

/-- R178: VFs 1 to NumVFs appear, up to TotalVFs, and no other. -/
theorem enabled_vfsSet {on ari : Bool} {n : FnId} (hf : f ≠ 0) : (fnOf (vfsSet s on n ari) f).enabled =
    (on && decide (f.toNat ≤ n.toNat) && decide (f.toNat ≤ totalVfs s ari)) := by
  have hpos : f.toNat ≠ 0 := fun h => hf (BitVec.eq_of_toNat_eq h)
  rw [Bool.eq_iff_iff, ← le_topVf_iff hpos]
  refine (congrArg (· = true) (enabled_onFnList (s := onFnList s (vfsGoing s _) vfGone) (h := vfShown) (fun _ => rfl))).to_iff.trans ?_
  rw [enabled_onFnList (h := vfGone) (fun _ => rfl), vfsShown, vfsGoing]
  simp only [mem_vfs]
  by_cases hle : f.toNat ≤ topVf s on n ari
  · simp [hpos, hle]
  · simp [hpos, hle, Nat.not_le.mp hle]

theorem enabled_vfsSet_pf {on ari : Bool} {n : FnId} : (fnOf (vfsSet s on n ari) 0).enabled = (fnOf s 0).enabled := by
  refine (enabled_onFnList (s := onFnList s (vfsGoing s _) vfGone) (h := vfShown) (fun _ => rfl)).trans ?_
  rw [enabled_onFnList (h := vfGone) (fun _ => rfl), vfsShown, vfsGoing]
  simp [mem_vfs]

theorem vfsSet_link {on ari : Bool} {n : FnId} : (vfsSet s on n ari).link = { s.link with vfEnable := on, numVfs := n, ari := ari } := by
  rw [vfsSet, onFnList_frame, onFnList_frame]
  rfl

theorem vfsSet_frame {on ari : Bool} {n : FnId} :
    vfsSet s on n ari = { s with fns := (vfsSet s on n ari).fns, link := (vfsSet s on n ari).link } := by
  rw [vfsSet, onFnList_frame, onFnList_frame]
  rfl

/-! ### Power-up -/

theorem vinResumePowerUp_starts (hs : s.power.sentinel = true) (ho : s.power.state = .off) : exec .vinResumePowerUp s =
    .next ((s.onPower (fun p => { p with state := .active, vinStopped := false })).onBoot (fun b => { b with powerUp := 1 })) := by
  simp [exec_vinResumePowerUp, execVinResumePowerUp, hs, ho]

theorem domainOn_setDomain {d e : Nat} (hd : d < 50) : domainOn (setDomain s e true) d = (domainOn s d || d == e) := by
  have hbit : (1#50 <<< e).getLsbD d = (d == e) := by
    rw [Bool.eq_iff_iff]
    simp [hd]
    omega
  rw [← hbit]
  exact BitVec.getLsbD_or

theorem domainOn_setDomains {ds : List Nat} {d : Nat} (hd : d < 50) : domainOn (setDomains s ds true) d = (domainOn s d || ds.contains d) := by
  induction ds generalizing s with
  | nil => simp [setDomains]
  | cons e r ih =>
    refine (ih (s := setDomain s e true)).trans ?_
    rw [domainOn_setDomain hd, List.contains_cons, Bool.or_assoc]

/-- Switching domains on changes the power registers alone. -/
theorem setDomains_frame {ds : List Nat} : ∃ p, setDomains s ds true = s.onPower (fun _ => p) :=
  List.foldlRecOn ds _ (motive := fun a => ∃ p, a = s.onPower (fun _ => p)) ⟨s.power, rfl⟩ (fun a ha d _ => by
    obtain ⟨p, rfl⟩ := ha
    exact ⟨_, rfl⟩)

/-- R136: the PLLs that lock change the clocks alone. -/
theorem lockAll_frame : ∃ c, lockAll s = s.onClocks (fun _ => c) := ⟨_, rfl⟩

/-- R893: VCORE at 0.80 V, with the phases that passed. -/
def vcoreUp (s : State) (ph : BitVec 4) : State :=
  (testPhases s ph).onPower (fun p => { p with vcore := OpPoint.vcode .safe, op := .safe })

/-- Four domains on as well, up to the ROM start. -/
def poweredUp (s : State) (ph : BitVec 4) : State :=
  (lockAll (setDomains (vcoreUp s ph) [24, 25, 41, 43] true)).onBoot
    (fun b => { b with powerUp := 2, attempt := true })

theorem poweredUp_frame {ph : BitVec 4} : let t := poweredUp s ph
    t = { s with boot := t.boot, power := t.power, clocks := t.clocks } := by
  obtain ⟨p, hp⟩ := setDomains_frame (s := vcoreUp s ph) (ds := [24, 25, 41, 43])
  simp only [poweredUp]
  rw [hp]
  obtain ⟨c, hc⟩ := lockAll_frame (s := (vcoreUp s ph).onPower (fun _ => p))
  rw [hc]
  rfl

section
variable (hfed : fed s = true) (h1 : s.boot.powerUp = 1)
include hfed h1

theorem debounceStop_stops : exec .debounceStop s = .next (switchedOff s true) := by
  simp [exec_debounceStop, execDebounceStop, hfed, h1]

theorem powerUpDebounceDone_powers {ph : BitVec 4} : exec (.powerUpDebounceDone ph) s = .next (poweredUp s ph) := by
  simp [exec_powerUpDebounceDone, execPowerUpDebounceDone, hfed, h1, poweredUp, vcoreUp]
end

end Sys2Proof.Proofs
end

section
/-! SUPPORT. What an FLR leaves of its function (Table 5.14, R195). -/

namespace Sys2Proof.Proofs
open Sys2Proof Sys2Proof.Machine Sys2Proof.Claims

variable {s : State} {f : FnId} {q : PairId} {k : Nat}

theorem exec_flrInitiate : exec (.flrInitiate f) s = execFlrInitiate f s := rfl

/-! ### Draws change the entropy group alone -/

/-- The entropy group alone differs. -/
def OnlyEntropy (s t : State) : Prop := ∃ e, t = s.onEntropy (fun _ => e)

theorem OnlyEntropy.refl : OnlyEntropy s s := ⟨s.entropy, rfl⟩

theorem OnlyEntropy.trans {t u : State} (h : OnlyEntropy s t) (h' : OnlyEntropy t u) : OnlyEntropy s u := by
  obtain ⟨e, rfl⟩ := h
  obtain ⟨e', rfl⟩ := h'
  exact ⟨e', rfl⟩

theorem onlyEntropy_onDrbg {i : Inst} {h : Drbg → Drbg} : OnlyEntropy s (onDrbg s i h) := ⟨_, rfl⟩

theorem onlyEntropy_takeBlocks {n : Nat} : OnlyEntropy s (takeBlocks n s).2 := by
  induction n generalizing s with
  | zero => exact .refl
  | succ n ih => exact OnlyEntropy.trans ⟨_, rfl⟩ ih

theorem onlyEntropy_reseed {i : Inst} {x : Bytes} : OnlyEntropy s (reseed s i x) := by
  simp only [reseed]
  exact onlyEntropy_takeBlocks.trans onlyEntropy_onDrbg

/-- The state a draw of its own leaves (R508). -/
theorem onlyEntropy_drawOwn {i : Fin 8} {n : Nat} : OnlyEntropy s (drawOwn s i n).2 := by
  simp only [drawOwn, generate]
  split_ifs
  · exact .refl
  · exact .refl
  · exact onlyEntropy_reseed.trans onlyEntropy_onDrbg
  · exact onlyEntropy_onDrbg

theorem OnlyEntropy.fns {t : State} (h : OnlyEntropy s t) : t.fns = s.fns := by
  obtain ⟨e, rfl⟩ := h
  rfl

theorem OnlyEntropy.power {t : State} (h : OnlyEntropy s t) : t.power = s.power := by
  obtain ⟨e, rfl⟩ := h
  rfl

/-! ### The function's own record -/

/-- No violation counts, no quarantine, no DMA. -/
def Quiet (x : Fn) : Prop := x.violations = [] ∧ x.quarantined = false ∧ x.busMaster = false

/-- A new context-wrapping key changes nothing else of a function's record. -/
theorem quiet_renewCtxKey (h : Quiet (fnOf s f)) : Quiet (fnOf (renewCtxKey s f) f) := by
  have hdraw : fnOf (drawOwn s 0 32).2 f = fnOf s f := by
    rw [fnOf, onlyEntropy_drawOwn.fns]
    rfl
  unfold renewCtxKey
  split
  all_goals
    next hd =>
      rw [hd] at hdraw
      rw [fnOf_onFn_same, hdraw]
      exact h

/-- R506: the reseed of its instance changes nothing of it. -/
theorem quiet_reseeded {b : Bool} {x : Bytes} (h : Quiet (fnOf s f)) : Quiet (fnOf (if b then reseed s (.f f) x else s) f) := by
  split
  · rw [fnOf, onlyEntropy_reseed.fns]
    exact h
  · exact h

theorem quiet_onLink {h : Link → Link} (hq : Quiet (fnOf s f)) : Quiet (fnOf (s.onLink h) f) := hq

/-! ### Registers and pairs -/

/-- The registers, pairs, Pending Bits and configuration space of a function go back to their values after power-up. -/
def clearInterface (s : State) (f : FnId) : State :=
  ((List.range 4).foldl (fun a q => onPair a f (BitVec.ofNat 2 q) (fun _ => {})) (clearFnRegs s f)).onLink (fun l => { l with
    pba := l.pba.filter (fun e => e.1 / 64 != f.toNat), config := l.config.filter (fun e => e.1 / 4096 != f.toNat)
    bars := if f == 0 then [] else l.bars })

theorem resetFunction_eq : ∃ m, Quiet (fnOf m f) ∧ resetFunction s f = clearInterface m f := by
  refine ⟨_, ?_, rfl⟩
  refine quiet_onLink (quiet_renewCtxKey (quiet_reseeded ?_))
  rw [fnOf_onFn_same]
  exact ⟨rfl, rfl, rfl⟩

theorem fnOf_clearInterface : fnOf (clearInterface s f) f = fnOf s f := rfl

theorem quiet_resetFunction : Quiet (fnOf (resetFunction s f) f) := by
  obtain ⟨m, hquiet, hm⟩ := resetFunction_eq (s := s) (f := f)
  rw [hm, fnOf_clearInterface]
  exact hquiet

theorem pairOf_foldl_empty {l : List Nat} (h : q.toNat ∈ l ∨ pairOf s f q = {}) :
    pairOf (l.foldl (fun a q => onPair a f (BitVec.ofNat 2 q) (fun _ => {})) s) f q = {} := by
  induction l generalizing s with
  | nil => simpa using h
  | cons n r ih =>
    refine ih ?_
    by_cases hq : q = BitVec.ofNat 2 n
    · subst hq
      exact .inr pairOf_onPair_same
    · rw [pairOf_onPair_ne (by simpa using hq)]
      refine h.imp_left (fun hm => (List.mem_cons.mp hm).resolve_left (fun he => hq ?_))
      rw [← he, BitVec.ofNat_toNat, BitVec.setWidth_eq]

theorem pairOf_clearInterface : pairOf (clearInterface s f) f q = {} :=
  pairOf_foldl_empty (.inl (List.mem_range.mpr q.isLt))

/-- A register of the function reads its value after power-up, active and staged, and its COMMIT and event registers are clear. -/
theorem registers_clearInterface (hlo : fnKey f 0 ≤ k) (hhi : k < fnKey f 0 + 2 ^ 20) : let t := clearInterface s f
    reg t k = (regDefault k).toNat ∧ staged t k = (regDefault k).toNat ∧ commitReg t k = {} ∧ SMap.get 0 t.regs.events k = 0 := by
  have gone : (decide (k < fnKey f 0) || decide (fnKey f 0 + 2 ^ 20 ≤ k)) = false := by
    rw [decide_eq_false (by omega), decide_eq_false (by omega), Bool.or_false]
  have hget {α : Type} {d : α} {m : SMap α} :
      SMap.get d (m.filter (fun e => decide (e.1 < fnKey f 0) || decide (fnKey f 0 + 2 ^ 20 ≤ e.1))) k = d := by
    rw [get_filter_key (fun j => decide (j < fnKey f 0) || decide (fnKey f 0 + 2 ^ 20 ≤ j)), gone]
    rfl
  have hactive : SMap.get 0 (clearInterface s f).regs.active k = 0 := hget
  have hstage : SMap.get 0 (clearInterface s f).regs.stage k = 0 := hget
  exact ⟨by rw [reg, hactive]; simp, by rw [staged, hstage]; simp, hget, hget⟩

theorem pba_clearInterface {v : Nat} (hv : v < 64) : SMap.get false (clearInterface s f).link.pba (f.toNat * 64 + v) = false := by
  have hdiv : (f.toNat * 64 + v) / 64 = f.toNat := by omega
  refine (get_filter_key (fun j => j / 64 != f.toNat)).trans ?_
  simp [hdiv]

/-- R195: an FLR of a VF raises E081, and the scheduler goes on. -/
theorem flrInitiate_resets (hr : running s = true) (hf : f ≠ 0) (hrel : releasing s f = false) :
    exec (.flrInitiate f) s = .next (dispatch (raise (resetFunction s f) [81])) := by
  simp only [exec_flrInitiate, execFlrInitiate, hr, flrOne, hrel, bne_iff_ne.mpr hf, Bool.not_true, Bool.false_eq_true, if_false, if_true]

/-! ### The statement -/

/-- Settles O51: each event by its own lemmas above. -/
theorem resetsAndTheLink : Obligations.ResetsAndTheLink := by
  unfold Obligations.ResetsAndTheLink
  refine ⟨fun s k row hwf => ?kept, fun s => ⟨fun hc hq => ?now, fun hc hq => ?held, watchdogExpiry_resets, lockstepMismatch_resets,
    debugExpiry_resets, fun hs hw => ⟨hibernateWake_resetN hs hw, hibernateWake_perst hs hw, fun _ => hibernateWake_gpio hs hw⟩,
    fun h => ?sentinelUp, fun ho hv h => ?sentinelLost⟩, fun s => ⟨rfl, fun _ => rfl, fun d => linkUp_raises, fun on n ari h => ?vf⟩,
    fun s ph => ⟨vinResumePowerUp_starts, fun hfed h1 => ?powerUp⟩, fun s f => ?flr⟩
  case kept =>
    refine ⟨rfl, rfl, rfl, rfl, rfl, rfl, rfl, fun _ => rfl, rfl, rfl, rfl, keptOverReset_deviceReset, deviceReset_seta, deviceReset_latch,
      rfl, rfl, fun h => ?_, deviceReset_link_down, fun n => reg_deviceReset_policy, fun f => ?_⟩
    · subst h
      exact deviceReset_link_kept
    · rw [fnOf_deviceReset hwf]
      exact ⟨rfl, rfl, rfl, rfl, rfl, rfl, rfl⟩
  case now =>
    refine ⟨?_, fun hp => ?_, fun hu => ?_⟩
    · rw [resetNAssert_resets hc, outerReset_now hq]
    · rw [perstAssert_resets hc hp, outerReset_now (s := perstDown s) hq]
    · rw [linkLoss_resets hc hu, outerReset_now (s := linkDown s) hq]
  case held =>
    refine ⟨?_, fun hp => ?_, fun hu => ?_, fun hw hr => ?_⟩
    · rw [resetNAssert_resets hc, outerReset_held hq]
    · rw [perstAssert_resets hc hp, outerReset_held (s := perstDown s) hq]
      rfl
    · rw [linkLoss_resets hc hu, outerReset_held (s := linkDown s) hq]
      rfl
    · exact ⟨_, feedDip_resets hq hw hr, rfl, rfl, rfl, rfl⟩
  case sentinelUp => exact ⟨_, sentinelPowerUp_resets h, rfl, rfl, rfl, rfl, rfl, keptOverReset_switchedOff keptOverReset_deviceReset⟩
  case sentinelLost =>
    have kept := keptOverReset_sentinelLost (s := s) (h := fun p => { p with vbak := false })
    exact ⟨_, sentinelPowerLoss_resets ho hv h, rfl, rfl, rfl, rfl, kept⟩
  case vf => exact ⟨_, vfEnable_stopped h, vfsSet_link, enabled_vfsSet_pf, fun f => enabled_vfsSet, vfsSet_frame⟩
  case powerUp =>
    exact ⟨debounceStop_stops hfed h1, _, powerUpDebounceDone_powers hfed h1, rfl, rfl, rfl, rfl, fun d hd => domainOn_setDomains hd,
      poweredUp_frame⟩
  case flr =>
    obtain ⟨m, -, hm⟩ := resetFunction_eq (s := s) (f := f)
    obtain ⟨hviol, hquar, hbus⟩ := quiet_resetFunction (s := s) (f := f)
    refine ⟨fun q => ?_, fun k hlo hhi => ?_, fun v hv => ?_, hviol, hquar, hbus, flrInitiate_resets⟩ <;> rw [hm]
    · exact pairOf_clearInterface
    · exact registers_clearInterface hlo hhi
    · exact pba_clearInterface hv

end Sys2Proof.Proofs
end

section
/-! SUPPORT. What the steps of the ROM sequence leave in the boot registers, and the groups of the flash and the counters (Table 4.3). -/

namespace Sys2Proof.Proofs
open Sys2Proof Sys2Proof.Machine Sys2Proof.Claims

variable {s : State} {env : BootEnv} {u : FlashUnit}

/-! ### Entries, and erases in the journal -/

theorem append_boot {k src d : Nat} : (append s k src d).boot = s.boot := (congrArg State.boot apartFromHypha_append :)
theorem append_counters {k src d : Nat} : (append s k src d).counters = s.counters := (congrArg State.counters apartFromHypha_append :)
theorem bumpSpore_counters {n : Nat} : (bumpSpore s n).counters = s.counters := (congrArg State.counters apartFromHypha_bumpSpore :)

/-- The flash group alone differs. -/
def OnlyFlash (s t : State) : Prop := ∃ f, t = s.onFlash (fun _ => f)

theorem OnlyFlash.refl : OnlyFlash s s := ⟨s.flash, rfl⟩

theorem OnlyFlash.trans {t v : State} (h : OnlyFlash s t) (h' : OnlyFlash t v) : OnlyFlash s v := by
  obtain ⟨f, rfl⟩ := h
  obtain ⟨f', rfl⟩ := h'
  exact ⟨f', rfl⟩

theorem onlyFlash_onFlash {h : Flash → Flash} : OnlyFlash s (s.onFlash h) := ⟨_, rfl⟩
theorem onlyFlash_setJWord {k n : Nat} {w : U64} : OnlyFlash s (setJWord s k n w) := onlyFlash_onFlash
theorem onlyFlash_eraseJournal {k : Nat} : OnlyFlash s (eraseJournal s k) := onlyFlash_onFlash
theorem onlyFlash_jAppend {k : Nat} : OnlyFlash s (jAppend s k u) := onlyFlash_setJWord

theorem onlyFlash_foldSector {k : Nat} : OnlyFlash s (foldSector s k) :=
  List.foldlRecOn _ _ (motive := OnlyFlash s) .refl (fun _ ha _ _ => ha.trans onlyFlash_onFlash)

theorem onlyFlash_switchJournal : OnlyFlash s (switchJournal s) :=
  ((onlyFlash_setJWord.trans onlyFlash_foldSector).trans onlyFlash_eraseJournal).trans onlyFlash_setJWord

theorem onlyFlash_initJournal : OnlyFlash s (initJournal s) :=
  (onlyFlash_eraseJournal.trans onlyFlash_eraseJournal).trans onlyFlash_setJWord

/-- R550: an erase that is whole changes the flash alone. -/
theorem onlyFlash_eraseWhole : OnlyFlash s (eraseWhole s u) := by
  refine OnlyFlash.trans (.trans ?_ onlyFlash_jAppend) onlyFlash_jAppend
  split
  · exact .refl
  · exact onlyFlash_switchJournal

theorem OnlyFlash.boot {t : State} (h : OnlyFlash s t) : t.boot = s.boot := by
  obtain ⟨f, rfl⟩ := h
  rfl

/-! ### Steps 4 and 5 do not verify an image -/

theorem verified_loadOption : (loadOption s).boot.verified = s.boot.verified := rfl

theorem tornEntry_boot {a r : Bool} : (tornEntry s u a r).boot = s.boot := append_boot

theorem sectorGone_boot {n : Nat} : (sectorGone s n).boot = s.boot := by
  unfold sectorGone
  split_ifs <;> rfl

theorem verified_closeTorn : (closeTorn s u).boot.verified = s.boot.verified := by
  have erased : (eraseWhole s u).boot = s.boot := onlyFlash_eraseWhole.boot
  simp only [closeTorn]
  split_ifs <;> rw [tornEntry_boot]
  · rw [State.onFlash_boot]
  · rw [compacted, State.onPinnas_boot, erased]
  · rw [verified_loadOption, State.onFlash_boot, erased]
  · rw [sectorGone_boot, erased]

theorem verified_foldl_closeTorn {l : List FlashUnit} : (l.foldl closeTorn s).boot.verified = s.boot.verified :=
  List.foldlRecOn l closeTorn (motive := fun x : State => x.boot.verified = s.boot.verified) rfl (fun _ ha _ _ => verified_closeTorn.trans ha)

/-- R552 to R557: closing the journal verifies no image. -/
theorem verified_closeJournal : (closeJournal s).1.boot.verified = s.boot.verified := by
  unfold closeJournal
  split
  · simp only [append_boot, onlyFlash_initJournal.boot]
  · simp only [verified_foldl_closeTorn]
    split
    · rw [tornEntry_boot, (onlyFlash_eraseJournal.trans onlyFlash_setJWord).boot]
    · rfl

theorem recoverCounter_boot {src c : Nat} : (recoverCounter src s c).boot = s.boot := by
  have lost : (loseCounter s src c).boot = s.boot := append_boot
  simp only [recoverCounter]
  cases baseOf s.counters c with
  | none => rw [apply_ite State.boot, lost, ite_self]
  | some b => rw [apply_ite State.boot, State.onCounters_boot, ite_self]

end Sys2Proof.Proofs
end

section
/-! SUPPORT. The ROM sequence, step by step, and where it ends (Tables 4.3 and 4.7, R143 to R153, R174). -/

namespace Sys2Proof.Proofs
open Sys2Proof Sys2Proof.Machine Sys2Proof.Claims

variable {s : State} {env : BootEnv}

theorem exec_romBoot : exec (.romBoot env) s = execRomBoot env s := rfl

/-! ### Steps 1 and 2 -/

/-- Step 1 leaves the latch, the flash and the Spore store as they are. -/
theorem romStep1_tamper : (romStep1 env s).tamper = s.tamper := by
  simp only [romStep1]
  split <;> rfl
theorem romStep1_flash : (romStep1 env s).flash = s.flash := by
  simp only [romStep1]
  split <;> rfl
theorem romStep1_spore : (romStep1 env s).spore = s.spore := by
  simp only [romStep1]
  split <;> rfl

theorem latched_romStep1 : latched (romStep1 env s) = latched s := by rw [latched, romStep1_tamper, latched]

theorem lifecycle_congr {t : State} (ht : t.tamper = s.tamper) (hf : t.flash = s.flash) : lifecycle t = lifecycle s := by
  unfold lifecycle otp
  rw [ht, hf]

theorem otpReadable_congr {t : State} (hf : t.flash = s.flash) : otpReadable env t = otpReadable env s := by
  simp only [otpReadable, otp, hf]

theorem lifecycle_romStep1 : lifecycle (romStep1 env s) = lifecycle s := lifecycle_congr romStep1_tamper romStep1_flash
theorem lifecycle_romStep2 : lifecycle (romStep2 env s) = lifecycle s := lifecycle_congr (t := romStep2 env s) romStep1_tamper romStep1_flash
theorem otpReadable_romStep2 : otpReadable env (romStep2 env s) = otpReadable env s := otpReadable_congr (t := romStep2 env s) romStep1_flash

/-- ROM starts: with three phases lost it stops, else it goes on to step 2. -/
theorem romBoot_starts (h : RomStarts s) : exec (.romBoot env) s =
    .next (if 3 ≤ (romStep1 env s).power.phasesLost then romStops (romStep1 env s) .powerFault 0 else romLatch env (romStep1 env s)) := by
  obtain ⟨hp, hheld, hc, hw⟩ := h
  have hstart : (decide (s.boot.powerUp < 2) || s.boot.heldInReset || !coreUp s || s.power.feedWarn) = false := by
    rw [decide_eq_false (Nat.not_lt.mpr hp), hheld, hc, hw]
    rfl
  simp only [exec_romBoot, execRomBoot, hstart, Bool.false_eq_true, if_false]
  exact (apply_ite Host.Outcome.next _ _ _).symm

theorem payRetire_of_paid (h : s.tamper.retirePending = false) : payRetire s = s := by simp [payRetire, h]

theorem rebuildLatch_of_latched (h : latched s = true) : rebuildLatch s = s := by simp [rebuildLatch, h]
theorem rebuildLatch_of_clear (h : bitOf (sporeWord s 48).toNat 0 = false) : rebuildLatch s = s := by simp [rebuildLatch, h]

/-- R149: a latched alarm stops ROM in TAMPERED. -/
theorem romLatch_of_latched (hret : s.tamper.retirePending = false) (hl : latched s = true) (hlife : lifecycle s ≠ 3) : romLatch env s =
    lockAll (enterTampered ((openChain env (romDomains s true)).onBoot (fun b => { b with armedToken := none }))) := by
  have hl' : latched (romDomains s true) = true := hl
  have hlife' : (lifecycle (romDomains s true) == 3) = false := beq_eq_false_iff_ne.mpr hlife
  simp only [romLatch, payRetire_of_paid hret, rebuildLatch_of_latched hl, hl', hlife', Bool.and_false, Bool.not_false, Bool.and_true, if_true]

theorem romLatch_of_clear (hret : s.tamper.retirePending = false) (hl : latched s = false) (hbit : bitOf (sporeWord s 48).toNat 0 = false) :
    romLatch env s = romRow env (lockAll (romDomains s true)) := by
  have hl' : latched (romDomains s true) = false := hl
  simp only [romLatch, payRetire_of_paid hret, rebuildLatch_of_clear hbit, hl', Bool.false_and, Bool.false_eq_true, if_false]

theorem enterTampered_boot : (enterTampered s).boot.state = .tampered ∧ (enterTampered s).boot.rcvClaim = false := ⟨rfl, rfl⟩

/-! ### Steps 3 to 5 -/

theorem romRow_of_unreadable (h : otpReadable env s = false) : romRow env s = romStops (openChain env s) .otpFault 0 := by
  simp [romRow, h]

section
variable (h : otpReadable env s = true)
include h

theorem romRow_of_blank (hl : lifecycle s = 0) : romRow env s = romStops s .blank 0 := by
  simp [romRow, h, hl]

theorem romRow_of_retired (hl : lifecycle s = 3) : ∃ m, romRow env s = romStops m .retired 0 := by
  simp only [romRow, h, hl, Bool.not_true, Bool.false_eq_true, if_false]
  exact ⟨_, rfl⟩

theorem romRow_of_alive (hl : lifecycle s = 1 ∨ lifecycle s = 2) : romRow env s =
    romJournal env (loadOption (s.onFlash (fun f => { f with crozierLock := decide (2 ≤ lifecycle s), crozierTorn := false }))) := by
  have h0 : (lifecycle s == 0) = false := beq_eq_false_iff_ne.mpr (by omega)
  have h3 : (lifecycle s == 3) = false := beq_eq_false_iff_ne.mpr (by omega)
  simp only [romRow, h, h0, h3, Bool.not_true, Bool.false_eq_true, if_false]
end

/-- Step 5 done: the journal closed, counters 0 and 1 recovered. -/
abbrev romRecovered (s : State) : State := [0, 1].foldl (recoverCounter Src.rom) (closeJournal s).1

theorem verified_romRecovered : (romRecovered s).boot.verified = s.boot.verified := by
  simp only [romRecovered, List.foldl_cons, List.foldl_nil, recoverCounter_boot]
  exact verified_closeJournal

/-- The KEK is derived where the PUF key is (R160). -/
def withKek (env : BootEnv) (s : State) : State :=
  if pufGood env s then s.onMedulla (fun m => { m with kek := deriveKek s }) else s

/-- R570: a half-erased code block leads to recovery at once. -/
theorem romJournal_of_torn (ht : (closeJournal s).2 = true) (hv : s.boot.verified = false) :
    romJournal env s = enterRecovery (withKek env (openChain env (romRecovered s))) 7 := by
  simp only [romJournal, ht, hv, Bool.not_false, Bool.and_true, if_true]
  rfl

theorem romJournal_of_whole (ht : (closeJournal s).2 = false) : romJournal env s = romKeys env (romRecovered s) := by
  simp only [romJournal, ht, Bool.false_and, Bool.false_eq_true, if_false]

/-! ### Steps 6 to 11 -/

theorem romKeys_of_bad_helper (h : pufGood env s = false) : romKeys env s = romStops (openChain env s) .keyFault 0 := by
  simp [romKeys, h]

theorem romKeys_of_good_helper (h : pufGood env s = true) : let o := checkToken (openChain env s)
    romKeys env s = romVerify env (o.onMedulla (fun m => { m with kek := deriveKek o })) := by
  simp [romKeys, h]

theorem romVerify_of_cause {c : Nat} (h : imageCause s = some c) : romVerify env s = enterRecovery s c := by simp only [romVerify, h]
theorem romVerify_of_accepted (h : imageCause s = none) : romVerify env s = startXemberon env s := by simp only [romVerify, h]

/-- Recovery is entered with both paths open, and its manifest chunks first (Table 4.7). -/
theorem enterRecovery_boot {c : Nat} : let b := (enterRecovery s c).boot
    b.state = .recoveryWait ∧ b.cause = BitVec.ofNat 8 c ∧ b.rcvNext = 60 ∧ b.rcvClaim = false := ⟨rfl, rfl, rfl, rfl⟩

theorem withKek_medulla (h : pufGood env s = true) : (withKek env s).medulla.kek = deriveKek s := by
  simp [withKek, h]

/-! ### The boot epoch (R174) -/

theorem stepEpoch_eq_none (h : stepEpoch s = none) : counterSpent s.counters 0 = true ∨ incrementCounter s.counters 0 = none := by
  unfold stepEpoch at h
  split at h
  next hspent => exact .inl hspent
  · exact .inr (Option.map_eq_none_iff.mp h)

theorem stepEpoch_of_spent (h : counterSpent s.counters 0 = true) : stepEpoch s = none := if_pos h

theorem bootEntries_counters : (bootEntries s).counters = s.counters := by
  simp only [bootEntries]
  rw [append_counters]
  split
  · rw [bumpSpore_counters, append_counters, State.onBoot_counters]
  · rfl

/-- Counter 0 spent: Xemberon stops in EPOCH_SPENT, with the lost phases noted. -/
theorem startXemberon_of_spent (h : counterSpent s.counters 0 = true) :
    ∃ m, startXemberon env s = notePhases m ∧ m.boot.state = .epochSpent ∧ m.counters = s.counters := by
  simp only [startXemberon]
  split
  · refine ⟨_, rfl, rfl, ?_⟩
    rw [State.onBoot_counters, bootEntries_counters]
    rfl
  next hsome =>
    rw [stepEpoch_of_spent (by exact h)] at hsome
    cases hsome

end Sys2Proof.Proofs
end

section
/-! SUPPORT. The recovery commands and the tamper acknowledgement, one by one (Tables 4.8 and 4.9, R151 to R161), and O52. -/

namespace Sys2Proof.Proofs
open Sys2Proof Sys2Proof.Machine Sys2Proof.Claims

variable {s : State} {env : BootEnv}

/-! ### The rows -/

theorem exec_rcvClaim : exec .rcvClaim s = .next (claimPath s) := rfl
theorem exec_rcvChunkGo : exec .rcvChunkGo s = .next (takeChunk s) := rfl
theorem exec_rcvVerify : exec .rcvVerify s = .next (checkImage s) := rfl
theorem exec_rcvAck : exec .rcvAck s = .next (checkAck s) := rfl
theorem exec_claimWaitExpiry : exec .claimWaitExpiry s = execClaimWaitExpiry s := rfl
theorem exec_turtisGiveupExpiry : exec .turtisGiveupExpiry s = execTurtisGiveupExpiry s := rfl

/-- ROM has not stopped while FEED_WARN is clear. -/
theorem romStopped_of_fed (h : s.power.feedWarn = false) : romStopped s = false := by simp [romStopped, h]

/-! ### The end of a pull (R161) -/

theorem domainOn_setDomain_off {d e : Nat} (hd : d < 50) : domainOn (setDomain s e false) d = (domainOn s d && d != e) := by
  have hbit : (~~~(1#50 <<< e)).getLsbD d = (d != e) := by
    rw [Bool.eq_iff_iff]
    simp [hd]
    omega
  rw [← hbit]
  exact BitVec.getLsbD_and

theorem closeTurtisPath_boot :
    (closeTurtisPath s).boot = { s.boot with rcvTurtis := false, rcvPcieOnly := true, state := .recoveryWait } := rfl
theorem closeTurtisPath_pulling : (closeTurtisPath s).update.pulling = false := rfl
theorem portOf_closeTurtisPath : portOf (closeTurtisPath s) s.update.srcPort = {} :=
  portOf_onPort_same (s := s) (h := fun _ => {})

/-- The port that pulled loses its power. -/
theorem domainOn_closeTurtisPath : domainOn (closeTurtisPath s) (45 + s.update.srcPort.val) = false := by
  have hp := s.update.srcPort.isLt
  refine (domainOn_setDomain_off (by omega)).trans ?_
  rw [domainOn_setDomain_off (by omega), bne_self_eq_false, Bool.and_false, Bool.false_and]

theorem turtisGiveupExpiry_closes (hp : s.update.pulling = true) (hr : inRecovery s = true) :
    exec .turtisGiveupExpiry s = .next (closeTurtisPath s) := by
  simp [exec_turtisGiveupExpiry, execTurtisGiveupExpiry, hp, hr]

/-! ### CLAIM (R158) -/

/-- The bit is set. -/
abbrev claimed (s : State) : State := s.onBoot (fun b => { b with rcvClaim := true })

theorem rcvClaim_outside (h : inRecovery s = false) : exec .rcvClaim s = .next (claimed s) := by
  simp [exec_rcvClaim, claimPath, h]

section
variable (hr : inRecovery s = true) (hw : s.power.feedWarn = false)
include hr hw

theorem rcvClaim_refused (ht : s.boot.rcvTurtis = true) :
    exec .rcvClaim s = .next (s.onBoot (fun b => { b with rcvClaim := true, rcvResult := 7 })) := by
  simp only [exec_rcvClaim, claimPath, hr, romStopped_of_fed hw, ht, Bool.not_true, Bool.or_false, Bool.false_eq_true, if_false, if_true]
  rfl

theorem rcvClaim_claims (ht : s.boot.rcvTurtis = false) : exec .rcvClaim s =
    .next ((if s.update.pulling then closeTurtisPath (claimed s) else claimed s).onBoot (fun b => { b with state := .recoveryLoading })) := by
  simp only [exec_rcvClaim, claimPath, hr, romStopped_of_fed hw, ht, Bool.not_true, Bool.or_false, Bool.false_eq_true, if_false]
  rfl
end

/-! ### Chunks (R154 to R156) -/

/-- The block of an even chunk is erased first. -/
def erasedFor (s : State) (c : Nat) : State := if c % 2 == 0 then bankErase (eraseWhole s ⟨0, c / 2⟩) (c / 2) else s
/-- The 128 pages of a chunk are programmed. -/
def pagesWritten (s : State) (c : Nat) : State := bankWrite (erasedFor s c) (65536 * c) (windowBytes (erasedFor s c))

theorem onlyFlash_erasedFor {c : Nat} : OnlyFlash s (erasedFor s c) := by
  unfold erasedFor
  split
  · exact onlyFlash_eraseWhole.trans onlyFlash_onFlash
  · exact .refl

theorem onlyFlash_pagesWritten {c : Nat} : OnlyFlash s (pagesWritten s c) := by
  rw [pagesWritten, bankWrite]
  exact onlyFlash_erasedFor.trans onlyFlash_onFlash

theorem programChunk_eq {c : Nat} : programChunk s c =
    (pagesWritten s c).onBoot (fun b => { b with rcvResult := 0, rcvNext := b.rcvNext + 1, rcvLoaded := c == 59 }) := rfl

theorem programChunk_boot {c : Nat} : (programChunk s c).boot =
    { s.boot with rcvResult := 0, rcvNext := s.boot.rcvNext + 1, rcvLoaded := c == 59 } := by
  rw [programChunk_eq, State.onBoot_boot, onlyFlash_pagesWritten.boot]

/-- R156: bank A holds the chunk as the window holds it. -/
theorem bankRead_programChunk {c : Nat} : bankRead (programChunk s c) (65536 * c) 65536 = windowBytes s := by
  have hwindow : windowBytes (erasedFor s c) = windowBytes s := by rw [windowBytes, onlyFlash_erasedFor.boot, windowBytes]
  have hlen : (windowBytes s).length = 65536 := Memory.length_read
  have same := Memory.read_write_same (d := 0xFF) (m := (erasedFor s c).flash.bankA) (a := 65536 * c) (bs := windowBytes s)
  rw [hlen] at same
  simp only [programChunk_eq, bankRead, State.onBoot_flash, pagesWritten, bankWrite, State.onFlash_flash, hwindow, same]

/-- R155: the check of the manifest leaves bank A and the floor as they are. -/
theorem runningManifest_chunkManifest : runningManifest (chunkManifest s) = runningManifest s := by
  simp only [chunkManifest]
  split_ifs <;> rfl

theorem svnOk_chunkManifest {n : Nat} : svnOk (chunkManifest s) n = svnOk s n := by
  simp only [chunkManifest]
  split_ifs <;> rfl

theorem chunkManifest_bad (h : (runningManifest s).ok = false) :
    (chunkManifest s).boot.rcvResult = 3 ∧ (chunkManifest s).boot.rcvNext = 60 := by
  simp only [chunkManifest, h, Bool.not_false, if_true]
  exact ⟨rfl, rfl⟩

section
variable (hok : (runningManifest s).ok = true)
include hok

theorem chunkManifest_below_floor (h : svnOk s (runningManifest s).svn = false) :
    (chunkManifest s).boot.rcvResult = 4 ∧ (chunkManifest s).boot.rcvNext = 60 := by
  simp only [chunkManifest, hok, h, Bool.not_true, Bool.not_false, Bool.false_eq_true, if_false, if_true]
  exact ⟨rfl, rfl⟩

theorem chunkManifest_good (h : svnOk s (runningManifest s).svn = true) : chunkManifest s = s := by
  simp only [chunkManifest, hok, h, Bool.not_true, Bool.false_eq_true, if_false]
end

/-- The PCIe path holds a recovery that goes on. -/
structure PcieRecovers (s : State) : Prop where
  loading : s.boot.state = .recoveryLoading
  claim : s.boot.rcvClaim = true
  turtis : s.boot.rcvTurtis = false
  fed : s.power.feedWarn = false

section
variable (h : PcieRecovers s)
include h

theorem PcieRecovers.pcieLoads : pcieLoads s = true := by
  simp [Machine.pcieLoads, h.loading, h.claim, h.turtis, romStopped_of_fed h.fed]

theorem rcvChunkGo_bad_crc (hcrc : crc32c (windowBytes s) ≠ s.boot.rcvCrc) : exec .rcvChunkGo s = .next (setResult s 1) := by
  have hne : (crc32c (windowBytes s) != s.boot.rcvCrc) = true := bne_iff_ne.mpr hcrc
  simp only [exec_rcvChunkGo, takeChunk, h.pcieLoads, hne, Bool.not_true, Bool.false_eq_true, if_false, if_true]

theorem rcvChunkGo_out_of_order (hcrc : crc32c (windowBytes s) = s.boot.rcvCrc) (hn : s.boot.rcvChunk ≠ s.boot.rcvNext) :
    exec .rcvChunkGo s = .next (setResult s 2) := by
  have hne : (s.boot.rcvChunk != s.boot.rcvNext) = true := bne_iff_ne.mpr hn
  simp only [exec_rcvChunkGo, takeChunk, h.pcieLoads, hcrc, hne, bne_self_eq_false, Bool.not_true, Bool.false_eq_true, if_false, if_true]

/-- R156, R582: the chunk is programmed; chunk 63 holds the manifest. -/
theorem rcvChunkGo_takes (ht : ChunkTaken s) : let m := programChunk s s.boot.rcvChunk.toNat
    exec .rcvChunkGo s = .next (if s.boot.rcvChunk = 63 then chunkManifest m else m) := by
  obtain ⟨hcrc, hn, hworn⟩ := ht
  have hlast : (s.boot.rcvChunk.toNat == 63) = decide (s.boot.rcvChunk = 63) := by
    rw [Bool.eq_iff_iff]
    simp [BitVec.toNat_eq]
  simp only [exec_rcvChunkGo, takeChunk, h.pcieLoads, hcrc, ← hn, hworn, hlast, bne_self_eq_false, Bool.not_true, Bool.false_eq_true, if_false,
    decide_eq_true_eq]

theorem rcvVerify_early (hl : s.boot.rcvLoaded = false) : exec .rcvVerify s = .next (setResult s 2) := by
  simp [exec_rcvVerify, checkImage, h.pcieLoads, hl]

theorem rcvVerify_refused (hl : s.boot.rcvLoaded = true) (ha : imageAccepted s = false) : exec .rcvVerify s =
    .next (s.onBoot (fun b => { b with rcvResult := 6, rcvNext := 60, rcvLoaded := false })) := by
  simp [exec_rcvVerify, checkImage, h.pcieLoads, hl, ha, State.onBoot, h.loading]

theorem rcvVerify_boots (hl : s.boot.rcvLoaded = true) (ha : imageAccepted s = true) : exec .rcvVerify s =
    .next (s.onBoot (fun b => { b with state := .romChecks, verified := true, powerUp := 3, rcvResult := 0 })) := by
  simp [exec_rcvVerify, checkImage, h.pcieLoads, hl, ha]
end

/-! ### The tamper acknowledgement (R151, R152) -/

section
variable (ht : s.boot.state = .tampered) (hw : s.power.feedWarn = false)
include ht hw

theorem rcvAck_unverified (ha : ackAccepted s (Memory.read 0 s.boot.rcvWindow 0 229) = false) : exec .rcvAck s = .next (setResult s 9) := by
  simp only [exec_rcvAck, checkAck, ht, romStopped_of_fed hw, ha, bne_self_eq_false, Bool.or_false, Bool.not_false, Bool.false_eq_true, if_false,
    if_true]

variable (ha : ackAccepted s (Memory.read 0 s.boot.rcvWindow 0 229) = true)
include ha

theorem rcvAck_source_active (hl : s.tamper.live.toNat &&& latchSources s.tamper.latch ≠ 0) : exec .rcvAck s = .next (setResult s 8) := by
  have hne : (s.tamper.live.toNat &&& latchSources s.tamper.latch != 0) = true := bne_iff_ne.mpr hl
  simp only [exec_rcvAck, checkAck, ht, romStopped_of_fed hw, ha, hne, bne_self_eq_false, Bool.or_false, Bool.not_true, Bool.false_eq_true, if_false,
    if_true]

theorem rcvAck_clears (hl : s.tamper.live.toNat &&& latchSources s.tamper.latch = 0) : exec .rcvAck s = .next (acknowledge s) := by
  simp only [exec_rcvAck, checkAck, ht, romStopped_of_fed hw, ha, hl, bne_self_eq_false, Bool.or_false, Bool.not_true, Bool.false_eq_true, if_false]
end

/-! ### The wait for a claim (R159, R160) -/

theorem drawNonce_power {p : Fin 2} : (drawNonce s p).power = s.power := by
  have hdraw := (onlyEntropy_drawOwn (s := s) (i := 5) (n := 8)).power
  unfold drawNonce
  split_ifs
  · rfl
  · rfl
  · split <;> (next hd => rw [hd] at hdraw; exact hdraw)

theorem startPort_power {p : Fin 2} {w : U64} : (startPort s p w).power = s.power := drawNonce_power

theorem domainOn_lockAll {d : Nat} : domainOn (lockAll s) d = domainOn s d := rfl

/-- The recovery port powered, and frond 0 for its MACs (R666). -/
def recoveryPowered (s : State) : State := lockAll (setDomain (setDomain s 0 true) (45 + (recoveryPort s).val) true)
/-- The recovery port pulls. -/
def recoveryPulls (s : State) : State :=
  let m := recoveryPowered s
  (startPort m (recoveryPort s) (BitVec.ofNat 64 (reg m (glKey (0x220 + 0x20 * (recoveryPort s).val))))).onUpdate (fun u => { u with
    pulling := true, srcPort := recoveryPort s, source := 0xFF, skip := [], chunks := 0, highWater := 0 })

theorem domainOn_recoveryPulls {d : Nat} : domainOn (recoveryPulls s) d = domainOn (recoveryPowered s) d := by
  simp only [recoveryPulls, domainOn, State.onUpdate_power, startPort_power]

theorem domainOn_recoveryPulls_frond : domainOn (recoveryPulls s) 0 = true := by
  rw [domainOn_recoveryPulls, recoveryPowered, domainOn_lockAll, domainOn_setDomain (by decide), domainOn_setDomain (by decide), beq_self_eq_true,
    Bool.or_true, Bool.true_or]

theorem domainOn_recoveryPulls_port : domainOn (recoveryPulls s) (45 + (recoveryPort s).val) = true := by
  have hp := (recoveryPort s).isLt
  rw [domainOn_recoveryPulls, recoveryPowered, domainOn_lockAll, domainOn_setDomain (by omega), beq_self_eq_true, Bool.or_true]

/-- ROM waits in recovery for a claim, with both paths open and the Turtis path enabled. -/
structure AwaitsClaim (s : State) : Prop where
  waiting : s.boot.state = .recoveryWait
  unclaimed : s.boot.rcvClaim = false
  bothPaths : s.boot.rcvPcieOnly = false
  still : s.update.pulling = false
  enabled : optField s 9 0 1 1 ≠ 0
  fed : s.power.feedWarn = false

section
variable (h : AwaitsClaim s)
include h

/-- The path is offered while the seed stands. -/
theorem claimWaitExpiry_eq : exec .claimWaitExpiry s = .next (if seedErased s then s
    else if attrValid (attrOf (loadLinkKey s) 2) then recoveryPulls (loadLinkKey s) else loadLinkKey s) := by
  simp only [exec_claimWaitExpiry, execClaimWaitExpiry, h.waiting, h.unclaimed, h.bothPaths, h.still, beq_eq_false_iff_ne.mpr h.enabled,
    romStopped_of_fed h.fed, bne_self_eq_false, Bool.false_or, Bool.or_false]
  cases seedErased s
  · cases attrValid (attrOf (loadLinkKey s) 2) <;> rfl
  · rfl
end

/-! ### Where ROM_BOOT ends -/

/-- Steps 3 and 4 done: the option area loaded. -/
abbrev romOption (env : BootEnv) (s : State) : State :=
  let m := romStep2 env s
  loadOption (m.onFlash (fun f => { f with crozierLock := decide (2 ≤ lifecycle m), crozierTorn := false }))

section
variable (h : RomStarts s) (hlost : (romStep1 env s).power.phasesLost < 3) (hret : s.tamper.retirePending = false)
include h hlost hret

/-- ROM with an alarm latched (R149). -/
theorem romBoot_tampered (hl : latched s = true) (hlife : lifecycle s ≠ 3) :
    ∃ t, exec (.romBoot env) s = .next t ∧ t.boot.state = .tampered ∧ t.boot.rcvClaim = false := by
  rw [romBoot_starts h, if_neg (Nat.not_le.mpr hlost), romLatch_of_latched (by rw [romStep1_tamper, hret]) (latched_romStep1.trans hl)
    (by rw [lifecycle_romStep1]; exact hlife)]
  exact ⟨_, rfl, enterTampered_boot⟩

variable (hl : latched s = false) (hbit : bitOf (sporeWord s 48).toNat 0 = false)
include hl hbit

theorem romBoot_clear : exec (.romBoot env) s = .next (romRow env (romStep2 env s)) := by
  rw [romBoot_starts h, if_neg (Nat.not_le.mpr hlost), romLatch_of_clear (by rw [romStep1_tamper, hret]) (latched_romStep1.trans hl)
    (by rw [sporeWord, romStep1_spore]; exact hbit)]

theorem romBoot_alive (hread : otpReadable env s = true) (hlife : lifecycle s = 1 ∨ lifecycle s = 2) :
    exec (.romBoot env) s = .next (romJournal env (romOption env s)) := by
  rw [romBoot_clear h hlost hret hl hbit, romRow_of_alive (otpReadable_romStep2.trans hread) (by rw [lifecycle_romStep2]; exact hlife)]
end

/-! ### The statement -/

/-- Settles O52: the ROM sequence and each command by their own lemmas above. -/
theorem bootAndRecovery : Obligations.BootAndRecovery := by
  unfold Obligations.BootAndRecovery
  refine ⟨fun s env h => ⟨fun hlost => ?powerFault, fun hlost hret => ⟨romBoot_tampered h hlost hret, fun hl hbit => ?clear⟩⟩,
    fun s env => ⟨fun _ => stepEpoch_eq_none, startXemberon_of_spent⟩, fun s => ⟨rcvClaim_outside, fun hr hw => ?claim⟩,
    fun s hs hc ht hw => ?chunks, fun s ht hw => ⟨rcvAck_unverified ht hw, rcvAck_source_active ht hw, rcvAck_clears ht hw⟩,
    fun s hs hc hp hu he hw => ?wait, fun s hp hr => ?giveup⟩
  case powerFault =>
    rw [romBoot_starts h, if_pos hlost]
    exact ⟨_, rfl, rfl, rfl⟩
  case clear =>
    refine ⟨fun hread => ?otpFault, fun hread hlife => ?blank, fun hread hlife => ?retired,
      fun hread hlife => ⟨fun htorn hv => ?torn, fun hwhole => ?whole⟩⟩
    case otpFault =>
      rw [romBoot_clear h hlost hret hl hbit, romRow_of_unreadable (otpReadable_romStep2.trans hread)]
      exact ⟨_, rfl, rfl⟩
    case blank =>
      rw [romBoot_clear h hlost hret hl hbit, romRow_of_blank (otpReadable_romStep2.trans hread) (lifecycle_romStep2.trans hlife)]
    case retired =>
      obtain ⟨m, hm⟩ := romRow_of_retired (otpReadable_romStep2.trans hread) (lifecycle_romStep2.trans hlife)
      rw [romBoot_clear h hlost hret hl hbit, hm]
      exact ⟨_, rfl, rfl⟩
    case torn =>
      have hv' : (romOption env s).boot.verified = false := verified_romRecovered.symm.trans hv
      rw [romBoot_alive h hlost hret hl hbit hread hlife, romJournal_of_torn htorn hv']
      exact ⟨_, rfl, rfl, rfl, rfl, withKek_medulla⟩
    case whole =>
      rw [romBoot_alive h hlost hret hl hbit hread hlife, romJournal_of_whole hwhole]
      refine ⟨fun hpuf => ?_, fun hpuf => ⟨fun c hcause => ?_, fun hnone => ?_⟩⟩
      · rw [romKeys_of_bad_helper hpuf]
        exact ⟨_, rfl, rfl⟩
      · rw [romKeys_of_good_helper hpuf, romVerify_of_cause hcause]
        exact ⟨_, rfl, enterRecovery_boot⟩
      · rw [romKeys_of_good_helper hpuf, romVerify_of_accepted hnone]
  case claim =>
    refine ⟨rcvClaim_refused hr hw, fun ht hp => ?_, fun ht hp => ?_⟩
    · rw [rcvClaim_claims hr hw ht, hp]
      rfl
    · rw [rcvClaim_claims hr hw ht, hp]
      refine ⟨_, rfl, ?_, rfl, portOf_closeTurtisPath (s := claimed s), domainOn_closeTurtisPath (s := claimed s)⟩
      rw [if_pos rfl, State.onBoot_boot, closeTurtisPath_boot, State.onBoot_boot, ← ht]
  case chunks =>
    have h : PcieRecovers s := ⟨hs, hc, ht, hw⟩
    refine ⟨rcvChunkGo_bad_crc h, rcvChunkGo_out_of_order h, fun htake hne => ?program, fun htake heq => ?manifest, rcvVerify_early h,
      rcvVerify_refused h, rcvVerify_boots h⟩
    case program =>
      have hloaded : (s.boot.rcvChunk.toNat == 59) = (s.boot.rcvChunk == 59) := by
        rw [Bool.eq_iff_iff]
        simp [BitVec.toNat_eq]
      rw [rcvChunkGo_takes h htake, if_neg hne]
      refine ⟨_, rfl, ?_, ?_, ?_, ?_, bankRead_programChunk⟩ <;> rw [programChunk_boot]
      · exact hloaded
      · exact hs
    case manifest =>
      rw [rcvChunkGo_takes h htake, if_pos heq]
      obtain ⟨-, hnext, -⟩ := htake
      refine ⟨_, _, rfl, rfl, ?_⟩
      rw [runningManifest_chunkManifest, svnOk_chunkManifest]
      refine ⟨chunkManifest_bad, chunkManifest_below_floor, fun hok hsvn => ?_⟩
      rw [chunkManifest_good hok hsvn, programChunk_boot, ← hnext, heq]
      exact ⟨rfl, rfl⟩
  case wait =>
    have h : AwaitsClaim s := ⟨hs, hc, hp, hu, he, hw⟩
    rw [claimWaitExpiry_eq h]
    refine ⟨fun hseed => ?_, fun hseed hkey => ?_, fun hseed hkey => ?_⟩
    · rw [if_pos hseed]
    · rw [hseed, hkey]
      rfl
    · rw [hseed, hkey]
      exact ⟨_, rfl, rfl, rfl, rfl, rfl, domainOn_recoveryPulls_frond, domainOn_recoveryPulls_port⟩
  case giveup =>
    exact ⟨_, turtisGiveupExpiry_closes hp hr, closeTurtisPath_pulling, closeTurtisPath_boot, portOf_closeTurtisPath, domainOn_closeTurtisPath⟩

end Sys2Proof.Proofs
end

section
/-! SUPPORT. The host link: gathered completions that fall due, Bus Master Enable, DMA reads and host writes that complete or fail (R186, R211,
R212, R215, R257, R886), and O12. -/

namespace Sys2Proof.Proofs
open Sys2Proof Sys2Proof.Machine Sys2Proof.Claims

variable {s : State} {f g : FnId} {q : PairId} {tag : BitVec 16} {off len : BitVec 32} {a addr : U64} {e : DmaEnd} {use : DmaUse} {data bs : Bytes}
  {j : Job} {n b : Nat}

/-! ### The rows -/

theorem exec_coalesceTimeout : exec (.coalesceTimeout f q) s = execCoalesceTimeout f q s := rfl
theorem exec_busMasterEnable {on : Bool} : exec (.busMasterEnable f on) s = execBusMasterEnable f on s := rfl
theorem exec_dmaReadCompletion : exec (.dmaReadCompletion f use addr e data) s = execDmaReadCompletion f use addr e data s := rfl
theorem exec_hostWriteFailure {w : FailedWrite} : exec (.hostWriteFailure f w) s = execHostWriteFailure f w s := rfl

theorem pairServed_iff {p : Pair} : pairServed p = true ↔ p.active ∨ p.draining := Bool.or_eq_true_iff

/-! ### COALESCE_TIMEOUT (R186) -/

/-- An event at the instant that is now moves no clock. -/
theorem atInstant_now {t : Nat} (h : s.clocks.seta = t) : atInstant s t = s := by simp [atInstant, h]

theorem coalesceTimeout_due (hu : (pairOf s f q).unsignalled ≠ 0) (ht : reg s (fnKey f 0x180) / 256 % 1024 ≠ 0)
    (hnow : s.clocks.seta = (pairOf s f q).oldest + 100 * (reg s (fnKey f 0x180) / 256 % 1024)) :
    exec (.coalesceTimeout f q) s =
      .next (signal (onPair s f q (fun x => { x with unsignalled := 0 })) f (pairOf s f q).vector) := by
  have htime : bitsOf (reg s (fnKey f 0x180)) 8 10 = reg s (fnKey f 0x180) / 256 % 1024 := rfl
  simp only [exec_coalesceTimeout, execCoalesceTimeout, htime]
  rw [atInstant_now hnow, if_neg (by simp [hu, ht])]

/-! ### BUS_MASTER_ENABLE (R211) -/

/-- With no output held and no job that is done there is nothing to send. -/
theorem flushHeld_of_nothing_waits (hheld : s.link.held = []) (hjobs : ∀ j ∈ s.jobs, j.stage ≠ .done) : flushHeld s f = s := by
  have hdone : s.jobs.filter (fun j => j.cmd.fn == f && j.stage == .done) = [] :=
    List.filter_eq_nil_iff.mpr fun j hj => by simp [hjobs j hj]
  have hkept : s.link.held.filter (fun e => e.1 != f) = s.link.held := by rw [hheld, List.filter_nil]
  have hlink : s.onLink (fun l => { l with held := l.held.filter (fun e => e.1 != f) }) = s := by simp only [State.onLink, hkept]
  simp only [flushHeld, hlink, hheld, List.filter_nil, List.foldl_nil, hdone]

theorem busMasterEnable_sets (hheld : s.link.held = []) (hjobs : ∀ j ∈ s.jobs, j.stage ≠ .done) :
    exec (.busMasterEnable f true) s = .next (flushPba (onFn s f (fun x => { x with busMaster := true })) f) := by
  have hnothing : flushHeld (onFn s f (fun x => { x with busMaster := true })) f = onFn s f (fun x => { x with busMaster := true }) :=
    flushHeld_of_nothing_waits hheld hjobs
  simp only [exec_busMasterEnable, execBusMasterEnable, if_true, hnothing]

/-! ### AER (R215) -/

/-- The bit is set for the function, or for the PF where the function is not there. -/
theorem aerReport_eq : aerReport s f n = s.onLink (fun l => { l with
    aer := SMap.mod 0 l.aer (if f = 0 ∨ (fnOf s f).enabled = true then f else 0).toNat (fun x => x ||| BitVec.ofNat 32 (2 ^ n)) }) := by
  simp only [aerReport, Bool.or_eq_true, beq_iff_eq]

/-! ### Failed host writes (R215, R257, R886, R887) -/

/-- A byte of host memory that a write does not name reads as before, over the top of the address space as well (log entry 80). -/
theorem hostRead_hostWrite_unnamed {x : Nat} (hl : bs.length ≤ 2 ^ 64)
    (h : g = f → ∀ k < bs.length, b % 2 ^ 64 ≠ (x + k) % 2 ^ 64) : hostRead (hostWrite s f x bs) g b 1 = hostRead s g b 1 := by
  by_cases hg : g = f
  · have hnot := h hg
    subst hg
    have hone : belowTop b 1 = 1 := by unfold belowTop; omega
    have hlow : hostKey g b + 1 ≤ hostKey g x ∨ hostKey g x + (bs.take (belowTop x bs.length)).length ≤ hostKey g b := by
      have := hnot (b % 2 ^ 64 - x % 2 ^ 64)
      rw [List.length_take]
      unfold hostKey belowTop
      omega
    have hwrapped : hostKey g b + 1 ≤ hostKey g 0 ∨ hostKey g 0 + (bs.drop (belowTop x bs.length)).length ≤ hostKey g b := by
      have := hnot (b % 2 ^ 64 + (2 ^ 64 - x % 2 ^ 64))
      rw [List.length_drop]
      unfold hostKey belowTop
      omega
    simp only [hostRead, hostWrite, State.onLink_link, hone]
    rw [Memory.read_write_apart hwrapped, Memory.read_write_apart hlow]
    rfl
  · exact hostRead_hostWrite_other hg hl (by omega)

/-- What any failed write leaves: the report, and free values in the bytes it named. -/
def afterFailedWrite (s : State) (f : FnId) (a : U64) (len : BitVec 32) : State := looseBytes (aerReport s f 20) f a.toNat len.toNat

theorem hostWriteFailure_output : exec (.hostWriteFailure f ⟨.output q tag, a, len⟩) s = .next (afterFailedWrite s f a len) := rfl
theorem hostWriteFailure_message : exec (.hostWriteFailure f ⟨.message, a, len⟩) s = .next (afterFailedWrite s f a len) := rfl
theorem hostWriteFailure_queue : exec (.hostWriteFailure f ⟨.queue q, a, len⟩) s =
    .next (if (pairOf s f q).active ∨ (pairOf s f q).draining then
        closePair (onPair (afterFailedWrite s f a len) f q (fun x => { x with lost := true })) f q false
      else afterFailedWrite s f a len) :=
  congrArg Host.Outcome.next (if_congr pairServed_iff rfl rfl)

theorem afterFailedWrite_aer : (afterFailedWrite s f a len).link.aer = (aerReport s f 20).link.aer := rfl

/-- Nothing but host memory, AER and the free values taken changes. -/
theorem afterFailedWrite_frame : afterFailedWrite s f a len =
    { s with
      link := { s.link with hostMem := (afterFailedWrite s f a len).link.hostMem, aer := (afterFailedWrite s f a len).link.aer }
      free := s.free + len.toNat } := rfl

/-- A byte that changes is one of those the write named. -/
theorem named_of_afterFailedWrite_ne (h : hostRead (afterFailedWrite s f a len) g b 1 ≠ hostRead s g b 1) :
    g = f ∧ ∃ k, k < len.toNat ∧ b % 2 ^ 64 = (a.toNat + k) % 2 ^ 64 := by
  by_contra hnot
  refine h (hostRead_hostWrite_unnamed (s := aerReport s f 20) ?_ fun hg k hk heq => hnot ⟨hg, k, ?_, heq⟩)
  · rw [List.length_map, List.length_range]
    omega
  · rwa [List.length_map, List.length_range] at hk

/-! ### DMA reads (R212, R215, R257) -/

theorem dmaReadCompletion_data (hr : (fnOf s f).resetting = false) :
    exec (.dmaReadCompletion f use addr .data data) s = .next (hostWrite s f addr.toNat data) := by
  simp [exec_dmaReadCompletion, execDmaReadCompletion, hr]

/-- Each kind of failure has its AER bit (log entry 81). -/
theorem failed_read_kinds (h : (e, n) ∈ [(DmaEnd.unsupported, 20), (.completerAbort, 15), (.poisoned, 12), (.timeout, 14)]) :
    e ≠ .data ∧ DmaEnd.aerBit e = n := by
  simp only [List.mem_cons, Prod.mk.injEq, List.not_mem_nil, or_false] at h
  rcases h with ⟨rfl, rfl⟩ | ⟨rfl, rfl⟩ | ⟨rfl, rfl⟩ | ⟨rfl, rfl⟩ <;> exact ⟨nofun, rfl⟩

/-- A failed read of the SQ stops a served pair. -/
theorem dmaReadCompletion_sq_fails (hr : (fnOf s f).resetting = false) (he : e ≠ .data)
    (hp : (pairOf s f q).active ∨ (pairOf s f q).draining) :
    exec (.dmaReadCompletion f (.sq q) addr e data) s = .next (closePair (aerReport s f (DmaEnd.aerBit e)) f q false) := by
  simp [exec_dmaReadCompletion, execDmaReadCompletion, hr, he, pairServed_iff.mpr hp]

/-- A job that has started and is not done ends with DMA_ERROR and the offset; COPY_IN (0x0C03) takes its own exception. -/
theorem readFails_of_started (hfetched : j.stage ≠ .fetched) (hdone : j.stage ≠ .done) (hop : j.op ≠ 0x0C03) :
    readFails s j n = complete s j { status := Status.dmaError, detail := n } := by
  simp [readFails, hfetched, hdone, hop]

theorem dmaReadCompletion_job_fails (hr : (fnOf s f).resetting = false) (he : e ≠ .data) (hj : hostJob s f q tag = some j) :
    exec (.dmaReadCompletion f (.job q tag off) addr e data) s = .next (readFails (aerReport s f (DmaEnd.aerBit e)) j off.toNat) := by
  simp [exec_dmaReadCompletion, execDmaReadCompletion, hr, he, hj]

/-! ### The statement -/

/-- Settles O12: a failed write is `afterFailedWrite`, which moves host memory only where the write named it; a failed read is its report,
then the end of the pair or of the job. -/
theorem hostLinkAndJobs : Obligations.HostLinkAndJobs := by
  unfold Obligations.HostLinkAndJobs
  intro s f q p time reporter aer
  have haer : ∀ n, aerReport s f n = aer n := fun _ => aerReport_eq
  refine ⟨coalesceTimeout_due, rfl, busMasterEnable_sets, fun a len => ?write, fun hr => ⟨fun _ _ _ => dmaReadCompletion_data hr,
    fun e n hkind => ?read⟩⟩
  case write =>
    exact ⟨afterFailedWrite s f a len, haer 20 ▸ afterFailedWrite_aer, afterFailedWrite_frame, fun _ _ => named_of_afterFailedWrite_ne,
      fun _ => hostWriteFailure_output, hostWriteFailure_message, hostWriteFailure_queue⟩
  case read =>
    obtain ⟨he, hbit⟩ := failed_read_kinds hkind
    rw [← haer, ← hbit]
    refine ⟨fun _ _ hp => dmaReadCompletion_sq_fails hr he hp, fun tag off addr data j hj hfetched hdone hop => ?_⟩
    rw [dmaReadCompletion_job_fails hr he hj, readFails_of_started hfetched hdone hop]
    rfl

end Sys2Proof.Proofs
end

section
/-! SUPPORT. When a fetched command starts, waits or completes unexecuted (Tables 7.3 and 7.4, R174, R190, R236, R238, R239, R693, R727), O4 and
O5. -/

namespace Sys2Proof.Proofs
open Sys2Proof Sys2Proof.Machine Sys2Proof.Claims

variable {s t : State} {c : Cmd} {j : Job} {r : Reply} {op st : Nat} {i : Instr}

theorem bitOf_toNat {n k : Nat} {x : BitVec n} : bitOf x.toNat k = x.getLsbD k := bitOf_eq_testBit

/-! ### The checks of Table 7.4 -/

/-- EPOCH_SPENT (R174) or Crozier's work (R693) leaves this opcode of this function without service. -/
def Limited (s : State) (op : Nat) (c : Cmd) : Prop :=
  (s.boot.state = .epochSpent ∧ ¬(c.fn = 0 ∧ (op / 256 = 0 ∨ op / 256 = 8 ∨ op / 256 = 13))) ∨
    (s.boot.state = .updating ∧ ¬(c.fn = 0 ∧ (op / 256 = 0 ∨ op / 256 = 8 ∨ op / 256 = 10 ∨ op / 256 = 13)))

/-- A level 2 response suspends it (R727). -/
def Suspended (s : State) (op : Nat) (c : Cmd) : Prop :=
  s.tamper.suspended ≠ 0 ∧ ¬(c.fn = 0 ∧ (op / 256 = 0 ∨ op / 256 = 8 ∨ op / 256 = 9 ∨ op / 256 = 13))

/-- Its function is not assigned (R190). -/
def Absent (s : State) (op : Nat) (c : Cmd) : Prop := c.fn ≠ 0 ∧ (fnOf s c.fn).assigned = false ∧ op / 256 ≠ 0

theorem not_stateServes_iff : (!stateServes s op c.fn) = true ↔ Limited s op c := by
  simp only [stateServes, Limited, range]
  cases s.boot.state <;> simp [imp_iff_not_or]

theorem isSuspended_iff : isSuspended s op c.fn = true ↔ Suspended s op c := by
  simp [isSuspended, Suspended, range, imp_iff_not_or]

theorem absent_iff : (!isAssigned s c.fn && range op != 0) = true ↔ Absent s op c := by
  simp [isAssigned, Absent, range, and_assoc]

/-- Checks 5 to 8, in their order. -/
theorem lateChecks_of_limited (hl : Limited s op c) : lateChecks s op c = some 0x000E := by
  rw [lateChecks, if_pos (not_stateServes_iff.mpr hl)]
  rfl

theorem lateChecks_of_suspended (hl : ¬Limited s op c) (hs : Suspended s op c) : lateChecks s op c = some 0x000D := by
  rw [lateChecks, if_neg (not_stateServes_iff.not.mpr hl), if_pos (isSuspended_iff.mpr hs)]
  rfl

theorem lateChecks_of_absent (hl : ¬Limited s op c) (hs : ¬Suspended s op c) (ha : Absent s op c) : lateChecks s op c = some 0x0005 := by
  rw [lateChecks, if_neg (not_stateServes_iff.not.mpr hl), if_neg (isSuspended_iff.not.mpr hs), if_pos (absent_iff.mpr ha)]
  rfl

theorem lateChecks_of_served (hl : ¬Limited s op c) (hs : ¬Suspended s op c) (ha : ¬Absent s op c) :
    lateChecks s op c = if mayIssue op c then none else some 0x0004 := by
  rw [lateChecks, if_neg (not_stateServes_iff.not.mpr hl), if_neg (isSuspended_iff.not.mpr hs), if_neg (absent_iff.not.mpr ha)]
  cases mayIssue op c <;> rfl

/-! ### The order of starts in a pair -/

section
variable (hfind : s.jobs.find? (fun j => j.op == op && j.cmd == c && j.stage == .fetched) = some j) (hfree : holdsBack s op c = false)
include hfind hfree

theorem admission_fenced (hfence : fenceHolds s c = true) :
    admission op c s = .wait (onJob s c (fun x => { x with fenceWaited := true })) := by
  simp only [admission, hfind, hfree, hfence, Bool.false_eq_true, if_false, if_true]

variable (hfence : fenceHolds s c = false)
include hfence

theorem admission_ordered (horder : orderHolds s c = true) : admission op c s = .wait s := by
  simp only [admission, hfind, hfree, hfence, horder, Bool.false_eq_true, if_false, if_true]

variable (horder : orderHolds s c = false)
include horder

theorem admission_refused (hl : lateChecks s op c = some st) : admission op c s = .deny j (fail st) := by
  simp only [admission, hfind, hfree, hfence, horder, hl, Bool.false_eq_true, if_false]

variable (hl : lateChecks s op c = none)
include hl

theorem admission_fence_failed (hstop : c.flags.getLsbD 1 = true) (hfailed : (pairOf s c.fn c.q).failed = true) :
    admission op c s = .deny j (fail 0x000A) := by
  simp only [admission, hfind, hfree, hfence, horder, hl, bitOf_toNat, hstop, hfailed, Bool.and_self, Bool.false_eq_true, if_false, if_true]
  rfl

theorem admission_starts (h : c.flags.getLsbD 1 = false ∨ (pairOf s c.fn c.q).failed = false) :
    Starts op c s { j with stage := .waiting, startedAt := s.clocks.seta, begun := j.begun || !engineOp op } := by
  have hgoes : (c.flags.getLsbD 1 && (pairOf s c.fn c.q).failed) = false := Bool.and_eq_false_iff.mpr h
  simp only [Starts, admission, hfind, hfree, hfence, horder, hl, bitOf_toNat, hgoes, Bool.false_eq_true, if_false]
end

/-- Settles O4: the order of starts by the branches of `admission`, the checks of Table 7.4 by those of `lateChecks`. -/
theorem commandsStartInOrder : Obligations.CommandsStartInOrder := by
  unfold Obligations.CommandsStartInOrder
  refine ⟨fun s op c j hfind hfree => ⟨admission_fenced hfind hfree, admission_ordered hfind hfree, fun hfence horder => ?_⟩, fun s op c =>
    ⟨lateChecks_of_limited, lateChecks_of_suspended, lateChecks_of_absent, lateChecks_of_served⟩⟩
  exact ⟨fun st => admission_refused hfind hfree hfence horder, fun hl =>
    ⟨admission_fence_failed hfind hfree hfence horder hl, admission_starts hfind hfree hfence horder hl⟩⟩

/-! ### The rows of the catalogue -/

/-- Each of the 95 rows runs a body of its own in the one frame of Table 7.3. -/
theorem exec_eq_xci (h : xciRow i = some (op, c)) : ∃ body, ∀ s, exec i s = xci op c s body := by
  unfold xciRow at h
  split at h <;> cases h <;> exact ⟨_, fun _ => by unfold exec; rfl⟩

theorem xci_waits {body : State → Job → State × Option Reply} (h : admission op c s = .wait t) : xci op c s body = .next t := by
  simp only [xci, h]

theorem xci_refused {body : State → Job → State × Option Reply} (h : admission op c s = .deny j r) :
    xci op c s body = .next (post s j r) := by
  simp only [xci, h]

/-- Settles O5: every row answers as the frame does, whatever its body. -/
theorem rowsFollowAdmission : Obligations.RowsFollowAdmission := by
  unfold Obligations.RowsFollowAdmission
  intro s i op c hrow
  obtain ⟨body, hexec⟩ := exec_eq_xci hrow
  rw [hexec]
  exact ⟨fun t => xci_waits, fun j r => xci_refused⟩

end Sys2Proof.Proofs
end

section
/-! SUPPORT. Doorbells and violations (R51, R80, R227 to R229, R254 to R256), O10 and O11. -/

namespace Sys2Proof.Proofs
open Sys2Proof Sys2Proof.Machine Sys2Proof.Claims

variable {s : State} {f g : FnId} {q : PairId} {v : U32} {l : List Nat} {t : Nat}

/-! ### Doorbells (R227, R228) -/

/-- Below DEPTH, and no more entries than the free slots. -/
theorem sqTailValid_iff {p : Pair} {n : Nat} : sqTailValid p n = true ↔
    n < p.depth ∧ ringSpan p.depth p.sqTail n ≤ p.depth - 1 - ringSpan p.depth p.sqHead p.sqTail := by
  simp [sqTailValid]

/-- Below DEPTH, and no farther from the old head than the CQ tail. -/
theorem cqHeadValid_iff {p : Pair} {n : Nat} : cqHeadValid p n = true ↔
    n < p.depth ∧ ringSpan p.depth p.cqHead n ≤ ringSpan p.depth p.cqHead p.cqTail := by
  simp [cqHeadValid]

/-- A doorbell of a pair that is not served, or with an invalid index, is a violation. -/
theorem sqTailWrite_invalid {n : Nat} (h : ¬(pairServed (pairOf s f q) = true ∧ sqTailValid (pairOf s f q) n = true)) :
    sqTailWrite s f q n = violate s f := by
  rw [sqTailWrite, if_pos (by simpa [imp_iff_not_or] using h)]

theorem cqHeadWrite_invalid {n : Nat} (h : ¬(pairServed (pairOf s f q) = true ∧ cqHeadValid (pairOf s f q) n = true)) :
    cqHeadWrite s f q n = violate s f := by
  rw [cqHeadWrite, if_pos (by simpa [imp_iff_not_or] using h)]

/-- A valid one is numbered, and reaches Hypha or is recorded. -/
theorem sqTailWrite_valid {n : Nat} (hp : pairServed (pairOf s f q) = true) (hn : sqTailValid (pairOf s f q) n = true) :
    let rung := onPair (countRing s) f q (fun x => { x with
      sqTail := n, rings := x.rings ++ [(ringSpan x.depth x.sqTail n, s.link.rings + 1)] })
    sqTailWrite s f q n = if s.power.quiesced then onPair rung f q (fun x => { x with doorbell := true })
      else raiseWaking rung [82 + (pairOf s f q).cls] := by
  simp only [sqTailWrite, hp, hn, Bool.not_true, Bool.or_self, Bool.false_eq_true, if_false]

theorem cqHeadWrite_valid {n : Nat} (hp : pairServed (pairOf s f q) = true) (hn : cqHeadValid (pairOf s f q) n = true) :
    cqHeadWrite s f q n = dozeWake (onPair s f q (fun x => { x with cqHead := n })) := by
  simp only [cqHeadWrite, hp, hn, Bool.not_true, Bool.or_self, Bool.false_eq_true, if_false]

section
variable (hs : Serves s f)
include hs

theorem exec_sqTailDoorbell : exec (.sqTailDoorbell f q v) s = .next (sqTailWrite s f q v.toNat) := by
  obtain ⟨hr, hf⟩ := hs
  exact if_neg (by simp [hr, hf])

theorem exec_cqHeadDoorbell : exec (.cqHeadDoorbell f q v) s = .next (cqHeadWrite s f q v.toNat) := by
  obtain ⟨hr, hf⟩ := hs
  exact if_neg (by simp [hr, hf])
end

/-- What an update of a pair does depends on what it makes of that pair alone. -/
theorem onPair_congr {h h' : Pair → Pair} (he : h (pairOf s f q) = h' (pairOf s f q)) : onPair s f q h = onPair s f q h' :=
  congrArg (fun x => s.onPairs (fun m => SMap.set {} m (pairKey f q) x)) he

/-- Settles O10: a doorbell is valid exactly where the statement says so. -/
theorem doorbellsMoveTheRings : Obligations.DoorbellsMoveTheRings := by
  unfold Obligations.DoorbellsMoveTheRings
  intro s f q v hrun hreach p n span
  rw [exec_sqTailDoorbell ⟨hrun, hreach⟩, exec_cqHeadDoorbell ⟨hrun, hreach⟩, ← pairServed_iff]
  have hsq : (n < p.depth ∧ span p.sqTail n ≤ p.depth - 1 - span p.sqHead p.sqTail) ↔ sqTailValid p n = true := sqTailValid_iff.symm
  have hcq : (n < p.depth ∧ span p.cqHead n ≤ span p.cqHead p.cqTail) ↔ cqHeadValid p n = true := cqHeadValid_iff.symm
  rw [hsq, hcq]
  refine ⟨fun h => ?rings, fun h => congrArg _ (sqTailWrite_invalid h), fun ⟨hp, hn⟩ => congrArg _ (cqHeadWrite_valid hp hn),
    fun h => congrArg _ (cqHeadWrite_invalid h)⟩
  case rings =>
    obtain ⟨hp, hn⟩ := h
    intro rung
    have hrung : rung = onPair (countRing s) f q (fun x => { x with
        sqTail := n, rings := x.rings ++ [(ringSpan x.depth x.sqTail n, s.link.rings + 1)] }) := onPair_congr rfl
    rw [hrung]
    exact congrArg _ (sqTailWrite_valid hp hn)

/-! ### Violations and quarantine (R254 to R256) -/

/-- A violation is counted in the current interval. -/
def counted (s : State) (f : FnId) : State :=
  onFn s f (fun x => { x with violations := match x.violations with | [] => [1] | v :: r => (v + 1) :: r })

theorem violate_eq : violate s f =
    if 64 < (fnOf (counted s f) f).violations.sum ∧ (fnOf s f).quarantined = false then startQuarantine (counted s f) f else counted s f := by
  have hq : (fnOf (counted s f) f).quarantined = (fnOf s f).quarantined := by rw [counted, fnOf_onFn_same]
  rw [← hq]
  have hcond : (decide (violationCount (fnOf (counted s f) f) > 64) && !(fnOf (counted s f) f).quarantined) = true ↔
      64 < (fnOf (counted s f) f).violations.sum ∧ (fnOf (counted s f) f).quarantined = false := by
    simp [violationCount]
  exact if_congr hcond rfl rfl

/-- The entry names the function, the count and the number of successive quarantines. -/
theorem startQuarantine_eq : startQuarantine s f =
    append (raise (fnEvent (onFn s f (fun x => { x with
        quarantined := true, quarantineRuns := x.quarantineRuns + 1, quarUntil := s.clocks.seta + 10000000, violations := [] })) f 0) [86])
      0x0503 0 (f.toNat + min 255 (fnOf s f).violations.sum * 2 ^ 8 + min 255 ((fnOf s f).quarantineRuns + 1) * 2 ^ 16) := by
  rw [startQuarantine, fnOf_onFn_same]
  rfl

theorem exec_quarantineEnd (hq : (fnOf s f).quarantined = true) (hnow : s.clocks.seta = (fnOf s f).quarUntil) :
    let e := fnEvent (onFn s f (fun x => { x with quarantined := false })) f 1
    exec (.quarantineEnd f) s = .next (if 64 < (fnOf e f).violations.sum then startQuarantine e f
      else onFn e f (fun x => { x with quarantineRuns := 0 })) := by
  have hexec : exec (.quarantineEnd f) s = execQuarantineEnd f s := rfl
  simp only [hexec, execQuarantineEnd, hq, atInstant_now hnow, Bool.not_true, Bool.false_eq_true, if_false]
  rfl

/-! ### A new interval (R254) -/

theorem atInstant_fns : (atInstant s t).fns = s.fns := by
  unfold atInstant
  split
  · rw [setaTo_frame]
  · rfl

theorem lt_nextBoundary {last period : Nat} (h : 0 < period) : last < nextBoundary last period := by
  rw [nextBoundary, mul_comm]
  exact Nat.lt_mul_div_succ last h

/-- The tenth interval before the new one falls out of the sum. -/
theorem sum_rollViolations : (rollViolations l).sum = (l.take 9).sum := by
  have hsum : ((0 :: l).take 10).sum = (l.take 9).sum := by simp
  rw [← hsum, rollViolations]
  split
  next hzero => exact (List.sum_eq_zero (by simpa using hzero)).symm
  · rfl

/-- The device after the roll. -/
def rolled (s : State) : State :=
  ((atInstant s (nextBoundary s.clocks.rollAt 10000000)).onClocks (fun c => { c with rollAt := nextBoundary s.clocks.rollAt 10000000 })).onFns
    (SMap.mapV {} (fun _ x => { x with violations := rollViolations x.violations }))

theorem exec_violationWindowRoll : exec .violationWindowRoll s = .next (rolled s) := rfl

theorem fnOf_rolled (h : SMap.wf {} s.fns = true) : fnOf (rolled s) g = { fnOf s g with violations := rollViolations (fnOf s g).violations } := by
  simp only [fnOf, rolled, State.onFns_fns, State.onClocks_fns, atInstant_fns]
  exact get_mapV h rfl

/-- Settles O11: the count and the quarantine by `violate` and `startQuarantine`, the roll function by function. -/
theorem violationsAndQuarantine : Obligations.ViolationsAndQuarantine := by
  unfold Obligations.ViolationsAndQuarantine
  intro s f one n began
  have hone : one = counted s f := rfl
  refine ⟨fun h => ?counts, fun hn hq => ?begins, fun hq hnow => ?ends, fun hwf => ⟨rolled s, exec_violationWindowRoll,
    ?later, fun g => ?sum, fun g => ?frame⟩⟩
  case counts =>
    rw [violate_eq, if_neg, hone]
    rintro ⟨hmany, hfree⟩
    exact h.elim (Nat.not_le.mpr hmany) (by simp [hfree])
  case begins =>
    rw [violate_eq, if_pos ⟨hn, hq⟩]
    exact startQuarantine_eq
  case ends =>
    rw [exec_quarantineEnd hq hnow, startQuarantine_eq]
  case later => exact lt_nextBoundary (by decide)
  case sum =>
    rw [fnOf_rolled hwf]
    exact sum_rollViolations
  case frame => rw [fnOf_rolled hwf]

end Sys2Proof.Proofs
end

section
/-! SUPPORT. A completion and its signal: replay record, entry at the CQ tail, tail and PHASE, the count of FAIL_STOP, and moderation (R186, R187,
R196, R211, R220, R232 to R235, R239, R244, R257), O8. -/

namespace Sys2Proof.Proofs
open Sys2Proof Sys2Proof.Machine Sys2Proof.Claims

variable {s : State} {f : FnId} {q : PairId} {c : Cmd} {j : Job} {r : Reply} {op st : Nat} {done : Bytes} {own : Bool} {h h' : Pair → Pair}

/-! ### Two writes to one key -/

section
variable {α : Type} {d v w : α} {m : SMap α} {k : Nat}

theorem put_put_same : SMap.put k w (SMap.put k v m) = SMap.put k w m := by
  induction m with
  | nil => simp [SMap.put]
  | cons e m ih =>
    obtain ⟨i, x⟩ := e
    simp only [SMap.put]
    split_ifs with hlt heq <;> simp [SMap.put, *]

theorem del_put_same : SMap.del k (SMap.put k v m) = SMap.del k m := by
  induction m with
  | nil => simp [SMap.put, SMap.del]
  | cons e m ih =>
    obtain ⟨i, x⟩ := e
    simp only [SMap.del] at ih
    simp only [SMap.put]
    split_ifs with hlt heq <;> simp [SMap.del, *]

/-- A write over a listed value leaves nothing of it. -/
theorem set_set_same [DecidableEq α] (hv : v ≠ d) : SMap.set d (SMap.set d m k v) k w = SMap.set d m k w := by
  simp only [SMap.set, if_neg hv, put_put_same, del_put_same]
end

/-- Two updates of one pair are one, where the first leaves the pair listed. -/
theorem onPair_onPair (hne : h (pairOf s f q) ≠ {}) : onPair (onPair s f q h) f q h' = onPair s f q (fun x => h' (h x)) := by
  have hlisted : h (SMap.get {} s.pairs (pairKey f q)) ≠ {} := hne
  simp only [onPair, State.onPairs, SMap.mod, SMap.get_set_same, set_set_same hlisted]

theorem ne_empty_of_served {p : Pair} (hp : pairServed p = true) : p ≠ {} := by
  rintro rfl
  cases hp

/-! ### Delivery (R232, R233, R239, R257) -/

section
variable (hr : (fnOf s c.fn).resetting = false) (hp : pairServed (pairOf s c.fn c.q) = true)
include hr hp

theorem deliver_lost (hl : (pairOf s c.fn c.q).lost = true) : deliver s c done st own = drained s c.fn c.q := by
  simp only [deliver, hr, hp, hl, Bool.not_true, Bool.or_self, Bool.false_eq_true, if_false, if_true]

/-- The entry is written at the CQ tail; the tail and PHASE move on, and FAIL_STOP counts the status, in one update of the pair. -/
theorem deliver_written (hl : (pairOf s c.fn c.q).lost = false) :
    let p := pairOf s c.fn c.q
    let m := onPair (hostWrite s c.fn (p.cqBase + 32 * p.cqTail) done) c.fn c.q (fun x => { x with
      cqTail := if p.cqTail + 1 = p.depth then 0 else p.cqTail + 1
      phase := if p.cqTail + 1 = p.depth then !p.phase else p.phase
      failed := !(own && c.flags.getLsbD 0) && (p.failed || st != 0) })
    deliver s c done st own = drained (signalCompletion m c.fn c.q) c.fn c.q := by
  intro p m
  have hm : onPair (writeCompletion s c done) c.fn c.q (fun x => { x with
      failed := !(own && bitOf c.flags.toNat 0) && (x.failed || st != 0) }) = m := by
    rw [writeCompletion, onPair_onPair (ne_empty_of_served hp), bitOf_toNat]
    exact onPair_congr (by simp only [beq_iff_eq]; rfl)
  rw [← hm]
  simp only [deliver, hr, hp, hl, Bool.not_true, Bool.or_self, Bool.false_eq_true, if_false]
end

/-! ### Posting (R196, R211, R234, R235, R244) -/

/-- A replay record moves no ring and no PHASE. -/
theorem pairOf_recordReplay : ∃ w n, pairOf (recordReplay s op c done) c.fn c.q = { pairOf s c.fn c.q with window := w, nextRec := n } :=
  ⟨_, _, pairOf_onPair_same⟩

/-- The device in which the replay record stands, where the command leaves one. -/
def replayed (s : State) (op : Nat) (c : Cmd) (done : Bytes) : State := if idempotent op c then s else recordReplay s op c done

theorem pairOf_replayed : ∃ w n, pairOf (replayed s op c done) c.fn c.q = { pairOf s c.fn c.q with window := w, nextRec := n } := by
  unfold replayed
  split
  · exact ⟨(pairOf s c.fn c.q).window, (pairOf s c.fn c.q).nextRec, rfl⟩
  · exact pairOf_recordReplay

theorem fnOf_replayed : fnOf (replayed s op c done) f = fnOf s f := by
  unfold replayed
  split <;> rfl

/-- The completion of a job, as it is laid out now. -/
def entryNow (s : State) (j : Job) (r : Reply) : Bytes :=
  completionOf j.cmd r (pairOf s j.cmd.fn j.cmd.q).sqHead (bit j.rerun 0 + 4 * bit j.fenceWaited 0) (pairOf s j.cmd.fn j.cmd.q).phase

section
variable (hhost : j.cmd.issuer = .host)
include hhost

theorem post_dropped (hgone : (fnOf s j.cmd.fn).resetting = true ∨ pairServed (pairOf s j.cmd.fn j.cmd.q) = false) :
    post s j r = dropJob s j.cmd := by
  simp only [post, hhost]
  rw [if_pos (by simpa using hgone)]

variable (hr : (fnOf s j.cmd.fn).resetting = false) (hp : pairServed (pairOf s j.cmd.fn j.cmd.q) = true)
include hr hp

theorem post_held (hb : (fnOf s j.cmd.fn).busMaster = false) : post s j r = onJob s j.cmd (fun x => x.ended r) := by
  simp only [post, hhost, hr, hp, hb, Bool.not_true, Bool.or_self, Bool.not_false, Bool.false_eq_true, if_false, if_true]

variable (hb : (fnOf s j.cmd.fn).busMaster = true)
include hb

theorem post_lost (hl : (pairOf s j.cmd.fn j.cmd.q).lost = true) : post s j r = drained (dropJob s j.cmd) j.cmd.fn j.cmd.q := by
  simp only [post, hhost, hr, hp, hb, hl, Bool.not_true, Bool.or_true, Bool.or_self, Bool.false_eq_true, if_false, if_true]
  exact deliver_lost hr hp hl

theorem post_delivered (hl : (pairOf s j.cmd.fn j.cmd.q).lost = false) :
    post s j r = deliver (replayed (dropJob s j.cmd) j.op j.cmd (entryNow s j r)) j.cmd (entryNow s j r) r.status true := by
  have hflags : (if j.rerun then 1 else 0) + (if j.fenceWaited then 4 else 0) = bit j.rerun 0 + 4 * bit j.fenceWaited 0 := by
    cases j.rerun <;> cases j.fenceWaited <;> rfl
  simp only [post, hhost, hr, hp, hb, hl, hflags, Bool.not_true, Bool.or_false, Bool.or_self, Bool.false_eq_true, if_false]
  rfl

/-- A completion of a served pair: its replay record, then its entry. -/
theorem post_written (hl : (pairOf s j.cmd.fn j.cmd.q).lost = false) :
    let c := j.cmd
    let p := pairOf s c.fn c.q
    let recd := replayed (dropJob s c) j.op c (entryNow s j r)
    let m := onPair (hostWrite recd c.fn (p.cqBase + 32 * p.cqTail) (entryNow s j r)) c.fn c.q (fun x => { x with
      cqTail := if p.cqTail + 1 = p.depth then 0 else p.cqTail + 1
      phase := if p.cqTail + 1 = p.depth then !p.phase else p.phase
      failed := !c.flags.getLsbD 0 && (p.failed || r.status != 0) })
    post s j r = drained (signalCompletion m c.fn c.q) c.fn c.q := by
  intro c p
  obtain ⟨w, n, hpair⟩ := pairOf_replayed (s := dropJob s c) (op := j.op) (c := c) (done := entryNow s j r)
  have hsame : pairOf (dropJob s c) c.fn c.q = p := rfl
  rw [post_delivered hhost hr hp hb hl,
    deliver_written (by rw [fnOf_replayed]; exact hr) (by rw [hpair]; exact hp) (by rw [hpair]; exact hl), hpair, hsame]
  rfl
end

/-! ### The signal (R186, R187) -/

section
variable (count time : Nat) (hcount : count = reg s (fnKey f 0x180) % 256) (htime : time = reg s (fnKey f 0x180) / 256 % 1024)
include hcount htime

theorem signalCompletion_eq : signalCompletion s f q =
    if (pairOf s f q).cls = 0 ∨ (count = 0 ∧ time = 0) ∨ (count ≠ 0 ∧ count ≤ (pairOf s f q).unsignalled + 1) then
      signal (onPair s f q (fun x => { x with unsignalled := 0 })) f (pairOf s f q).vector
    else onPair s f q (fun x => { x with
      unsignalled := (pairOf s f q).unsignalled + 1
      oldest := if (pairOf s f q).unsignalled = 0 then s.clocks.seta else (pairOf s f q).oldest }) := by
  have hc : bitsOf (reg s (fnKey f 0x180)) 0 8 = count := by simp [bitsOf, hcount]
  have ht : bitsOf (reg s (fnKey f 0x180)) 8 10 = time := by simp [bitsOf, htime]
  simp only [signalCompletion, hc, ht]
  refine if_congr ?_ rfl (onPair_congr ?_)
  · simp [or_assoc]
  · simp only [beq_iff_eq]
end

/-- Settles O8: a posting by what stands in its way, a signal by the two branches of `signalCompletion`. -/
theorem completionIsPosted : Obligations.CompletionIsPosted := by
  unfold Obligations.CompletionIsPosted
  refine ⟨fun s j r hhost => ?posting, fun s f q => ?signalled⟩
  case posting =>
    intro c p out entry recd
    simp only [← pairServed_iff]
    refine ⟨fun hgone => post_dropped hhost ?_, post_held hhost, post_lost hhost, fun hr hp hb hl => ⟨_, rfl, post_written hhost hr hp hb hl⟩⟩
    simpa [pairServed] using hgone
  case signalled =>
    intro p count time
    rw [signalCompletion_eq count time rfl rfl]
    refine ⟨fun h => if_pos h, fun hcls hon hfew => if_neg ?_⟩
    rintro (h | ⟨hc, ht⟩ | ⟨hc, hmany⟩)
    · exact hcls h
    · exact hon.elim (· hc) (· ht)
    · exact hfew.elim hc (Nat.not_lt.mpr hmany)

end Sys2Proof.Proofs
end

section
/-! SUPPORT. The fetch: the checks of Table 7.3 in their order, and what they leave of an SQ that has become empty (R230, R231, R240 to R248, R256),
O9. -/

namespace Sys2Proof.Proofs
open Sys2Proof Sys2Proof.Machine Sys2Proof.Claims

variable {s t : State} {f g : FnId} {q : PairId} {c : Cmd} {j : Job} {r : ReplayRec} {op st k n : Nat} {done : Bytes} {own past : Bool}

/-! ### The checks, one by one -/

/-- Checks 1 and 2: quarantine (R256), then the form of the entry (R240). -/
theorem judge_quarantined (hq : (fnOf s c.fn).quarantined = true) : judge s op c n = answerEarly s op c 0x0006 false := if_pos hq

section
variable (hq : (fnOf s c.fn).quarantined = false)
include hq

theorem judge_malformed (hm : malformed op c = true) : judge s op c n = violate (answerEarly s op c 0x0001 false) c.fn := by
  simp only [judge, hq, hm, Bool.false_eq_true, if_false, if_true]
  rfl

variable (hm : malformed op c = false)
include hm

/-- Check 3: the tag is in flight. -/
theorem judge_in_flight (hj : hostJob s c.fn c.q c.tag = some j) : judge s op c n =
    if j.op = op ∧ j.cmd = c then answerEarly s op c 0x0008 false else violate (answerEarly s op c 0x0007 false) c.fn := by
  simp only [judge, hq, hm, hj, Bool.false_eq_true, if_false, Bool.and_eq_true, beq_iff_eq]
  rfl

variable (hj : hostJob s c.fn c.q c.tag = none)
include hj

/-- Check 3: the tag has a replay record. -/
theorem judge_recorded (hr : (pairOf s c.fn c.q).window.find? (fun x => x.cmd.tag == c.tag) = some r) : judge s op c n =
    if r.op ≠ op ∨ r.cmd ≠ c then violate (answerEarly s op c 0x0007 false) c.fn
    else if hostRead s c.fn (replayBase (pairOf s c.fn c.q) + 64 * r.place) 64 ≠ r.record then answerEarly s op c 0x0009 false
    else deliver s c (replayCopy (pairOf s c.fn c.q) r.record) (leNat ((r.record.drop 2).take 2)) false := by
  simp only [judge, answerRecord, hq, hm, hj, hr, Bool.false_eq_true, if_false, Bool.or_eq_true, bne_iff_ne]
  rfl

variable (hr : (pairOf s c.fn c.q).window.find? (fun x => x.cmd.tag == c.tag) = none)
include hr

theorem judge_fresh : judge s op c n = accept s op c n := by
  simp only [judge, hq, hm, hj, hr, Bool.false_eq_true, if_false]
end

/-- Checks 4 to 8. -/
theorem accept_unknown (hk : knownOp op = false) : accept s op c n = answerEarly s op c 0x0002 true := by
  simp only [accept, hk, Bool.not_false, if_true]
  rfl

theorem accept_refused (hk : knownOp op = true) (hl : lateChecks s op c = some st) : accept s op c n =
    if st = 0x0004 then violate (answerEarly s op c st true) c.fn else answerEarly s op c st true := by
  simp only [accept, hk, hl, Bool.not_true, Bool.false_eq_true, if_false, beq_iff_eq]
  rfl

theorem accept_passed (hk : knownOp op = true) (hl : lateChecks s op c = none) : accept s op c n =
    { s with jobs := s.jobs ++ [{ op := op, cmd := c, fetchedAt := s.clocks.seta, rung := n }] } := by
  simp only [accept, hk, hl, Bool.not_true, Bool.false_eq_true, if_false]
  rfl

/-! ### An empty SQ stays empty -/

/-- No entry of the pair waits for a fetch. -/
def RingEmpty (s : State) (f : FnId) (q : PairId) : Prop := (pairOf s f q).sqHead = (pairOf s f q).sqTail

theorem RingEmpty.of_pairs (he : RingEmpty s f q) (hp : t.pairs = s.pairs) : RingEmpty t f q := by
  rw [RingEmpty, pairOf, hp]
  exact he

/-- An update of a pair that leaves its SQ empty, or makes it so. -/
theorem RingEmpty.onPair {h : Pair → Pair} (he : RingEmpty s f q) (hh : ∀ x, x.sqHead = x.sqTail → (h x).sqHead = (h x).sqTail) :
    RingEmpty (onPair s f q h) f q := by
  rw [RingEmpty, pairOf_onPair_same]
  exact hh _ he

theorem signal_pairs : (signal s f n).pairs = s.pairs := (congrArg State.pairs apartFromHypha_signal :)
theorem append_pairs {src d : Nat} : (append s k src d).pairs = s.pairs := (congrArg State.pairs apartFromHypha_append :)
theorem raise_pairs {l : List Nat} : (raise s l).pairs = s.pairs := (congrArg State.pairs apartFromHypha_raise :)

theorem fnEvent_pairs : (fnEvent s f n).pairs = s.pairs := by
  simp only [fnEvent, setEvents]
  split
  · rw [signal_pairs, State.onRegs_pairs]
  · rw [State.onRegs_pairs]

theorem violate_pairs : (violate s f).pairs = s.pairs := by
  rw [violate_eq]
  split
  · rw [startQuarantine_eq, append_pairs, raise_pairs, fnEvent_pairs]
    rfl
  · rfl

/-- A pair that ends, or opens again, has an empty SQ. -/
theorem RingEmpty.drained (he : RingEmpty s f q) : RingEmpty (drained s f q) f q := by
  have hended : RingEmpty (Machine.onPair s f q (fun p => { conflict := p.conflict })) f q := he.onPair fun _ _ => rfl
  simp only [Machine.drained]
  split_ifs
  · exact hended
  · exact (hended.onPair (h := fun p => { p with conflict := true }) fun _ => id).of_pairs fnEvent_pairs
  · exact hended.onPair fun _ _ => rfl
  · exact he

theorem RingEmpty.signalCompletion (he : RingEmpty s f q) : RingEmpty (signalCompletion s f q) f q := by
  rw [signalCompletion_eq _ _ rfl rfl]
  split
  · exact (he.onPair (h := fun x => { x with unsignalled := 0 }) fun _ => id).of_pairs signal_pairs
  · exact he.onPair fun _ => id

theorem RingEmpty.writeCompletion (he : RingEmpty s c.fn c.q) : RingEmpty (writeCompletion s c done) c.fn c.q :=
  RingEmpty.onPair (s := hostWrite s ..) he fun _ => id

theorem RingEmpty.deliver (he : RingEmpty s c.fn c.q) : RingEmpty (deliver s c done st own) c.fn c.q := by
  unfold Machine.deliver
  dsimp only
  split_ifs
  · exact he
  · exact he.drained
  · have hcounted := (he.writeCompletion (done := done)).onPair (h := fun x => { x with
      failed := !(own && bitOf c.flags.toNat 0) && (x.failed || st != 0) }) fun _ => id
    exact hcounted.signalCompletion.drained

theorem RingEmpty.recordReplay (he : RingEmpty s c.fn c.q) : RingEmpty (recordReplay s op c done) c.fn c.q := by
  obtain ⟨w, n, hpair⟩ := pairOf_recordReplay (s := s) (op := op) (c := c) (done := done)
  rw [RingEmpty, hpair]
  exact he

theorem RingEmpty.answerEarly (he : RingEmpty s c.fn c.q) : RingEmpty (answerEarly s op c st past) c.fn c.q := by
  refine RingEmpty.deliver ?_
  split
  · exact he.recordReplay
  · exact he

theorem RingEmpty.violate (he : RingEmpty s f q) : RingEmpty (violate s g) f q := he.of_pairs violate_pairs

theorem RingEmpty.accept (he : RingEmpty s c.fn c.q) : RingEmpty (accept s op c n) c.fn c.q := by
  unfold Machine.accept
  split
  · exact he.answerEarly
  split
  · dsimp only
    split
    · exact he.answerEarly.violate
    · exact he.answerEarly
  · exact he

theorem RingEmpty.answerRecord (he : RingEmpty s c.fn c.q) : RingEmpty (answerRecord s op c r) c.fn c.q := by
  unfold Machine.answerRecord
  dsimp only
  split_ifs
  · exact he.answerEarly.violate
  · exact he.answerEarly
  · exact he.deliver

/-- Whatever the checks answer, they bring no entry into the ring. -/
theorem RingEmpty.judge (he : RingEmpty s c.fn c.q) : RingEmpty (judge s op c n) c.fn c.q := by
  unfold Machine.judge
  split_ifs
  · exact he.answerEarly
  · exact he.answerEarly.violate
  split
  · split_ifs
    · exact he.answerEarly
    · exact he.answerEarly.violate
  split
  · exact he.answerRecord
  · exact he.accept

/-! ### COMMAND_FETCH -/

theorem exec_commandFetch : exec (.commandFetch f q) s = .next (fetchSome 8 s f q) := rfl

theorem fetchSome_stops (h : mayFetch s f q = false) : fetchSome k s f q = s := by
  cases k with
  | zero => rfl
  | succ k => exact if_neg (by simp [h])

theorem mayFetch_of_ringEmpty (he : RingEmpty s f q) : mayFetch s f q = false := by
  have hne : ((pairOf s f q).sqHead != (pairOf s f q).sqTail) = false := bne_eq_false_iff_eq.mpr he
  simp only [mayFetch, fetchable, hne, Bool.and_false, Bool.false_and]

/-- The fetch of the last entry is the whole of COMMAND_FETCH. -/
theorem commandFetch_last (hmay : mayFetch s f q = true) (he : RingEmpty (fetchOne s f q) f q) :
    exec (.commandFetch f q) s = .next (fetchOne s f q) := by
  rw [exec_commandFetch, fetchSome, if_pos hmay, fetchSome_stops (mayFetch_of_ringEmpty he)]

/-- Settles O9: the last entry goes through `judge`, whose branches are the checks in their order. -/
theorem fetchChecksInOrder : Obligations.FetchChecksInOrder := by
  unfold Obligations.FetchChecksInOrder
  intro s f q p e op c t dup old
  have hone : fetchOne s f q = judge t op c (firstRing p.rings) := rfl
  refine ⟨fun hno => ?nothing, fun hmay hlast => ⟨judge t op c (firstRing p.rings), ?only, judge_quarantined (s := t) (c := c),
    fun hq => ⟨judge_malformed (s := t) (c := c) hq, fun hm =>
      ⟨fun j => judge_in_flight hq hm, fun hd r => judge_recorded hq hm hd, fun hd ho => ?fresh⟩⟩⟩⟩
  case nothing => rw [exec_commandFetch, fetchSome_stops hno]
  case only =>
    have hempty : RingEmpty t f q := by
      rw [RingEmpty, pairOf_onPair_same]
      exact hlast
    have hafter : RingEmpty (judge t op c (firstRing p.rings)) f q := RingEmpty.judge (c := c) hempty
    rw [← hone] at hafter ⊢
    exact commandFetch_last hmay hafter
  case fresh =>
    rw [judge_fresh hq hm hd ho]
    exact ⟨accept_unknown, fun hk => ⟨fun st => accept_refused hk, accept_passed hk⟩⟩

end Sys2Proof.Proofs
end

section
/-! SUPPORT. The 95 rows of the XCI catalogue, in the order of the model's opcode lists (Table 7.2), and O3. -/

namespace Sys2Proof.Proofs
open Sys2Proof Sys2Proof.Machine Sys2Proof.Claims

variable {c : Cmd} {i i' : Instr} {op : Nat}

/-- The opcodes of Table 7.2. -/
def catalogue : List Nat := tenantOps ++ custodianOps

/-- The row of each of them, in the same order. -/
def rows (c : Cmd) : List Instr :=
  [.keyGenerate c, .keyDerive c, .keyDelete c, .keyInfo c, .cipher c, .aeadEncrypt c, .aeadDecrypt c, .mac c, .contextSave c, .contextRestore c,
   .rsaPrivate c, .rsaPublic c, .ecdsaSign c, .ecdsaVerify c, .eddsaSign c, .eddsaVerify c, .ecdh c, .pkKeygen c, .mlKemEncaps c,
   .mlKemDecaps c, .mlDsaSign c, .mlDsaVerify c, .random c, .reseed c, .entropyStatus c, .counterRead c, .counterIncrement c, .timeRead c,
   .logNote c,
   .nop c, .getInfo c, .getLimits c, .tenantStatus c, .keyImport c, .keyPersist c, .keyExportWrapped c, .sorusKernel c, .sorusKeyswitch c,
   .sorusRefresh c, .sorusEncrypt c, .shareOpen c, .shareInput c, .shareCompute c, .shareReveal c, .shareClose c, .counterAlloc c,
   .counterList c, .appletInstall c, .appletRemove c, .appletInvoke c, .appletList c, .healthStatus c,
   .deviceReset c, .recoveryRequest c, .debugArm c, .provision c, .retire c, .optionRead c, .optionWrite c, .configSet c, .configGet c,
   .raiseEvent c, .tenantCreate c, .tenantRelease c, .tenantSet c, .tenantList c, .rawMode c, .rawRead c, .anchorRecord c, .logInfo c,
   .logRead c, .logExport c, .logExtend c, .poolStatus c, .unitOut c, .unitReturn c, .powerSet c, .powerStatus c, .domainSet c, .schedSet c,
   .hibernate c, .updateStart c, .updateStatus c, .chainStatus c, .rosterSet c, .flashWear c, .wornOverride c, .readerPoll c,
   .readerExchange c, .readerFieldOff c, .badgeVerify c, .visitRead c, .pinnaMode c, .selfTest c, .istControl c]

/-- Each row stands at the place of its opcode. -/
theorem map_xciRow_rows : (rows c).map xciRow = catalogue.map (fun op => some (op, c)) := rfl

theorem knownOp_iff_mem : knownOp op = true ↔ op ∈ catalogue := by
  simp only [knownOp, catalogue, Bool.or_eq_true, List.contains_iff_mem, List.mem_append]

theorem catalogue_nodup : catalogue.Nodup := by decide

/-- No other row is an XCI row. -/
theorem mem_rows_of_xciRow (h : xciRow i = some (op, c)) : i ∈ rows c := by
  unfold xciRow at h
  split at h
  case h_96 => cases h
  all_goals
    obtain ⟨-, rfl⟩ := Prod.mk.inj (Option.some.inj h)
    simp only [rows, List.mem_cons, true_or, or_true]

/-- Settles O3: the rows stand at the places of their opcodes, and no opcode stands twice. -/
theorem catalogueIsTheTable : Obligations.CatalogueIsTheTable := by
  unfold Obligations.CatalogueIsTheTable
  refine ⟨fun i op c h => ?_, fun op c h => ?_, fun i i' op c h h' => ?_⟩
  · have hmem := List.mem_map_of_mem (f := xciRow) (mem_rows_of_xciRow h)
    rw [map_xciRow_rows, h] at hmem
    obtain ⟨op', hop, heq⟩ := List.mem_map.mp hmem
    obtain ⟨rfl, -⟩ := Prod.mk.inj (Option.some.inj heq)
    exact knownOp_iff_mem.mpr hop
  · have hmem : some (op, c) ∈ (rows c).map xciRow := by
      rw [map_xciRow_rows]
      exact List.mem_map_of_mem (knownOp_iff_mem.mp h)
    obtain ⟨i, -, hi⟩ := List.mem_map.mp hmem
    exact ⟨i, hi⟩
  · have hnodup : ((rows c).map xciRow).Nodup := by
      rw [map_xciRow_rows]
      exact catalogue_nodup.map (fun a b hab => congrArg Prod.fst (Option.some.inj hab))
    exact List.inj_on_of_nodup_map hnodup (mem_rows_of_xciRow h) (mem_rows_of_xciRow h') (h.trans h'.symm)

end Sys2Proof.Proofs
end

section
/-! SUPPORT. The system commands that read or raise an event (Tables 7.5 and 7.6, R213, R277, R592), and O31. -/

namespace Sys2Proof.Proofs
open Sys2Proof Sys2Proof.Machine Sys2Proof.Claims

variable {s : State} {c : Cmd} {j : Job}

theorem exec_nop : exec (.nop c) s = execNop c s := rfl
theorem exec_getInfo : exec (.getInfo c) s = execGetInfo c s := rfl
theorem exec_getLimits : exec (.getLimits c) s = execGetLimits c s := rfl
theorem exec_optionRead : exec (.optionRead c) s = execOptionRead c s := rfl
theorem exec_configGet : exec (.configGet c) s = execConfigGet c s := rfl
theorem exec_raiseEvent : exec (.raiseEvent c) s = execRaiseEvent c s := rfl

theorem nop_echoes (h : Starts 0x0001 c s j) :
    Answers (.nop c) s (started s c j) j { res0 := param c 0 4, res1 := param c 4 4 } :=
  exec_nop.trans (xci_answers h rfl)

/-! ### GET_INFO and GET_LIMITS -/

theorem lifecycle_le : lifecycle s ≤ 3 := by
  unfold lifecycle
  split_ifs <;> omega

/-- RES0 of GET_INFO: model, step and lifecycle in fields of their own. -/
theorem infoWord_fields {l : Nat} (hl : l ≤ 3) : let w := 0x6440 + 0xB1 * 2 ^ 16 + l * 2 ^ 24
    bitsOf w 0 16 = 0x6440 ∧ bitsOf w 16 8 = 0xB1 ∧ bitsOf w 24 2 = l := by
  simp only [bitsOf]
  omega

theorem getInfo_device (h : Starts 0x0002 c s j) (hsel : param c 0 1 = 0) :
    ∃ r, Answers (.getInfo c) s (started s c j) j r ∧ r.status = 0 ∧ bitsOf r.res0 0 16 = 0x6440 ∧ bitsOf r.res0 16 8 = 0xB1 ∧
      bitsOf r.res0 24 2 = lifecycle s ∧ r.res1 = s.boot.version.toNat % 2 ^ 24 ∧ r.res2 = s.boot.svn.toNat ∧
      r.res3 = c.fn.toNat + (fnOf s c.fn).generation.toNat * 2 ^ 8 := by
  obtain ⟨hmodel, hstep, hlife⟩ := infoWord_fields (lifecycle_le (s := s))
  exact ⟨_, exec_getInfo.trans (xci_answers h (if_pos (beq_iff_eq.mpr hsel))), rfl, hmodel, hstep, hlife, rfl, rfl, rfl⟩

theorem getInfo_identity (h : Starts 0x0002 c s j) (hsel : param c 0 1 = 1) :
    Answers (.getInfo c) s (started s c j) j (words4 (identity s)) :=
  exec_getInfo.trans (xci_answers h (by simp only [hsel]; rfl))

theorem getInfo_refused (h : Starts 0x0002 c s j) (hsel : 1 < param c 0 1) : Answers (.getInfo c) s (started s c j) j (bad 0) := by
  have h0 : param c 0 1 ≠ 0 := by omega
  have h1 : param c 0 1 ≠ 1 := by omega
  exact exec_getInfo.trans (xci_answers h (by simp [h0, h1]))

/-- R592: the custodian has no counter cap; its field reads 510 (log entry 31). -/
theorem getLimits_answers (h : Starts 0x0003 c s j) : let t := started s c j
    Answers (.getLimits c) s t j {
      res0 := (allotment t c.fn).length + slotsInUse t c.fn * 2 ^ 16
      res1 := (if c.fn = 0 then 510 else (fnOf t c.fn).counterCap) % 2 ^ 10 + countersHeld t c.fn * 2 ^ 16
      res2 := (appletsOf t c.fn).length + appletCapOf t c.fn * 2 ^ 8 + (if c.fn = 0 then 64 else 8) * 2 ^ 16 + qpActive t c.fn * 2 ^ 24
      res3 := inPool t + maxOf t c.fn * 2 ^ 8 + effectiveMin t c.fn * 2 ^ 16 } :=
  exec_getLimits.trans (xci_answers h (by simp only [beq_iff_eq]))

/-! ### OPTION_READ -/

section
variable (h : Starts 0x0015 c s j)
include h

theorem optionRead_bad_copy (hk : 2 < param c 0 1) : Answers (.optionRead c) s (started s c j) j (bad 0) :=
  exec_optionRead.trans (xci_answers h (by simp [hk]))

variable (hk : param c 0 1 ≤ 2)
include hk

theorem optionRead_bad_word (hw : 127 < param c 1 1) : Answers (.optionRead c) s (started s c j) j (bad 1) :=
  exec_optionRead.trans (xci_answers h (by simp [Nat.not_lt.mpr hk, hw]))

theorem optionRead_bad_count (hw : param c 1 1 ≤ 127) (hn : param c 2 1 = 0 ∨ 2 < param c 2 1 ∨ 128 < param c 1 1 + param c 2 1) :
    Answers (.optionRead c) s (started s c j) j (bad 2) :=
  exec_optionRead.trans (xci_answers h (by simp [Nat.not_lt.mpr hk, Nat.not_lt.mpr hw, hn, or_assoc]))

theorem optionRead_answers (hw : param c 1 1 + param c 2 1 ≤ 128) (hn : param c 2 1 = 1 ∨ param c 2 1 = 2) :
    let a := optionShown (started s c j) (param c 0 1) (param c 1 1)
    let b := if param c 2 1 = 2 then optionShown (started s c j) (param c 0 1) (param c 1 1 + 1) else 0
    Answers (.optionRead c) s (started s c j) j { res0 := a % 2 ^ 32, res1 := a / 2 ^ 32, res2 := b % 2 ^ 32, res3 := b / 2 ^ 32 } := by
  have hcopy : decide (param c 0 1 > 2) = false := by simp [hk]
  have hword : decide (param c 1 1 > 127) = false := by simp; omega
  have hcount : (decide (param c 2 1 < 1) || decide (param c 2 1 > 2) || decide (param c 1 1 + param c 2 1 > 128)) = false := by simp; omega
  exact exec_optionRead.trans (xci_answers h (by
    simp only [hcopy, hword, hcount, when_false, unlessRefused_passed, unlessRefused_nil, beq_iff_eq]))
end

/-! ### CONFIG_GET and RAISE_EVENT -/

theorem configGet_answers (h : Starts 0x0018 c s j) {g : CommitGroup} {first n : Nat}
    (ht : configTarget (param c 0 1) (param c 1 1) = some (g, first, n)) (hv : param c 2 1 ≤ 1)
    (ho : param c 3 1 = 0 ∨ param c 3 1 = 16 ∨ param c 3 1 = 32) :
    let vals := (((groupRegs g).drop first).take n).flatMap (fun k =>
      leBytes 4 (if param c 2 1 = 0 then reg (started s c j) k else staged (started s c j) k))
    Answers (.configGet c) s (started s c j) j (words4 ((vals ++ List.replicate 48 0).drop (param c 3 1))) := by
  have hoff : ¬(param c 3 1 != 0 && param c 3 1 != 16 && param c 3 1 != 32) = true := by simp; omega
  exact exec_configGet.trans (xci_answers h (by
    simp only [ht, gt_iff_lt, Nat.not_lt.mpr hv, if_false, if_neg hoff, beq_iff_eq]))

theorem raiseEvent_raises (h : Starts 0x0019 c s j) (he : param c 0 1 ≤ 15) :
    Answers (.raiseEvent c) s (raiseWaking (started s c j) [112 + param c 0 1]) j {} :=
  exec_raiseEvent.trans (xci_answers h (if_neg (Nat.not_lt.mpr he)))

theorem raiseEvent_refused (h : Starts 0x0019 c s j) (he : 15 < param c 0 1) : Answers (.raiseEvent c) s (started s c j) j (bad 0) :=
  exec_raiseEvent.trans (xci_answers h (if_pos he))

/-- Settles O31: each command by its own lemmas above. -/
theorem systemReadCommands : Obligations.SystemReadCommands := by
  unfold Obligations.SystemReadCommands
  exact fun s c j => ⟨nop_echoes, fun h => ⟨getInfo_device h, getInfo_identity h, getInfo_refused h⟩, getLimits_answers,
    fun h => ⟨optionRead_bad_copy h, optionRead_bad_word h, optionRead_bad_count h, optionRead_answers h⟩,
    fun h _ _ _ => configGet_answers h, fun h => ⟨raiseEvent_raises h, raiseEvent_refused h⟩⟩

end Sys2Proof.Proofs
end

section
/-! SUPPORT. The tenant commands but for TENANT_SET (Tables 7.7 and 7.8, R278 to R284), and O33. -/

namespace Sys2Proof.Proofs
open Sys2Proof Sys2Proof.Machine Sys2Proof.Claims

variable {s t : State} {c : Cmd} {j : Job} {op : Nat}

theorem exec_tenantCreate : exec (.tenantCreate c) s = execTenantCreate c s := rfl
theorem exec_tenantRelease : exec (.tenantRelease c) s = execTenantRelease c s := rfl
theorem exec_tenantStatus : exec (.tenantStatus c) s = execTenantStatus c s := rfl
theorem exec_tenantList : exec (.tenantList c) s = execTenantList c s := rfl

/-! ### A list of refusals as a chain of cases -/

/-- The device once a command's body is done: its completion posted, where it has one. -/
def bodyDone (j : Job) : State × Option Reply → State
  | (t, some r) => post t j r
  | (t, none) => t

theorem bodyDone_begins : bodyDone j (t, none) = t := rfl

theorem xci_starts {body : State → Job → State × Option Reply} (h : Starts op c s j) :
    xci op c s body = .next (bodyDone j (body (started s c j) j)) := by
  rcases hb : body (started s c j) j with ⟨t, _ | r⟩
  · exact xci_begins h hb
  · exact xci_answers h hb

/-- The first refusal of a list that holds is posted; past the last of them the command goes on. -/
theorem bodyDone_when {b : Bool} {r : Reply} {l : List (Option Reply)} {go : State × Option Reply} :
    bodyDone j (unlessRefused t (when b r :: l) go) = if b = true then post t j r else bodyDone j (unlessRefused t l go) := by
  cases b <;> rfl

/-! ### TENANT_CREATE and TENANT_RELEASE -/

/-- R278 to R280: the refusals in their order, then the program of the tenant record. -/
theorem tenantCreate_eq (h : Starts 0x0101 c s j) (hb : tenantBusy (started s c j) = false) :
    let f : FnId := BitVec.ofNat 8 (param c 0 1)
    let t := started s c j
    let why := tenantFail t f (param c 8 4)
    exec (.tenantCreate c) s = .next (if isAssigned t f then post t j (bad 0) else if 4095 < param c 2 2 then post t j (bad 2)
      else if 510 < param c 4 2 then post t j (bad 4) else if 64 < param c 6 1 then post t j (bad 6)
      else if why ≠ 0 then post t j (bad (7 + why)) else if (freeSlots t).length < param c 2 2 then post t j { status := 0x0010, detail := 1 }
      else if 64 < capSum t + param c 6 1 then post t j { status := 0x0010, detail := 2 }
      else flashCommand t j (configUnit t)) := by
  refine exec_tenantCreate.trans ((xci_starts h).trans ?_)
  simp only [hb, Bool.false_eq_true, if_false, bodyDone_when, unlessRefused_nil, bodyDone_begins, decide_eq_true_eq, bne_iff_ne, gt_iff_lt]
  rfl

/-- R191, R282: the function stops as in an FLR before its record is written. -/
theorem tenantRelease_eq (h : Starts 0x0102 c s j) (hb : tenantBusy (started s c j) = false)
    (hset : settingTenant (started s c j) (BitVec.ofNat 8 (param c 0 1)) = false) :
    let f : FnId := BitVec.ofNat 8 (param c 0 1)
    let t := started s c j
    exec (.tenantRelease c) s = .next (if f = 0 ∨ isAssigned t f = false then post t j (bad 0)
      else if param c 4 2 ≠ (fnOf t f).generation.toNat then post t j (bad 4) else flashCommand (resetFunction t f) j (configUnit t)) := by
  refine exec_tenantRelease.trans ((xci_starts h).trans ?_)
  simp only [hb, hset, Bool.or_false, Bool.false_eq_true, if_false, bodyDone_when, unlessRefused_nil, bodyDone_begins, bne_iff_ne,
    Bool.or_eq_true, beq_iff_eq, Bool.not_eq_true']

/-! ### TENANT_STATUS and TENANT_LIST -/

theorem tenantStatus_refused (h : Starts 0x0104 c s j) (hf : c.fn ≠ 0) (ho : BitVec.ofNat 8 (param c 0 1) ≠ c.fn) :
    Answers (.tenantStatus c) s (started s c j) j { status := 0x0004 } :=
  exec_tenantStatus.trans (xci_answers h (if_pos (Bool.and_eq_true_iff.mpr ⟨bne_iff_ne.mpr hf, bne_iff_ne.mpr ho⟩)))

theorem tenantStatus_answers (h : Starts 0x0104 c s j) (hf : c.fn = 0 ∨ BitVec.ofNat 8 (param c 0 1) = c.fn) :
    let f : FnId := BitVec.ofNat 8 (param c 0 1)
    let t := started s c j
    Answers (.tenantStatus c) s t j {
      res0 := tenStat t f, res1 := tenCfg t f
      res2 := fnState t f + (fnOf t f).generation.toNat * 2 ^ 16, res3 := slotsInUse t f + countersHeld t f * 2 ^ 16 } := by
  have hown : ¬(c.fn != 0 && (BitVec.ofNat 8 (param c 0 1) : FnId) != c.fn) = true := by
    simpa [Classical.or_iff_not_imp_left] using hf
  exact exec_tenantStatus.trans (xci_answers h (if_neg hown))

theorem tenantList_refused (h : Starts 0x0105 c s j) (hp : 1 < param c 0 1) : Answers (.tenantList c) s (started s c j) j (bad 0) :=
  exec_tenantList.trans (xci_answers h (if_pos hp))

theorem bitOf_assignedWord {base : Nat} (n : Fin 32) : bitOf (assignedWord s base) n.val = isAssigned s (BitVec.ofNat 8 (base + n.val)) :=
  bitOf_sum_flagBit (fun k => isAssigned s (BitVec.ofNat 8 (base + k))) n.isLt

/-- R284: bit `n` of each result word is the assignment of one function, in ascending order. -/
theorem tenantList_answers (h : Starts 0x0105 c s j) (hp : param c 0 1 ≤ 1) :
    ∃ r, Answers (.tenantList c) s (started s c j) j r ∧ r.status = 0 ∧ r.detail = 0 ∧
      ∀ n : Fin 32,
        let at_ := fun k => isAssigned s (BitVec.ofNat 8 (128 * param c 0 1 + k + n.val))
        bitOf r.res0 n.val = at_ 0 ∧ bitOf r.res1 n.val = at_ 32 ∧ bitOf r.res2 n.val = at_ 64 ∧ bitOf r.res3 n.val = at_ 96 :=
  ⟨_, exec_tenantList.trans (xci_answers h (if_neg (Nat.not_lt.mpr hp))), rfl, rfl, fun n =>
    ⟨bitOf_assignedWord n, bitOf_assignedWord n, bitOf_assignedWord n, bitOf_assignedWord n⟩⟩

/-- Settles O33: each command by its own lemmas above. -/
theorem tenantCommands : Obligations.TenantCommands := by
  unfold Obligations.TenantCommands
  exact fun s c j => ⟨fun h hb => ⟨_, tenantCreate_eq h hb, rfl⟩, fun h hb hset => ⟨_, tenantRelease_eq h hb hset, rfl⟩,
    fun h => ⟨tenantStatus_refused h, tenantStatus_answers h⟩, fun h => ⟨tenantList_refused h, tenantList_answers h⟩⟩

end Sys2Proof.Proofs
end

section
/-! SUPPORT. What the posting of a completion leaves alone: every group but the link, the queue pairs, the registers, the jobs, the Pinna units
and the DRBGs (R232 to R235, R844). -/

namespace Sys2Proof.Proofs
open Sys2Proof Sys2Proof.Machine Sys2Proof.Claims

variable {s : State} {c : Cmd} {f : FnId} {q : PairId} {r : Reply} {j : Job} {done : Bytes}

/-- The groups that the posting of a completion does not write. -/
def apartFromMailbox (s : State) : State :=
  { s with link := {}, pairs := [], regs := {}, jobs := [], pinnas := {}, entropy := {} }

theorem apartFromMailbox_onLink {h : Link → Link} : apartFromMailbox (s.onLink h) = apartFromMailbox s := rfl
theorem apartFromMailbox_onRegs {h : Regs → Regs} : apartFromMailbox (s.onRegs h) = apartFromMailbox s := rfl
theorem apartFromMailbox_onJobs {h : List Job → List Job} : apartFromMailbox (s.onJobs h) = apartFromMailbox s := rfl
theorem apartFromMailbox_onEntropy {h : Entropy → Entropy} : apartFromMailbox (s.onEntropy h) = apartFromMailbox s := rfl
theorem apartFromMailbox_onPinnas {h : Pinnas → Pinnas} : apartFromMailbox (s.onPinnas h) = apartFromMailbox s := rfl
theorem apartFromMailbox_onPinna {u : Fin 8} {h : Pinna → Pinna} : apartFromMailbox (onPinna s u h) = apartFromMailbox s := rfl
theorem apartFromMailbox_onPair {h : Pair → Pair} : apartFromMailbox (onPair s f q h) = apartFromMailbox s := rfl
theorem apartFromMailbox_onJob {h : Job → Job} : apartFromMailbox (onJob s c h) = apartFromMailbox s := rfl
theorem apartFromMailbox_dropJob : apartFromMailbox (dropJob s c) = apartFromMailbox s := rfl
theorem apartFromMailbox_openPair : apartFromMailbox (openPair s f q) = apartFromMailbox s := rfl
theorem apartFromMailbox_writeCompletion : apartFromMailbox (writeCompletion s c done) = apartFromMailbox s := rfl
theorem apartFromMailbox_recordReplay {op : Nat} : apartFromMailbox (recordReplay s op c done) = apartFromMailbox s := rfl

theorem apartFromMailbox_signal {v : Nat} : apartFromMailbox (signal s f v) = apartFromMailbox s := by
  simp only [signal, hostWrite]
  split <;> exact apartFromMailbox_onLink

theorem apartFromMailbox_fnEvent {b : Nat} : apartFromMailbox (fnEvent s f b) = apartFromMailbox s := by
  simp only [fnEvent, setEvents]
  split
  · rw [apartFromMailbox_signal, apartFromMailbox_onRegs]
  · exact apartFromMailbox_onRegs

theorem apartFromMailbox_conflict : apartFromMailbox (conflict s f q) = apartFromMailbox s := by
  rw [conflict, apartFromMailbox_fnEvent, apartFromMailbox_onPair]

theorem apartFromMailbox_drained : apartFromMailbox (drained s f q) = apartFromMailbox s := by
  simp only [drained]
  split_ifs <;> simp only [apartFromMailbox_onPair, apartFromMailbox_conflict, apartFromMailbox_openPair]

theorem apartFromMailbox_signalCompletion : apartFromMailbox (signalCompletion s f q) = apartFromMailbox s := by
  simp only [signalCompletion]
  split <;> simp only [apartFromMailbox_signal, apartFromMailbox_onPair]

theorem apartFromMailbox_deliver {st : Nat} {own : Bool} : apartFromMailbox (deliver s c done st own) = apartFromMailbox s := by
  simp only [deliver]
  split_ifs <;>
    simp only [apartFromMailbox_drained, apartFromMailbox_signalCompletion, apartFromMailbox_onPair, apartFromMailbox_writeCompletion]

theorem apartFromMailbox_suspendUnit {u : Fin 8} : apartFromMailbox (suspendUnit s u) = apartFromMailbox s := by
  simp only [suspendUnit]
  split
  · rfl
  · simp only [apartFromMailbox_onJobs, apartFromMailbox_onEntropy, apartFromMailbox_onPinna, apartFromMailbox_onPinnas]

theorem apartFromMailbox_postApplet {u : Fin 8} {b : Bool} : apartFromMailbox (postApplet s c u r b) = apartFromMailbox s := by
  simp only [postApplet]
  split_ifs <;> simp only [apartFromMailbox_suspendUnit, apartFromMailbox_onPinna, apartFromMailbox_onPinnas]

theorem apartFromMailbox_post : apartFromMailbox (post s j r) = apartFromMailbox s := by
  simp only [post]
  split
  · rw [apartFromMailbox_postApplet, apartFromMailbox_dropJob]
  · split_ifs <;>
      simp only [apartFromMailbox_deliver, apartFromMailbox_recordReplay, apartFromMailbox_onJob, apartFromMailbox_dropJob]

end Sys2Proof.Proofs
end

section
/-! SUPPORT. The commands that end in a device reset, in RETIRED or in HIBERNATE (Table 7.5, R272 to R275, R299), and O34. -/

namespace Sys2Proof.Proofs
open Sys2Proof Sys2Proof.Machine Sys2Proof.Claims

variable {s : State} {c : Cmd} {j : Job} {op off : Nat}

theorem exec_deviceReset : exec (.deviceReset c) s = execDeviceReset c s := rfl
theorem exec_recoveryRequest : exec (.recoveryRequest c) s = execRecoveryRequest c s := rfl
theorem exec_debugArm : exec (.debugArm c) s = execDebugArm c s := rfl
theorem exec_provision : exec (.provision c) s = execProvision c s := rfl
theorem exec_retire : exec (.retire c) s = execRetire c s := rfl
theorem exec_hibernate : exec (.hibernate c) s = execHibernate c s := rfl

/-! ### CONFIRM (R269, R272) -/

/-- CONFIRM is the complement of the opcode. -/
abbrev Confirms (c : Cmd) (off op : Nat) : Prop := param c off 2 = 0xFFFF - op

theorem confirmBad_of_confirms (h : Confirms c off op) : confirmBad c off op = none := by
  simp [confirmBad, show param c off 2 = 0xFFFF - op from h]

theorem confirmBad_of_not (h : ¬Confirms c off op) : confirmBad c off op = some (bad off) := by
  rw [confirmBad, bne_iff_ne.mpr h, when_true]

section
variable {act : State → State}

/-- A command whose CONFIRM is its first check acts after its completion. -/
theorem xci_confirmed (h : Starts op c s j) (hc : Confirms c off op) :
    xci op c s (fun s j => unlessRefused s [confirmBad c off op] (thenAct s j act)) = .next (act (post (started s c j) j {})) :=
  xci_begins h (by rw [confirmBad_of_confirms hc]; rfl)

theorem xci_unconfirmed (h : Starts op c s j) (hc : ¬Confirms c off op) :
    xci op c s (fun s j => unlessRefused s [confirmBad c off op] (thenAct s j act)) = .next (post (started s c j) j (bad off)) :=
  xci_answers h (by rw [confirmBad_of_not hc]; rfl)
end

/-! ### DEBUG_ARM (R273) -/

section
variable (h : Starts 0x0012 c s j) (ha : param c 0 8 % 8 = 0)
include h ha

theorem debugArm_unconfirmed (hc : ¬Confirms c 8 0x0012) : Answers (.debugArm c) s (started s c j) j (bad 8) :=
  exec_debugArm.trans (xci_answers h (by simp [ha, confirmBad_of_not hc]))

variable (hc : Confirms c 8 0x0012)
include hc

theorem debugArm_refused (htoken : tokenFormed (started s c j) (hostRead s 0 (param c 0 8) 432) = false) :
    Answers (.debugArm c) s (started s c j) j (bad 0) := by
  have hbad : tokenFormed (started s c j) (hostRead (started s c j) 0 (param c 0 8) 432) = false := htoken
  exact exec_debugArm.trans (xci_answers h (by dsimp only; rw [ha, confirmBad_of_confirms hc, hbad]; rfl))

theorem debugArm_arms (htoken : tokenFormed (started s c j) (hostRead s 0 (param c 0 8) 432) = true) :
    Begins (.debugArm c) s (deviceReset ((post (started s c j) j {}).onBoot
      (fun b => { b with armedToken := some (hostRead s 0 (param c 0 8) 432) })) .pcieKept 8) := by
  have hgood : tokenFormed (started s c j) (hostRead (started s c j) 0 (param c 0 8) 432) = true := htoken
  exact exec_debugArm.trans (xci_begins h (by dsimp only; rw [ha, confirmBad_of_confirms hc, hgood]; rfl))
end

/-! ### PROVISION (R163, R274) -/

/-- The custodian key that the command brings. -/
abbrev provisionKey (s : State) (c : Cmd) : Bytes := hostRead s 0 (param c 0 8) 97

/-- The root words are programmed, and not with the hash of the key. -/
theorem rootTaken_iff {key : Bytes} : (!(rootNow s == rootWords key) && rootNow s != List.replicate 6 0) = true ↔
    rootNow s ≠ rootWords key ∧ rootNow s ≠ List.replicate 6 0 := by
  simp

section
variable (h : Starts 0x0013 c s j) (ha : param c 0 8 % 8 = 0) (hc : Confirms c 8 0x0013)
include h ha hc

theorem provision_limited (hl : lifecycle s ≠ 1) : Answers (.provision c) s (started s c j) j { status := 0x000E } :=
  exec_provision.trans (xci_answers h (by simp [ha, confirmBad_of_confirms hc, hl, fail, Status.serviceLimited]))

/-- The frame has passed its checks: the draws come first, then the program of the first OTP word. -/
theorem provision_begins (hl : lifecycle s = 1) (hroot : rootNow s = rootWords (provisionKey s c) ∨ rootNow s = List.replicate 6 0)
    {sd k : Bytes} {u v : State} (hseed : generate (started s c j) (.i 0) 32 [] = .got sd u) (hkey : generate u (.i 7) 48 [] = .got k v) :
    Begins (.provision c) s (onJob (programOtp v c (if rootNow s = rootWords (provisionKey s c) then 31 else 20)) c
      (fun x => { x with stage := .flash, draws := provisionKey s c ++ (sd ++ k) })) := by
  have hprog : (!(rootNow (started s c j) == rootWords (provisionKey (started s c j) c)) &&
      rootNow (started s c j) != List.replicate 6 0) = false := by
    rw [Bool.eq_false_iff, ne_eq, rootTaken_iff, not_and_or, not_not, not_not]
    exact hroot
  refine exec_provision.trans (xci_begins h ?_)
  dsimp only
  rw [hprog, ha, confirmBad_of_confirms hc, lifecycle_onJob, hl, withSeedDraws, withOwn_got hseed, withOwn_got hkey]
  simp only [when_false, unlessRefused_passed, unlessRefused_nil, bne_self_eq_false, beq_iff_eq]
  rfl

theorem provision_programmed (hl : lifecycle s = 1) (hother : rootNow s ≠ rootWords (provisionKey s c))
    (hsome : rootNow s ≠ List.replicate 6 0) : Answers (.provision c) s (started s c j) j (bad 0) := by
  have hprog : (!(rootNow (started s c j) == rootWords (provisionKey (started s c j) c)) &&
      rootNow (started s c j) != List.replicate 6 0) = true := rootTaken_iff.mpr ⟨hother, hsome⟩
  refine exec_provision.trans (xci_answers h ?_)
  dsimp only
  rw [hprog, ha, confirmBad_of_confirms hc, lifecycle_onJob, hl]
  rfl
end

/-! ### HIBERNATE (R53, R299) -/

theorem isFor_of_starts (h : Starts op c s j) : j.isFor c = true := by simp [Job.isFor, (cmd_op_of_starts h).1]

/-- The jobs of other commands are the same once the command has started. -/
theorem any_other_started (h : Starts op c s j) :
    (started s c j).jobs.any (fun x => !x.isFor c) = s.jobs.any (fun x => !x.isFor c) := by
  simp only [started, onJob, State.onJobs, List.any_map]
  congr 1
  funext x
  by_cases hx : x.isFor c = true <;> simp [hx, isFor_of_starts h]

theorem fieldDown_frame : ∃ r, fieldDown s = s.onReader (fun _ => r) := by
  unfold fieldDown
  split
  · exact ⟨s.reader, rfl⟩
  · exact ⟨_, rfl⟩

/-- What a device in HIBERNATE has kept of one that completed the command in `t` (Table 2.4). -/
theorem enterHibernate_fields {t : State} : let u := enterHibernate t
    u.power.state = .hibernate ∧ u.power.domains = 0 ∧ u.power.vcore = 0 ∧ u.link.up = false ∧ u.link.hostMem = t.link.hostMem ∧
      u.jobs = t.jobs ∧ u.counters = t.counters ∧ u.spore = t.spore ∧ u.flash = t.flash := by
  obtain ⟨r, hr⟩ := fieldDown_frame (s := t)
  rw [enterHibernate, hr]
  exact ⟨rfl, rfl, rfl, rfl, rfl, rfl, rfl, rfl, rfl⟩

section
variable (h : Starts 0x0908 c s j) (hc : Confirms c 0 0x0908)
include h hc

theorem hibernate_refused (hany : s.jobs.any (fun x => !x.isFor c) = true) :
    Answers (.hibernate c) s (started s c j) j { status := 0x000F } :=
  exec_hibernate.trans (xci_answers h (by
    rw [any_other_started h, hany, confirmBad_of_confirms hc]
    rfl))

theorem hibernate_enters (hnone : s.jobs.any (fun x => !x.isFor c) = false) :
    exec (.hibernate c) s = .next (enterHibernate (post (started s c j) j {})) :=
  exec_hibernate.trans (xci_begins h (by
    rw [any_other_started h, hnone, confirmBad_of_confirms hc]
    rfl))
end

/-- Settles O34: each command by its own lemmas above. -/
theorem resetAndLifecycleCommands : Obligations.ResetAndLifecycleCommands := by
  unfold Obligations.ResetAndLifecycleCommands
  intro s c j t sure
  refine ⟨fun h => ⟨fun hc => exec_deviceReset.trans (xci_confirmed h hc), fun hc => exec_deviceReset.trans (xci_unconfirmed h hc)⟩,
    fun h => ⟨fun hc => exec_recoveryRequest.trans (xci_confirmed h hc), fun hc => exec_recoveryRequest.trans (xci_unconfirmed h hc)⟩,
    fun h ha => ⟨debugArm_unconfirmed h ha, debugArm_refused h ha, debugArm_arms h ha⟩,
    fun h ha hc => ⟨provision_limited h ha hc, fun hl hroot sd u k v => provision_begins h ha hc hl hroot, provision_programmed h ha hc⟩,
    fun h => ⟨fun hc => exec_retire.trans (xci_confirmed h hc), fun hc => exec_retire.trans (xci_unconfirmed h hc)⟩,
    fun h hc => ⟨hibernate_refused h hc, fun hnone => ⟨_, hibernate_enters h hc hnone, ?_⟩⟩⟩
  have hpost : apartFromMailbox (post (started s c j) j {}) = apartFromMailbox s := apartFromMailbox_post
  obtain ⟨hstate, hdomains, hvcore, hup, hmem, hjobs, hcounters, hspore, hflash⟩ := enterHibernate_fields (t := post (started s c j) j {})
  refine ⟨hstate, hdomains, hvcore, hup, hmem, hjobs, hcounters.trans (congrArg State.counters hpost :),
    hspore.trans (congrArg State.spore hpost :), ?_⟩
  rw [hflash]
  exact (congrArg (fun a => a.flash.otp) hpost :)

end Sys2Proof.Proofs
end

section
/-! SUPPORT. The requests of flash operations: no array has two erases open (R547, R549). -/

namespace Sys2Proof.Proofs
open Sys2Proof Sys2Proof.Machine Sys2Proof.Claims

variable {s : State} {a i : Nat} {u : FlashUnit} {ops : List FlashOp} {o x : FlashOp}

/-! ### The erases open on an array -/

/-- An erase that is open on an array. -/
def erases (a : Nat) (o : FlashOp) : Bool := arrayOf o.unit == a && (o.erase && o.begun)

/-- How many of a list of operations are. -/
def erasesOn (ops : List FlashOp) (a : Nat) : Nat := ops.countP (erases a)

theorem oneErasePerArray_iff : OneErasePerArray s ↔ ∀ a, erasesOn s.flash.ops a ≤ 1 := by
  refine forall_congr' fun a => ?_
  rw [erasesOn, openErases, ← List.countP_eq_length_filter, List.countP_filter]
  rfl

theorem erases_iff : erases a o = true ↔ arrayOf o.unit = a ∧ o.erase = true ∧ o.begun = true := by
  simp [erases]

/-- Requests that have not begun count nowhere, nor do programs. -/
theorem erasesOn_append (h : o.erase = false ∨ o.begun = false) : erasesOn (ops ++ [o]) a = erasesOn ops a := by
  have hno : erases a o = false := by
    rw [erases]
    rcases h with h | h <;> simp [h]
  rw [erasesOn, List.countP_append, List.countP_singleton, hno]
  rfl

/-- A change that leaves unit, kind and begin of each operation leaves the count. -/
theorem erasesOn_map {f : FlashOp → FlashOp} (hf : ∀ x, erases a (f x) = erases a x) : erasesOn (ops.map f) a = erasesOn ops a := by
  rw [erasesOn, List.countP_map]
  exact List.countP_congr fun x _ => by rw [Function.comp_apply, hf]

/-- A waiting request that begins is at most one erase more on its own array. -/
theorem erasesOn_set_le {i : Nat} (h : ops[i]? = some o) (hx : arrayOf x.unit = arrayOf o.unit) :
    erasesOn (ops.set i x) a ≤ if a = arrayOf o.unit then erasesOn ops a + 1 else erasesOn ops a := by
  obtain ⟨hi, rfl⟩ := List.getElem?_eq_some_iff.mp h
  rw [erasesOn, List.countP_set hi, ← erasesOn]
  by_cases ha : a = arrayOf ops[i].unit
  · rw [if_pos ha]
    split_ifs <;> omega
  · have hno : ¬erases a x = true := fun hxa => ha ((erases_iff.mp hxa).1.symm.trans hx)
    rw [if_neg hno, if_neg ha]
    exact Nat.sub_le _ _

/-! ### The journal holds no operation -/

theorem setJWord_ops {k n : Nat} {w : U64} : (setJWord s k n w).flash.ops = s.flash.ops := rfl
theorem eraseJournal_ops {k : Nat} : (eraseJournal s k).flash.ops = s.flash.ops := rfl
theorem jAppend_ops {k : Nat} : (jAppend s k u).flash.ops = s.flash.ops := setJWord_ops

theorem foldSector_ops {k : Nat} : (foldSector s k).flash.ops = s.flash.ops := by
  unfold foldSector
  exact List.foldlRecOn _ _ (motive := fun t : State => t.flash.ops = s.flash.ops) rfl (fun _ ht _ _ => ht)

theorem switchJournal_ops : (switchJournal s).flash.ops = s.flash.ops := by
  rw [switchJournal, setJWord_ops, eraseJournal_ops, foldSector_ops, setJWord_ops]

/-! ### Requests -/

/-- R549: a waiting request begins only where its array has no erase open. -/
theorem oneErasePerArray_startErase (h : OneErasePerArray s) : OneErasePerArray (startErase s i) := by
  unfold startErase
  split
  · exact h
  next o ho =>
    split
    · exact h
    next hfree =>
      have hnone : erasesOn s.flash.ops (arrayOf o.unit) = 0 := by
        refine List.countP_eq_zero.mpr fun x hx hopen => hfree ?_
        obtain ⟨harray, herase, hbegun⟩ := erases_iff.mp hopen
        have hany : (openErases s).any (fun y => arrayOf y.unit == arrayOf o.unit) = true :=
          List.any_eq_true.mpr ⟨x, List.mem_filter.mpr ⟨hx, by rw [herase, hbegun]; rfl⟩, beq_iff_eq.mpr harray⟩
        rw [hany, Bool.or_true, Bool.true_or, Bool.true_or]
      have hops : ∀ t : State, t = (if journalRoom s then s else switchJournal s) → t.flash.ops = s.flash.ops := by
        rintro _ rfl
        split
        · rfl
        · exact switchJournal_ops
      refine oneErasePerArray_iff.mpr fun a => ?_
      dsimp only [State.onFlash_flash]
      rw [jAppend_ops, hops _ rfl]
      refine le_trans (erasesOn_set_le ho (by rfl)) ?_
      split
      next ha => rw [ha, hnone]
      · exact oneErasePerArray_iff.mp h a

theorem oneErasePerArray_startErases (h : OneErasePerArray s) : OneErasePerArray (startErases s) :=
  List.foldlRecOn _ _ (motive := OneErasePerArray) h (fun _ ha _ _ => oneErasePerArray_startErase ha)

theorem oneErasePerArray_suspendErase {b : Bool} (h : OneErasePerArray s) : OneErasePerArray (suspendErase s i b) := by
  refine oneErasePerArray_iff.mpr fun a => ?_
  rw [suspendErase, State.onFlash_flash, erasesOn_map]
  · exact oneErasePerArray_iff.mp h a
  · intro x
    split <;> rfl

theorem oneErasePerArray_openFlash {e : Bool} {use : FlashUse} (h : OneErasePerArray s) : OneErasePerArray (openFlash s u e use) := by
  refine oneErasePerArray_startErases (oneErasePerArray_iff.mpr fun a => ?_)
  rw [State.onFlash_flash, erasesOn_append (by cases e <;> simp)]
  split
  · exact oneErasePerArray_iff.mp h a
  · exact oneErasePerArray_iff.mp (oneErasePerArray_suspendErase h) a

end Sys2Proof.Proofs
end

section
/-! SUPPORT. FLASH_OPERATION_DONE of an operation of the list, and what a command's operation ends in (R306, R536, R543, R549, R574, R577, R586,
R888). -/

namespace Sys2Proof.Proofs
open Sys2Proof Sys2Proof.Machine Sys2Proof.Claims

variable {s : State} {i : Nat} {o : FlashOp} {c : Cmd} {j : Job}

theorem exec_flashOperationDone {ok : Bool} : exec (.flashOperationDone i ok) s = execFlashOperationDone i ok s := rfl

/-! ### The end of an operation -/

section
variable (h : OpenOp s i o)
include h

theorem flashOperationDone_of_open {ok : Bool} : exec (.flashOperationDone i ok) s = .next (flashDone s i ok) := by
  obtain ⟨halive, hget, -⟩ := h
  have hlt : i ≠ s.flash.ops.length := by
    have := (List.getElem?_eq_some_iff.mp hget).1
    omega
  rw [exec_flashOperationDone, execFlashOperationDone, halive, beq_eq_false_iff_ne.mpr hlt]
  rfl

/-- R544: a suspended erase makes no progress. -/
theorem flashOperationDone_suspended (hs : o.suspended = true) {ok : Bool} : exec (.flashOperationDone i ok) s = .next s := by
  rw [flashOperationDone_of_open h]
  obtain ⟨-, hget, -⟩ := h
  simp only [flashDone, hget, hs, Bool.or_true, if_true]

variable (hs : o.suspended = false)
include hs

/-- R536: a verified operation closes, and what it was for follows. -/
theorem flashOperationDone_verified (hg : gateRefuses s o.unit = false) :
    exec (.flashOperationDone i true) s = .next (useDone (raise (closeErase (closeOp s i) o) [if o.erase then 77 else 76]) o) := by
  rw [flashOperationDone_of_open h]
  obtain ⟨-, hget, hbegun⟩ := h
  simp [flashDone, hget, hbegun, hs, hg]

theorem flashOperationDone_programmed (hg : gateRefuses s o.unit = false) (he : o.erase = false) :
    exec (.flashOperationDone i true) s = .next (useDone (raise (startErases (closeOp s i)) [76]) o) := by
  rw [flashOperationDone_verified h hs hg]
  simp [closeErase, he]

theorem flashOperationDone_erased (hg : gateRefuses s o.unit = false) (he : o.erase = true) :
    exec (.flashOperationDone i true) s = .next (useDone (raise (closeErase (closeOp s i) o) [77]) o) := by
  rw [flashOperationDone_verified h hs hg, he, if_pos rfl]

/-- R586: a first failure is tried again. -/
theorem flashOperationDone_retried (hg : gateRefuses s o.unit = false) (hf : o.fails = 0) (hk : o.unit.kind ≠ 5) :
    exec (.flashOperationDone i false) s = .next (s.onFlash (fun f => { f with ops := f.ops.set i { o with fails := 1 } })) := by
  rw [flashOperationDone_of_open h]
  obtain ⟨-, hget, hbegun⟩ := h
  simp [flashDone, hget, hbegun, hs, hg, hf, hk]

/-- R577: past its last try the unit is WORN, a data sector has its replacement, and what the operation was for fails. -/
theorem flashOperationDone_fails (hlast : gateRefuses s o.unit = true ∨ o.fails ≠ 0 ∨ o.unit.kind = 5) :
    exec (.flashOperationDone i false) s = .next (useFailed (startErases
      (if o.unit.kind < 4 then replaceIfWorn (markWorn (closeOp s i) o.unit) o.unit else closeOp s i)) o) := by
  have hlast : ¬(o.fails == 0 && !gateRefuses s o.unit && o.unit.kind != 5) = true := by
    rcases hlast with h | h | h <;> simp [h]
  rw [flashOperationDone_of_open h]
  obtain ⟨-, hget, hbegun⟩ := h
  simp only [flashDone, hget, hbegun, hs, Bool.not_true, Bool.or_self, Bool.false_and, Bool.false_eq_true, if_false, if_neg hlast]
  rfl
end

/-! ### The operation of a command -/

section
variable (hu : o.use = .command c) (hj : s.jobs.find? (fun j => j.isFor c && j.stage == .flash) = some j)
include hu hj

theorem useDone_command : useDone s o = commandDone s j o.unit := by simp only [useDone, hu, hj]
theorem useFailed_command : useFailed s o = commandFailed s j o.unit := by simp only [useFailed, hu, hj]

theorem useDone_commits (hp : j.op ≠ 0x0013) (hi : j.op ≠ 0x0703) (hm : j.op ≠ 0x0C05) :
    let done := commitOf (if writesConfig j.op then appendConfig s else s) j
    useDone s o = flashAnswer done.1 j done.2 := by
  rw [useDone_command hu hj]
  simp [commandDone, hp, hi, hm]

theorem useDone_increment (hop : j.op = 0x0703) : useDone s o = increment s j := by
  rw [useDone_command hu hj]
  simp [commandDone, hop]

theorem useDone_pinnaMode (hop : j.op = 0x0C05) : useDone s o = commitPinnaMode s j := by
  rw [useDone_command hu hj]
  simp [commandDone, hop]

theorem use_provision (hop : j.op = 0x0013) :
    useDone s o = otpProgrammed s j o.unit.index ∧ useFailed s o = otpFailed s j o.unit.index := by
  rw [useDone_command hu hj, useFailed_command hu hj]
  simp [commandDone, commandFailed, hop]

/-- R306: nothing of the command takes effect. -/
theorem useFailed_answers (hp : j.op ≠ 0x0013) (hi : j.op ≠ 0x0703) (ht : j.op ≠ 0x0103) (hk : j.op ≠ 0x0206) :
    useFailed s o = flashAnswer s j { status := 0x0A07 } := by
  rw [useFailed_command hu hj]
  simp [commandFailed, hp, hi, ht, hk, fail, Status.flashFailed]

theorem useFailed_increment (hop : j.op = 0x0703) :
    useFailed s o = if j.aux2 = 0 then flashAnswer s j { status := 0x0A07 } else backupFailed s j := by
  rw [useFailed_command hu hj]
  by_cases hb : j.aux2 = 0 <;> simp [commandFailed, hop, hb, fail, Status.flashFailed]

theorem useFailed_persist (hop : j.op = 0x0206) : useFailed s o = flashAnswer (persistFailed s j) j { status := 0x0A07 } := by
  rw [useFailed_command hu hj]
  simp [commandFailed, hop, fail, Status.flashFailed]

theorem useFailed_tenantSet (hop : j.op = 0x0103) : useFailed s o = flashAnswer (undoTenantSet s j) j { status := 0x0A07 } := by
  rw [useFailed_command hu hj]
  simp [commandFailed, hop, fail, Status.flashFailed]
end

theorem flashAnswer_posts {r : Reply} (hq : s.power.quiesced = false) :
    flashAnswer s j r = endWaitingReset (dispatch (settleDeletes (post s j r))) j.cmd.fn := by
  rw [flashAnswer, hq]
  rfl

end Sys2Proof.Proofs
end

section
/-! SUPPORT. The log only grows: what is placed, raised or appended leaves the slots already written (R743, R750, R751), and the end of the words of
the newest entry (R577, R586, R765, log entry 87). -/

namespace Sys2Proof.Proofs
open Sys2Proof Sys2Proof.Machine Sys2Proof.Claims

variable {s t v : State} {n : Note} {i k : Nat}

/-! ### Operations that write no log -/

theorem setSpore_log {w : Nat} {x : U64} : (setSpore s w x).log = s.log := rfl
theorem countOverflow_log : (countOverflow s k).log = s.log := setSpore_log.trans setSpore_log
theorem onTask_log {h : Task → Task} : (onTask s k h).log = s.log := rfl

theorem bumpSpore_log : (bumpSpore s k).log = s.log := by
  simp only [bumpSpore]
  split
  · rfl
  · rw [setSpore_log, setSpore_log]

theorem signal_log {f : FnId} : (signal s f k).log = s.log := by
  simp only [signal, hostWrite]
  split <;> rw [State.onLink_log]

theorem wakeUnit_log : (wakeUnit s k).1.log = s.log := by
  simp only [wakeUnit, awaken, takeFree]
  split_ifs <;> rfl

theorem dozeWake_log : (dozeWake s).log = s.log := by
  unfold dozeWake
  split
  · rfl
  · rw [State.onPower_log]

/-! ### The slots already written -/

/-- The log has gone on, and what it held before stands. -/
def LogGrows (s t : State) : Prop :=
  s.log.next ≤ t.log.next ∧ ∀ k < s.log.next, SMap.get LogSlot.erased t.log.slots k = SMap.get LogSlot.erased s.log.slots k

theorem LogGrows.refl : LogGrows s s := ⟨le_rfl, fun _ _ => rfl⟩

theorem LogGrows.trans (h : LogGrows s t) (h' : LogGrows t v) : LogGrows s v :=
  ⟨h.1.trans h'.1, fun k hk => (h'.2 k (hk.trans_le h.1)).trans (h.2 k hk)⟩

theorem LogGrows.of_log (h : t.log = s.log) : LogGrows s t := by
  rw [LogGrows, h]
  exact ⟨le_rfl, fun _ _ => rfl⟩

/-- A change of the log's latches and lists leaves its slots. -/
theorem logGrows_onLog {h : Log → Log} (hs : (h s.log).slots = s.log.slots) (hn : (h s.log).next = s.log.next) : LogGrows s (s.onLog h) := by
  rw [LogGrows, State.onLog_log, hs, hn]
  exact ⟨le_rfl, fun _ _ => rfl⟩

/-- An entry is written to the next slot, with its SEQ and its CHAIN. -/
theorem writeEntry_log :
    let prev := if s.log.chain.isEmpty then List.replicate 16 0 else s.log.chain
    let entry := LogSlot.entry s.log.seq n (Config.cmac (chainKey s) (prev ++ noteBytes s.log.seq n))
    (writeEntry s n).log.next = s.log.next + 1 ∧ (writeEntry s n).log.slots = SMap.set .erased s.log.slots s.log.next entry := by
  simp only [writeEntry]
  split
  · rw [bumpSpore_log]
    exact ⟨rfl, rfl⟩
  · exact ⟨rfl, rfl⟩

theorem logGrows_writeEntry : LogGrows s (writeEntry s n) := by
  obtain ⟨hnext, hslots⟩ := writeEntry_log (s := s) (n := n)
  rw [LogGrows, hnext, hslots]
  exact ⟨Nat.le_succ _, fun k hk => SMap.get_set_ne hk.ne⟩

theorem logGrows_logPlace : LogGrows s (logPlace s n) := by
  simp only [logPlace]
  split_ifs
  · exact logGrows_onLog rfl rfl
  · exact .refl
  · exact .of_log countOverflow_log
  · exact logGrows_onLog rfl rfl
  · exact logGrows_writeEntry
  · exact .refl
  · exact .of_log countOverflow_log

theorem logGrows_taskAction {e : Nat} : LogGrows s (taskAction logPlace s k e) := by
  simp only [taskAction]
  split_ifs
  · exact .refl
  · exact .of_log wakeUnit_log
  · exact .of_log (onTask_log.trans wakeUnit_log)
  · exact .of_log (State.onClocks_log _)
  · exact .of_log (State.onClocks_log _)
  · exact .of_log (State.onClocks_log _)
  · exact .of_log signal_log
  · exact logGrows_logPlace

theorem logGrows_reachTasks {l : List Nat} : LogGrows s (reachTasks logPlace s l) := by
  refine List.foldlRecOn _ _ (motive := LogGrows s) .refl (fun a ha t _ => ha.trans ?_)
  dsimp only
  split_ifs
  · exact .refl
  · exact (LogGrows.of_log onTask_log).trans logGrows_taskAction
  · exact .of_log onTask_log

theorem logGrows_raiseWith {l : List Nat} : LogGrows s (raiseWith logPlace s l) := by
  simp only [raiseWith]
  split
  · exact logGrows_reachTasks.trans (.of_log dozeWake_log)
  · exact logGrows_reachTasks

/-- R750: the notice that the log is nearly full, and E092, come behind what it holds. -/
theorem logGrows_logLevels : LogGrows s (logLevels (raiseWith logPlace) s) := by
  have hlatched : ∀ {a : State} {h : Log → Log} {l : List Nat}, (h a.log).slots = a.log.slots → (h a.log).next = a.log.next →
      LogGrows a (raiseWith logPlace (a.onLog h) l) := fun hs hn => (logGrows_onLog hs hn).trans logGrows_raiseWith
  have hfull : ∀ t, LogGrows s t → LogGrows s (if t.log.chained && logFree t == 0 && !t.log.fullRaised then
      raiseWith logPlace (t.onLog (fun l => { l with fullRaised := true })) [92] else t) := by
    intro t h
    split
    · exact h.trans (hlatched rfl rfl)
    · exact h
  unfold logLevels
  refine hfull _ ?_
  split
  · exact (hlatched rfl rfl).trans logGrows_logPlace
  · exact .refl

/-! ### The words of the newest entry -/

section
variable (halive : flashAlive s = true)
include halive

theorem flashOperationDone_of_log {ok : Bool} : exec (.flashOperationDone s.flash.ops.length ok) s = .next (logWordDone s ok) := by
  rw [exec_flashOperationDone, execFlashOperationDone, halive, beq_self_eq_true]
  rfl

theorem logWord_idle (hw : s.log.writing = none) {ok : Bool} : exec (.flashOperationDone s.flash.ops.length ok) s = .next s := by
  rw [flashOperationDone_of_log halive]
  simp only [logWordDone, hw]

theorem logWord_verified (hw : s.log.writing = some k) :
    exec (.flashOperationDone s.flash.ops.length true) s = .next (raise (s.onLog (fun l => { l with writing := none })) [76]) := by
  rw [flashOperationDone_of_log halive]
  simp only [logWordDone, hw]

theorem logWord_retried (hw : s.log.writing = some 0) :
    exec (.flashOperationDone s.flash.ops.length false) s = .next (s.onLog (fun l => { l with writing := some 1 })) := by
  rw [flashOperationDone_of_log halive]
  simp only [logWordDone, hw]

theorem logWord_rewritten (hw : s.log.writing = some (k + 1)) :
    exec (.flashOperationDone s.flash.ops.length false) s = .next (rewriteEntry s) := by
  rw [flashOperationDone_of_log halive]
  simp only [logWordDone, hw]
end

/-- The newest entry's slot torn, and the entry in the next one with its SEQ and its CHAIN. -/
def entryMoved (s : State) (q : U32) (n : Note) (ch : Bytes) : State :=
  (tearSlot s (s.log.next - 1)).onLog (fun l => { l with
    slots := SMap.set .erased l.slots l.next (.entry q n ch), next := l.next + 1, toMirror := l.toMirror ++ [l.next], writing := some 0 })

section
variable {q : U32} {ch : Bytes}

theorem entryMoved_next : (entryMoved s q n ch).log.next = s.log.next + 1 := rfl

theorem entryMoved_slots : (entryMoved s q n ch).log.slots =
    SMap.set LogSlot.erased (SMap.set .erased s.log.slots (s.log.next - 1) .torn) s.log.next (.entry q n ch) := rfl

theorem entryMoved_slot : SMap.get LogSlot.erased (entryMoved s q n ch).log.slots s.log.next = .entry q n ch := by
  rw [entryMoved_slots, SMap.get_set_same]

theorem entryMoved_torn (h : 1 ≤ s.log.next) : SMap.get LogSlot.erased (entryMoved s q n ch).log.slots (s.log.next - 1) = .torn := by
  rw [entryMoved_slots, SMap.get_set_ne (by omega), SMap.get_set_same]

theorem rewriteEntry_moves (hentry : SMap.get LogSlot.erased s.log.slots (s.log.next - 1) = .entry q n ch)
    (hroom : s.log.next < logRoom s n.type) : rewriteEntry s = logLevels (raiseWith logPlace) (entryMoved s q n ch) := by
  simp only [rewriteEntry, hentry, hroom, if_true]
  rfl

/-- R577: the entry stands in the next slot, its own is torn, and what is noted thereupon comes behind. -/
theorem rewriteEntry_fields (hentry : SMap.get LogSlot.erased s.log.slots (s.log.next - 1) = .entry q n ch)
    (hroom : s.log.next < logRoom s n.type) : let t := rewriteEntry s
    s.log.next < t.log.next ∧ SMap.get LogSlot.erased t.log.slots s.log.next = .entry q n ch ∧
      (1 ≤ s.log.next → SMap.get LogSlot.erased t.log.slots (s.log.next - 1) = .torn) := by
  obtain ⟨hnext, hslots⟩ := logGrows_logLevels (s := entryMoved s q n ch)
  rw [entryMoved_next] at hnext hslots
  rw [rewriteEntry_moves hentry hroom]
  exact ⟨hnext, (hslots _ (by omega)).trans entryMoved_slot, fun h => (hslots _ (by omega)).trans (entryMoved_torn h)⟩
end

end Sys2Proof.Proofs
end

section
/-! SUPPORT. What a command's verified program commits: tenants, counters, slots, overrides; and a word of PROVISION that fails (R191 to R193, R306,
R326, R574, R583, R593). -/

namespace Sys2Proof.Proofs
open Sys2Proof Sys2Proof.Machine Sys2Proof.Claims

variable {s : State} {c : Cmd} {j : Job} {g : FnId}

/-! ### Tenants -/

theorem onlyEntropy_instantiate {k : Inst} : OnlyEntropy s (instantiate s k) := by
  simp only [instantiate]
  exact onlyEntropy_takeBlocks.trans onlyEntropy_onDrbg

theorem fnOf_congr {t : State} (h : t.fns = s.fns) : fnOf t f = fnOf s f := by rw [fnOf, h, fnOf]

/-- The function that a tenant command names. -/
abbrev tenantFn (c : Cmd) : FnId := BitVec.ofNat 8 (param c 0 1)

/-- The record that TENANT_CREATE writes. -/
def tenantRecord (s : State) (c : Cmd) (x : Fn) : Fn := { x with
  assigned := true, counterCap := param c 4 2, appletCap := param c 6 1, slots := (freeSlots s).take (param c 2 2)
  label := paramBytes c 16 16, tenRecord := BitVec.ofNat 32 (param c 8 4) }

/-- The device with the tenant in force and its DRBG instantiated (R312). -/
def tenantCreated (s : State) (c : Cmd) : State :=
  instantiate (setReg (onFn s (tenantFn c) (tenantRecord s c)) (glKey (0x2000 + 0x10 * (tenantFn c).toNat)) (param c 8 4)) (.f (tenantFn c))

theorem fnOf_tenantCreated : fnOf (tenantCreated s c) g = fnOf (onFn s (tenantFn c) (tenantRecord s c)) g :=
  fnOf_congr onlyEntropy_instantiate.fns

theorem fnOf_tenantCreated_same : fnOf (tenantCreated s c) (tenantFn c) = tenantRecord s c (fnOf s (tenantFn c)) :=
  fnOf_tenantCreated.trans fnOf_onFn_same

theorem fnOf_tenantCreated_ne (h : g ≠ tenantFn c) : fnOf (tenantCreated s c) g = fnOf s g := fnOf_tenantCreated.trans (fnOf_onFn_ne h)

theorem commitCreate_eq : commitCreate s j =
    (append (tenantCreated s j.cmd) Entry.tenantCreate (Src.host 0) ((tenantFn j.cmd).toNat +
      (fnOf (tenantCreated s j.cmd) (tenantFn j.cmd)).generation.toNat * 2 ^ 8 +
        leNat ((Config.sha384 (paramBytes j.cmd 16 16)).take 4) * 2 ^ 32),
      { res0 := (fnOf (tenantCreated s j.cmd) (tenantFn j.cmd)).generation.toNat }) := rfl

theorem generation_tenantCreated : (fnOf (tenantCreated s c) (tenantFn c)).generation = (fnOf s (tenantFn c)).generation := by
  rw [fnOf_tenantCreated_same]
  rfl

theorem commitCreate_assigns : let f := tenantFn j.cmd
    (commitCreate s j).2 = { res0 := (fnOf s f).generation.toNat } ∧ ∃ m, (commitCreate s j).1 = append m Entry.tenantCreate (Src.host 0)
      (f.toNat + (fnOf s f).generation.toNat * 2 ^ 8 + leNat ((Config.sha384 (paramBytes j.cmd 16 16)).take 4) * 2 ^ 32) ∧
      (fnOf m f).assigned = true ∧ (fnOf m f).counterCap = param j.cmd 4 2 ∧ (fnOf m f).appletCap = param j.cmd 6 1 ∧
      (fnOf m f).slots = (freeSlots s).take (param j.cmd 2 2) ∧ ∀ n, n ≠ f → fnOf m n = fnOf s n := by
  dsimp only
  rw [commitCreate_eq, generation_tenantCreated]
  refine ⟨rfl, tenantCreated s j.cmd, rfl, ?_⟩
  rw [fnOf_tenantCreated_same]
  exact ⟨rfl, rfl, rfl, rfl, fun n hn => fnOf_tenantCreated_ne hn⟩

/-- R191 to R193: everything of the tenant is gone from the device that TENANT_RELEASE logs. -/
theorem commitRelease_releases : let f := tenantFn j.cmd
    (commitRelease s j).2 = {} ∧ ∃ m, (commitRelease s j).1 = append m Entry.tenantRelease (Src.host 0)
      (f.toNat + (fnOf s f).generation.toNat * 2 ^ 8) ∧ (fnOf m f).assigned = false ∧ (fnOf m f).generation = (fnOf s f).generation + 1 ∧
      (fnOf m f).slots = [] ∧ (fnOf m f).label = [] ∧ (∀ e, e ∈ m.counters.owner → e.2 ≠ f.toNat + 1) ∧
      ∀ e, e ∈ m.medulla.records → e.2.owner ≠ f.toNat := by
  refine ⟨rfl, _, rfl, ?_⟩
  have hfn : ∀ (t : State) (k v : Nat) (h : Fn → Fn), fnOf (setReg (onFn t (tenantFn j.cmd) h) k v) (tenantFn j.cmd) =
      h (fnOf t (tenantFn j.cmd)) := fun _ _ _ _ => fnOf_onFn_same
  rw [hfn]
  exact ⟨rfl, rfl, rfl, rfl, fun e he => bne_iff_ne.mp (List.mem_filter.mp he).2, fun e he => bne_iff_ne.mp (List.mem_filter.mp he).2⟩

theorem commitTenantSet_sets : let f := tenantFn j.cmd
    (commitTenantSet s j).2 = {} ∧ fnOf (commitTenantSet s j).1 f = { fnOf s f with tenRecord := BitVec.ofNat 32 (param j.cmd 8 4) } :=
  ⟨rfl, fnOf_onFn_same⟩

/-! ### Counters, slots and overrides -/

theorem commitAlloc_exhausted (h : firstRecord s.counters (j.aux - 1) = none) : commitAlloc s j = (s, exhausted 8) := by
  simp only [commitAlloc, h]

theorem commitAlloc_owns (h : firstRecord s.counters (j.aux - 1) ≠ none) :
    SMap.get 0 (commitAlloc s j).1.counters.owner (j.aux - 1) = j.cmd.fn.toNat + 1 ∧ (commitAlloc s j).2.res0 = j.aux - 1 := by
  obtain ⟨k, hk⟩ := Option.ne_none_iff_exists'.mp h
  simp only [commitAlloc, hk, State.onCounters_counters]
  exact ⟨SMap.get_set_same, trivial⟩

theorem slotOf_emptySlot_same {n : Nat} : slotOf (emptySlot s n) n = { attr := BitVec.ofNat 64 (attrVersion (attrOf s n) * 2 ^ 52), key := [] } := by
  rw [emptySlot, setSlot, slotOf, State.onMedulla_medulla, SMap.get_set_same]

theorem commitDelete_empties : (commitDelete s j).2 = deleteReply s (j.aux - 1) ∧ (slotOf (commitDelete s j).1 (j.aux - 1)).key = [] := by
  refine ⟨rfl, ?_⟩
  rw [commitDelete, slotOf_emptySlot_same]

theorem append_flash {k src d : Nat} : (append s k src d).flash = s.flash := (congrArg State.flash apartFromHypha_append :)

theorem commitOverride_sets :
    SMap.get false (commitOverride s j).1.flash.override (param j.cmd 0 1) = bitOf (param j.cmd 1 1) 0 := by
  have hkey : unitKind ⟨0, param j.cmd 0 1⟩ = param j.cmd 0 1 := by simp [unitKind]
  simp only [commitOverride, append_flash, State.onFlash_flash, hkey, SMap.get_set_same]

/-! ### A word of PROVISION (R574) -/

theorem post_flash {r : Reply} : (post s j r).flash = s.flash := (congrArg State.flash apartFromMailbox_post :)

theorem otpFailed_flash {w : Nat} : (otpFailed s j w).flash =
    { s.flash with otp := SMap.set 0 s.flash.otp w (takeFree s).1, otpBad := w :: s.flash.otpBad } := by
  simp only [otpFailed, post_flash]
  rfl

theorem otpFailed_marks {w : Nat} : let m := otpFailed s j w
    w ∈ m.flash.otpBad ∧ otp m w = (takeFree s).1 ∧ ∀ x, x ≠ w → otp m x = otp s x := by
  simp only [otp, otpFailed_flash]
  exact ⟨List.mem_cons_self, SMap.get_set_same, fun x hx => SMap.get_set_ne hx⟩

end Sys2Proof.Proofs
end

section
/-! SUPPORT. FLASH_WEAR and WORN_OVERRIDE, Crozier's start, ERASE_STARVED, and the work of Xemberon's own on data flash (R340, R545, R567, R573,
R584, R601, R692), and O56. -/

namespace Sys2Proof.Proofs
open Sys2Proof Sys2Proof.Machine Sys2Proof.Claims

variable {s : State} {i : Nat} {o : FlashOp} {c : Cmd} {j : Job}

theorem exec_flashWear : exec (.flashWear c) s = execFlashWear c s := rfl
theorem exec_wornOverride : exec (.wornOverride c) s = execWornOverride c s := rfl
theorem exec_crozierHandover : exec .crozierHandover s = execCrozierHandover s := rfl
theorem exec_eraseStarved : exec (.eraseStarved i) s = execEraseStarved i s := rfl
theorem exec_keyRegionCompaction : exec .keyRegionCompaction s = execKeyRegionCompaction s := rfl
theorem exec_otpProgramStart : exec .otpProgramStart s = execOtpProgramStart s := rfl

/-! ### FLASH_WEAR and WORN_OVERRIDE -/

theorem flashWear_answers (h : Starts 0x0A05 c s j) (hk : param c 0 1 ≤ 3) (hu : param c 2 2 < unitsOf (param c 0 1)) :
    ∃ r, Answers (.flashWear c) s (started s c j) j r ∧ r.status = 0 ∧ r.res0 = eraseCount s ⟨param c 0 1, param c 2 2⟩ := by
  have hkind : decide (param c 0 1 > 3) = false := by simp [hk]
  have hunit : decide (param c 2 2 ≥ unitsOf (param c 0 1)) = false := by simp [hu]
  refine ⟨?reply, exec_flashWear.trans (xci_answers h ?body), ?fields⟩
  case body =>
    dsimp only
    rw [hkind, hunit, when_false, when_false, unlessRefused_passed, unlessRefused_passed, unlessRefused_nil]
  case fields => exact ⟨rfl, rfl⟩

theorem wornOverride_begins (h : Starts 0x0A06 c s j) (hb : param c 0 1 ≤ 31) (ha : param c 1 1 ≤ 1) (hc : param c 2 2 = 0xF5F9) :
    Begins (.wornOverride c) s (flashCommand (started s c j) j (configUnit (started s c j))) := by
  have hblock : decide (param c 0 1 > 31) = false := by simp [hb]
  have hallow : decide (param c 1 1 > 1) = false := by simp [ha]
  exact exec_wornOverride.trans (xci_begins h (by
    rw [hblock, hallow, confirmBad_of_confirms hc]
    rfl))

/-! ### CROZIER_HANDOVER (R692) -/

theorem dropInvocations_jobs {p : Inv → Bool} : (dropInvocations s p).jobs = s.jobs := by
  simp only [dropInvocations, State.onPinnas_jobs]
  refine List.foldlRecOn _ _ (motive := fun a : State => a.jobs = s.jobs) rfl (fun a ha u _ => ?_)
  split
  · exact ha
  · exact ha

theorem appendConfig_jobs : (appendConfig s).jobs = s.jobs := by
  simp only [appendConfig, State.onFlash_jobs]
  split <;> rfl

theorem crozierHandover_starts (hu : s.update.state = 1) (hb : s.boot.state = .updating) (hj : s.jobs = []) :
    let m := appendConfig (dropInvocations s (fun _ => true))
    exec .crozierHandover s = .next (writeNext (m.onUpdate (fun u => { u with
      state := 2, crozier := true, progress := some (progressOf u) }))) := by
  have hjobs : (appendConfig (dropInvocations s (fun _ => true))).jobs = [] := by rw [appendConfig_jobs, dropInvocations_jobs, hj]
  rw [exec_crozierHandover]
  simp [execCrozierHandover, hu, hb, hj, hjobs]

/-! ### ERASE_STARVED (R545) -/

theorem atInstant_flash {t : Nat} : (atInstant s t).flash = s.flash := by
  unfold atInstant
  split
  · rw [setaTo_frame]
  · rfl

theorem atInstant_seta {t : Nat} (hp : s.power.sentinel = true) (ht : max s.clocks.seta t < 2 ^ 64) :
    (atInstant s t).clocks.seta = max s.clocks.seta t := by
  rw [atInstant, hp]
  by_cases hlt : s.clocks.seta < t
  · rw [decide_eq_true hlt, Bool.and_self, if_pos rfl, setaTo_seta, Nat.mod_eq_of_lt (by omega), max_eq_right hlt.le]
  · rw [decide_eq_false hlt, Bool.and_false, if_neg Bool.false_ne_true, max_eq_left (Nat.not_lt.mp hlt)]

theorem eraseStarved_once (h : OpenOp s i o) (hs : o.starved = true) : exec (.eraseStarved i) s = .next s := by
  obtain ⟨-, hget, -⟩ := h
  simp [exec_eraseStarved, execEraseStarved, hget, hs]

/-- The device 1 s of Seta after the erase began, the erase marked and the free part of the DETAIL taken. -/
def starvedAt (s : State) (i : Nat) (o : FlashOp) : State :=
  ((atInstant s (o.startedAt + 100000000)).onFlash (fun f => { f with ops := f.ops.set i { o with starved := true } })).onFree (· + 1)

theorem eraseStarved_raises (h : OpenOp s i o) (he : o.erase = true) (hs : o.starved = false) (hp : s.power.sentinel = true)
    (ht : max s.clocks.seta (o.startedAt + 100000000) < 2 ^ 64) : ∃ m v, exec (.eraseStarved i) s =
      .next (append (raise m [78]) Entry.eraseStarved Src.xemberon
        (o.unit.kind + o.unit.index * 2 ^ 8 + (o.suspends + v) % 2 ^ 32 * 2 ^ 32)) ∧
    m.flash.ops = s.flash.ops.set i { o with starved := true } ∧ m.clocks.seta = max s.clocks.seta (o.startedAt + 100000000) := by
  obtain ⟨halive, hget, hbegun⟩ := h
  refine ⟨starvedAt s i o, (Config.freeValue (atInstant s (o.startedAt + 100000000)).free).toNat, ?_, ?_, ?_⟩
  · rw [exec_eraseStarved, execEraseStarved, hget]
    simp only [he, hbegun, hs, halive, Bool.not_true, Bool.or_self, Bool.false_eq_true, if_false, takeFree, State.onFlash_free, starvedAt]
  · rw [starvedAt, State.onFree_flash, State.onFlash_flash, atInstant_flash]
  · rw [starvedAt, State.onFree_clocks, State.onFlash_clocks, atInstant_seta hp ht]

/-! ### Xemberon's own work -/

/-- An erase of a configuration sector is requested. -/
def configErasing (s : State) : Bool := s.flash.ops.any (fun o => match o.use with | .configHalf _ => true | _ => false)

theorem exec_configHalfSwitch : exec .configHalfSwitch s =
    if !ownWork s || configErasing s then .next s
    else if s.flash.configCopying then .next (openFlash s ⟨2, oldHalf s⟩ true (.configHalf (oldHalf s)))
    else if s.flash.configUsed + 64 ≤ configRoom s then .next s
    else .next (openFlash (switchHalf s) ⟨2, oldHalf (switchHalf s)⟩ true (.configHalf (oldHalf (switchHalf s)))) := rfl

/-- An erase of a counter sector is requested. -/
def relocating (s : State) : Bool := s.flash.ops.any (fun o => match o.use with | .relocation _ => true | _ => false)

theorem exec_counterRelocation : exec .counterRelocation s =
    if !ownWork s || relocating s || counterWriting s || erasedSectors s.counters ≥ 4 then .next s
    else match relocationVictim s.counters with
      | none => .next s
      | some x =>
        if liveCount (relocate s.counters x) x != 0 then .next s
        else .next (openFlash (s.onCounters (fun _ => relocate s.counters x)) ⟨2, 126 + x⟩ true (.relocation x)) := rfl

section
variable (how : ownWork s = true)
include how

/-- R340: the live records of the sector with the most deleted ones stand in an empty sector before it is erased. -/
theorem keyRegionCompaction_copies {v t : Nat} (hc : s.medulla.compacting = none) (hf : freeRecords s < 32)
    (hj : s.jobs.any (·.place.isSome) = false) (hv : keyVictim s = some v) (ht : (emptySectors s).head? = some t) :
    let live := (s.medulla.records.filter (fun e => e.1 / 32 == v && recLive e.2)).map (·.2)
    exec .keyRegionCompaction s = .next (openFlash (s.onMedulla (fun m => { m with
      compacting := some v, records := (live.zipIdx).foldl (fun r e => SMap.set {} r (32 * t + e.2) e.1) m.records })) ⟨2, 18 + v⟩ true (.keyRegion v)) := by
  have hidle : ¬(!ownWork s || s.medulla.compacting.isSome || freeRecords s ≥ 32 || s.jobs.any (·.place.isSome)) = true := by
    rw [how, hc, hj, decide_eq_false (Nat.not_le.mpr hf)]
    exact Bool.false_ne_true
  rw [exec_keyRegionCompaction, execKeyRegionCompaction, if_neg hidle, hv, ht]

section
variable (hn : configErasing s = false) (hc : s.flash.configCopying = false)
include hn hc

theorem configHalfSwitch_room (hr : s.flash.configUsed + 64 ≤ configRoom s) : exec .configHalfSwitch s = .next s := by
  simp only [exec_configHalfSwitch, how, hn, hc, hr, Bool.not_true, Bool.or_self, Bool.false_eq_true, if_false, if_true]

/-- R567: fewer than 64 records are free. -/
theorem configHalfSwitch_switches (hr : configRoom s < s.flash.configUsed + 64) : exec .configHalfSwitch s =
    .next (openFlash (switchHalf s) ⟨2, oldHalf (switchHalf s)⟩ true (.configHalf (oldHalf (switchHalf s)))) := by
  simp only [exec_configHalfSwitch, how, hn, hc, Nat.not_le.mpr hr, Bool.not_true, Bool.or_self, Bool.false_eq_true, if_false]
end

theorem counterRelocation_erases {x : Nat}
    (hn : relocating s = false) (hw : counterWriting s = false)
    (hf : erasedSectors s.counters < 4) (hv : relocationVictim s.counters = some x) (hl : liveCount (relocate s.counters x) x = 0) :
    exec .counterRelocation s = .next (openFlash (s.onCounters (fun _ => relocate s.counters x)) ⟨2, 126 + x⟩ true (.relocation x)) := by
  simp only [exec_counterRelocation, how, hn, hw, hv, hl, ge_iff_le, decide_eq_false (Nat.not_le.mpr hf), Bool.not_true, Bool.or_self,
    bne_self_eq_false, Bool.false_eq_true, if_false]
end

theorem keySectorErased_clears {v : Nat} :
    (keySectorErased s v).medulla.compacting = none ∧ ∀ x, x ∈ (keySectorErased s v).medulla.records → x.1 / 32 ≠ v :=
  ⟨rfl, fun _ hx => bne_iff_ne.mp (List.mem_filter.mp hx).2⟩

/-! ### OTP_PROGRAM_START (R573, R732) -/

section
variable (hw : s.power.feedWarn = false) (ho : s.power.state ≠ .off) (hh : s.power.state ≠ .hibernate)
include hw ho hh

theorem otpProgramStart_eq : exec .otpProgramStart s = .next (if s.flash.otpPending = some 32 then retireNow s
    else s.onFlash (fun f => { f with ops := f.ops.map (fun o => if o.unit.kind == 5 then { o with begun := true } else o) })) := by
  rw [exec_otpProgramStart]
  simp only [execOtpProgramStart, hw, beq_eq_false_iff_ne.mpr ho, beq_eq_false_iff_ne.mpr hh, Bool.or_self, Bool.false_eq_true, if_false,
    beq_iff_eq]
  split <;> rfl
end

/-! ### The statement -/

/-- Settles O56: each operation, command and piece of own work by its own lemmas above. -/
theorem flashWorkEnds : Obligations.FlashWorkEnds := by
  unfold Obligations.FlashWorkEnds
  refine ⟨fun s u e x h => oneErasePerArray_openFlash h, fun s i o h => ?ends, fun s c j => ⟨flashWear_answers, wornOverride_begins⟩,
    fun s => crozierHandover_starts, fun s h => ?logWords, fun s o c j hu hj => ?command, fun s j r => flashAnswer_posts, fun s j => ?commits,
    fun s j w => otpFailed_marks, fun s i o h he => ⟨eraseStarved_once h, eraseStarved_raises h he⟩,
    fun s v t how hc hf hj hv ht => ⟨keyRegionCompaction_copies how hc hf hj hv ht, keySectorErased_clears⟩,
    fun s how hn hc => ⟨configHalfSwitch_room how hn hc, fun hr => ⟨configHalfSwitch_switches how hn hc hr, rfl⟩⟩,
    fun s x how hn hw hf hv hl => counterRelocation_erases how hn hw hf hv hl, fun s hw ho hh => ?otp⟩
  case ends =>
    refine ⟨fun hs ok => flashOperationDone_suspended h hs, fun hs => ⟨fun hg => ?_, flashOperationDone_fails h hs⟩⟩
    exact ⟨flashOperationDone_programmed h hs hg, flashOperationDone_erased h hs hg, flashOperationDone_retried h hs hg⟩
  case logWords =>
    refine ⟨fun hw ok => logWord_idle h hw, fun n => logWord_verified h, logWord_retried h, fun n q e ch hw hentry hroom => ?_⟩
    exact ⟨_, logWord_rewritten h hw, rewriteEntry_fields hentry hroom⟩
  case command =>
    exact ⟨useDone_commits hu hj, useDone_increment hu hj, useDone_pinnaMode hu hj, use_provision hu hj, useFailed_answers hu hj,
      useFailed_increment hu hj, useFailed_persist hu hj, useFailed_tenantSet hu hj⟩
  case commits =>
    exact ⟨commitCreate_assigns, commitRelease_releases, commitTenantSet_sets, commitAlloc_exhausted, commitAlloc_owns, commitDelete_empties,
      commitOverride_sets⟩
  case otp =>
    rw [otpProgramStart_eq hw ho hh]
    exact ⟨fun hp => by rw [if_pos hp], fun hp => by rw [if_neg hp]⟩

end Sys2Proof.Proofs
end

section
/-! SUPPORT. The key slots after a write, and KEY_GENERATE, KEY_IMPORT and KEY_DERIVE once they start (R311, R314, R315, R319, R320, R322, R358,
R508, Tables 8.3 and 8.6), and O35. -/

namespace Sys2Proof.Proofs
open Sys2Proof Sys2Proof.Machine Sys2Proof.Claims

variable {s t : State} {c : Cmd} {j : Job} {n k : Nat} {bs : Bytes}

theorem exec_keyGenerate : exec (.keyGenerate c) s = execKeyGenerate c s := rfl
theorem exec_keyImport : exec (.keyImport c) s = execKeyImport c s := rfl
theorem exec_keyDerive : exec (.keyDerive c) s = execKeyDerive c s := rfl

/-! ### Slots -/

@[simp] theorem slotOf_setSlot_same {x : Slot} : slotOf (setSlot s n x) n = x := by
  rw [setSlot, slotOf, State.onMedulla_medulla, SMap.get_set_same]

theorem slotOf_setSlot_ne {x : Slot} (h : k ≠ n) : slotOf (setSlot s n x) k = slotOf s k := by
  rw [setSlot, slotOf, State.onMedulla_medulla, SMap.get_set_ne h, slotOf]

theorem slotOf_congr (h : t.medulla = s.medulla) : slotOf t n = slotOf s n := by rw [slotOf, slotOf, h]

/-- R311: a slot filled holds the key with one more write counted, and every other slot is as before. -/
theorem makesKey_fillSlot {template origin : Nat} (h : t.medulla = s.medulla) :
    MakesKey s (fillSlot t c k template origin bs) c k template origin bs := by
  have hslot : slotOf t = slotOf s := funext fun _ => slotOf_congr h
  refine ⟨?_, fun m hm => ?_⟩
  · rw [fillSlot, slotOf_setSlot_same, attrOf, attrOf, hslot]
  · rw [fillSlot, slotOf_setSlot_ne hm, hslot]

/-! ### The slot that a creating command fills (R314, R315) -/

theorem slotTaken_of_ok (h : slotToFill s c n = .ok k) : slotTaken s c n = none := by rw [slotTaken, h]

theorem createKey_of_ok {template origin : Nat} (h : slotToFill s c n = .ok k) : createKey s c n template origin bs =
    (fillSlot s c k template origin bs, some (slotReply (fillSlot s c k template origin bs) k)) := by rw [createKey, h]

/-- A change of a job that leaves the slot it fills takes no slot. -/
theorem spokenFor_onJob {h : Job → Job} (hf : ∀ x, (h x).fills = x.fills) : spokenFor (onJob s c h) n = spokenFor s n := by
  simp only [spokenFor, onJob, State.onJobs_jobs, List.any_map]
  congr 1
  funext x
  dsimp only [Function.comp]
  split <;> simp only [hf]

theorem slotToFill_congr (hm : t.medulla = s.medulla) (hf : t.fns = s.fns) (hj : ∀ i, spokenFor t i = spokenFor s i) :
    slotToFill t c n = slotToFill s c n := by
  have hocc : occupied t = occupied s := by
    funext f i
    rw [occupied, occupied, attrOf, attrOf, slotOf_congr hm, recordFor, recordFor, hm]
  have hall : allotment t = allotment s := by
    funext f
    rw [allotment, allotment, fnOf, fnOf, hf]
  rw [slotToFill, slotToFill, hocc, hall, funext hj]

/-! ### Checks that pass -/

theorem unlessRefused_of_passed {l : List (Option Reply)} {go : State × Option Reply} (h : ∀ x ∈ l, x = none) :
    unlessRefused s l go = go := by
  induction l with
  | nil => exact unlessRefused_nil
  | cons x l ih =>
    obtain ⟨rfl, hl⟩ := List.forall_mem_cons.mp h
    rw [unlessRefused_passed, ih hl]

/-- R358. -/
theorem wrapGone_of_works (h : s.medulla.wrapFailed = false) : wrapGone s = none := by simp [wrapGone, h]

/-! ### Draws (R508) -/

theorem onlyEntropy_generate {i : Inst} {x : Bytes} (h : generate s i n x = .got bs t) : OnlyEntropy s t := by
  simp only [generate] at h
  split_ifs at h
  · cases h
    exact onlyEntropy_reseed.trans onlyEntropy_onDrbg
  · cases h
    exact onlyEntropy_onDrbg

theorem withDraw_got {x : Bytes} {body : State → Bytes → State × Option Reply} (hr : j.rerun = false)
    (hg : generate s (instOf j.cmd) n x = .got bs t) :
    withDraw s j n x body = body (onJob t j.cmd (fun y => { y with draws := bs })) bs := by
  rw [withDraw, hr, hg]
  rfl

/-- The slot to fill is the same after a draw. -/
theorem slotToFill_drawn (h : OnlyEntropy s t) : slotToFill (onJob t c (fun y => { y with draws := bs })) c n = slotToFill s c n := by
  obtain ⟨e, rfl⟩ := h
  exact slotToFill_congr rfl rfl fun i => spokenFor_onJob fun _ => rfl

/-! ### The blob of KEY_IMPORT (R320) -/

/-- The blob that KEY_IMPORT unwraps. -/
def importedBlob (s : State) (c : Cmd) : Option Bytes :=
  Config.kwpUnwrap (slotOf s (param c 2 2)).key (bufRead s c (param c 8 8) (param c 16 1))

/-- What it makes of the blob. -/
def importKey (s : State) (c : Cmd) : Option Bytes → State × Option Reply
  | none => (s, some (fail Status.unwrapFailed))
  | some p =>
    if p.length < 8 || !blobOk (leNat (p.take 8)) (p.drop 8) then (s, some (fail Status.unwrapFailed))
    else createKey s c (param c 0 2) (leNat (p.take 8)) 2 (p.drop 8)

theorem importKey_none : importKey s c none = (s, some (fail Status.unwrapFailed)) := rfl

theorem importKey_invalid {p : Bytes} (h : p.length < 8 ∨ blobOk (leNat (p.take 8)) (p.drop 8) = false) :
    importKey s c (some p) = (s, some (fail Status.unwrapFailed)) := by
  rw [importKey, if_pos (by simpa using h)]

theorem importKey_valid {p : Bytes} (hlen : 8 ≤ p.length) (hok : blobOk (leNat (p.take 8)) (p.drop 8) = true) :
    importKey s c (some p) = createKey s c (param c 0 2) (leNat (p.take 8)) 2 (p.drop 8) := by
  rw [importKey, if_neg (by simp [hlen, hok])]

/-! ### The three commands -/

section
variable (hn : newSlotNamed (started s c j) c 0 (param c 0 2) = none) (hk : slotToFill (started s c j) c (param c 0 2) = .ok k)
  (hw : s.medulla.wrapFailed = false)
include hn hk hw

/-- R319: the key drawn. -/
theorem keyGenerate_makes (h : Starts 0x0201 c s j) (ht : templateOk (param c 8 8) = true) (hty : attrType (param c 8 8) ≤ 7)
    (hp : param c 16 1 = 0) (hr : j.rerun = false)
    (hg : generate (started s c j) (instOf c) (typeBytes (attrType (param c 8 8)) (attrLength (param c 8 8))) [] = .got bs t) :
    ∃ v, Answers (.keyGenerate c) s v j (slotReply v k) ∧ MakesKey s v c k (param c 8 8) 1 bs := by
  have hcmd : j.cmd = c := (cmd_op_of_starts h).1
  have hdraw : OnlyEntropy (started s c j) t := onlyEntropy_generate hg
  have hfill := (slotToFill_drawn (bs := bs) hdraw).trans hk
  refine ⟨fillSlot (onJob t c (fun y => { y with draws := bs })) c k (param c 8 8) 1 bs,
    exec_keyGenerate.trans (xci_answers h ?body), makesKey_fillSlot ?same⟩
  case body =>
    rw [if_neg (by rw [hp]; decide)]
    dsimp only
    rw [unlessRefused_of_passed (by simp [ht, hty, hp, hn, slotTaken_of_ok hk, wrapGone_of_works (s := started s c j) hw]),
      withDraw_got hr (by rw [hcmd]; exact hg), hcmd, createKey_of_ok hfill]
  case same =>
    obtain ⟨e, rfl⟩ := hdraw
    rfl

/-- R322: the key derived. -/
theorem keyDerive_makes (h : Starts 0x0203 c s j) (ht : templateOk (param c 8 8) = true) (hty : attrType (param c 8 8) ≤ 7)
    (hb : slotRefusal (started s c j) c 2 (param c 2 2) (fun a => attrUsage a 4 && (attrType a == 2 || attrType a == 6)) = none) :
    let base := slotOf s (param c 2 2)
    let key := kdf (baseKey base.key (attrLength base.attr.toNat)) (paramBytes c 16 32)
      (typeBytes (attrType (param c 8 8)) (attrLength (param c 8 8)))
    ∃ v, Answers (.keyDerive c) s v j (slotReply v k) ∧ MakesKey s v c k (param c 8 8) 3 key := by
  intro base key
  refine ⟨fillSlot (started s c j) c k (param c 8 8) 3 key, exec_keyDerive.trans (xci_answers h ?body), makesKey_fillSlot rfl⟩
  dsimp only
  rw [unlessRefused_of_passed (by simp [ht, hty, hn, hb, slotTaken_of_ok hk, wrapGone_of_works (s := started s c j) hw])]
  exact createKey_of_ok hk

/-- R320: an import to another slot than slot 2 of function 0, once every check has passed, is answered by what it makes of its blob. -/
theorem keyImport_answers {v : State} {r : Reply} (h : Starts 0x0202 c s j) (hm : ¬(param c 0 2 = 2 ∧ c.fn = 0))
    (hbuf : bufBad (started s c j) c (param c 8 8) (param c 16 1) false = false) (hlo : 32 ≤ param c 16 1) (hhi : param c 16 1 ≤ 88)
    (h8 : param c 16 1 % 8 = 0)
    (hu : slotRefusal (started s c j) c 2 (param c 2 2) (fun a => attrUsage a 6 && (attrType a == 2 || attrType a == 7)) = none)
    (hv : importKey (started s c j) c (importedBlob (started s c j) c) = (v, some r)) : Answers (.keyImport c) s v j r := by
  have hmaster : (param c 0 2 == 2 && c.fn == 0) = false := by simpa using hm
  refine exec_keyImport.trans (xci_answers h ?_)
  dsimp only
  rw [hmaster, unlessRefused_of_passed (by
    simp [hbuf, hlo, hhi, h8, hn, hu, slotTaken_of_ok hk, wrapGone_of_works (s := started s c j) hw])]
  exact hv
end

/-! ### The statement -/

/-- Settles O35: each command by its lemma above; an import by what it makes of its blob. -/
theorem keysAreMade : Obligations.KeysAreMade := by
  unfold Obligations.KeysAreMade
  refine fun s c j k hn hk => ⟨fun h ht hty hp hr hw bs u hg => keyGenerate_makes hn hk hw h ht hty hp hr hg,
    fun h ht hty hw hb => keyDerive_makes hn hk hw h ht hty hb, fun h hw hm hbuf hlo hhi h8 hu => ?_⟩
  have answers {v : State} {r : Reply} := keyImport_answers (v := v) (r := r) hn hk hw h hm hbuf hlo hhi h8 hu
  refine ⟨fun hblob => ?none, fun p hblob => ⟨fun hbad => ?invalid, fun hlen hok => ?valid⟩⟩
  case none => exact answers ((congrArg _ hblob).trans importKey_none)
  case invalid => exact answers ((congrArg _ hblob).trans (importKey_invalid hbad))
  case valid =>
    exact ⟨_, answers ((congrArg _ hblob).trans ((importKey_valid hlen hok).trans (createKey_of_ok hk))), makesKey_fillSlot rfl⟩

end Sys2Proof.Proofs
end

section
/-! SUPPORT. KEY_INFO, KEY_EXPORT_WRAPPED, KEY_PERSIST and KEY_DELETE once they start (R323 to R326, R339, R349, R890, Table 8.6), and O36. -/

namespace Sys2Proof.Proofs
open Sys2Proof Sys2Proof.Machine Sys2Proof.Claims

variable {s : State} {c : Cmd} {j : Job} {n k i : Nat} {r : KeyRec}

theorem exec_keyInfo : exec (.keyInfo c) s = execKeyInfo c s := rfl
theorem exec_keyExportWrapped : exec (.keyExportWrapped c) s = execKeyExportWrapped c s := rfl
theorem exec_keyPersist : exec (.keyPersist c) s = execKeyPersist c s := rfl
theorem exec_keyDelete : exec (.keyDelete c) s = execKeyDelete c s := rfl

/-! ### What a change of the jobs leaves of Medulla -/

section
variable {h : Job → Job}

@[simp] theorem onJob_medulla : (onJob s c h).medulla = s.medulla := rfl
@[simp] theorem slotOf_onJob : slotOf (onJob s c h) n = slotOf s n := rfl
@[simp] theorem attrOf_onJob : attrOf (onJob s c h) n = attrOf s n := rfl
@[simp] theorem seedErased_onJob : seedErased (onJob s c h) = seedErased s := rfl
theorem keyRegion_onJob : keyRegion (onJob s c h) = keyRegion s := by
  unfold keyRegion
  exact List.filter_congr fun _ _ => rfl
theorem partSectors_onJob : partSectors (onJob s c h) = partSectors s := by
  rw [partSectors, partSectors, keyRegion_onJob]
  rfl
theorem emptySectors_onJob : emptySectors (onJob s c h) = emptySectors s := by
  rw [emptySectors, emptySectors, keyRegion_onJob]
  rfl
@[simp] theorem freeRecord_onJob : freeRecord (onJob s c h) = freeRecord s := by
  unfold freeRecord
  rw [partSectors_onJob, emptySectors_onJob, onJob_medulla]
@[simp] theorem recordFor_onJob : recordFor (onJob s c h) n k = recordFor s n k := rfl
@[simp] theorem deleteReply_onJob : deleteReply (onJob s c h) n = deleteReply s n := rfl
end

/-! ### KEY_INFO (R890) -/

section
variable (h : Starts 0x0205 c s j)
include h

/-- The allotment. -/
theorem keyInfo_lists (hn : param c 0 2 = 0xFFFF)
    (hbuf : bufBad (started s c j) c (param c 8 8) (2 * (infoList (started s c j) c.fn (param c 2 2)).length) true = false) :
    Answers (.keyInfo c) s (bufWrite (started s c j) c (param c 8 8) ((infoList (started s c j) c.fn (param c 2 2)).flatMap (leBytes 2))) j
      { res0 := (infoList (started s c j) c.fn (param c 2 2)).length } := by
  refine exec_keyInfo.trans (xci_answers h ?_)
  rw [if_pos (by simp [hn])]
  dsimp only
  rw [unlessRefused_when_not hbuf, unlessRefused_nil]

/-- One slot. -/
theorem keyInfo_reads (hn : param c 0 2 ≠ 0xFFFF) (hs : slotNamed (started s c j) c 0 (param c 0 2) [] = none)
    (ha : appletMay (started s c j) c (param c 0 2) = none) :
    let a := if attrValid (attrOf s (param c 0 2)) then attrOf s (param c 0 2) else 0
    Answers (.keyInfo c) s (started s c j) j {
      res0 := a % 2 ^ 32, res1 := a / 2 ^ 32, res2 := attrVersion a
      res3 := bit (recordFor s (param c 0 2) c.fn.toNat).isSome 0 + bit (s.medulla.unloadable.contains (param c 0 2)) 1 + bit (seedErased s) 2 } := by
  refine exec_keyInfo.trans (xci_answers h ?_)
  rw [if_neg (by simp [hn])]
  dsimp only
  rw [hs, ha, unlessRefused_passed, unlessRefused_passed, unlessRefused_nil]
  rfl
end

/-! ### KEY_EXPORT_WRAPPED (R323) -/

theorem keyExportWrapped_writes (h : Starts 0x0207 c s j) (hbuf : bufBad (started s c j) c (param c 8 8) 88 true = false)
    (hk : slotRefusal (started s c j) c 0 (param c 0 2) (fun a => bitOf a 44) = none)
    (hw : slotRefusal (started s c j) c 2 (param c 2 2) (fun a => attrUsage a 5 && attrType a == 2) = none) (hwrap : s.medulla.wrapFailed = false) :
    Answers (.keyExportWrapped c) s (bufWrite (started s c j) c (param c 8 8) (wrappedForm s (param c 0 2) (param c 2 2))) j
      { res0 := (wrappedForm s (param c 0 2) (param c 2 2)).length } := by
  refine exec_keyExportWrapped.trans (xci_answers h ?_)
  dsimp only
  rw [unlessRefused_of_passed (by simp [hbuf, hk, hw, wrapGone_of_works (s := started s c j) hwrap])]
  rfl

/-! ### KEY_PERSIST (R324, R325, R339, R349) -/

theorem kekIsNone_of_ne (h : s.medulla.kek ≠ none) : s.medulla.kek.isNone = false := Option.isNone_eq_false_iff.mpr (Option.isSome_iff_ne_none.mpr h)

section
variable (h : Starts 0x0206 c s j) (hk : slotRefusal (started s c j) c 0 (param c 0 2) (fun _ => true) = none)
include h hk

theorem keyPersist_persistent (hp : attrPersistent (attrOf s (param c 0 2)) = true) : Answers (.keyPersist c) s (started s c j) j
    { res0 := attrOf s (param c 0 2) % 2 ^ 32, res1 := attrOf s (param c 0 2) / 2 ^ 32 } := by
  refine exec_keyPersist.trans (xci_answers h ?_)
  dsimp only
  rw [hk]
  exact if_pos hp

variable (hp : attrPersistent (attrOf s (param c 0 2)) = false)
include hp

/-- R349. -/
theorem keyPersist_unusable (he : seedErased s = true) : Answers (.keyPersist c) s (started s c j) j { status := 0x0206 } :=
  exec_keyPersist.trans (xci_answers h (by simp [hk, hp, he, fail, Status.keyUnusable]))

variable (he : seedErased s = false) (hkek : s.medulla.kek ≠ none) (hw : s.medulla.wrapFailed = false)
include he hkek hw

/-- While the region is compacted the command waits (log entry 59). -/
theorem keyPersist_waits (hc : s.medulla.compacting ≠ none) :
    Begins (.keyPersist c) s (onJob (started s c j) c (fun x => { x with stage := .fetched })) :=
  exec_keyPersist.trans (xci_begins h (by simp [hk, hp, he, hkek, hw, Option.isSome_iff_ne_none.mpr hc, backToQueue]))

variable (hc : s.medulla.compacting = none)
include hc

theorem keyPersist_full (hr : freeRecord s = none) : Answers (.keyPersist c) s (started s c j) j { status := 0x0010, detail := 4 } :=
  exec_keyPersist.trans (xci_answers h (by
    simp [hk, hp, he, kekIsNone_of_ne hkek, hc, hr, wrapGone_of_works (s := started s c j) hw, exhausted, Status.exhausted]))

/-- R324: the record is programmed, its COMMIT last. -/
theorem keyPersist_programs (hr : freeRecord s = some i) :
    let r := newRecord (started s c j) (param c 0 2) c.fn.toNat ((slotOf s (param c 0 2)).attr ||| (1 <<< 9)) (slotOf s (param c 0 2)).key
    Begins (.keyPersist c) s (onJob (flashCommand (putRecord (started s c j) i r) j (recordUnit i)) c (fun x => { x with place := some i })) := by
  have hcmd : j.cmd = c := (cmd_op_of_starts h).1
  exact exec_keyPersist.trans (xci_begins h (by
    simp [hk, hp, he, kekIsNone_of_ne hkek, hc, hr, wrapGone_of_works (s := started s c j) hw, programRecord, hcmd]))
end

/-! ### KEY_DELETE (R326, R327) -/

/-- An emptied slot is not VALID. -/
theorem attrValid_emptySlot : attrValid (attrOf (emptySlot s n) n) = false := by
  rw [attrOf, slotOf_emptySlot_same, attrValid, bitOf_toNat]
  rw [BitVec.getLsbD_ofNat, Nat.testBit_mul_two_pow]
  rfl

section
variable (h : Starts 0x0204 c s j) (hs : slotNamed (started s c j) c 0 (param c 0 2) [] = none)
  (ha : appletMay (started s c j) c (param c 0 2) = none)
include h hs ha

theorem keyDelete_empty (ho : occupied (started s c j) c.fn.toNat (param c 0 2) = false) :
    Answers (.keyDelete c) s (started s c j) j { status := 0x0201 } :=
  exec_keyDelete.trans (xci_answers h (by simp [hs, ha, ho, fail, Status.keyEmpty]))

variable (ho : occupied (started s c j) c.fn.toNat (param c 0 2) = true) (hd : beingDeleted (started s c j) (param c 0 2) = false)
include ho hd

/-- R326: a slot in use waits for its jobs. -/
theorem keyDelete_waits (hu : slotInUse (started s c j) (param c 0 2) = true) :
    Begins (.keyDelete c) s (onJob (started s c j) c (fun x => { x with aux := param c 0 2 + 1 })) :=
  exec_keyDelete.trans (xci_begins h (by simp [hs, ha, ho, hd, hu]))

variable (hu : slotInUse (started s c j) (param c 0 2) = false)
include hu

/-- A slot without a committed record is cleared at once. -/
theorem keyDelete_clears (hr : recordFor s (param c 0 2) c.fn.toNat = none) :
    Answers (.keyDelete c) s (emptySlot (onJob (started s c j) c (fun x => { x with aux := param c 0 2 + 1 })) (param c 0 2)) j
      (deleteReply s (param c 0 2)) := by
  have hcmd : j.cmd = c := (cmd_op_of_starts h).1
  refine exec_keyDelete.trans (xci_answers h ?_)
  simp [hs, ha, ho, hd, hu, goDelete, hcmd, hr]

/-- The TOMBSTONE of a committed record is programmed first. -/
theorem keyDelete_buries (hr : recordFor s (param c 0 2) c.fn.toNat = some (i, r)) :
    Begins (.keyDelete c) s (flashCommand (onJob (started s c j) c (fun x => { x with aux := param c 0 2 + 1 }))
      { j with aux := param c 0 2 + 1 } (recordUnit i)) := by
  have hcmd : j.cmd = c := (cmd_op_of_starts h).1
  refine exec_keyDelete.trans (xci_begins h ?_)
  simp [hs, ha, ho, hd, hu, goDelete, hcmd, hr]
end

/-! ### The statement -/

/-- Settles O36: each command by its lemmas above; the cleared slot by the reads of an emptied one. -/
theorem keysAreReadSavedAndDeleted : Obligations.KeysAreReadSavedAndDeleted := by
  unfold Obligations.KeysAreReadSavedAndDeleted
  refine fun s c j => ⟨fun h => ⟨fun hn hbuf => ⟨_, keyInfo_lists h hn hbuf, rfl⟩, keyInfo_reads h⟩,
    keyExportWrapped_writes, fun h hk => ⟨keyPersist_persistent h hk, fun hp => ⟨keyPersist_unusable h hk hp, fun he hkek hw => ?persist⟩⟩,
    fun h hs ha => ⟨keyDelete_empty h hs ha, fun ho hd => ⟨keyDelete_waits h hs ha ho hd, fun hu => ⟨fun hr => ?clear, fun i r => ?bury⟩⟩⟩⟩
  case persist =>
    exact ⟨keyPersist_waits h hk hp he hkek hw, fun hc => ⟨keyPersist_full h hk hp he hkek hw hc,
      fun i hr => ⟨rfl, rfl, keyPersist_programs h hk hp he hkek hw hc hr⟩⟩⟩
  case clear =>
    refine ⟨_, keyDelete_clears h hs ha ho hd hu hr, ?_, attrValid_emptySlot, fun k hk => slotOf_setSlot_ne hk⟩
    rw [slotOf_emptySlot_same]
  case bury => exact keyDelete_buries h hs ha ho hd hu

end Sys2Proof.Proofs
end

section
/-! SUPPORT. The Vein frame: what an engine makes of the beats Medulla sends for a key, and of beats that do not agree (R330, R331, log entry 85). -/

namespace Sys2Proof.Proofs
open Sys2Proof Sys2Proof.Machine Sys2Proof.Claims

variable {s : State} {u : UnitRef} {n : Nat} {key bs : Bytes} {ws : List U64} {beats : List VeinBeat} {check : VeinBeat}

/-! ### Bytes in words -/

/-- A word of enough bytes that holds a byte string's integer begins with the string. -/
theorem leBytes_leNat (h : bs.length ≤ n) : ∃ z, leBytes n (leNat bs) = bs ++ z := by
  induction bs generalizing n with
  | nil => exact ⟨_, rfl⟩
  | cons b bs ih =>
    cases n with
    | zero => simp at h
    | succ n =>
      have hb := b.isLt
      have hlow : BitVec.ofNat 8 (b.toNat + 256 * leNat bs) = b := BitVec.eq_of_toNat_eq (by simp only [BitVec.toNat_ofNat]; omega)
      have hhigh : (b.toNat + 256 * leNat bs) / 256 = leNat bs := by omega
      obtain ⟨z, hz⟩ := ih (n := n) (by simpa using h)
      exact ⟨z, by rw [leNat, leBytes, hlow, hhigh, hz, List.cons_append]⟩

theorem leNat_lt : leNat bs < 256 ^ bs.length := by
  induction bs with
  | nil => exact Nat.one_pos
  | cons b bs ih =>
    have := b.isLt
    rw [leNat, List.length_cons, Nat.pow_succ]
    omega

/-- Up to eight bytes of a key in the 64-bit word that carries them. -/
theorem leBytes_word (h : bs.length ≤ 8) : ∃ z, leBytes 8 (BitVec.ofNat 64 (leNat bs)).toNat = bs ++ z := by
  have hlt : leNat bs < 2 ^ 64 := lt_of_lt_of_le leNat_lt (by
    calc 256 ^ bs.length ≤ 256 ^ 8 := Nat.pow_le_pow_right (by decide) h
      _ = 2 ^ 64 := by decide)
  rw [BitVec.toNat_ofNat, Nat.mod_eq_of_lt hlt]
  exact leBytes_leNat h

theorem length_leBytes {x : Nat} : (leBytes n x).length = n := by
  induction n generalizing x with
  | zero => rfl
  | succ n ih => rw [leBytes, List.length_cons, ih]

theorem wordBytes_cons {w : U64} : wordBytes (w :: ws) = leBytes 8 w.toNat ++ wordBytes ws := rfl

theorem payloadWords_succ : payloadWords (n + 1) key = BitVec.ofNat 64 (leNat (key.take 8)) :: payloadWords n (key.drop 8) := by
  simp only [payloadWords, List.range_succ_eq_map, List.map_cons, List.map_map, Nat.mul_zero, List.drop_zero, List.drop_drop]
  congr 2
  funext i
  simp only [Function.comp, Nat.succ_eq_add_one, Nat.mul_succ, Nat.add_comm]

/-- R330: the payload beats carry the key, with zeros after it. -/
theorem wordBytes_payloadWords (h : key.length ≤ 8 * n) : ∃ z, wordBytes (payloadWords n key) = key ++ z := by
  induction n generalizing key with
  | zero => exact ⟨[], by rw [List.eq_nil_of_length_eq_zero (by omega : key.length = 0)]; rfl⟩
  | succ n ih =>
    rw [payloadWords_succ, wordBytes_cons]
    obtain ⟨z, hz⟩ := leBytes_word (bs := key.take 8) (by simp)
    by_cases hshort : key.length ≤ 8
    · rw [hz, List.take_of_length_le hshort, List.append_assoc]
      exact ⟨_, rfl⟩
    · have hfull : z = [] := List.eq_nil_of_length_eq_zero (by
        have hlen := congrArg List.length hz
        rw [length_leBytes, List.length_append, List.length_take] at hlen
        omega)
      obtain ⟨y, hy⟩ := ih (key := key.drop 8) (by rw [List.length_drop]; omega)
      exact ⟨y, by rw [hz, hfull, hy, List.append_nil, ← List.append_assoc, List.take_append_drop]⟩

/-! ### What the engine makes of them (R331) -/

theorem ok_beatOf {w : U64} : VeinBeat.ok (beatOf w) = true := beq_self_eq_true (parityOf w)
theorem data_beatOf {w : U64} : (beatOf w).data = w := rfl

theorem data_veinPayload {slot : Nat} : (veinPayload s slot).map (·.data) = slotWords s slot := by
  simp [veinPayload, beatOf, Function.comp_def]

/-- The frame that Medulla sends is accepted, and is the key. -/
theorem veinAccepts_sent {slot : Nat} (hlen : (slotOf s slot).key.length = typeBytes (attrType (attrOf s slot)) (attrLength (attrOf s slot)))
    (hfits : (slotOf s slot).key.length ≤ 8 * payloadBeats (attrType (attrOf s slot))) :
    veinAccepts s slot u (veinPayload s slot) (veinTail s slot u) = some (slotOf s slot).key := by
  have hkey : (wordBytes (slotWords s slot)).take (typeBytes (attrType (attrOf s slot)) (attrLength (attrOf s slot))) = (slotOf s slot).key := by
    obtain ⟨z, hz⟩ := wordBytes_payloadWords hfits
    rw [slotWords, hz, ← hlen, List.take_left]
  have hcount : (veinPayload s slot).length = payloadBeats (attrType (attrOf s slot)) := by
    simp [veinPayload, slotWords, payloadWords]
  have hok : (veinPayload s slot).all VeinBeat.ok = true := by simp [veinPayload, ok_beatOf]
  simp only [veinAccepts, data_veinPayload, hcount, hok, hkey, veinTail, ok_beatOf, data_beatOf, beq_self_eq_true, Bool.and_self, if_true]

/-- A frame of a wrong length, with a beat of wrong parity or with another check word. -/
def Garbled (s : State) (slot : Nat) (u : UnitRef) (beats : List VeinBeat) (check : VeinBeat) : Prop :=
  beats.length ≠ payloadBeats (attrType (attrOf s slot)) ∨ (∃ b ∈ beats ++ [check], b.parity ≠ parityOf b.data) ∨
    check.data ≠ veinCheck (beats.map (·.data)) slot u s.medulla.veinSeq

theorem veinAccepts_garbled {slot : Nat} (h : Garbled s slot u beats check) : veinAccepts s slot u beats check = none := by
  refine if_neg fun hall => ?_
  simp only [Bool.and_eq_true, beq_iff_eq, List.all_eq_true, VeinBeat.ok] at hall
  obtain ⟨⟨⟨hlen, hbeats⟩, hcheck⟩, hdata⟩ := hall
  rcases h with hl | ⟨b, hb, hp⟩ | hd
  · exact hl hlen
  · rcases List.mem_append.mp hb with hb | hb
    · exact hp (hbeats b hb)
    · exact hp (List.mem_singleton.mp hb ▸ hcheck)
  · exact hd hdata

end Sys2Proof.Proofs
end

section
/-! SUPPORT. VEIN_LOAD, TWIN_MISMATCH, FROND_FAILED and FROND_BORROW (R317, R330, R331, R353, R391, R394, R395, R397, R402, R411). -/

namespace Sys2Proof.Proofs
open Sys2Proof Sys2Proof.Machine Sys2Proof.Claims

variable {s : State} {u : UnitRef} {j : Job} {r : Reply} {beats : List VeinBeat} {check : VeinBeat} {key : Bytes} {f m : Fin 64} {n : BitVec 16}
  {p1 p2 : Bool}

theorem exec_veinLoad : exec (.veinLoad beats check) s = execVeinLoad beats check s := rfl
theorem exec_twinMismatch : exec (.twinMismatch f n p1 p2) s = execTwinMismatch f n p1 p2 s := rfl
theorem exec_frondFailed {cause : Fin 8} : exec (.frondFailed f cause) s = execFrondFailed f cause s := rfl
theorem exec_frondBorrow {i : Fin 4} : exec (.frondBorrow i) s = execFrondBorrow i s := rfl

/-! ### VEIN_LOAD -/

/-- The job with the unit's copy of its key. -/
def withCopy (j : Job) (u : UnitRef) (key : Bytes) : Job :=
  { j with copies := (unitKey u, key) :: j.copies, veinFails := SMap.set 0 j.veinFails (unitKey u) 0 }

/-- A two-pass job with all its copies goes on to pass one. -/
theorem veinLoaded_eq : veinLoaded s u j key =
    if (withCopy j u key).keyed && segments j != 0 && j.passOne.isNone && mayRun (onJob s j.cmd (fun _ => withCopy j u key)) (withCopy j u key)
    then passOne (onJob s j.cmd (fun _ => withCopy j u key)) (withCopy j u key) else onJob s j.cmd (fun _ => withCopy j u key) := rfl

theorem veinLoaded_onePass (hseg : segments j = 0) : veinLoaded s u j key = onJob s j.cmd (fun _ => withCopy j u key) := by
  rw [veinLoaded_eq, hseg]
  simp only [bne_self_eq_false, Bool.and_false, Bool.false_and, Bool.false_eq_true, if_false]

theorem veinFailed_third (h : 2 ≤ SMap.get 0 j.veinFails (unitKey u)) : veinFailed s u j = dispatch (failUnit s u 3) :=
  if_pos (Nat.succ_le_succ h)

theorem veinFailed_early (h : SMap.get 0 j.veinFails (unitKey u) < 2) :
    veinFailed s u j = onJob s j.cmd (fun x => { x with veinFails := SMap.mod 0 x.veinFails (unitKey u) (· + 1) }) :=
  if_neg (by omega)

section
variable (hnext : veinNext s = some (u, j)) (hlost : s.clocks.lost.getLsbD 11 = false) (hiso : s.clocks.isolated.getLsbD 11 = false)
include hnext hlost hiso

/-- R317: a slot that Medulla refuses. -/
theorem veinLoad_refused (h : loadRefused s j = some r) : exec (.veinLoad beats check) s = .next (complete s j r) := by
  rw [exec_veinLoad, execVeinLoad, hnext]
  simp only [hlost, hiso, h, Bool.or_self, Bool.false_eq_true, if_false]

variable (h : loadRefused s j = none)
include h

theorem veinLoad_accepted (ha : veinAccepts s (keySlot j) u beats check = some key) :
    exec (.veinLoad beats check) s = .next (veinLoaded (veinServed s u) u j key) := by
  rw [exec_veinLoad, execVeinLoad, hnext]
  simp only [hlost, hiso, h, ha, Bool.or_self, Bool.false_eq_true, if_false]

theorem veinLoad_garbled (hg : Garbled s (keySlot j) u beats check) :
    exec (.veinLoad beats check) s = .next (veinFailed (veinServed s u) u j) := by
  rw [exec_veinLoad, execVeinLoad, hnext]
  simp only [hlost, hiso, h, veinAccepts_garbled hg, Bool.or_self, Bool.false_eq_true, if_false]
end

/-! ### TWIN_MISMATCH (R394, R395) -/

/-- The device once both partners have run their known-answer sets and both passing is logged. -/
def mismatchRun (s : State) (j : Job) (f m : Fin 64) (n : BitVec 16) (p1 p2 : Bool) : State :=
  let a := afterMismatch (afterMismatch (onJob s j.cmd (fun x => { x with pairs := x.pairs + 1 })) f p1) m p2
  if p1 ∧ p2 then append a 0x0302 (0x1000 + f.val) (f.val + m.val * 2 ^ 8 + n.toNat * 2 ^ 16 + 2 ^ 32) else a

theorem twinMismatch_eq (hj : jobOn s (.frond f) = some j) (ht : j.twin = some m) : exec (.twinMismatch f n p1 p2) s =
    .next (if j.pairs + 1 ≥ 3 then complete (abandon (mismatchRun s j f m n p1 p2) j) { j with stage := .waiting, twin := none, rerun := true }
        { status := 0x0011, detail := 1 }
      else dispatch (abandon (mismatchRun s j f m n p1 p2) j)) := by
  rw [exec_twinMismatch, execTwinMismatch, hj]
  simp only [ht, mismatchRun, Bool.and_eq_true]
  rfl

/-! ### FROND_FAILED (R397, R411) -/

theorem signal_engines {g : FnId} {v : Nat} : (signal s g v).engines = s.engines := (congrArg State.engines apartFromMailbox_signal :)

theorem setEvents_engines {g : FnId} {i b mask : Nat} : (setEvents s i g b mask).engines = s.engines := by
  simp only [setEvents]
  split
  · rw [signal_engines, State.onRegs_engines]
  · rw [State.onRegs_engines]

theorem allFnEvent_engines {b : Nat} : (allFnEvent s b).engines = s.engines := by
  refine List.foldlRecOn _ _ (motive := fun a : State => a.engines = s.engines) rfl (fun a ha i _ => ?_)
  split
  · exact setEvents_engines.trans ha
  · exact ha

theorem append_engines {c src d : Nat} : (append s c src d).engines = s.engines := (congrArg State.engines apartFromHypha_append :)
theorem raise_engines {l : List Nat} : (raise s l).engines = s.engines := (congrArg State.engines apartFromHypha_raise :)

/-- A frond retired reads FAILED. -/
theorem frondState_failFrond {cause : Nat} : frondState (failFrond s f cause) f = .failed := by
  have hreports : (failFrond s f cause).engines = (onUnit (stopUnit s (.frond f)).1 (.frond f)
      (fun x => { x with st := .failed, failCause := cause, passed := false, forced := false })).engines := by
    simp only [failFrond]
    rw [append_engines, raiseWaking, raise_engines, poolChanged, allFnEvent_engines, poolEvent, setEvents_engines]
  rw [frondState, unitOf_congr hreports, unitOf_onUnit_same]

theorem frondFailed_retires {cause : Fin 8} (hc : cause.val ≠ 0)
    (hst : frondState s f = .inService ∨ frondState s f = .testing ∨ frondState s f = .borrowed) :
    exec (.frondFailed f cause) s = .next (dispatch (failFrond s f cause.val)) := by
  rw [exec_frondFailed, execFrondFailed]
  refine if_neg ?_
  rcases hst with hst | hst | hst <;> simp [hst, hc]

/-! ### FROND_BORROW (R402) -/

theorem frondBorrow_dispatches {i : Fin 4} (hj : jobOn s (.slice i) = some j) (hb : wantsBorrow j = true) (hr : mayRun s j = true) :
    exec (.frondBorrow i) s = .next (dispatch s) := by
  rw [exec_frondBorrow, execFrondBorrow, hj]
  simp only [hb, hr, Bool.and_self, if_true]

end Sys2Proof.Proofs
end

section
/-! SUPPORT. PREEMPTION_POINT: the test slot first, then URGENT work over its cap, then URGENT work that waits, then a minimum; and the boundaries
of lattice steps (R199, R200, R207, R208, R432, R491, R492, Table 5.15), and O38. -/

namespace Sys2Proof.Proofs
open Sys2Proof Sys2Proof.Machine Sys2Proof.Claims

variable {s : State} {u : UnitRef} {j k : Job}

theorem exec_preemptionPoint : exec (.preemptionPoint u) s = execPreemptionPoint u s := rfl

/-! ### The boundary of a unit -/

theorem preemptionPoint_reached (hu : ∀ n, u ≠ .pinna n) (hr : running s = true) (hq : s.power.quiesced = false) (ho : occupant s u = some j)
    (hreach : reaches s j u = true) : exec (.preemptionPoint u) s = .next (boundary s j u) := by
  rw [exec_preemptionPoint]
  unfold execPreemptionPoint
  rw [hr, hq, ho]
  cases u with
  | pinna n => exact absurd rfl (hu n)
  | frond n | calyptra n | slice n | entropy | wrap =>
    simp only [hreach, Bool.not_true, Bool.or_self, Bool.false_eq_true, if_false, if_true]

/-! ### What happens at a point -/

/-- R780: a due test slot takes the unit. -/
theorem preemptionPoint_tests (hp : sharedPoint j u = [u]) (hf : (unitOf s u).forced = true) (hfree : slotFree s u = true)
    (hstill : slotFree (preempt s j u) u = true) :
    preemptionPoint s j u = startTest (preempt s j u) u (unitOf (preempt s j u) u).why := by
  have hdue : (sharedPoint j u).filter (fun v => (unitOf s v).forced && slotFree s v) = [u] := by simp [hp, hf, hfree]
  simp [preemptionPoint, hdue, takeTests, hstill]

/-- Waiting work takes the unit from work of a lower class: an URGENT job, a frond only from the function that holds most; else, on a frond, a
function below its minimum. -/
def yieldUnit (s : State) (j : Job) : UnitRef → State
  | .frond n => match urgentFor s (.frond n) with
    | some k => if mostHeld s = some j.cmd.fn then takeUnit s j k (.frond n) else s
    | none => match reclaimFor s j with
      | some k => takeUnit s j k (.frond n)
      | none => s
  | u => match urgentFor s u with
    | some k => takeUnit s j k u
    | none => s

theorem yieldUnit_urgent_frond {n : Fin 64} (h : urgentFor s (.frond n) = some k) :
    yieldUnit s j (.frond n) = if mostHeld s = some j.cmd.fn then takeUnit s j k (.frond n) else s := by
  simp only [yieldUnit, h]

theorem yieldUnit_urgent (hu : ∀ n, u ≠ .frond n) (h : urgentFor s u = some k) : yieldUnit s j u = takeUnit s j k u := by
  cases u with
  | frond n => exact absurd rfl (hu n)
  | calyptra n | slice n | pinna n | entropy | wrap => simp only [yieldUnit, h]

theorem yieldUnit_reclaim {n : Fin 64} (hu : urgentFor s (.frond n) = none) (h : reclaimFor s j = some k) :
    yieldUnit s j (.frond n) = takeUnit s j k (.frond n) := by
  simp only [yieldUnit, hu, h]

section
variable (hf : ∀ v ∈ sharedPoint j u, (unitOf s v).forced = false) (hn : ∀ v ∈ sharedPoint j u, holdsPreempted s v = false)
include hf hn

/-- A point without a test slot that is due and without a preempted job on the units. -/
theorem preemptionPoint_free : preemptionPoint s j u =
    if overCap s j u then dispatch (preempt s j u) else if classOf s j.cmd = 0 then s else yieldUnit s j u := by
  have hdue : (sharedPoint j u).filter (fun v => (unitOf s v).forced && slotFree s v) = [] :=
    List.filter_eq_nil_iff.mpr fun v hv => by simp [hf v hv]
  have hheld : (sharedPoint j u).any (holdsPreempted s) = false := List.any_eq_false.mpr fun v hv => by simp [hn v hv]
  simp only [preemptionPoint, hdue, hheld, List.isEmpty_nil, Bool.not_true, Bool.false_eq_true, if_false, Bool.not_false, Bool.and_true,
    Bool.or_false, beq_iff_eq]
  cases u <;> rfl

/-- R200: URGENT work past its cap gives the unit up. -/
theorem preemptionPoint_overCap (h : overCap s j u = true) : preemptionPoint s j u = dispatch (preempt s j u) := by
  rw [preemptionPoint_free hf hn, if_pos h]

/-- Nothing takes a unit from URGENT work within its cap. -/
theorem preemptionPoint_urgent (h : overCap s j u = false) (hc : classOf s j.cmd = 0) : preemptionPoint s j u = s := by
  rw [preemptionPoint_free hf hn, h, if_neg Bool.false_ne_true, if_pos hc]

/-- Work of another class has no cap to be over. -/
theorem preemptionPoint_yields (hc : classOf s j.cmd ≠ 0) : preemptionPoint s j u = yieldUnit s j u := by
  have hcap : overCap s j u = false := by simp [overCap, hc]
  rw [preemptionPoint_free hf hn, hcap, if_neg Bool.false_ne_true, if_neg hc]
end

/-! ### The statement -/

/-- Settles O38: each event by its lemmas above; a preemption point by the boundary of its unit. -/
theorem frondEventsAndTwins : Obligations.FrondEventsAndTwins := by
  unfold Obligations.FrondEventsAndTwins
  refine fun s => ⟨fun u j hnext hlost hiso => ?vein, fun f m n p1 p2 j hj ht => ?twin,
    fun f cause hc hst => ⟨frondFailed_retires hc hst, frondState_failFrond⟩,
    fun i j => frondBorrow_dispatches, fun u j hu hr hq ho hreach => ?point⟩
  case vein =>
    refine ⟨fun r h bs c => veinLoad_refused hnext hlost hiso h, fun h => ⟨fun hlen hfits hseg => ?_, fun bs c hg => ?_⟩⟩
    · rw [veinLoad_accepted hnext hlost hiso h (veinAccepts_sent hlen hfits), veinLoaded_onePass hseg]
      rfl
    · rw [veinLoad_garbled hnext hlost hiso h hg]
      exact ⟨fun h3 => congrArg _ (veinFailed_third h3), fun h3 => congrArg _ (veinFailed_early h3)⟩
  case twin =>
    rw [twinMismatch_eq hj ht]
    exact ⟨fun hp => congrArg _ (if_neg (by omega)), fun hp => congrArg _ (if_pos (by omega))⟩
  case point =>
    rw [preemptionPoint_reached hu hr hq ho hreach]
    refine ⟨?frond, ?calyptra, ?slice, preemptionPoint_tests, fun hf hn =>
      ⟨preemptionPoint_overCap hf hn, preemptionPoint_urgent hf hn, fun hc => ⟨fun k hk => ?urgent, ?minimum⟩⟩⟩
    case frond => rintro n rfl; rfl
    case calyptra => rintro n rfl; rfl
    case slice => rintro n rfl; rfl
    case urgent =>
      refine (preemptionPoint_yields hf hn hc).trans ?_
      cases u with
      | frond n => exact yieldUnit_urgent_frond hk
      | calyptra n | slice n | pinna n | entropy | wrap => exact yieldUnit_urgent (fun _ => nofun) hk
    case minimum =>
      rintro n k rfl hnone hk
      exact (preemptionPoint_yields hf hn hc).trans (yieldUnit_reclaim hnone hk)

end Sys2Proof.Proofs
end

section
/-! SUPPORT. CIPHER, AEAD_ENCRYPT, AEAD_DECRYPT and MAC once they start, the end of a frond's job, segment tags, and CONTEXT_SAVE and CONTEXT_RESTORE
(Table 7.3, R331, R344, R365, R375, R376, R381, R386, R388, R389), and O37. -/

namespace Sys2Proof.Proofs
open Sys2Proof Sys2Proof.Machine Sys2Proof.Claims

variable {s : State} {c : Cmd} {j : Job} {op : Nat} {i : Instr} {f : Fin 64} {r : Reply}

theorem exec_frondJobDone : exec (.frondJobDone f) s = execFrondJobDone f s := rfl
theorem exec_segmentTagReserve {g : FnId} {q : PairId} {tag : BitVec 16} :
    exec (.segmentTagReserve g q tag) s = execSegmentTagReserve g q tag s := rfl
theorem exec_contextSave : exec (.contextSave c) s = execContextSave c s := rfl
theorem exec_contextRestore : exec (.contextRestore c) s = execContextRestore c s := rfl

/-! ### The first check that fails -/

section
variable {l : List (Option Reply)} {go : State × Option Reply}

theorem unlessRefused_of_first (h : firstOf l = some r) : unlessRefused s l go = (s, some r) := by rw [unlessRefused, h]
theorem unlessRefused_of_none (h : firstOf l = none) : unlessRefused s l go = go := by rw [unlessRefused, h]
end

/-! ### The four commands (Table 7.3, R365) -/

/-- The four rows differ in their opcode alone. -/
theorem exec_of_frondRow (hi : frondRow op c = some i) : exec i s = xci op c s (frondStart op c) := by
  unfold frondRow at hi
  split at hi
  case h_5 => cases hi -- no row on a frond
  all_goals
    cases hi
    rfl

section
variable (hi : frondRow op c = some i) (h : Starts op c s j)
include hi h

theorem frondRow_refused (hr : firstOf (frondChecks (started s c j) op c) = some r) : Answers i s (started s c j) j r :=
  (exec_of_frondRow hi).trans (xci_answers h (unlessRefused_of_first hr))

theorem frondRow_waits (hn : firstOf (frondChecks (started s c j) op c) = none) :
    Begins i s (dispatch (onJob (started s c j) c (fun x => { x with
      drawNeed := if (pieceOf c).flag 1 = true then (pieceOf c).ivLen else 0 }))) := by
  refine (exec_of_frondRow hi).trans (xci_begins h ((unlessRefused_of_none hn).trans ?_))
  rw [awaitUnit, onJob_cmd_of_starts h]
end

/-! ### FROND_JOB_DONE (R331, R375, R376) -/

section
variable (hj : jobOn s (.frond f) = some j)
include hj

theorem frondJobDone_unkeyed (hk : j.keyed = false) : exec (.frondJobDone f) s = .next s := by
  rw [exec_frondJobDone, execFrondJobDone, hj]
  simp only [hk, Bool.not_false, Bool.or_true, if_true]

theorem frondJobDone_completes (hr : mayRun s j = true) (ho : isFrondOp j.op = true) (hk : j.keyed = true) : exec (.frondJobDone f) s =
    .next (complete (runFrond s j).1 ((jobOf (runFrond s j).1 j.cmd).getD j) (runFrond s j).2) := by
  rw [exec_frondJobDone, execFrondJobDone, hj]
  simp only [hr, ho, hk, Bool.not_true, Bool.or_self, Bool.false_eq_true, if_false]
end

/-- Without CTX_IN there is no record to check. -/
theorem recordIn_of_absent (hc : (pieceOf j.cmd).flag 2 = false) : recordIn s j = .ok none := by
  simp only [recordIn, hc, Bool.not_false, if_true]

theorem runFrond_decrypt (ho : j.op = 0x0303) (hc : (pieceOf j.cmd).flag 2 = false) : runFrond s j = runDecrypt s j (frondPass s j none) := by
  rw [runFrond, recordIn_of_absent hc, ho]
  rfl

/-- One pass: the tag decides whether anything is released. -/
theorem runDecrypt_onePass {x : Pass} (hs : segments j = 0) : let p := pieceOf j.cmd
    runDecrypt s j x = if bufRead s j.cmd (p.side + 64) p.tagLen = tagOf j x then (bufWrite s j.cmd p.dst (outputOf j x), released p.len true)
      else (s, { status := 0x0301 }) := by
  simp only [runDecrypt, hs, beq_iff_eq, if_true]
  rfl

/-! ### SEGMENT_TAG_RESERVE (R381) -/

theorem segmentTagReserve_reserves {g : FnId} {q : PairId} {tag : BitVec 16} (hj : hostJob s g q tag = some j) (hw : j.stage = .waiting)
    (ht : j.tags = 0) (hs : segments j ≠ 0) (hroom : tagsInUse s + segments j ≤ 65536) :
    exec (.segmentTagReserve g q tag) s = .next (dispatch (onJob s j.cmd (fun x => { x with tags := segments j }))) := by
  rw [exec_segmentTagReserve, execSegmentTagReserve, hj]
  simp [hw, ht, hs, hroom]

/-! ### Context records (R386, R388, R389) -/

section
variable {b : Bytes}

theorem contextSave_wraps (h : Starts 0x0305 c s j) (hsrc : bufBad (started s c j) c (param c 8 8) 256 false = false)
    (hdst : bufBad (started s c j) c (param c 16 8) 272 true = false) (hw : s.medulla.wrapFailed = false)
    (hb : bufRead (started s c j) c (param c 8 8) 256 = b) (hsound : recordSound b = true) (hmode : recField b 5 1 ∈ [1, 2, 3, 4])
    (hslot : slotRefusal (started s c j) c 8 (recField b 8 2) (fun _ => true) = none) (hfits : recordFits (started s c j) b = true) :
    Answers (.contextSave c) s (bufWrite (started s c j) c (param c 16 8) (wrapRecord (started s c j) c.fn b)) j
      { res0 := ctxId (started s c j) c.fn % 2 ^ 32, res1 := ctxId (started s c j) c.fn / 2 ^ 32 } := by
  have hrecord : (!recordSound b || !List.contains [1, 2, 3, 4] (recField b 5 1)) = false := by
    rw [hsound, List.contains_iff_mem.mpr hmode]
    rfl
  refine exec_contextSave.trans (xci_answers h ?_)
  dsimp only
  rw [hb, hrecord, unlessRefused_of_passed (by simp [hsrc, hdst, hslot, hfits, wrapGone_of_works (s := started s c j) hw])]

section
variable (hsrc : bufBad (started s c j) c (param c 8 8) 272 false = false)
  (hdst : param c 16 8 = 0 ∨ bufBad (started s c j) c (param c 16 8) 256 true = false) (hw : s.medulla.wrapFailed = false)
include hsrc hdst hw

/-- The buffers may be used and the wrap unit works. -/
theorem contextRestore_passes {go : State × Option Reply} : unlessRefused (started s c j)
    [when (bufBad (started s c j) c (param c 8 8) 272 false) (bad 8),
      when (param c 16 8 != 0 && bufBad (started s c j) c (param c 16 8) 256 true) (bad 16), wrapGone (started s c j)] go = go := by
  have hout : (param c 16 8 != 0 && bufBad (started s c j) c (param c 16 8) 256 true) = false := by
    rcases hdst with h0 | hbuf
    · rw [h0]
      rfl
    · rw [hbuf, Bool.and_false]
  rw [hsrc, hout, wrapGone_of_works (s := started s c j) hw]
  rfl

variable (h : Starts 0x0306 c s j)
include h

theorem contextRestore_refused (hr : unwrapRecord (started s c j) c.fn (bufRead (started s c j) c (param c 8 8) 272) = .error r) :
    Answers (.contextRestore c) s (started s c j) j r := by
  refine exec_contextRestore.trans (xci_answers h ?_)
  dsimp only
  rw [contextRestore_passes hsrc hdst hw, hr]

theorem contextRestore_unwraps (hb : unwrapRecord (started s c j) c.fn (bufRead (started s c j) c (param c 8 8) 272) = .ok b)
    (hslot : slotRefusal (started s c j) c 8 (recField b 8 2) (fun _ => true) = none) (hfits : recordFits (started s c j) b = true)
    (hclear : param c 16 8 = 0 ∨ recField b 5 1 ≤ 4) : let n := recField b 16 8
    Answers (.contextRestore c) s (if param c 16 8 = 0 then started s c j else bufWrite (started s c j) c (param c 16 8) b) j {
      res0 := recField b 5 1 + recField b 6 1 * 2 ^ 8 + recField b 8 2 * 2 ^ 16
      res1 := n % 2 ^ 32, res2 := n / 2 ^ 32, res3 := recField b 12 2 % 4096 } := by
  have hmode : (param c 16 8 != 0 && decide (recField b 5 1 > 4)) = false := by
    rcases hclear with h0 | h4
    · rw [h0]
      rfl
    · rw [decide_eq_false (Nat.not_lt.mpr h4), Bool.and_false]
  refine exec_contextRestore.trans (xci_answers h ?_)
  dsimp only
  rw [contextRestore_passes hsrc hdst hw, hb]
  dsimp only
  rw [hslot, hfits, hmode, unlessRefused_passed, Bool.not_true, when_false, when_false, unlessRefused_passed, unlessRefused_passed,
    unlessRefused_nil]
  simp only [beq_iff_eq]
end
end

/-! ### The statement -/

/-- Settles O37: each row by its lemmas above; a decryption of one pass by whether its tag matches. -/
theorem frondCommandsQueueAndRun : Obligations.FrondCommandsQueueAndRun := by
  unfold Obligations.FrondCommandsQueueAndRun
  refine ⟨fun s c j op i hi h => ⟨fun r => frondRow_refused hi h, frondRow_waits hi h⟩,
    fun s f j hj hr ho => ⟨frondJobDone_unkeyed hj, fun hk => ⟨frondJobDone_completes hj hr ho hk, fun hop hs hc => ?decrypt⟩⟩,
    fun s f q tag j => segmentTagReserve_reserves,
    fun s c j => ⟨fun h hsrc hdst hw => contextSave_wraps h hsrc hdst hw rfl,
      fun h hsrc hdst hw => ⟨fun e => contextRestore_refused hsrc hdst hw h, fun b => contextRestore_unwraps hsrc hdst hw h⟩⟩⟩
  case decrypt =>
    rw [runFrond_decrypt hop hc, runDecrypt_onePass hs]
    exact ⟨fun htag => if_pos htag, fun htag => if_neg htag⟩

end Sys2Proof.Proofs
end

section
/-! SUPPORT. The twelve public-key commands once they start, CALYPTRA_JOB_DONE and the result of a verification (Tables 10.1, 10.4, 10.8, R331, R420,
R428, R430, R432, R442, R443, R444), and O39. -/

namespace Sys2Proof.Proofs
open Sys2Proof Sys2Proof.Machine Sys2Proof.Claims

variable {s : State} {c : Cmd} {j : Job} {op : Nat} {i : Instr} {n : Fin 2} {r : Reply}

theorem exec_calyptraJobDone {checkOk pass : Bool} : exec (.calyptraJobDone n checkOk pass) s = execCalyptraJobDone n checkOk pass s := rfl

/-! ### The twelve commands (R420, R422, R430) -/

/-- The twelve rows differ in their opcode alone. -/
theorem exec_of_pkRow (hi : pkRow op c = some i) : exec i s = xci op c s (pkStart op c) := by
  unfold pkRow at hi
  split at hi
  case h_13 => cases hi -- no public-key row
  all_goals
    cases hi
    rfl

section
variable (hi : pkRow op c = some i) (h : Starts op c s j)
include hi h

theorem pkRow_refused (hr : firstOf (pkChecks (started s c j) op c) = some r) : Answers i s (started s c j) j r :=
  (exec_of_pkRow hi).trans (xci_answers h (unlessRefused_of_first hr))

theorem pkRow_waits (hn : firstOf (pkChecks (started s c j) op c) = none) :
    Begins i s (dispatch (onJob (started s c j) c (fun x => { x with drawNeed := drawBytes op (pkOf c) }))) := by
  refine (exec_of_pkRow hi).trans (xci_begins h ((unlessRefused_of_none hn).trans ?_))
  rw [awaitUnit, onJob_cmd_of_starts h]
end

/-! ### CALYPTRA_JOB_DONE (R331, R428, R432, R443, R444) -/

/-- A public-key job is neither a badge's nor an applet's. -/
theorem ne_badge_applet_of_isCalyptraOp (ho : isCalyptraOp op = true) : op ≠ 0x0B04 ∧ op ≠ 0x0C01 := by
  simp only [isCalyptraOp, Bool.and_eq_true, decide_eq_true_eq] at ho
  omega

theorem wantsCalyptra_of_isCalyptraOp (ho : isCalyptraOp j.op = true) : wantsCalyptra j = true := by
  rw [wantsCalyptra, ho, Bool.true_or, Bool.true_or]

section
variable (hj : jobOn s (.calyptra n) = some j)
include hj

/-- The job has not ended: its key is on its way, or a lattice step waits for a slice. -/
theorem calyptraJobDone_unfinished {checkOk pass : Bool} (hu : j.keyed = false ∨ j.lattice = .due) :
    exec (.calyptraJobDone n checkOk pass) s = .next s := by
  rw [exec_calyptraJobDone, execCalyptraJobDone, hj]
  rcases hu with hk | hl
  · simp [hk]
  · simp [hl]

variable (hr : mayRun s j = true) (ho : isCalyptraOp j.op = true) (hk : j.keyed = true) (hl : j.lattice ≠ .due)
include hr ho hk hl

/-- The end of a public-key job by its result check and, where that fails, by the unit's known-answer set. -/
theorem calyptraJobDone_finished {checkOk pass : Bool} : exec (.calyptraJobDone n checkOk pass) s = .next
    (if checkOk = true then complete (runPk s j).1 j (runPk s j).2
      else if pass = true then dispatch (backInService (abandon s j) (.calyptra n)) else dispatch (failUnit s (.calyptra n) 2)) := by
  obtain ⟨hbadge, happlet⟩ := ne_badge_applet_of_isCalyptraOp ho
  have hgoes : (!mayRun s j || !wantsCalyptra j || j.lattice == .due || !j.keyed) = false := by
    simp [hr, wantsCalyptra_of_isCalyptraOp ho, hk, hl]
  rw [exec_calyptraJobDone, execCalyptraJobDone, hj]
  dsimp only
  rw [hgoes]
  cases checkOk with
  | true => simp [hbadge, happlet]
  | false => cases pass <;> rfl
end

/-! ### Verifications (Tables 10.4, 10.8) -/

theorem isVerify_iff {p : PkJob} : isVerify op p = true ↔ op = 0x0404 ∨ op = 0x0406 ∨ op = 0x040C ∨ (op = 0x0402 ∧ p.scheme % 16 ≠ 2) := by
  simp [isVerify, or_assoc]

theorem namesSlot_of_isVerify {p : PkJob} (hv : isVerify op p = true) : namesSlot op = false := by
  rcases isVerify_iff.mp hv with rfl | rfl | rfl | ⟨rfl, -⟩ <;> rfl

/-- A command that names no slot works with no private key. -/
theorem pkKey_of_public {p : PkJob} (h1 : op ≠ 0x0401) (hs : namesSlot op = false) : pkKey s op c p = .ok [] := by
  simp [pkKey, h1, hs]

/-- A verification answers its verdict and leaves the device as it is. -/
theorem runPk_verify (hv : isVerify j.op (pkOf j.cmd) = true) (h1 : j.op ≠ 0x0401)
    (hin : operandRefused j.op (pkOf j.cmd) [] (pkInputs s j.op j.cmd (pkOf j.cmd)) = none) : let p := pkOf j.cmd
    runPk s j = (s, if Config.pkVerify j.op p.alg p.scheme ([BitVec.ofNat 8 p.flags] :: pkInputs s j.op j.cmd p) = true
      then { res1 := 0xFFFF, res2 := 1 } else { status := Status.signatureInvalid, res1 := 0xFFFF }) := by
  simp only [runPk, pkKey_of_public h1 (namesSlot_of_isVerify hv), hin, hv, if_true]
  split <;> rfl

/-! ### The statement -/

/-- Settles O39: each row by its checks; a job's end by whether it has ended, its result check and the unit's test; a verification by its verdict. -/
theorem publicKeyCommands : Obligations.PublicKeyCommands := by
  unfold Obligations.PublicKeyCommands
  refine ⟨fun s c j op i hi h => ⟨fun r => pkRow_refused hi h, pkRow_waits hi h⟩,
    fun s n j hj hr ho => ⟨fun hu a b => calyptraJobDone_unfinished hj hu, fun hk hl => ?finished, fun hv h1 hin => ?verdict⟩⟩
  case finished =>
    exact ⟨calyptraJobDone_finished hj hr ho hk hl, calyptraJobDone_finished hj hr ho hk hl, calyptraJobDone_finished hj hr ho hk hl⟩
  case verdict =>
    rw [runPk_verify hv h1 hin]
    refine ⟨rfl, ?_⟩
    dsimp only
    split
    · exact .inl rfl
    · exact .inr rfl

end Sys2Proof.Proofs
end

section
/-! SUPPORT. SORUS_KERNEL, SORUS_KEYSWITCH, SORUS_REFRESH and SORUS_ENCRYPT once they start, their scratch, their key chunks and the end of a job on a
slice (R268, R448, R452, R460, R461, R465, R466, R471, R474, R488, R491, R492, R496, Tables 11.7 and 11.13), and O40. -/

namespace Sys2Proof.Proofs
open Sys2Proof Sys2Proof.Machine Sys2Proof.Claims

variable {s t : State} {c : Cmd} {j : Job} {op : Nat} {k : Fin 4} {r : Reply}

theorem exec_sorusKernel : exec (.sorusKernel c) s = execSorusKernel c s := rfl
theorem exec_sorusKeyswitch : exec (.sorusKeyswitch c) s = execSorusKeyswitch c s := rfl
theorem exec_sorusRefresh : exec (.sorusRefresh c) s = execSorusRefresh c s := rfl
theorem exec_sorusEncrypt : exec (.sorusEncrypt c) s = execSorusEncrypt c s := rfl
theorem exec_scratchReserve {f : FnId} {q : PairId} {tag : BitVec 16} : exec (.scratchReserve f q tag) s = execScratchReserve f q tag s := rfl
theorem exec_kskChunk : exec (.kskChunk k) s = execKskChunk k s := rfl
theorem exec_sorusJobDone {ok pass : Bool} : exec (.sorusJobDone k ok pass) s = execSorusJobDone k ok pass s := rfl

/-! ### What the four commands share -/

/-- A ring command of host software starts with a slice left and its first two addresses aligned. -/
structure RingStarts (op : Nat) (c : Cmd) (s : State) (j : Job) : Prop where
  host : c.issuer = .host
  starts : Starts op c s j
  slices : slicesGone (started s c j) = none
  aligned0 : param c 0 8 % 8 = 0
  aligned8 : param c 8 8 % 8 = 0

/-- The check of a range that a field is in. -/
theorem decide_outside_eq_false {n a b : Nat} (ha : a ≤ n) (hb : n ≤ b) : (decide (n < a) || decide (n > b)) = false := by
  rw [decide_eq_false (Nat.not_lt.mpr ha), decide_eq_false (Nat.not_lt.mpr hb), Bool.or_false]

/-- R268. -/
theorem bufBad_of_aligned {a n : Nat} {w : Bool} (hi : c.issuer = .host) (ha : a % 8 = 0) : bufBad t c a n w = false := by
  rw [bufBad, hi, ha]
  rfl

/-- R488. -/
theorem scratchRefused_of_fits {n : Nat} (h : granulesFor n ≤ 240) : scratchRefused n = none := by simp [scratchRefused, h]

theorem scratchRefused_of_full {n : Nat} (h : ¬granulesFor n ≤ 240) : scratchRefused n = some { status := 0x0503 } := by
  rw [scratchRefused, decide_eq_true (Nat.lt_of_not_le h)]
  rfl

/-- What a ring command leaves that passed its checks: its descriptors are read, and it waits for scratch, then for `n` chunks (R225, R448). -/
def awaitingScratch (t : State) (c : Cmd) (n : Nat) (ds : List (Nat × Nat)) : State :=
  onJob (keepDescs t c (modSetSpan t c :: ds)) c (fun x => { x with need := n })

theorem awaitScratch_of_starts (h : Starts op c s j) {n : Nat} {ds : List (Nat × Nat)} : awaitScratch t j n ds = (awaitingScratch t c n ds, none) := by
  rw [awaitScratch, (cmd_op_of_starts h).1, awaitingScratch]

/-! ### SORUS_KERNEL (R460 to R462) -/

/-- The fields of a SORUS_KERNEL entry are aligned and in range. -/
structure KernelFields (c : Cmd) : Prop where
  operands_aligned : param c 24 8 % 8 = 0
  consts_aligned : param c 32 8 % 8 = 0
  steps_pos : 1 ≤ param c 16 2
  steps_le : param c 16 2 ≤ 64
  operands_pos : 1 ≤ param c 18 1
  operands_le : param c 18 1 ≤ 16
  consts_le : param c 19 1 ≤ 16

section
variable (h : RingStarts 0x0501 c s j) (hf : KernelFields c)
include h hf

/-- The checks left, in their order. -/
theorem sorusKernel_eq : let t := started s c j
    exec (.sorusKernel c) s = .next (bodyDone j (unlessRefused t
      [ringRefused t c, programRefused t c, scratchRefused (((opnds t c).map (·.limbs)).sum * limbSize (modSet t c)), slicesGone t]
      (awaitingScratch t c 0 [(param c 8 8, 8 * param c 16 2), (param c 24 8, 16 * param c 18 1), (param c 32 8, 8 * param c 19 1)], none))) := by
  refine exec_sorusKernel.trans ((xci_starts h.starts).trans ?_)
  simp only [bufBad_of_aligned h.host, h.aligned0, h.aligned8, hf.operands_aligned, hf.consts_aligned, decide_outside_eq_false hf.steps_pos hf.steps_le,
    decide_outside_eq_false hf.operands_pos hf.operands_le, decide_eq_false (Nat.not_lt.mpr hf.consts_le), Bool.and_false, when_false,
    unlessRefused_passed, awaitScratch_of_starts h.starts]

theorem sorusKernel_modSet (hr : ringRefused (started s c j) c = some r) : Answers (.sorusKernel c) s (started s c j) j r := by
  rw [Answers, sorusKernel_eq h hf, hr]
  rfl

variable (hm : ringRefused (started s c j) c = none)
include hm

theorem sorusKernel_program (hr : programRefused (started s c j) c = some r) : Answers (.sorusKernel c) s (started s c j) j r := by
  rw [Answers, sorusKernel_eq h hf, hm, hr]
  rfl

variable (hp : programRefused (started s c j) c = none)
include hp

theorem sorusKernel_full (hw : ¬granulesFor (((opnds (started s c j) c).map (·.limbs)).sum * limbSize (modSet (started s c j) c)) ≤ 240) :
    Answers (.sorusKernel c) s (started s c j) j { status := 0x0503 } := by
  rw [Answers, sorusKernel_eq h hf, hm, hp, scratchRefused_of_full hw]
  rfl

theorem sorusKernel_waits (hw : granulesFor (((opnds (started s c j) c).map (·.limbs)).sum * limbSize (modSet (started s c j) c)) ≤ 240) :
    Begins (.sorusKernel c) s (awaitingScratch (started s c j) c 0
      [(param c 8 8, 8 * param c 16 2), (param c 24 8, 16 * param c 18 1), (param c 32 8, 8 * param c 19 1)]) := by
  rw [Begins, sorusKernel_eq h hf, hm, hp, scratchRefused_of_fits hw, h.slices]
  rfl
end

/-! ### SORUS_KEYSWITCH (R464 to R466, Table 11.7) -/

section
variable (h : RingStarts 0x0502 c s j) (h16 : param c 16 8 % 8 = 0) (h24 : param c 24 8 % 8 = 0) (hm : ringRefused (started s c j) c = none)
  (hl : 1 ≤ param c 34 1) (hl' : param c 34 1 ≤ (modSet (started s c j) c).l) (hd : 1 ≤ param c 35 1) (hd' : param c 35 1 ≤ param c 34 1)
include h h16 h24 hm hl hl' hd hd'

/-- The checks left, in their order. -/
theorem sorusKeyswitch_eq : let t := started s c j
    let m := modSet t c
    exec (.sorusKeyswitch c) s = .next (bodyDone j (unlessRefused t
      [when (param c 40 8 != keyBytes m (param c 34 1) (param c 35 1)) (bad 40), slotRefusal t c 32 (param c 32 2) (streamSlot 1),
        scratchRefused ((4 * param c 34 1 + 3 * m.k) * limbSize m + 65536), slicesGone t]
      (awaitingScratch t c (switchChunks m (param c 34 1) (param c 35 1)) [], none))) := by
  refine exec_sorusKeyswitch.trans ((xci_starts h.starts).trans ?_)
  simp only [bufBad_of_aligned h.host, h.aligned0, h.aligned8, h16, h24, hm, decide_outside_eq_false hl hl', decide_outside_eq_false hd hd', when_false,
    unlessRefused_passed, awaitScratch_of_starts h.starts]

/-- R464. -/
theorem sorusKeyswitch_length (hn : param c 40 8 ≠ keyBytes (modSet (started s c j) c) (param c 34 1) (param c 35 1)) :
    Answers (.sorusKeyswitch c) s (started s c j) j (bad 40) := by
  rw [Answers, sorusKeyswitch_eq h h16 h24 hm hl hl' hd hd', unlessRefused_when (bne_iff_ne.mpr hn)]
  rfl

theorem sorusKeyswitch_waits (hn : param c 40 8 = keyBytes (modSet (started s c j) c) (param c 34 1) (param c 35 1))
    (hs : slotRefusal (started s c j) c 32 (param c 32 2) (streamSlot 1) = none)
    (hw : granulesFor ((4 * param c 34 1 + 3 * (modSet (started s c j) c).k) * limbSize (modSet (started s c j) c) + 65536) ≤ 240) :
    Begins (.sorusKeyswitch c) s
      (awaitingScratch (started s c j) c (switchChunks (modSet (started s c j) c) (param c 34 1) (param c 35 1)) []) := by
  rw [Begins, sorusKeyswitch_eq h h16 h24 hm hl hl' hd hd', unlessRefused_when_not (bne_eq_false_iff_eq.mpr hn), hs, scratchRefused_of_fits hw, h.slices]
  rfl
end

/-! ### SORUS_REFRESH (R471, Table 11.8) -/

section
variable (h : RingStarts 0x0503 c s j) (h16 : param c 16 8 % 8 = 0) (h24 : param c 24 8 % 8 = 0) (hm : ringRefused (started s c j) c = none)
include h h16 h24 hm

/-- The checks left, in their order. -/
theorem sorusRefresh_eq : let t := started s c j
    let m := modSet t c
    let d := rdesc t c
    exec (.sorusRefresh c) s = .next (bodyDone j (unlessRefused t
      [refreshRefused t c, slotRefusal t c 32 (param c 32 2) (streamSlot 1), scratchRefused ((8 * d.lTop + 3 * m.k) * limbSize m + 65536), slicesGone t]
      (awaitingScratch t c ((refreshSwitches t c).map (fun x => switchChunks m x.1 d.d)).sum [(param c 24 8, 16 + 32 * d.ops)], none))) := by
  refine exec_sorusRefresh.trans ((xci_starts h.starts).trans ?_)
  simp only [bufBad_of_aligned h.host, h.aligned0, h.aligned8, h16, h24, hm, when_false, unlessRefused_passed, awaitScratch_of_starts h.starts]

theorem sorusRefresh_refused (hr : refreshRefused (started s c j) c = some r) : Answers (.sorusRefresh c) s (started s c j) j r := by
  rw [Answers, sorusRefresh_eq h h16 h24 hm, hr]
  rfl

theorem sorusRefresh_waits (hr : refreshRefused (started s c j) c = none) (hs : slotRefusal (started s c j) c 32 (param c 32 2) (streamSlot 1) = none)
    (hw : granulesFor ((8 * (rdesc (started s c j) c).lTop + 3 * (modSet (started s c j) c).k) * limbSize (modSet (started s c j) c) + 65536) ≤ 240) :
    let t := started s c j
    Begins (.sorusRefresh c) s (awaitingScratch t c ((refreshSwitches t c).map (fun y => switchChunks (modSet t c) y.1 (rdesc t c).d)).sum
      [(param c 24 8, 16 + 32 * (rdesc t c).ops)]) := by
  rw [Begins, sorusRefresh_eq h h16 h24 hm, hr, hs, scratchRefused_of_fits hw, h.slices]
  rfl
end

/-! ### SORUS_ENCRYPT (R474) -/

/-- A message in the clear: no chunks and no slot (log entry 91: the 32 bytes are drawn at dispatch). -/
theorem sorusEncrypt_waits (h : RingStarts 0x0504 c s j) (h16 : param c 16 8 % 8 = 0) (h24 : param c 24 8 % 8 = 0)
    (hm : ringRefused (started s c j) c = none) (hl : 1 ≤ param c 34 1) (hl' : param c 34 1 ≤ (modSet (started s c j) c).l) (hflags : param c 35 1 = 0)
    (hw : granulesFor (6 * param c 34 1 * limbSize (modSet (started s c j) c) + 65536) ≤ 240) :
    Begins (.sorusEncrypt c) s (awaitingScratch (onJob (started s c j) c (fun x => { x with drawNeed := 32 })) c 0 []) := by
  have hplain : isSealed c = false := by
    rw [isSealed, hflags]
    rfl
  refine exec_sorusEncrypt.trans (xci_begins h.starts ?_)
  simp only [bufBad_of_aligned h.host, h.aligned0, h.aligned8, h16, h24, hm, decide_outside_eq_false hl hl', hplain, hflags, scratchRefused_of_fits hw,
    h.slices, Bool.false_and, Bool.false_eq_true, if_false, when_false, unlessRefused_passed, awaitScratch_of_starts h.starts]
  rfl

/-! ### SCRATCH_RESERVE (R448, Table 11.13) -/

theorem scratchReserve_reserves {f : FnId} {q : PairId} {tag : BitVec 16} (hj : hostJob s f q tag = some j) (hw : j.stage = .waiting)
    (ho : isSliceOp j.op = true) (hr : j.reserved = false) (hn : granulesFor (workingSet s j) ≤ (freeGranules s).length) :
    exec (.scratchReserve f q tag) s = .next (dispatch (onJob s j.cmd (fun x => { x with
      granules := (freeGranules s).take (granulesFor (workingSet s j)), reserved := true }))) := by
  rw [exec_scratchReserve, execScratchReserve, hj]
  simp [reserveScratch, hw, ho, hr, Nat.not_lt.mpr hn]

/-! ### KSK_CHUNK (R465, R491, log entry 44) -/

/-- A change of a job other than of its lattice step leaves no step waiting where none was. -/
theorem latticeDue_onJob {g : Job → Job} (hg : ∀ x, (g x).lattice = x.lattice) (h : latticeDue s = []) : latticeDue (onJob s c g) = [] := by
  simp only [latticeDue, List.filter_eq_nil_iff] at h ⊢
  intro x hx
  obtain ⟨y, hy, rfl⟩ := List.mem_map.mp hx
  split
  · rw [hg]
    exact h y hy
  · exact h y hy

theorem latticeAt_of_none_due (h : latticeDue s = []) : latticeAt s k = s := by
  rw [latticeAt, h]
  rfl

section
variable {b : Bytes} {e : Expect} {stop : Nat} (hj : jobOn s (.slice k) = some j) (hr : mayRun s j = true) (hloan : loanAtWork s j = true)
  (hneed : j.chunks < j.need) (hnext : nextChunk s j = some (b, e, stop))
include hj hr hloan hneed hnext

theorem kskChunk_fails (hbad : chunkOk (modSet s j.cmd) (streamKey s j.cmd) e b = false) :
    exec (.kskChunk k) s = .next (complete s j { status := 0x0504, detail := j.chunks }) := by
  rw [exec_kskChunk, execKskChunk, hj]
  simp [hr, hloan, Nat.not_le.mpr hneed, hnext, hbad, Status.kskAuthFailed]

/-- Inside a step, a chunk that authenticates is counted, and the slice is at a boundary. -/
theorem kskChunk_passes (hok : chunkOk (modSet s j.cmd) (streamKey s j.cmd) e b = true) (hstop : j.chunks + 1 ≠ stop) (hoff : sorusOff s = false) :
    exec (.kskChunk k) s = .next (macroStep (onJob s j.cmd (fun x => { x with chunks := j.chunks + 1 })) j k) := by
  rw [exec_kskChunk, execKskChunk, hj]
  simp [hr, hloan, Nat.not_le.mpr hneed, hnext, hok, hstop, hoff]
end

/-- R491: where lattice steps run on the units' own multipliers or none waits, a boundary is nothing. -/
theorem macroStep_idle (hoff : sorusOff s = false) (h : ownLattice s = true ∨ latticeDue s = []) : macroStep s j k = s := by
  rw [macroStep, hoff, if_neg Bool.false_ne_true]
  split
  · rfl
  · next hown => exact latticeAt_of_none_due (h.resolve_left hown)

theorem macroStep_lattice (hoff : sorusOff s = false) (hown : ownLattice s = false) : macroStep s j k = latticeAt s k := by
  rw [macroStep, hoff, hown]
  rfl

/-! ### SORUS_JOB_DONE (R449, R462) -/

section
variable (hj : jobOn s (.slice k) = some j) (hr : mayRun s j = true) (ho : isSliceOp j.op = true) (hoff : sorusOff s = false)
include hj hr ho hoff

theorem sorusJobDone_completes {pass : Bool} (hready : sliceJobReady s j = true) : exec (.sorusJobDone k true pass) s =
    .next (settleCloses (complete (runSlice s j).1 j (runSlice s j).2)) := by
  rw [exec_sorusJobDone, execSorusJobDone, hj]
  simp [hr, ho, hoff, hready]

/-- A residue mismatch: the slice's known-answer set says whether it goes on. -/
theorem sorusJobDone_mismatch {pass : Bool} : exec (.sorusJobDone k false pass) s =
    .next (dispatch (if pass = true then backInService (abandon s j) (.slice k) else failUnit s (.slice k) 2)) := by
  rw [exec_sorusJobDone, execSorusJobDone, hj]
  cases pass <;> simp [hr, ho, hoff]
end

/-! ### The statement -/

/-- Settles O40: each command by its checks, a chunk by its tag and the boundary after it, a job's end by its residue check. -/
theorem ringCommands : Obligations.RingCommands := by
  unfold Obligations.RingCommands
  refine ⟨fun s c j hi hgone h0 h8 => ⟨?kernel, ?keyswitch, ?refresh, ?encrypt⟩, fun s f q tag j => scratchReserve_reserves,
    fun s k j hj hr => ⟨fun hloan hneed b e stop hnext => ⟨kskChunk_fails hj hr hloan hneed hnext, fun hok hstop hoff => ?chunk⟩,
      fun ho hoff => ?done⟩⟩
  case kernel =>
    intro h h24 h32 hsteps hsteps' hops hops' hconsts
    have hring : RingStarts 0x0501 c s j := ⟨hi, h, hgone, h0, h8⟩
    have hf : KernelFields c := ⟨h24, h32, hsteps, hsteps', hops, hops', hconsts⟩
    exact ⟨fun r => sorusKernel_modSet hring hf, fun hm => ⟨fun r => sorusKernel_program hring hf hm,
      fun hp => ⟨sorusKernel_full hring hf hm hp, sorusKernel_waits hring hf hm hp⟩⟩⟩
  case keyswitch =>
    intro h h16 h24 hm hl hl' hd hd'
    have hring : RingStarts 0x0502 c s j := ⟨hi, h, hgone, h0, h8⟩
    exact ⟨sorusKeyswitch_length hring h16 h24 hm hl hl' hd hd', sorusKeyswitch_waits hring h16 h24 hm hl hl' hd hd'⟩
  case refresh =>
    intro h h16 h24 hm
    have hring : RingStarts 0x0503 c s j := ⟨hi, h, hgone, h0, h8⟩
    exact ⟨fun r => sorusRefresh_refused hring h16 h24 hm, sorusRefresh_waits hring h16 h24 hm⟩
  case encrypt =>
    intro h
    exact sorusEncrypt_waits ⟨hi, h, hgone, h0, h8⟩
  case chunk =>
    rw [kskChunk_passes hj hr hloan hneed hnext hok hstop hoff]
    exact ⟨fun h => congrArg _ (macroStep_idle hoff (h.imp_right (latticeDue_onJob fun _ => rfl))),
      fun hown => congrArg _ (macroStep_lattice hoff hown)⟩
  case done =>
    exact ⟨sorusJobDone_completes hj hr ho hoff, sorusJobDone_mismatch hj hr ho hoff, sorusJobDone_mismatch hj hr ho hoff⟩

end Sys2Proof.Proofs
end

section
/-! SUPPORT. SHARE_OPEN, SHARE_INPUT, SHARE_COMPUTE, SHARE_REVEAL and SHARE_CLOSE once they start, and the instructions of a share program (R478 to
R485, R496, Tables 11.11 and 11.12, log entries 40, 46 and 91), and O41. -/

namespace Sys2Proof.Proofs
open Sys2Proof Sys2Proof.Machine Sys2Proof.Claims

variable {s t : State} {c : Cmd} {j : Job} {op n : Nat} {g : Job → Job}

theorem exec_shareOpen : exec (.shareOpen c) s = execShareOpen c s := rfl
theorem exec_shareInput : exec (.shareInput c) s = execShareInput c s := rfl
theorem exec_shareCompute : exec (.shareCompute c) s = execShareCompute c s := rfl
theorem exec_shareReveal : exec (.shareReveal c) s = execShareReveal c s := rfl
theorem exec_shareClose : exec (.shareClose c) s = execShareClose c s := rfl

/-! ### The session is no part of the jobs -/

@[simp] theorem inputParty_onJob : inputParty (onJob s c g) n = inputParty s n := rfl
@[simp] theorem outputParties_onJob : outputParties (onJob s c g) n = outputParties s n := rfl
@[simp] theorem partyIndex_onJob {f : FnId} : partyIndex (onJob s c g) f = partyIndex s f := rfl
@[simp] theorem shareBuf_onJob : shareBuf (onJob s c g) = shareBuf s := rfl
@[simp] theorem shareDigest_onJob : shareDigest (onJob s c g) = shareDigest s := rfl
@[simp] theorem missingInputs_onJob : missingInputs (onJob s c g) = missingInputs s := rfl
@[simp] theorem sessionRefused_onJob {d : Cmd} : sessionRefused (onJob s c g) d = sessionRefused s d := rfl

theorem shareEntry_engines : (shareEntry s n).engines = s.engines := append_engines

/-! ### SHARE_OPEN (R478, R479) -/

/-- A SHARE_OPEN of an issuer among 2 to 4 sound parties, its fields in range, with no session open and a slice left. -/
structure ShareOpening (c : Cmd) (t : State) : Prop where
  parties_ge : 2 ≤ param c 0 1
  parties_le : param c 0 1 ≤ 4
  parties : partiesRefused t c = none
  vlen_pos : 1 ≤ param c 6 2
  vlen_le : param c 6 2 ≤ 1024
  buffer : bufBad t c (param c 8 8) (param c 16 2) false = false
  len_ge : 16 ≤ param c 16 2
  len_le : param c 16 2 ≤ 2048
  len_words : param c 16 2 % 8 = 0
  issuer : c.fn ∈ openParties c
  none_open : t.engines.share.isOpen = false
  slices : slicesGone t = none

/-- The session that SHARE_OPEN opens with a program of these bytes (R479). -/
def newSession (t : State) (c : Cmd) (prog seed : Bytes) : Share := {
  isOpen := true, session := (t.engines.share.opened + 1) % 2 ^ 16 + c.fn.toNat * 2 ^ 16, opened := t.engines.share.opened + 1
  parties := openParties c, vlen := param c 6 2, prog := progWords prog, digest := Config.sha384 prog, seed := seed }

/-- The entry of its opening, and SHARE_OPEN's results. -/
def openSession (c : Cmd) (prog : Bytes) (t : State) (seed : Bytes) : State × Option Reply :=
  let dg := Config.sha384 prog
  (shareEntry (onShare t (fun _ => newSession t c prog seed)) 0,
    some { res0 := (newSession t c prog seed).session, res1 := recField dg 0 4, res2 := recField dg 4 4, res3 := recField dg 8 4 })

section
variable (h : Starts 0x0505 c s j) (ho : ShareOpening c (started s c j))
include h ho

/-- What is left of SHARE_OPEN: the program's check and the draw. -/
theorem shareOpen_eq : let t := started s c j
    let prog := bufRead t c (param c 8 8) (param c 16 2)
    exec (.shareOpen c) s = .next (bodyDone j (unlessRefused t [(shareProgFail (param c 0 1) (progWords prog) 0 [] []).map (badDesc 5)]
      (withOwn t c 4 32 (openSession c prog)))) := by
  have hlen : (decide (param c 16 2 < 16) || decide (param c 16 2 > 2048) || param c 16 2 % 8 != 0) = false := by
    rw [decide_outside_eq_false ho.len_ge ho.len_le, ho.len_words]
    rfl
  refine exec_shareOpen.trans ((xci_starts h).trans ?_)
  simp only [decide_outside_eq_false ho.parties_ge ho.parties_le, decide_outside_eq_false ho.vlen_pos ho.vlen_le, hlen, ho.parties, ho.buffer,
    List.contains_iff_mem.mpr ho.issuer, ho.none_open, ho.slices, Bool.not_true, when_false, unlessRefused_passed]
  cases shareProgFail (param c 0 1) (progWords (bufRead (started s c j) c (param c 8 8) (param c 16 2))) 0 [] [] <;> rfl

/-- R461: the byte offset of the program's first fault. -/
theorem shareOpen_unsound {o : Nat}
    (hp : shareProgFail (param c 0 1) (progWords (bufRead (started s c j) c (param c 8 8) (param c 16 2))) 0 [] [] = some o) :
    Answers (.shareOpen c) s (started s c j) j (badDesc 5 o) := by
  rw [Answers, shareOpen_eq h ho, hp]
  rfl

theorem shareOpen_opens (hp : shareProgFail (param c 0 1) (progWords (bufRead (started s c j) c (param c 8 8) (param c 16 2))) 0 [] [] = none)
    {seed : Bytes} {u : State} (hg : generate (started s c j) (.i 4) 32 [] = .got seed u) :
    ∃ v r, Answers (.shareOpen c) s v j r ∧ r.status = 0 ∧ r.res0 = v.engines.share.session ∧
      v.engines.share = newSession s c (bufRead (started s c j) c (param c 8 8) (param c 16 2)) seed := by
  have hexec : exec (.shareOpen c) s = .next (bodyDone j (openSession c (bufRead (started s c j) c (param c 8 8) (param c 16 2)) u seed)) := by
    rw [shareOpen_eq h ho, hp, Option.map_none, unlessRefused_passed, unlessRefused_nil, withOwn_got hg]
  obtain ⟨e, rfl⟩ := onlyEntropy_generate hg
  refine ⟨_, _, hexec, rfl, ?_, ?_⟩
  all_goals
    rw [shareEntry_engines]
    rfl
end

/-! ### The commands of a session (R480 to R482, R485) -/

/-- A share command of a party of the open session. -/
structure InSession (s : State) (c : Cmd) : Prop where
  is_open : s.engines.share.isOpen = true
  named : param c 0 4 = s.engines.share.session
  party : c.fn ∈ s.engines.share.parties
  not_closing : s.engines.share.closing = false

theorem InSession.not_refused (hs : InSession s c) : sessionRefused s c = none := by
  simp [sessionRefused, hs.is_open, hs.named, hs.party]

/-- Ready for a slice: no scratch of its own, `n` chunks on a borrowed frond. -/
def sentToSlice (t : State) (c : Cmd) (n : Nat) : State := dispatch (onJob t c (fun y => { y with reserved := true, need := n }))

theorem awaitSlice_of_starts (h : Starts op c s j) : awaitSlice t j n = (sentToSlice t c n, none) := by
  rw [awaitSlice, onJob_cmd_of_starts h, sentToSlice]

section
variable (hs : InSession s c) (hgone : slicesGone (started s c j) = none)
include hs hgone

theorem shareInput_begins (h : Starts 0x0506 c s j) (hreg : param c 4 1 ≤ 15) (hp : inputParty s (param c 4 1) = some (partyIndex s c.fn))
    (hbuf : bufBad (started s c j) c (param c 8 8) (shareBuf s) false = false) (hlen : param c 16 4 = shareBuf s)
    (hdg : paramBytes c 20 32 = (shareDigest s).take 32) (hslot : slotRefusal (started s c j) c 6 (param c 6 2) (streamSlot 1) = none)
    (hfilled : param c 4 1 ∉ s.engines.share.filled)
    (hnone : (started s c j).jobs.any (fun k => k.op == 0x0506 && k.stage != .fetched && !k.isFor c && param k.cmd 4 1 == param c 4 1) = false) :
    Begins (.shareInput c) s (sentToSlice (started s c j) c 1) := by
  refine exec_shareInput.trans (xci_begins h ?_)
  dsimp only
  rw [onJob_engines, hs.not_closing, if_neg Bool.false_ne_true, hnone,
    unlessRefused_of_passed (by simp [hs.not_refused, hgone, hreg, hp, hbuf, hlen, hdg, hslot, hfilled]), awaitSlice_of_starts h]

section
variable (h : Starts 0x0507 c s j) (hc : s.engines.share.computed = false)
  (hnone : (started s c j).jobs.any (fun k => k.op == 0x0507 && k.stage != .fetched && !k.isFor c) = false)
include h hc hnone

/-- R481, R483: inputs that are missing are named. -/
theorem shareCompute_eq : exec (.shareCompute c) s = .next (if missingInputs s ≠ 0
    then post (started s c j) j { status := 0x0502, detail := missingInputs s } else sentToSlice (started s c j) c 0) := by
  refine exec_shareCompute.trans ((xci_starts h).trans ?_)
  simp only [onJob_engines, hs.not_closing, Bool.false_eq_true, if_false, hnone, hc, sessionRefused_onJob, hs.not_refused, hgone, awaitSlice_of_starts h,
    Bool.or_self, when_false, unlessRefused_passed, bodyDone_when, missingInputs_onJob, bne_iff_ne]
  rfl
end

section
variable (h : Starts 0x0508 c s j) (hreg : param c 4 1 ≤ 15) (hp : partyIndex s c.fn ∈ outputParties s (param c 4 1))
  (hbuf : bufBad (started s c j) c (param c 8 8) (shareBuf s) true = false)
  (hslot : slotRefusal (started s c j) c 6 (param c 6 2) (streamSlot 0) = none)
include h hreg hp hbuf hslot

/-- R482, R483, log entry 91: the IV is drawn at dispatch. -/
theorem shareReveal_eq : exec (.shareReveal c) s = .next (if s.engines.share.computed = false
    then post (started s c j) j { status := 0x0502, detail := missingInputs s + 2 ^ 61 }
    else sentToSlice (onJob (started s c j) c (fun y => { y with drawNeed := 12 })) c 1) := by
  have hreg' : (decide (param c 4 1 > 15) || (outputParties s (param c 4 1)).isEmpty) = false := by
    simp [Nat.not_lt.mpr hreg, List.ne_nil_of_mem hp]
  refine exec_shareReveal.trans ((xci_starts h).trans ?_)
  simp only [onJob_engines, hs.not_closing, Bool.false_eq_true, if_false, sessionRefused_onJob, hs.not_refused, outputParties_onJob, hreg', shareBuf_onJob,
    hbuf, partyIndex_onJob, List.contains_iff_mem.mpr hp, hslot, hgone, awaitSlice_of_starts h, Bool.not_true, when_false, unlessRefused_passed,
    bodyDone_when, Bool.not_eq_true']
  rfl
end
end

/-! ### SHARE_CLOSE (R485) -/

/-- A close leaves no session open. -/
theorem endShare_closed : (endShare s 1).engines.share.isOpen = false := by
  cases ho : s.engines.share.isOpen with
  | false => simp [endShare, ho]
  | true => simp [endShare, ho]

section
variable (h : Starts 0x0509 c s j)
include h

theorem shareClose_waits (hs : InSession s c) (hrun : shareRunning (started s c j) = true) :
    exec (.shareClose c) s = .next (onShare (started s c j) (fun x => { x with closing := true })) :=
  exec_shareClose.trans (xci_begins h (by
    rw [sessionRefused_onJob, hs.not_refused, unlessRefused_passed, unlessRefused_nil, if_pos hrun]))

theorem shareClose_closes (hs : InSession s c) (hrun : shareRunning (started s c j) = false) :
    Answers (.shareClose c) s (endShare (started s c j) 1) j {} :=
  exec_shareClose.trans (xci_answers h (by
    rw [sessionRefused_onJob, hs.not_refused, unlessRefused_passed, unlessRefused_nil, hrun, if_neg Bool.false_ne_true]))

/-- A session of this device that has ended. -/
theorem shareClose_ended (hopen : s.engines.share.isOpen = false) (h0 : param c 0 2 ≠ 0) (hk : param c 0 2 ≤ s.engines.share.opened) :
    Answers (.shareClose c) s (started s c j) j { status := 0x0502, detail := 2 ^ 62 + bit s.engines.share.memFault 63 } := by
  have hended : sessionRefused s c = some (sessionEnded s) := by simp [sessionRefused, hopen, h0, Nat.not_lt.mpr hk]
  exact exec_shareClose.trans (xci_answers h (by
    rw [sessionRefused_onJob, hended, unlessRefused_refused]
    rfl))
end

/-! ### The instructions of a share program (Table 11.12, log entry 40) -/

section
variable {x : Share} {w : U64} {v : List U64} {k : Nat}

theorem shareReg_setShareReg (hv : v ≠ []) : shareReg (setShareReg x n v) n = v := by
  simp [shareReg, setShareReg, hv]

variable (hk : k < x.vlen)
include hk

/-- SUM puts the sum in element 0 and clears the others. -/
theorem runIns_sum (hop : insOp w = 5) :
    (shareReg (runIns x w) (insDst w)).getD k 0 = if k = 0 then (shareReg x (insA w)).sum else 0 := by
  have hrun : runIns x w = setShareReg x (insDst w) ((shareReg x (insA w)).foldl (· + ·) 0 :: List.replicate (x.vlen - 1) 0) := by
    simp only [runIns, hop]
  rw [hrun, shareReg_setShareReg (List.cons_ne_nil _ _), ← List.sum_eq_foldl]
  cases k with
  | zero => rfl
  | succ i => simp [show i < x.vlen - 1 by omega]

variable (ha : (shareReg x (insA w)).length = x.vlen)
include ha

/-- An instruction on one vector acts on each element. -/
theorem runIns_map {f : U64 → U64} (hrun : runIns x w = setShareReg x (insDst w) ((shareReg x (insA w)).map f)) :
    (shareReg (runIns x w) (insDst w)).getD k 0 = f ((shareReg x (insA w)).getD k 0) := by
  have hne : (shareReg x (insA w)).map f ≠ [] := List.ne_nil_of_length_pos (by rw [List.length_map]; omega)
  rw [hrun, shareReg_setShareReg hne]
  simp [ha, hk]

/-- An instruction on two vectors acts on each pair of elements. -/
theorem runIns_zip {f : U64 → U64 → U64} (hb : (shareReg x (insB w)).length = x.vlen)
    (hrun : runIns x w = setShareReg x (insDst w) (((shareReg x (insA w)).zip (shareReg x (insB w))).map (fun e => f e.1 e.2))) :
    (shareReg (runIns x w) (insDst w)).getD k 0 = f ((shareReg x (insA w)).getD k 0) ((shareReg x (insB w)).getD k 0) := by
  have hne : ((shareReg x (insA w)).zip (shareReg x (insB w))).map (fun e => f e.1 e.2) ≠ [] :=
    List.ne_nil_of_length_pos (by rw [List.length_map, List.length_zip]; omega)
  rw [hrun, shareReg_setShareReg hne]
  simp [ha, hb, hk]
end

/-! ### The statement -/

/-- Settles O41: each command by its lemmas above; an instruction by the vectors it acts on. -/
theorem shareCommands : Obligations.ShareCommands := by
  unfold Obligations.ShareCommands
  refine ⟨fun s c j => ⟨?opening, fun hopen hnamed hparty hclosing hgone => ?commands, fun hopen h0 hk h => shareClose_ended h hopen h0 hk⟩,
    fun x w k ha hb hk => ⟨fun hop => ?add, fun hop => ?sub, fun hop => ?scale, fun hop => ?mul, runIns_sum hk, fun hop => ?addConst⟩⟩
  case opening =>
    intro h hge hle hparties hv hv' hbuf hlen hlen' hwords hissuer hnone hgone
    have ho : ShareOpening c (started s c j) := ⟨hge, hle, hparties, hv, hv', hbuf, hlen, hlen', hwords, hissuer, hnone, hgone⟩
    refine ⟨fun o => shareOpen_unsound h ho, fun hp seed u hg => ?_⟩
    obtain ⟨v, r, hanswers, hstatus, hres, hv⟩ := shareOpen_opens h ho hp hg
    exact ⟨v, r, hanswers, hstatus, hres, by simp [hv, newSession]⟩
  case commands =>
    have hs : InSession s c := ⟨hopen, hnamed, hparty, hclosing⟩
    refine ⟨shareInput_begins hs hgone, fun h hc hnone => ?compute, fun h hreg hp hbuf hslot => ?reveal, fun h => ?close⟩
    case compute =>
      rw [Answers, Begins, shareCompute_eq hs hgone h hc hnone]
      exact ⟨fun hm => by rw [if_pos hm], fun hm => by rw [if_neg (not_not_intro hm)]; rfl⟩
    case reveal =>
      rw [Answers, Begins, shareReveal_eq hs hgone h hreg hp hbuf hslot]
      exact ⟨fun hc => by rw [if_pos hc], fun hc => by rw [hc]; rfl⟩
    case close =>
      exact ⟨fun hrun => ⟨_, shareClose_waits h hs hrun, rfl⟩, fun hrun => ⟨_, shareClose_closes h hs hrun, endShare_closed⟩⟩
  case add => exact runIns_zip hk ha hb (f := (· + ·)) (by simp only [runIns, hop])
  case sub => exact runIns_zip hk ha hb (f := (· - ·)) (by simp only [runIns, hop])
  case scale => exact runIns_map hk ha (f := (· * insSx w)) (by simp only [runIns, hop])
  case mul => exact runIns_zip hk ha hb (f := (· * ·)) (by simp only [runIns, hop])
  case addConst => exact runIns_map hk ha (f := (· + insSx w)) (by simp only [runIns, hop])

end Sys2Proof.Proofs
end

section
/-! SUPPORT. The meaning of each Pinna row, by the form it runs in (Tables 19.3 to 19.9): the statements about the rows rest on what the
shared forms do. -/

namespace Sys2Proof.Proofs
open Sys2Proof Sys2Proof.Machine Sys2Proof.Claims

variable {s : State} {u : Fin 8} {gd : Guard} {rd ra rb : GReg} {pd pa pb : PReg} {sh pos wm1 : BitVec 5} {imm : BitVec 12}

theorem exec_add : exec (.add u gd rd ra rb) s = regOp u gd false 1 s (fun p => gSet p rd (gGet p ra + gGet p rb)) := rfl
theorem exec_sub : exec (.sub u gd rd ra rb) s = regOp u gd false 1 s (fun p => gSet p rd (gGet p ra - gGet p rb)) := rfl
theorem exec_andR : exec (.andR u gd rd ra rb) s = regOp u gd false 1 s (fun p => gSet p rd (gGet p ra &&& gGet p rb)) := rfl
theorem exec_orR : exec (.orR u gd rd ra rb) s = regOp u gd false 1 s (fun p => gSet p rd (gGet p ra ||| gGet p rb)) := rfl
theorem exec_xorR : exec (.xorR u gd rd ra rb) s = regOp u gd false 1 s (fun p => gSet p rd (gGet p ra ^^^ gGet p rb)) := rfl
theorem exec_andn : exec (.andn u gd rd ra rb) s = regOp u gd false 1 s (fun p => gSet p rd (gGet p ra &&& ~~~(gGet p rb))) := rfl
theorem exec_sll : exec (.sll u gd rd ra rb) s = regOp u gd false 1 s (fun p => gSet p rd (gGet p ra <<< ((gGet p rb).toNat % 32))) := rfl
theorem exec_srl : exec (.srl u gd rd ra rb) s = regOp u gd false 1 s (fun p => gSet p rd (gGet p ra >>> ((gGet p rb).toNat % 32))) := rfl
theorem exec_sra : exec (.sra u gd rd ra rb) s =
    regOp u gd false 1 s (fun p => gSet p rd ((gGet p ra).sshiftRight ((gGet p rb).toNat % 32))) := rfl
theorem exec_ror : exec (.ror u gd rd ra rb) s =
    regOp u gd false 1 s (fun p => gSet p rd ((gGet p ra).rotateRight ((gGet p rb).toNat % 32))) := rfl
theorem exec_slli : exec (.slli u gd rd ra sh) s = regOp u gd false 1 s (fun p => gSet p rd (gGet p ra <<< sh.toNat)) := rfl
theorem exec_srli : exec (.srli u gd rd ra sh) s = regOp u gd false 1 s (fun p => gSet p rd (gGet p ra >>> sh.toNat)) := rfl
theorem exec_srai : exec (.srai u gd rd ra sh) s = regOp u gd false 1 s (fun p => gSet p rd ((gGet p ra).sshiftRight sh.toNat)) := rfl
theorem exec_rori : exec (.rori u gd rd ra sh) s = regOp u gd false 1 s (fun p => gSet p rd ((gGet p ra).rotateRight sh.toNat)) := rfl
theorem exec_minS : exec (.minS u gd rd ra rb) s =
    regOp u gd false 1 s (fun p => gSet p rd (if (gGet p ra).toInt < (gGet p rb).toInt then (gGet p ra) else (gGet p rb))) := rfl
theorem exec_maxS : exec (.maxS u gd rd ra rb) s =
    regOp u gd false 1 s (fun p => gSet p rd (if (gGet p ra).toInt < (gGet p rb).toInt then (gGet p rb) else (gGet p ra))) := rfl
theorem exec_minu : exec (.minu u gd rd ra rb) s =
    regOp u gd false 1 s (fun p => gSet p rd (if (gGet p ra).toNat < (gGet p rb).toNat then (gGet p ra) else (gGet p rb))) := rfl
theorem exec_maxu : exec (.maxu u gd rd ra rb) s =
    regOp u gd false 1 s (fun p => gSet p rd (if (gGet p ra).toNat < (gGet p rb).toNat then (gGet p rb) else (gGet p ra))) := rfl
theorem exec_clz : exec (.clz u gd rd ra) s = regOp u gd false 1 s (fun p => gSet p rd (BitVec.ofNat 32 (leadingZeros (gGet p ra)))) := rfl
theorem exec_popc : exec (.popc u gd rd ra) s = regOp u gd false 1 s (fun p => gSet p rd (BitVec.ofNat 32 (popCount (gGet p ra)))) := rfl
theorem exec_perm : exec (.perm u gd rd ra rb) s =
    regOp u gd (ra.getLsbD 0) 1 s (fun p => gSet p rd (permute (gGet p ra) (gGet p (ra + 1)) (gGet p rb))) := rfl
theorem exec_mul : exec (.mul u gd rd ra rb) s = regOp u gd false 3 s (fun p => gSet p rd ((gGet p ra) * (gGet p rb))) := rfl
theorem exec_mulh : exec (.mulh u gd rd ra rb) s =
    regOp u gd false 3 s (fun p => gSet p rd (mulHigh (gGet p ra).toInt (gGet p rb).toInt)) := rfl
theorem exec_mulhu : exec (.mulhu u gd rd ra rb) s =
    regOp u gd false 3 s (fun p => gSet p rd (mulHigh (gGet p ra).toNat (gGet p rb).toNat)) := rfl
theorem exec_mulhsu : exec (.mulhsu u gd rd ra rb) s =
    regOp u gd false 3 s (fun p => gSet p rd (mulHigh (gGet p ra).toInt (gGet p rb).toNat)) := rfl
theorem exec_divS : exec (.divS u gd rd ra rb) s = regOp u gd false 34 s (fun p => gSet p rd (divSigned (gGet p ra) (gGet p rb))) := rfl
theorem exec_divu : exec (.divu u gd rd ra rb) s = regOp u gd false 34 s (fun p => gSet p rd (divUnsigned (gGet p ra) (gGet p rb))) := rfl
theorem exec_remS : exec (.remS u gd rd ra rb) s = regOp u gd false 34 s (fun p => gSet p rd (remSigned (gGet p ra) (gGet p rb))) := rfl
theorem exec_remu : exec (.remu u gd rd ra rb) s = regOp u gd false 34 s (fun p => gSet p rd (remUnsigned (gGet p ra) (gGet p rb))) := rfl
theorem exec_addi : exec (.addi u gd rd ra imm) s = regOp u gd false 1 s (fun p => gSet p rd (gGet p ra + sx imm)) := rfl
theorem exec_andi : exec (.andi u gd rd ra imm) s = regOp u gd false 1 s (fun p => gSet p rd (gGet p ra &&& zx imm)) := rfl
theorem exec_ori : exec (.ori u gd rd ra imm) s = regOp u gd false 1 s (fun p => gSet p rd (gGet p ra ||| zx imm)) := rfl
theorem exec_xori : exec (.xori u gd rd ra imm) s = regOp u gd false 1 s (fun p => gSet p rd (gGet p ra ^^^ zx imm)) := rfl
theorem exec_movi {imm : BitVec 16} : exec (.movi u gd rd imm) s = regOp u gd false 1 s (fun p => gSet p rd (zx imm)) := rfl
theorem exec_movhi {imm : BitVec 16} : exec (.movhi u gd rd imm) s =
    regOp u gd false 1 s (fun p => gSet p rd (BitVec.ofNat 32 (imm.toNat * 2 ^ 16 + (gGet p rd).toNat % 2 ^ 16))) := rfl
theorem exec_bfx : exec (.bfx u gd rd ra pos wm1) s =
    regOp u gd (decide (pos.toNat + wm1.toNat + 1 > 32)) 1 s (fun p => gSet p rd (fieldGet (gGet p ra) pos.toNat (wm1.toNat + 1))) := rfl
theorem exec_bfxs : exec (.bfxs u gd rd ra pos wm1) s =
    regOp u gd (decide (pos.toNat + wm1.toNat + 1 > 32)) 1 s (fun p => gSet p rd (fieldGetS (gGet p ra) pos.toNat (wm1.toNat + 1))) := rfl
theorem exec_bfi : exec (.bfi u gd rd ra pos wm1) s =
    regOp u gd (decide (pos.toNat + wm1.toNat + 1 > 32)) 1 s (fun p => gSet p rd (fieldPut (gGet p rd) (gGet p ra) pos.toNat (wm1.toNat + 1))) := rfl
theorem exec_cmp {cond : BitVec 3} : exec (.cmp u gd pd ra rb cond) s =
    regOp u gd false 1 s (fun p => pSet p pd (compare cond (gGet p ra) (gGet p rb))) := rfl
theorem exec_cmpi {cond : BitVec 3} {imm : BitVec 9} : exec (.cmpi u gd pd ra cond imm) s =
    regOp u gd false 1 s (fun p => pSet p pd (compare cond (gGet p ra) (sx imm))) := rfl
theorem exec_pand : exec (.pand u gd pd pa pb) s = regOp u gd false 1 s (fun p => pSet p pd (pGet p pa && pGet p pb)) := rfl
theorem exec_por : exec (.por u gd pd pa pb) s = regOp u gd false 1 s (fun p => pSet p pd (pGet p pa || pGet p pb)) := rfl
theorem exec_pxor : exec (.pxor u gd pd pa pb) s = regOp u gd false 1 s (fun p => pSet p pd (pGet p pa != pGet p pb)) := rfl
theorem exec_pandn : exec (.pandn u gd pd pa pb) s = regOp u gd false 1 s (fun p => pSet p pd (pGet p pa && !pGet p pb)) := rfl
theorem exec_pnot : exec (.pnot u gd pd pa) s = regOp u gd false 1 s (fun p => pSet p pd (!pGet p pa)) := rfl
theorem exec_prd : exec (.prd u gd rd) s = regOp u gd false 1 s (fun p => gSet p rd (BitVec.ofNat 32 (p.p.toNat / 2 * 2 + 1))) := rfl
theorem exec_pwr : exec (.pwr u gd ra) s =
    regOp u gd false 1 s (fun x => { x with p := BitVec.ofNat 8 ((gGet x ra).toNat % 256 / 2 * 2) }) := rfl
theorem exec_ldw : exec (.ldw u gd rd ra imm) s = loadOp u gd rd ra imm 4 (fun v => BitVec.ofNat 32 v) s := rfl
theorem exec_ldh : exec (.ldh u gd rd ra imm) s = loadOp u gd rd ra imm 2 (fun v => BitVec.ofNat 32 v) s := rfl
theorem exec_ldhs : exec (.ldhs u gd rd ra imm) s = loadOp u gd rd ra imm 2 (fun v => sx (BitVec.ofNat 16 v)) s := rfl
theorem exec_ldb : exec (.ldb u gd rd ra imm) s = loadOp u gd rd ra imm 1 (fun v => BitVec.ofNat 32 v) s := rfl
theorem exec_ldbs : exec (.ldbs u gd rd ra imm) s = loadOp u gd rd ra imm 1 (fun v => sx (BitVec.ofNat 8 v)) s := rfl
theorem exec_stw : exec (.stw u gd rd ra imm) s = storeOp u gd rd ra imm 4 s := rfl
theorem exec_sth : exec (.sth u gd rd ra imm) s = storeOp u gd rd ra imm 2 s := rfl
theorem exec_stb : exec (.stb u gd rd ra imm) s = storeOp u gd rd ra imm 1 s := rfl
theorem exec_br {imm : BitVec 22} : exec (.br u gd imm) s = branchOp u gd s none (fun p => p.pc + (sx imm) * 4) := rfl
theorem exec_call {imm : BitVec 22} : exec (.call u gd imm) s = branchOp u gd s (some 31) (fun p => p.pc + (sx imm) * 4) := rfl
theorem exec_jr : exec (.jr u gd ra) s = branchOp u gd s none (fun p => gGet p ra) := rfl
theorem exec_jalr : exec (.jalr u gd rd ra) s = branchOp u gd s (some rd) (fun p => gGet p ra) := rfl
theorem exec_sleep : exec (.sleep u gd) s = execSleep u gd s := rfl
theorem exec_sysExit : exec (.sysExit u gd) s = execSysExit u gd s := rfl
theorem exec_sysAbort : exec (.sysAbort u gd) s = execSysAbort u gd s := rfl
theorem exec_sysCommand : exec (.sysCommand u gd) s = execSysCommand u gd s := rfl
theorem exec_copyIn : exec (.copyIn u gd) s = execCopyIn u gd s := rfl
theorem exec_sysRaise : exec (.sysRaise u gd) s = execSysRaise u gd s := rfl
theorem exec_sysInfo : exec (.sysInfo u gd) s = execSysInfo u gd s := rfl
theorem exec_invalidEncoding {w : U32} : exec (.invalidEncoding u w) s = execInvalidEncoding u w s := rfl
theorem exec_sysInvalid {k : BitVec 16} : exec (.sysInvalid u gd k) s = execSysInvalid u gd k s := rfl

end Sys2Proof.Proofs
end

section
/-! SUPPORT. The Pinna register, immediate, bit-field, permute, compare and predicate forms (Tables 19.3 to 19.6, R805, R807 to R810), and
O13 to O18. -/

namespace Sys2Proof.Proofs
open Sys2Proof Sys2Proof.Machine Sys2Proof.Claims

variable {s : State} {u : Fin 8} {i : Inv} {gd : Guard} {c : Instr} {n : Nat} {b : Bool}

/-! ### The frame of a register form -/

section
variable (hr : Ready s u i) (hg : guardHolds (pinnaOf s u) gd = true)
include hr

/-- A register form with a true guard and a valid encoding answers its effect on the unit. -/
theorem regOp_runs {f : Pinna → Pinna} (hg : guardHolds (pinnaOf s u) gd = true) (hb : b = false) :
    regOp u gd b n s f = .next (onPinna s u (fun _ => advance n (f (pinnaOf s u)))) := by
  obtain ⟨he, hi, hc, ha⟩ := hr
  rw [hb, regOp, issue_runs he hi hc ha hg]

/-- A register form with an invalid encoding raises ILLEGAL. -/
theorem regOp_illegal {f : Pinna → Pinna} (hrow : exec c s = regOp u gd b n s f) (hb : b = true) :
    Traps c s u i (pinnaOf s u).pc 1 0 := by
  obtain ⟨he, hi, hc, ha⟩ := hr
  rw [Traps, hrow, hb, regOp, issue_illegal he hi hc ha]

include hg

/-- A row that is a register form writing `rd` alone. -/
theorem writesG_of_regOp {rd : GReg} {f : Pinna → U32} {v : U32} (hrow : exec c s = regOp u gd b n s (fun p => gSet p rd (f p)))
    (hb : b = false) (hv : f (pinnaOf s u) = v) : WritesG c s u rd v n := by
  refine ⟨_, hrow.trans (regOp_runs hr hg hb), onlyUnit_onPinna, ?_, gGet_zero, fun hrd => ?_, fun r hne => ?_⟩ <;>
    rw [pinnaOf_onPinna_same]
  · rw [gSet_frame]
    rfl
  · exact (gGet_gSet_same hrd).trans hv
  · exact gGet_gSet_ne hne

/-- A row that is a register form writing `pd` alone. -/
theorem writesP_of_regOp {pd : PReg} {f : Pinna → Bool} {v : Bool} (hrow : exec c s = regOp u gd false 1 s (fun p => pSet p pd (f p)))
    (hv : f (pinnaOf s u) = v) : WritesP c s u pd v := by
  refine ⟨_, hrow.trans (regOp_runs hr hg rfl), onlyUnit_onPinna, ?_, pGet_zero, fun hpd => ?_, fun r hne => ?_⟩ <;>
    rw [pinnaOf_onPinna_same]
  · rw [pSet_frame]
    rfl
  · exact (pGet_pSet_same hpd).trans hv
  · exact pGet_pSet_ne hne
end

/-- An instruction that writes `rd` leaves the invocation on its unit. -/
theorem inv_of_writesG {rd : GReg} {v : U32} (hr : Ready s u i) (h : WritesG c s u rd v n) :
    ∃ t, exec c s = .next t ∧ (pinnaOf t u).inv = some i := by
  obtain ⟨-, hi, -, -⟩ := hr
  obtain ⟨t, hexec, -, hframe, -⟩ := h
  refine ⟨t, hexec, ?_⟩
  have hinv : (pinnaOf s u).inv = some i := by
    simp only [issues] at hi
    split at hi
    next j hj =>
      split at hi
      · cases hi
      · exact hj.trans hi
    · cases hi
  rw [hframe, hinv]

/-! ### O13 and O14: the forms of two sources -/

/-- The low word of a signed product is the product modulo 2^32. -/
theorem mul_eq_ofInt (x y : U32) : x * y = BitVec.ofInt 32 (x.toInt * y.toInt) := by
  rw [BitVec.ofInt_mul, BitVec.ofInt_toInt, BitVec.ofInt_toInt]

theorem mulHigh_unsigned (x y : U32) : mulHigh x.toNat y.toNat = BitVec.ofNat 32 (x.toNat * y.toNat / 2 ^ 32) := by
  rw [mulHigh, ← BitVec.ofInt_natCast]
  norm_cast

theorem divUnsigned_eq (x y : U32) : divUnsigned x y = if y = 0 then 0xFFFFFFFF else BitVec.ofNat 32 (x.toNat / y.toNat) := by
  rw [divUnsigned, ← BitVec.toNat_udiv, BitVec.ofNat_toNat, BitVec.setWidth_eq]

theorem remUnsigned_eq (x y : U32) : remUnsigned x y = if y = 0 then x else BitVec.ofNat 32 (x.toNat % y.toNat) := by
  rw [remUnsigned, ← BitVec.toNat_umod, BitVec.ofNat_toNat, BitVec.setWidth_eq]

/-- Settles O13: every row is a register form that writes `rd`. -/
theorem pinnaRegisterForms : Obligations.PinnaRegisterForms := by
  unfold Obligations.PinnaRegisterForms
  refine ⟨fun s u i gd rd ra rb hr hg => ?single, fun s u i gd rd ra rb hr hg => ?products⟩
  case single =>
    exact ⟨writesG_of_regOp hr hg exec_add rfl rfl,
      writesG_of_regOp hr hg exec_sub rfl rfl,
      writesG_of_regOp hr hg exec_andR rfl rfl,
      writesG_of_regOp hr hg exec_orR rfl rfl,
      writesG_of_regOp hr hg exec_xorR rfl rfl,
      writesG_of_regOp hr hg exec_andn rfl rfl,
      writesG_of_regOp hr hg exec_sll rfl rfl,
      writesG_of_regOp hr hg exec_srl rfl rfl,
      writesG_of_regOp hr hg exec_sra rfl rfl,
      writesG_of_regOp hr hg exec_ror rfl rfl,
      writesG_of_regOp hr hg exec_minS rfl rfl,
      writesG_of_regOp hr hg exec_maxS rfl rfl,
      writesG_of_regOp hr hg exec_minu rfl rfl,
      writesG_of_regOp hr hg exec_maxu rfl rfl⟩
  case products =>
    exact ⟨writesG_of_regOp hr hg exec_mul rfl (mul_eq_ofInt _ _), writesG_of_regOp hr hg exec_mulh rfl rfl,
      writesG_of_regOp hr hg exec_mulhu rfl (mulHigh_unsigned _ _), writesG_of_regOp hr hg exec_mulhsu rfl rfl,
      writesG_of_regOp hr hg exec_divS rfl rfl, writesG_of_regOp hr hg exec_divu rfl (divUnsigned_eq _ _),
      writesG_of_regOp hr hg exec_remS rfl rfl, writesG_of_regOp hr hg exec_remu rfl (remUnsigned_eq _ _)⟩

/-- Settles O14: the values of the quotients at the two corners; every row writes a register, so it raises nothing. -/
theorem divisionByZeroRaisesNothing : Obligations.DivisionByZeroRaisesNothing := by
  unfold Obligations.DivisionByZeroRaisesNothing
  intro s u i gd rd ra rb imm hr hg
  refine ⟨fun hy => ?zero, fun hx hy => ?overflow, fun c hc => ?goesOn⟩
  case zero =>
    exact ⟨writesG_of_regOp hr hg exec_divS rfl (if_pos hy), writesG_of_regOp hr hg exec_divu rfl (if_pos hy),
      writesG_of_regOp hr hg exec_remS rfl (if_pos hy), writesG_of_regOp hr hg exec_remu rfl (if_pos hy)⟩
  case overflow =>
    have hdiv : divSigned (gGet (pinnaOf s u) ra) (gGet (pinnaOf s u) rb) = 0x80000000 := by rw [hx, hy]; decide
    have hrem : remSigned (gGet (pinnaOf s u) ra) (gGet (pinnaOf s u) rb) = 0 := by rw [hx, hy]; decide
    exact ⟨writesG_of_regOp hr hg exec_divS rfl hdiv, writesG_of_regOp hr hg exec_remS rfl hrem⟩
  case goesOn =>
    simp only [List.mem_cons, List.not_mem_nil, or_false] at hc
    rcases hc with rfl | rfl | rfl | rfl | rfl | rfl | rfl | rfl | rfl | rfl | rfl
    · exact inv_of_writesG hr (writesG_of_regOp hr hg exec_divS rfl rfl)
    · exact inv_of_writesG hr (writesG_of_regOp hr hg exec_divu rfl rfl)
    · exact inv_of_writesG hr (writesG_of_regOp hr hg exec_remS rfl rfl)
    · exact inv_of_writesG hr (writesG_of_regOp hr hg exec_remu rfl rfl)
    · exact inv_of_writesG hr (writesG_of_regOp hr hg exec_mul rfl rfl)
    · exact inv_of_writesG hr (writesG_of_regOp hr hg exec_mulh rfl rfl)
    · exact inv_of_writesG hr (writesG_of_regOp hr hg exec_mulhu rfl rfl)
    · exact inv_of_writesG hr (writesG_of_regOp hr hg exec_mulhsu rfl rfl)
    · exact inv_of_writesG hr (writesG_of_regOp hr hg exec_add rfl rfl)
    · exact inv_of_writesG hr (writesG_of_regOp hr hg exec_sub rfl rfl)
    · exact inv_of_writesG hr (writesG_of_regOp hr hg exec_addi rfl rfl)

/-! ### O15 to O17: immediates, bit fields, permute -/

/-- The encoding of a bit field is valid where the field stays below bit 31 (R807). -/
theorem field_valid {pos wm1 : BitVec 5} (h : pos.toNat + wm1.toNat < 32) : decide (pos.toNat + wm1.toNat + 1 > 32) = false :=
  decide_eq_false (by omega)

theorem field_invalid {pos wm1 : BitVec 5} (h : 32 ≤ pos.toNat + wm1.toNat) : decide (pos.toNat + wm1.toNat + 1 > 32) = true :=
  decide_eq_true (by omega)

/-- The three bit-field rows with a field inside the word. -/
theorem bitFields_write {rd ra : GReg} {pos wm1 : BitVec 5} (hr : Ready s u i) (hg : guardHolds (pinnaOf s u) gd = true)
    (h : pos.toNat + wm1.toNat < 32) : let p := pinnaOf s u
    WritesG (.bfx u gd rd ra pos wm1) s u rd (fieldGet (gGet p ra) pos.toNat (wm1.toNat + 1)) 1 ∧
    WritesG (.bfxs u gd rd ra pos wm1) s u rd (fieldGetS (gGet p ra) pos.toNat (wm1.toNat + 1)) 1 ∧
    WritesG (.bfi u gd rd ra pos wm1) s u rd (fieldPut (gGet p rd) (gGet p ra) pos.toNat (wm1.toNat + 1)) 1 :=
  ⟨writesG_of_regOp hr hg exec_bfx (field_valid h) rfl, writesG_of_regOp hr hg exec_bfxs (field_valid h) rfl,
    writesG_of_regOp hr hg exec_bfi (field_valid h) rfl⟩

/-- PERM of an even register pair. -/
theorem perm_writes {rd ra rb : GReg} (hr : Ready s u i) (hg : guardHolds (pinnaOf s u) gd = true) (h : ra.getLsbD 0 = false) :
    let p := pinnaOf s u
    WritesG (.perm u gd rd ra rb) s u rd (permute (gGet p ra) (gGet p (ra + 1)) (gGet p rb)) 1 :=
  writesG_of_regOp hr hg exec_perm h rfl

/-- Settles O15: every row is a register form that writes `rd`. -/
theorem pinnaImmediateForms : Obligations.PinnaImmediateForms := by
  unfold Obligations.PinnaImmediateForms
  intro s u i gd rd ra rb imm im sh pos wm1 hr hg
  exact ⟨writesG_of_regOp hr hg exec_addi rfl rfl,
    writesG_of_regOp hr hg exec_andi rfl rfl,
    writesG_of_regOp hr hg exec_ori rfl rfl,
    writesG_of_regOp hr hg exec_xori rfl rfl,
    writesG_of_regOp hr hg exec_movi rfl rfl,
    writesG_of_regOp hr hg exec_movhi rfl rfl,
    writesG_of_regOp hr hg exec_slli rfl rfl,
    writesG_of_regOp hr hg exec_srli rfl rfl,
    writesG_of_regOp hr hg exec_srai rfl rfl,
    writesG_of_regOp hr hg exec_rori rfl rfl,
    writesG_of_regOp hr hg exec_clz rfl rfl,
    writesG_of_regOp hr hg exec_popc rfl rfl,
    perm_writes hr hg, bitFields_write hr hg⟩

/-! ### O16: the bit fields bit by bit -/

theorem testBit_bitsOf (x lo n k : Nat) : (bitsOf x lo n).testBit k = (decide (k < n) && x.testBit (lo + k)) := by
  rw [bitsOf, Nat.testBit_mod_two_pow, Nat.testBit_div_two_pow, Nat.add_comm]

theorem getLsbD_fieldGet {x : U32} {pos w k : Nat} (hk : k < 32) :
    (fieldGet x pos w).getLsbD k = (decide (k < w) && x.getLsbD (pos + k)) := by
  rw [fieldGet, BitVec.getLsbD_ofNat, testBit_bitsOf, decide_eq_true hk, Bool.true_and, BitVec.getLsbD]

/-- The signed field is the sign extension of its `w` bits. -/
theorem fieldGetS_eq_signExtend {x : U32} {pos w : Nat} : fieldGetS x pos w = (BitVec.ofNat w (bitsOf x.toNat pos w)).signExtend 32 := by
  have hlt : bitsOf x.toNat pos w < 2 ^ w := Nat.mod_lt _ (Nat.two_pow_pos w)
  rw [fieldGetS, BitVec.signExtend, BitVec.toInt_eq_msb_cond, BitVec.msb_eq_getLsbD_last, BitVec.getLsbD, BitVec.toNat_ofNat,
    Nat.mod_eq_of_lt hlt, ← bitOf_eq_testBit]
  norm_cast

theorem getLsbD_fieldGetS {x : U32} {pos w k : Nat} (hw : 0 < w) (hk : k < 32) :
    (fieldGetS x pos w).getLsbD k = if k < w then x.getLsbD (pos + k) else x.getLsbD (pos + w - 1) := by
  have hbit : ∀ j < w, (BitVec.ofNat w (bitsOf x.toNat pos w)).getLsbD j = x.getLsbD (pos + j) := by
    intro j hj
    rw [BitVec.getLsbD_ofNat, testBit_bitsOf, decide_eq_true hj, Bool.true_and, Bool.true_and, BitVec.getLsbD]
  rw [fieldGetS_eq_signExtend, BitVec.getLsbD_signExtend, decide_eq_true hk, Bool.true_and, BitVec.msb_eq_getLsbD_last,
    hbit (w - 1) (by omega), show pos + (w - 1) = pos + w - 1 by omega]
  split
  next h => rw [hbit k h]
  next => rfl

/-- An insertion keeps what lies above and below the field. -/
theorem insert_eq (d v pos w : Nat) : d - bitsOf d pos w * 2 ^ pos + bitsOf v 0 w * 2 ^ pos =
    2 ^ (pos + w) * (d / 2 ^ (pos + w)) + (2 ^ pos * bitsOf v 0 w + d % 2 ^ pos) := by
  have hlow := Nat.div_add_mod d (2 ^ pos)
  have hhigh := Nat.div_add_mod (d / 2 ^ pos) (2 ^ w)
  have hd : d = 2 ^ (pos + w) * (d / 2 ^ (pos + w)) + bitsOf d pos w * 2 ^ pos + d % 2 ^ pos := by
    rw [Nat.div_div_eq_div_mul, ← pow_add] at hhigh
    rw [bitsOf]
    calc d = 2 ^ pos * (2 ^ w * (d / 2 ^ (pos + w)) + d / 2 ^ pos % 2 ^ w) + d % 2 ^ pos := by rw [hhigh, hlow]
      _ = _ := by ring
  have hcomm : bitsOf v 0 w * 2 ^ pos = 2 ^ pos * bitsOf v 0 w := Nat.mul_comm _ _
  omega

theorem getLsbD_fieldPut {x d : U32} {pos w k : Nat} (hk : k < 32) :
    (fieldPut d x pos w).getLsbD k = if pos ≤ k ∧ k < pos + w then x.getLsbD (k - pos) else d.getLsbD k := by
  have hinner : 2 ^ pos * bitsOf x.toNat 0 w + d.toNat % 2 ^ pos < 2 ^ (pos + w) := by
    have hv : bitsOf x.toNat 0 w < 2 ^ w := Nat.mod_lt _ (Nat.two_pow_pos w)
    have hd : d.toNat % 2 ^ pos < 2 ^ pos := Nat.mod_lt _ (Nat.two_pow_pos pos)
    calc _ < 2 ^ pos * bitsOf x.toNat 0 w + 2 ^ pos := by omega
      _ = 2 ^ pos * (bitsOf x.toNat 0 w + 1) := by ring
      _ ≤ 2 ^ pos * 2 ^ w := Nat.mul_le_mul_left _ hv
      _ = _ := (pow_add 2 pos w).symm
  rw [fieldPut, BitVec.getLsbD_ofNat, decide_eq_true hk, Bool.true_and, insert_eq, Nat.testBit_two_pow_mul_add _ hinner,
    Nat.testBit_two_pow_mul_add _ (Nat.mod_lt _ (Nat.two_pow_pos pos)), testBit_bitsOf, Nat.testBit_mod_two_pow, Nat.testBit_div_two_pow]
  rcases Nat.lt_or_ge k pos with hlow | hlow
  · simp [hlow, show k < pos + w by omega, show ¬ pos ≤ k by omega, BitVec.getLsbD]
  rcases Nat.lt_or_ge k (pos + w) with hin | hin
  · simp [hlow, hin, show ¬ k < pos by omega, show k - pos < w by omega, BitVec.getLsbD]
  · simp [show ¬ k < pos + w by omega, show k - (pos + w) + (pos + w) = k by omega, BitVec.getLsbD]

/-- Settles O16: the bits of each form's value, and its encoding by where the field ends. -/
theorem bitFieldsBitByBit : Obligations.BitFieldsBitByBit := by
  unfold Obligations.BitFieldsBitByBit
  refine ⟨fun x d pos w k hw _ hk => ⟨getLsbD_fieldGet hk, getLsbD_fieldGetS hw hk, getLsbD_fieldPut hk⟩,
    fun s u i gd rd ra pos wm1 hr => ⟨fun h c hc => ?illegal, fun h hg => bitFields_write hr hg h⟩⟩
  simp only [List.mem_cons, List.not_mem_nil, or_false] at hc
  rcases hc with rfl | rfl | rfl
  · exact regOp_illegal hr exec_bfx (field_invalid h)
  · exact regOp_illegal hr exec_bfxs (field_invalid h)
  · exact regOp_illegal hr exec_bfi (field_invalid h)

/-! ### O17: the permute byte by byte -/

theorem permByte_eq (lo hi sel : U32) (k : Nat) : permByte lo hi sel k =
    if 8 ≤ sel.toNat / 16 ^ k % 16 then 0 else (lo.toNat + hi.toNat * 2 ^ 32) / 256 ^ (sel.toNat / 16 ^ k % 16) % 256 := by
  simp only [permByte, bitsOf, pow_mul, ge_iff_le]
  rfl

theorem permByte_lt (lo hi sel : U32) (k : Nat) : permByte lo hi sel k < 256 := by
  rw [permByte_eq]
  split
  · decide
  · exact Nat.mod_lt _ (by decide)

theorem permute_byte {lo hi sel : U32} {k : Nat} (hk : k < 4) : (permute lo hi sel).toNat / 256 ^ k % 256 = permByte lo hi sel k := by
  have h0 := permByte_lt lo hi sel 0
  have h1 := permByte_lt lo hi sel 1
  have h2 := permByte_lt lo hi sel 2
  have h3 := permByte_lt lo hi sel 3
  have hsum : permByte lo hi sel 0 + permByte lo hi sel 1 * 2 ^ 8 + permByte lo hi sel 2 * 2 ^ 16 + permByte lo hi sel 3 * 2 ^ 24 < 2 ^ 32 := by
    omega
  rw [permute, BitVec.toNat_ofNat, Nat.mod_eq_of_lt hsum]
  interval_cases k <;> norm_num <;> omega

theorem getLsbD_zero_of_mod {ra : GReg} {b : Bool} (h : ra.toNat % 2 = b.toNat) : ra.getLsbD 0 = b := by
  rw [BitVec.getLsbD, Nat.testBit_zero, h]
  cases b <;> rfl

/-- Settles O17: the bytes of the value, and the encoding by the parity of RA. -/
theorem permuteByteByByte : Obligations.PermuteByteByByte := by
  unfold Obligations.PermuteByteByByte
  exact ⟨fun lo hi sel k hk => (permute_byte hk).trans (permByte_eq lo hi sel k),
    fun s u i gd rd ra rb hr => ⟨fun h hg => perm_writes hr hg (getLsbD_zero_of_mod h),
      fun h => regOp_illegal hr exec_perm (getLsbD_zero_of_mod h)⟩⟩

/-! ### O18: compares and predicates -/

theorem compare_eq (x y : U32) :
    compare 0 x y = decide (x = y) ∧ compare 1 x y = decide (x ≠ y) ∧ compare 2 x y = decide (x.toInt < y.toInt) ∧
    compare 3 x y = decide (y.toInt ≤ x.toInt) ∧ compare 4 x y = decide (x.toNat < y.toNat) ∧
    compare 5 x y = decide (y.toNat ≤ x.toNat) ∧ compare 6 x y = decide (x &&& y = 0) ∧ compare 7 x y = decide (x &&& y ≠ 0) := by
  have hsigned : (!decide (x.toInt < y.toInt)) = decide (y.toInt ≤ x.toInt) := by rw [← decide_not, decide_eq_decide, not_lt]
  have hunsigned : (!decide (x.toNat < y.toNat)) = decide (y.toNat ≤ x.toNat) := by rw [← decide_not, decide_eq_decide, not_lt]
  have hne : ∀ a b : U32, (a != b) = decide (a ≠ b) := fun a b => by rw [bne, beq_eq_decide, ← decide_not]
  exact ⟨beq_eq_decide _ _, hne _ _, rfl, hsigned, rfl, hunsigned, beq_eq_decide _ _, hne _ _⟩

/-- Bits above the lowest do not depend on the lowest. -/
theorem testBit_above_lowest {x e j : Nat} (he : e < 2) (hj : j ≠ 0) : (x / 2 * 2 + e).testBit j = x.testBit j := by
  have hform : x / 2 * 2 + e = 2 ^ 1 * (x / 2) + e := by ring
  rw [hform, Nat.testBit_two_pow_mul_add _ (by omega), if_neg (by omega), Nat.testBit_div_two, Nat.sub_add_cancel (by omega)]

theorem toNat_ne_zero_of_ne {r : PReg} (h : r ≠ 0) : r.toNat ≠ 0 := fun e => h (BitVec.eq_of_toNat_eq e)

/-- PRD reads p7 to p1, and 1 for p0 (R809). -/
theorem prd_bit (p : Pinna) (r : PReg) : (BitVec.ofNat 32 (p.p.toNat / 2 * 2 + 1)).getLsbD r.toNat = pGet p r := by
  have hr := r.isLt
  rw [BitVec.getLsbD_ofNat, decide_eq_true (by omega), Bool.true_and, pGet]
  split
  next h0 =>
    rw [h0, show (0 : PReg).toNat = 0 from rfl, Nat.testBit_zero]
    exact decide_eq_true (by omega)
  next h0 => rw [testBit_above_lowest (by decide) (toNat_ne_zero_of_ne h0), BitVec.getLsbD]

/-- PWR takes p7 to p1 from the low byte (R809). -/
theorem pwr_bit {p : Pinna} {v : U32} {r : PReg} (hp : p.p = BitVec.ofNat 8 (v.toNat % 256 / 2 * 2)) (h : r ≠ 0) :
    pGet p r = v.getLsbD r.toNat := by
  have hr := r.isLt
  have hlow : (v.toNat % 2 ^ 8).testBit r.toNat = v.toNat.testBit r.toNat := by
    rw [Nat.testBit_mod_two_pow, decide_eq_true (by omega), Bool.true_and]
  rw [pGet, if_neg h, hp, BitVec.getLsbD_ofNat, decide_eq_true (by omega), Bool.true_and, ← Nat.add_zero (_ / 2 * 2),
    testBit_above_lowest (by decide) (toNat_ne_zero_of_ne h)]
  exact hlow

/-- PRD writes the value whose bits are the predicates. -/
theorem prd_writes {rd : GReg} (hr : Ready s u i) (hg : guardHolds (pinnaOf s u) gd = true) :
    ∃ v : U32, WritesG (.prd u gd rd) s u rd v 1 ∧ (∀ r : PReg, v.getLsbD r.toNat = pGet (pinnaOf s u) r) ∧ v.toNat < 256 := by
  refine ⟨_, writesG_of_regOp hr hg exec_prd rfl rfl, prd_bit _, ?_⟩
  have hp := (pinnaOf s u).p.isLt
  rw [BitVec.toNat_ofNat]
  omega

/-- PWR changes the predicates alone. -/
theorem pwr_writes {ra : GReg} (hr : Ready s u i) (hg : guardHolds (pinnaOf s u) gd = true) :
    ∃ t, exec (.pwr u gd ra) s = .next t ∧ OnlyUnit s t u ∧
      pinnaOf t u = { pinnaOf s u with p := (pinnaOf t u).p, pc := (pinnaOf s u).pc + 4, cycle := (pinnaOf s u).cycle + 1 } ∧
      ∀ r : PReg, r ≠ 0 → pGet (pinnaOf t u) r = (gGet (pinnaOf s u) ra).getLsbD r.toNat := by
  refine ⟨_, exec_pwr.trans (regOp_runs hr hg rfl), onlyUnit_onPinna, ?_, fun r h => ?_⟩ <;> rw [pinnaOf_onPinna_same]
  · rfl
  · exact pwr_bit rfl h

/-- Settles O18: every row is a register form that writes a predicate, but for PRD and PWR; the conditions are `compare_eq`. -/
theorem pinnaComparesAndPredicates : Obligations.PinnaComparesAndPredicates := by
  unfold Obligations.PinnaComparesAndPredicates
  refine ⟨fun s u i gd pd pa pb rd ra rb cond imm hr hg => ?_, compare_eq⟩
  exact ⟨writesP_of_regOp hr hg exec_cmp rfl, writesP_of_regOp hr hg exec_cmpi rfl, writesP_of_regOp hr hg exec_pand rfl,
    writesP_of_regOp hr hg exec_por rfl, writesP_of_regOp hr hg exec_pxor rfl, writesP_of_regOp hr hg exec_pandn rfl,
    writesP_of_regOp hr hg exec_pnot rfl, prd_writes hr hg, pwr_writes hr hg⟩

end Sys2Proof.Proofs
end

section
/-! SUPPORT. The Pinna loads, stores, branches and jumps, the rows with a false guard, and the exceptions of an access, a target or an
encoding (Tables 19.3, 19.7 and 19.10, R805, R806, R811 to R814, R818, R819), and O19 to O23. -/

namespace Sys2Proof.Proofs
open Sys2Proof Sys2Proof.Machine Sys2Proof.Claims

variable {s : State} {u : Fin 8} {i : Inv} {gd : Guard} {c : Instr} {n : Nat} {rd ra : GReg} {imm : BitVec 12}

/-! ### What the shared forms answer -/

section
variable (hr : Ready s u i) (hg : guardHolds (pinnaOf s u) gd = true)
include hr hg

/-- An aligned load of a place it may reach. -/
theorem loads_of_loadOp {f : Nat → U32} (hrow : exec c s = loadOp u gd rd ra imm n f s) (ha : memAddr (pinnaOf s u) ra imm % n = 0)
    (hm : mayLoad i (memAddr (pinnaOf s u) ra imm) n = true) :
    Loads c s u rd (f (leNat (tcmRead (pinnaOf s u) (memAddr (pinnaOf s u) ra imm) n))) := by
  have hrun : exec c s = .next (onPinna s u (fun _ =>
      advance 2 (gSet (pinnaOf s u) rd (f (leNat (tcmRead (pinnaOf s u) (memAddr (pinnaOf s u) ra imm) n)))))) := by
    obtain ⟨he, hi, hc, hal⟩ := hr
    rw [hrow, loadOp, issue_runs he hi hc hal hg]
    simp only [ha, hm, bne_self_eq_false, Bool.not_true, Bool.false_eq_true, if_false]
  refine ⟨_, hrun, onlyUnit_onPinna, ?_, gGet_zero, fun hrd => ?_, fun r hne => ?_⟩ <;> rw [pinnaOf_onPinna_same]
  · rw [gSet_frame]
    rfl
  · exact gGet_gSet_same hrd
  · exact gGet_gSet_ne hne

/-- A load of an address that is not a multiple of its size raises MISALIGNED. -/
theorem misaligned_of_loadOp {f : Nat → U32} (hrow : exec c s = loadOp u gd rd ra imm n f s)
    (ha : memAddr (pinnaOf s u) ra imm % n ≠ 0) : Traps c s u i (pinnaOf s u).pc 5 (memAddr (pinnaOf s u) ra imm) := by
  obtain ⟨he, hi, hc, hal⟩ := hr
  rw [Traps, hrow, loadOp, issue_runs he hi hc hal hg]
  simp only [bne_iff_ne.mpr ha, if_true]

/-- An aligned load outside the regions raises LOAD_ACCESS. -/
theorem loadAccess_of_loadOp {f : Nat → U32} (hrow : exec c s = loadOp u gd rd ra imm n f s)
    (ha : memAddr (pinnaOf s u) ra imm % n = 0) (hm : mayLoad i (memAddr (pinnaOf s u) ra imm) n = false) :
    Traps c s u i (pinnaOf s u).pc 3 (memAddr (pinnaOf s u) ra imm) := by
  obtain ⟨he, hi, hc, hal⟩ := hr
  rw [Traps, hrow, loadOp, issue_runs he hi hc hal hg]
  simp only [ha, hm, bne_self_eq_false, Bool.not_false, Bool.false_eq_true, if_false, if_true]

/-- An aligned store to a place it may reach. -/
theorem stores_of_storeOp (hrow : exec c s = storeOp u gd rd ra imm n s) (ha : memAddr (pinnaOf s u) ra imm % n = 0)
    (hm : mayStore i (memAddr (pinnaOf s u) ra imm) n = true) :
    Stores c s u (memAddr (pinnaOf s u) ra imm) (leBytes n (gGet (pinnaOf s u) rd).toNat) := by
  have hrun : exec c s = .next (onPinna s u (fun _ =>
      advance 1 (tcmWrite (pinnaOf s u) (memAddr (pinnaOf s u) ra imm) (leBytes n (gGet (pinnaOf s u) rd).toNat)))) := by
    obtain ⟨he, hi, hc, hal⟩ := hr
    rw [hrow, storeOp, issue_runs he hi hc hal hg]
    simp only [ha, hm, bne_self_eq_false, Bool.not_true, Bool.false_eq_true, if_false]
  refine ⟨_, hrun, onlyUnit_onPinna, ?_, ?_, fun k hk => ?_⟩ <;> rw [pinnaOf_onPinna_same]
  · rfl
  · exact Memory.read_write_same
  · exact Memory.get_write_outside hk

/-- A store to an address that is not a multiple of its size raises MISALIGNED. -/
theorem misaligned_of_storeOp (hrow : exec c s = storeOp u gd rd ra imm n s) (ha : memAddr (pinnaOf s u) ra imm % n ≠ 0) :
    Traps c s u i (pinnaOf s u).pc 5 (memAddr (pinnaOf s u) ra imm) := by
  obtain ⟨he, hi, hc, hal⟩ := hr
  rw [Traps, hrow, storeOp, issue_runs he hi hc hal hg]
  simp only [bne_iff_ne.mpr ha, if_true]

/-- An aligned store outside the data and stack regions raises STORE_ACCESS. -/
theorem storeAccess_of_storeOp (hrow : exec c s = storeOp u gd rd ra imm n s) (ha : memAddr (pinnaOf s u) ra imm % n = 0)
    (hm : mayStore i (memAddr (pinnaOf s u) ra imm) n = false) :
    Traps c s u i (pinnaOf s u).pc 4 (memAddr (pinnaOf s u) ra imm) := by
  obtain ⟨he, hi, hc, hal⟩ := hr
  rw [Traps, hrow, storeOp, issue_runs he hi hc hal hg]
  simp only [ha, hm, bne_self_eq_false, Bool.not_false, Bool.false_eq_true, if_false, if_true]

/-- A branch or a jump to a word of the code region. -/
theorem jumps_of_branchOp {link : Option GReg} {target : Pinna → U32} (hrow : exec c s = branchOp u gd s link target) {t : U32}
    (ht : target (pinnaOf s u) = t) (ha : t.toNat % 4 = 0) (hin : inCode i t.toNat 4 = true) : Jumps c s u t link := by
  have hrun : exec c s = .next (onPinna s u (fun _ =>
      jumpTo 2 t (link.elim (pinnaOf s u) (fun r => gSet (pinnaOf s u) r ((pinnaOf s u).pc + 4))))) := by
    obtain ⟨he, hi, hc, hal⟩ := hr
    rw [hrow, branchOp, issue_runs he hi hc hal hg]
    simp only [ht, ha, hin, bne_self_eq_false, Bool.not_true, Bool.or_self, Bool.false_eq_true, if_false]
    cases link <;> rfl
  refine ⟨_, hrun, onlyUnit_onPinna, ?_, fun r hl h0 => ?_, fun r hl => ?_⟩ <;> rw [pinnaOf_onPinna_same]
  · cases link with
    | none => rfl
    | some r =>
      rw [Option.elim_some, gSet_frame]
      rfl
  · subst hl
    exact gGet_gSet_same h0
  · cases link with
    | none => rfl
    | some r' => exact gGet_gSet_ne (fun e => hl (congrArg some e.symm))

/-- A target that is no word of the code region raises FETCH at the target. -/
theorem fetchFault_of_branchOp {link : Option GReg} {target : Pinna → U32} (hrow : exec c s = branchOp u gd s link target) {t : U32}
    (ht : target (pinnaOf s u) = t) (hbad : t.toNat % 4 ≠ 0 ∨ inCode i t.toNat 4 = false) : Traps c s u i t 2 t.toNat := by
  obtain ⟨he, hi, hc, hal⟩ := hr
  have hb : (t.toNat % 4 != 0 || !inCode i t.toNat 4) = true := by
    rw [Bool.or_eq_true, bne_iff_ne, Bool.not_eq_true']
    exact hbad
  rw [Traps, hrow, branchOp, issue_runs he hi hc hal hg]
  simp only [ht, hb, if_true]
end

/-! ### O19 and O20 -/

/-- Settles O19: the loads by `loads_of_loadOp`, the stores by `stores_of_storeOp`. -/
theorem pinnaLoadsAndStores : Obligations.PinnaLoadsAndStores := by
  unfold Obligations.PinnaLoadsAndStores
  refine ⟨fun s u i gd rd ra imm hr hg => ⟨?_, ?_, ?_⟩, fun s u i gd rd ra imm hr hg => ⟨?_, ?_, ?_⟩⟩
  · exact fun ha hm => loads_of_loadOp hr hg exec_ldw ha hm
  · exact fun ha hm => ⟨loads_of_loadOp hr hg exec_ldh ha hm, loads_of_loadOp hr hg exec_ldhs ha hm⟩
  · exact fun hm => ⟨loads_of_loadOp hr hg exec_ldb (Nat.mod_one _) hm, loads_of_loadOp hr hg exec_ldbs (Nat.mod_one _) hm⟩
  · exact fun ha hm => stores_of_storeOp hr hg exec_stw ha hm
  · exact fun ha hm => stores_of_storeOp hr hg exec_sth ha hm
  · exact fun hm => stores_of_storeOp hr hg exec_stb (Nat.mod_one _) hm

/-- The target of BR and CALL counts words from the branch itself. -/
theorem branch_target {p : Pinna} {off : BitVec 22} : p.pc + sx off * 4 = p.pc + 4 * off.signExtend 32 := by
  rw [sx, BitVec.mul_comm]

/-- Settles O20: every row is a branch form. -/
theorem pinnaBranches : Obligations.PinnaBranches := by
  unfold Obligations.PinnaBranches
  intro s u i gd rd ra imm hr hg
  exact ⟨fun ha hin => ⟨jumps_of_branchOp hr hg exec_br branch_target ha hin, jumps_of_branchOp hr hg exec_call branch_target ha hin⟩,
    fun ha hin => ⟨jumps_of_branchOp hr hg exec_jr rfl ha hin, jumps_of_branchOp hr hg exec_jalr rfl ha hin⟩⟩

/-! ### O22: the exceptions of accesses and targets -/

/-- Settles O22: each exception by the form of its row. -/
theorem pinnaAccessExceptions : Obligations.PinnaAccessExceptions := by
  unfold Obligations.PinnaAccessExceptions
  intro s u i gd rd ra imm off hr hg
  simp only [List.mem_cons, List.not_mem_nil, or_false, forall_eq_or_imp, forall_eq]
  refine ⟨?word, ?half, ?loadWord, ?loadHalf, ?loadByte, ?storeWord, ?storeHalf, ?storeByte, ?branch, ?jump⟩
  case word => exact fun ha => ⟨misaligned_of_loadOp hr hg exec_ldw ha, misaligned_of_storeOp hr hg exec_stw ha⟩
  case half =>
    exact fun ha => ⟨misaligned_of_loadOp hr hg exec_ldh ha, misaligned_of_loadOp hr hg exec_ldhs ha, misaligned_of_storeOp hr hg exec_sth ha⟩
  case loadWord => exact loadAccess_of_loadOp hr hg exec_ldw
  case loadHalf => exact fun ha hm => ⟨loadAccess_of_loadOp hr hg exec_ldh ha hm, loadAccess_of_loadOp hr hg exec_ldhs ha hm⟩
  case loadByte =>
    exact fun hm => ⟨loadAccess_of_loadOp hr hg exec_ldb (Nat.mod_one _) hm, loadAccess_of_loadOp hr hg exec_ldbs (Nat.mod_one _) hm⟩
  case storeWord => exact storeAccess_of_storeOp hr hg exec_stw
  case storeHalf => exact storeAccess_of_storeOp hr hg exec_sth
  case storeByte => exact storeAccess_of_storeOp hr hg exec_stb (Nat.mod_one _)
  case branch =>
    exact fun hin => ⟨fetchFault_of_branchOp hr hg exec_br branch_target (.inr hin), fetchFault_of_branchOp hr hg exec_call branch_target (.inr hin)⟩
  case jump =>
    exact fun hbad => ⟨fetchFault_of_branchOp hr hg exec_jr rfl hbad, fetchFault_of_branchOp hr hg exec_jalr rfl hbad⟩

/-! ### O21: a false guard -/

/-- The rows of fixed cycles run in the frame with their own cycles for a false guard, legal where the instruction is well formed. -/
def RunsFixed (c : Instr) (u : Fin 8) (gd : Guard) (n : Nat) : Prop :=
  ∀ s, ∃ effect, exec c s = issue u gd (!wellFormed c) (skipped u n) s effect

theorem runsFixed_of_regOp {b : Bool} {f : Pinna → Pinna} (hrow : ∀ s, exec c s = regOp u gd b n s f) (hb : b = !wellFormed c) :
    RunsFixed c u gd n :=
  fun s => ⟨_, by rw [hrow s, regOp, hb]⟩

theorem runsFixed_of_loadOp {k : Nat} {f : Nat → U32} (hrow : ∀ s, exec c s = loadOp u gd rd ra imm k f s) (hw : wellFormed c = true) :
    RunsFixed c u gd 2 :=
  fun s => ⟨_, by rw [hrow s, loadOp, hw, Bool.not_true]⟩

theorem runsFixed_of_storeOp {k : Nat} (hrow : ∀ s, exec c s = storeOp u gd rd ra imm k s) (hw : wellFormed c = true) :
    RunsFixed c u gd 1 :=
  fun s => ⟨_, by rw [hrow s, storeOp, hw, Bool.not_true]⟩

theorem runsFixed_of_branchOp {link : Option GReg} {target : Pinna → U32} (hrow : ∀ s, exec c s = branchOp u gd s link target)
    (hw : wellFormed c = true) : RunsFixed c u gd 2 :=
  fun s => ⟨_, by rw [hrow s, branchOp, hw, Bool.not_true]⟩

/-! An encoding is illegal exactly where the instruction is not well formed (R806 to R808, Table 19.8). -/

theorem perm_illegal (ra : GReg) : ra.getLsbD 0 = !(ra.toNat % 2 == 0) := by
  rw [BitVec.getLsbD, Nat.testBit_zero]
  rcases Nat.mod_two_eq_zero_or_one ra.toNat with h | h <;> rw [h] <;> rfl

theorem field_illegal (pos wm1 : BitVec 5) : decide (pos.toNat + wm1.toNat + 1 > 32) = !decide (pos.toNat + wm1.toNat < 32) := by
  rw [← decide_not, decide_eq_decide]
  omega

theorem mfs_illegal (sa : SReg) : decide (sa.toNat ≥ 10) = !decide (sa.toNat < 10) := by
  rw [← decide_not, decide_eq_decide, not_lt]

theorem mts_illegal (sd : SReg) : decide (sd.toNat < 4 ∨ sd.toNat > 7) = !([4, 5, 6, 7].contains sd.toNat) := by
  revert sd
  decide

theorem runsFixed_of_fixedCycles (h : fixedCycles c = some (u, gd, n)) : RunsFixed c u gd n := by
  cases c <;> cases h
  case add => exact runsFixed_of_regOp (fun _ => exec_add) rfl
  case sub => exact runsFixed_of_regOp (fun _ => exec_sub) rfl
  case andR => exact runsFixed_of_regOp (fun _ => exec_andR) rfl
  case orR => exact runsFixed_of_regOp (fun _ => exec_orR) rfl
  case xorR => exact runsFixed_of_regOp (fun _ => exec_xorR) rfl
  case andn => exact runsFixed_of_regOp (fun _ => exec_andn) rfl
  case sll => exact runsFixed_of_regOp (fun _ => exec_sll) rfl
  case srl => exact runsFixed_of_regOp (fun _ => exec_srl) rfl
  case sra => exact runsFixed_of_regOp (fun _ => exec_sra) rfl
  case ror => exact runsFixed_of_regOp (fun _ => exec_ror) rfl
  case slli => exact runsFixed_of_regOp (fun _ => exec_slli) rfl
  case srli => exact runsFixed_of_regOp (fun _ => exec_srli) rfl
  case srai => exact runsFixed_of_regOp (fun _ => exec_srai) rfl
  case rori => exact runsFixed_of_regOp (fun _ => exec_rori) rfl
  case minS => exact runsFixed_of_regOp (fun _ => exec_minS) rfl
  case maxS => exact runsFixed_of_regOp (fun _ => exec_maxS) rfl
  case minu => exact runsFixed_of_regOp (fun _ => exec_minu) rfl
  case maxu => exact runsFixed_of_regOp (fun _ => exec_maxu) rfl
  case clz => exact runsFixed_of_regOp (fun _ => exec_clz) rfl
  case popc => exact runsFixed_of_regOp (fun _ => exec_popc) rfl
  case mul => exact runsFixed_of_regOp (fun _ => exec_mul) rfl
  case mulh => exact runsFixed_of_regOp (fun _ => exec_mulh) rfl
  case mulhu => exact runsFixed_of_regOp (fun _ => exec_mulhu) rfl
  case mulhsu => exact runsFixed_of_regOp (fun _ => exec_mulhsu) rfl
  case divS => exact runsFixed_of_regOp (fun _ => exec_divS) rfl
  case divu => exact runsFixed_of_regOp (fun _ => exec_divu) rfl
  case remS => exact runsFixed_of_regOp (fun _ => exec_remS) rfl
  case remu => exact runsFixed_of_regOp (fun _ => exec_remu) rfl
  case addi => exact runsFixed_of_regOp (fun _ => exec_addi) rfl
  case andi => exact runsFixed_of_regOp (fun _ => exec_andi) rfl
  case ori => exact runsFixed_of_regOp (fun _ => exec_ori) rfl
  case xori => exact runsFixed_of_regOp (fun _ => exec_xori) rfl
  case movi => exact runsFixed_of_regOp (fun _ => exec_movi) rfl
  case movhi => exact runsFixed_of_regOp (fun _ => exec_movhi) rfl
  case cmp => exact runsFixed_of_regOp (fun _ => exec_cmp) rfl
  case cmpi => exact runsFixed_of_regOp (fun _ => exec_cmpi) rfl
  case pand => exact runsFixed_of_regOp (fun _ => exec_pand) rfl
  case por => exact runsFixed_of_regOp (fun _ => exec_por) rfl
  case pxor => exact runsFixed_of_regOp (fun _ => exec_pxor) rfl
  case pandn => exact runsFixed_of_regOp (fun _ => exec_pandn) rfl
  case pnot => exact runsFixed_of_regOp (fun _ => exec_pnot) rfl
  case prd => exact runsFixed_of_regOp (fun _ => exec_prd) rfl
  case pwr => exact runsFixed_of_regOp (fun _ => exec_pwr) rfl
  case perm => exact runsFixed_of_regOp (fun _ => exec_perm) (perm_illegal _)
  case bfx => exact runsFixed_of_regOp (fun _ => exec_bfx) (field_illegal _ _)
  case bfxs => exact runsFixed_of_regOp (fun _ => exec_bfxs) (field_illegal _ _)
  case bfi => exact runsFixed_of_regOp (fun _ => exec_bfi) (field_illegal _ _)
  case ldw => exact runsFixed_of_loadOp (fun _ => exec_ldw) rfl
  case ldh => exact runsFixed_of_loadOp (fun _ => exec_ldh) rfl
  case ldhs => exact runsFixed_of_loadOp (fun _ => exec_ldhs) rfl
  case ldb => exact runsFixed_of_loadOp (fun _ => exec_ldb) rfl
  case ldbs => exact runsFixed_of_loadOp (fun _ => exec_ldbs) rfl
  case stw => exact runsFixed_of_storeOp (fun _ => exec_stw) rfl
  case sth => exact runsFixed_of_storeOp (fun _ => exec_sth) rfl
  case stb => exact runsFixed_of_storeOp (fun _ => exec_stb) rfl
  case br => exact runsFixed_of_branchOp (fun _ => exec_br) rfl
  case call => exact runsFixed_of_branchOp (fun _ => exec_call) rfl
  case jr => exact runsFixed_of_branchOp (fun _ => exec_jr) rfl
  case jalr => exact runsFixed_of_branchOp (fun _ => exec_jalr) rfl
  case mfs => exact fun _ => ⟨_, by rw [exec_mfs, execMfs, mfs_illegal]; rfl⟩
  case mts => exact fun _ => ⟨_, by rw [exec_mts, execMts, mts_illegal]; rfl⟩
  case sleep => exact fun _ => ⟨_, exec_sleep⟩

/-- Settles O21: every row of fixed cycles skips them where its guard is false. -/
theorem falseGuardTakesFullCycles : Obligations.FalseGuardTakesFullCycles := by
  unfold Obligations.FalseGuardTakesFullCycles
  refine ⟨fun s c u gd n i hc hw hr hg => ?_, fun p => ⟨rfl, rfl⟩⟩
  obtain ⟨effect, hrow⟩ := runsFixed_of_fixedCycles hc s
  obtain ⟨he, hi, hin, ha⟩ := hr
  rw [hw, Bool.not_true] at hrow
  exact ⟨_, hrow.trans (issue_skips he hi hin ha hg), onlyUnit_onPinna, pinnaOf_onPinna_same⟩

/-! ### O23: invalid encodings -/

/-- A row of fixed cycles that is not well formed raises ILLEGAL whatever its guard. -/
theorem illegal_of_fixedCycles (hr : Ready s u i) (h : fixedCycles c = some (u, gd, n)) (hw : wellFormed c = false) :
    Traps c s u i (pinnaOf s u).pc 1 0 := by
  obtain ⟨effect, hrow⟩ := runsFixed_of_fixedCycles h s
  obtain ⟨he, hi, hin, ha⟩ := hr
  rw [hw, Bool.not_false] at hrow
  exact hrow.trans (issue_illegal he hi hin ha)

/-- Settles O23: an undefined word by its own row, the six forms by `illegal_of_fixedCycles`. -/
theorem invalidEncodingsRaiseIllegal : Obligations.InvalidEncodingsRaiseIllegal := by
  unfold Obligations.InvalidEncodingsRaiseIllegal
  refine fun s u i gd w rd ra rb pos wm1 sr hr => ⟨fun hw => ?word, fun c hc hw => ?forms⟩
  case word =>
    obtain ⟨he, hi, hin, ha⟩ := hr
    have hrow : execInvalidEncoding u w s = issue u ⟨false, 0⟩ true id s (fun s _ _ => s) := by simp only [execInvalidEncoding, hw]
    exact exec_invalidEncoding.trans (hrow.trans (issue_illegal he hi hin ha))
  case forms =>
    simp only [List.mem_cons, List.not_mem_nil, or_false] at hc
    have hfixed : fixedCycles c = some (u, gd, 1) := by
      rcases hc with rfl | rfl | rfl | rfl | rfl | rfl <;> rfl
    exact illegal_of_fixedCycles hr hfixed hw

end Sys2Proof.Proofs
end

section
/-! SUPPORT. SLEEP and the SYS services (Table 19.9, R824, R826 to R831), and O26 to O29. -/

namespace Sys2Proof.Proofs
open Sys2Proof Sys2Proof.Machine Sys2Proof.Claims

variable {s : State} {u : Fin 8} {i : Inv} {gd : Guard} {p : Pinna} {n : Nat} {st : BitVec 16}

/-! ### O26: SLEEP (R826) -/

/-- A wake task after SLEEP: a pending activation runs, a running one has ended. -/
def wakeEnded (x : Task) : Task :=
  if x.pending then { x with pending := false, running := true, fired := x.fired + 1 } else { x with running := false }

theorem wakeEnded_pending {x : Task} : (wakeEnded x).pending = false := by
  unfold wakeEnded
  split
  · rfl
  next h => exact Bool.eq_false_iff.mpr h

theorem wakeEnded_running {x : Task} : (wakeEnded x).running = x.pending := by
  unfold wakeEnded
  split
  next h => exact h.symm
  next h => exact (Bool.eq_false_iff.mpr h).symm

theorem endWake_cons {ts : List Nat} : endWake s (n :: ts) = endWake (onTask s n wakeEnded) ts := rfl

theorem taskOf_endWake_of_notMem {ts : List Nat} (h : n ∉ ts) : taskOf (endWake s ts) n = taskOf s n := by
  induction ts generalizing s with
  | nil => rfl
  | cons t ts ih =>
    obtain ⟨hne, hts⟩ := not_or.mp (mt List.mem_cons.mpr h)
    rw [endWake_cons, ih hts, taskOf_onTask_ne hne]

theorem taskOf_endWake_of_mem {ts : List Nat} (hnodup : ts.Nodup) (h : n ∈ ts) : taskOf (endWake s ts) n = wakeEnded (taskOf s n) := by
  induction ts generalizing s with
  | nil => cases h
  | cons t ts ih =>
    obtain ⟨hhead, htail⟩ := List.nodup_cons.mp hnodup
    rw [endWake_cons]
    rcases List.mem_cons.mp h with rfl | hmem
    · rw [taskOf_endWake_of_notMem hhead, taskOf_onTask_same]
    · have hne : n ≠ t := fun e => hhead (e ▸ hmem)
      rw [ih htail hmem, taskOf_onTask_ne hne]

theorem endWake_pinnas {ts : List Nat} : (endWake s ts).pinnas = s.pinnas :=
  List.foldlRecOn ts _ (motive := fun a : State => a.pinnas = s.pinnas) rfl (fun _ ha _ _ => ha)

theorem wakeTasks_nodup : (wakeTasks s u).Nodup := by
  unfold wakeTasks
  split <;> simp

/-- The unit after SLEEP. -/
def slept (p : Pinna) (held : Bool) : Pinna :=
  if held then { p with wakePending := false, wokeTask := true, pc := p.pc + 4, cycle := p.cycle + 2 }
  else if p.wakePending then { p with wakePending := false, pc := p.pc + 4, cycle := p.cycle + 2 }
  else { p with asleep := true, pc := p.pc + 4 }

theorem sleep_runs (hr : Ready s u i) (hg : guardHolds (pinnaOf s u) gd = true) : exec (.sleep u gd) s =
    .next (onPinna (endWake s (wakeTasks s u)) u (fun _ =>
      slept (pinnaOf s u) ((wakeTasks s u).any (fun n => (taskOf s n).pending)))) := by
  obtain ⟨he, hi, hc, ha⟩ := hr
  rw [exec_sleep, execSleep, issue_runs he hi hc ha hg]
  simp only [slept, advance]
  split_ifs <;> simp only [BitVec.ofNat_eq_ofNat, BitVec.add_zero]

/-- Settles O26: the tasks by `endWake`, the unit by `slept`. -/
theorem sleepReturnsOrSleeps : Obligations.SleepReturnsOrSleeps := by
  unfold Obligations.SleepReturnsOrSleeps
  refine fun s u i gd hr hg => ⟨_, sleep_runs hr hg, fun n hn => ?mine, fun n hn => taskOf_endWake_of_notMem hn, fun v hv => ?others, ?unit⟩
  case mine =>
    have htask := taskOf_endWake_of_mem (s := s) wakeTasks_nodup hn
    exact ⟨(congrArg Task.pending htask).trans wakeEnded_pending, (congrArg Task.running htask).trans wakeEnded_running⟩
  case others => rw [pinnaOf_onPinna_ne hv, pinnaOf, endWake_pinnas, pinnaOf]
  case unit => exact pinnaOf_onPinna_same

/-! ### Services that return (Table 19.9) -/

/-- A SYS service with a true guard runs its effect. -/
theorem sysOp_runs {effect : State → Pinna → Inv → State} (hr : Ready s u i) (hg : guardHolds (pinnaOf s u) gd = true) :
    sysOp u gd s effect = .next (effect s (pinnaOf s u) i) := by
  obtain ⟨he, hi, hc, ha⟩ := hr
  rw [sysOp, issue_runs he hi hc ha hg]

/-- The device a returning service leaves, before its event. -/
def sysReturned (s : State) (u : Fin 8) (p : Pinna) (st : BitVec 16) : State :=
  sysCycles (onPinna s u (fun _ => { gSet p 1 (st.setWidth 32) with sysStatus := st })) u

theorem sysReturn_eq : sysReturn s u p st = raise (sysReturned s u p st) [16 + coreOf s u] := rfl

theorem sysReturned_returnsWith : ReturnsWith s (sysReturned s u p st) u p st := by
  refine ⟨rfl, rfl, fun v hv => ?_, ?_⟩
  · exact (pinnaOf_onPinna_ne hv).trans (pinnaOf_onPinna_ne hv)
  · have hafter : pinnaOf (sysReturned s u p st) u = advance (Config.freeValue s.free).toNat { gSet p 1 (st.setWidth 32) with sysStatus := st } := by
      refine pinnaOf_onPinna_same.trans (congrArg _ ?_)
      exact pinnaOf_onPinna_same
    rw [hafter, gSet_frame]
    rfl

section
variable (hr : Ready s u i) (hg : guardHolds (pinnaOf s u) gd = true)
include hr hg

/-- COPY_IN inside its limits. -/
theorem copyIn_returns (hlen : gNat (pinnaOf s u) 2 + gNat (pinnaOf s u) 3 ≤ i.inLen)
    (hregion : gNat (pinnaOf s u) 3 = 0 ∨ mayStore i (gNat (pinnaOf s u) 1) (gNat (pinnaOf s u) 3) = true) :
    exec (.copyIn u gd) s = .next (raise (sysReturned s u (tcmWrite (pinnaOf s u) (gNat (pinnaOf s u) 1)
      (hostRead s i.fn (i.inAddr + gNat (pinnaOf s u) 2) (gNat (pinnaOf s u) 3))) 0) [16 + coreOf s u]) := by
  have hok : (gNat (pinnaOf s u) 2 + gNat (pinnaOf s u) 3 > i.inLen ||
      (gNat (pinnaOf s u) 3 != 0 && !mayStore i (gNat (pinnaOf s u) 1) (gNat (pinnaOf s u) 3))) = false := by
    rw [Bool.or_eq_false_iff, Bool.and_eq_false_iff, bne_eq_false_iff_eq, Bool.not_eq_false']
    exact ⟨decide_eq_false (Nat.not_lt.mpr hlen), hregion⟩
  rw [exec_copyIn, execCopyIn, sysOp_runs hr hg]
  simp only [hok, Bool.false_eq_true, if_false, sysReturn_eq]

/-- COPY_IN outside its limits. -/
theorem copyIn_traps (hbad : i.inLen < gNat (pinnaOf s u) 2 + gNat (pinnaOf s u) 3 ∨
      (gNat (pinnaOf s u) 3 ≠ 0 ∧ mayStore i (gNat (pinnaOf s u) 1) (gNat (pinnaOf s u) 3) = false)) :
    Traps (.copyIn u gd) s u i (pinnaOf s u).pc 6 3 := by
  have hout : (gNat (pinnaOf s u) 2 + gNat (pinnaOf s u) 3 > i.inLen ||
      (gNat (pinnaOf s u) 3 != 0 && !mayStore i (gNat (pinnaOf s u) 1) (gNat (pinnaOf s u) 3))) = true := by
    rw [Bool.or_eq_true, Bool.and_eq_true, bne_iff_ne, Bool.not_eq_true', decide_eq_true_iff]
    exact hbad
  rw [Traps, exec_copyIn, execCopyIn, sysOp_runs hr hg]
  simp only [hout, if_true]

/-- RAISE of an applet event. -/
theorem sysRaise_raises (hn : gNat (pinnaOf s u) 1 < 16) :
    exec (.sysRaise u gd) s = .next (raise (raise (sysReturned s u (pinnaOf s u) 0) [16 + coreOf s u]) [96 + gNat (pinnaOf s u) 1]) := by
  rw [exec_sysRaise, execSysRaise, sysOp_runs hr hg]
  simp only [hn, if_true, sysReturn_eq]

theorem sysInfo_returns : exec (.sysInfo u gd) s = .next (raise (sysReturned s u (gSet (gSet (gSet (pinnaOf s u) 2
    (bootEpoch s)) 3 (i.tag.setWidth 32)) 4 (BitVec.ofNat 32 (quantaUsed s i))) 0) [16 + coreOf s u]) := by
  rw [exec_sysInfo, execSysInfo, sysOp_runs hr hg, sysReturn_eq]

/-! ### COMMAND (R828) -/

variable {op : Nat} {c : Cmd} (hin : mayStore i (gNat (pinnaOf s u) 1) 64 = true)
  (hentry : parseEntry i.fn i.q (.applet u) (tcmRead (pinnaOf s u) (gNat (pinnaOf s u) 1) 64) = (op, c))
include hin hentry

theorem sysCommand_submits (hpass : appletChecks s op c = none) : exec (.sysCommand u gd) s =
    .next (raise (onPinna (submitApplet (sysCycles s u) op c) u (fun p => { p with blocked := true })) [16 + coreOf s u]) := by
  rw [exec_sysCommand, execSysCommand, sysOp_runs hr hg]
  simp only [hin, appletCmd, hentry, hpass, Bool.not_true, Bool.false_eq_true, if_false]
  rfl

theorem sysCommand_refuses {st : Nat} (hst : appletChecks s op c = some st) : exec (.sysCommand u gd) s =
    .next (raise (onPinna (sysCycles s u) u (fun p => p.commandReturns (fail st) false)) [16 + coreOf s u]) := by
  rw [exec_sysCommand, execSysCommand, sysOp_runs hr hg]
  simp only [hin, appletCmd, hentry, hst, Bool.not_true, Bool.false_eq_true, if_false]
  rfl
end

theorem pinnaOf_sysCycles_ne {v : Fin 8} (hv : v ≠ u) : pinnaOf (sysCycles s u) v = pinnaOf s v := pinnaOf_onPinna_ne hv

theorem issues_of_blocked (h : (pinnaOf s u).blocked = true) : issues s u = none := by
  simp only [issues, h, Bool.or_true, Bool.true_or, if_true]
  split <;> rfl

/-- What a completion leaves in g1: the status (Table 19.9). -/
theorem gGet_commandReturns {r : Reply} {b : Bool} : gGet (p.commandReturns r b) 1 = BitVec.ofNat 32 r.status := by
  have h1 : ((1 : GReg) = 0) = False := by decide
  simp only [gGet, h1, if_false, Pinna.commandReturns, List.foldl_cons, List.foldl_nil]
  rw [SMap.get_set_ne (by decide), SMap.get_set_ne (by decide), SMap.get_set_ne (by decide), SMap.get_set_ne (by decide),
    SMap.get_set_ne (by decide), SMap.get_set_ne (by decide)]
  exact SMap.get_set_same

/-- Settles O27: the services that return by `sysReturned_returnsWith`, COMMAND by its two lemmas. -/
theorem sysServices : Obligations.SysServices := by
  unfold Obligations.SysServices
  refine ⟨fun s u i gd hr hg => ⟨?copyIn, ?raises, ?info⟩, fun s u i gd hr hg hin => ⟨fun hpass => ?submitted, fun st hst => ?refused⟩⟩
  case copyIn => exact fun hlen hregion => ⟨_, copyIn_returns hr hg hlen hregion, sysReturned_returnsWith⟩
  case raises => exact fun hn => ⟨_, sysRaise_raises hr hg hn, sysReturned_returnsWith⟩
  case info => exact ⟨_, sysInfo_returns hr hg, sysReturned_returnsWith⟩
  case submitted =>
    have hblocked : ∀ x : State, (pinnaOf (onPinna x u (fun p => { p with blocked := true })) u).blocked = true := fun x => by
      rw [pinnaOf_onPinna_same]
    refine ⟨_, sysCommand_submits hr hg hin rfl hpass, rfl, rfl, hblocked _, issues_of_blocked (hblocked _), rfl, rfl, rfl, fun v hv => ?_⟩
    exact (pinnaOf_onPinna_ne hv).trans (pinnaOf_sysCycles_ne hv)
  case refused =>
    refine ⟨_, sysCommand_refuses hr hg hin rfl hst, rfl, ?_, ?_, fun v hv => (pinnaOf_onPinna_ne hv).trans (pinnaOf_sysCycles_ne hv)⟩ <;>
      rw [pinnaOf_onPinna_same]
    · exact gGet_commandReturns
    · rfl

/-! ### O28: EXIT with Bus Master Enable 0 (R211, R831) -/

/-- An invocation of function 0 with one word of code and no input, output or data. -/
def shortInv : Machine.Inv :=
  { fn := 0, q := 0, tag := 0, applet := 0, cls := 0, inAddr := 0, inLen := 0, outAddr := 0, outLen := 0, quanta := 1, codeLen := 4,
    dataLen := 0, stackLen := 0 }

/-- A device whose unit 0 runs it, function 0 without Bus Master Enable. -/
def noMaster : State := State.reset.onPinnas (fun p => { p with split := true, units := [(0, { inv := some shortInv })] })

theorem noMaster_ready : Ready noMaster 0 shortInv := by
  unfold Ready
  decide

/-- The writes to host memory held until Bus Master Enable is set. -/
def heldWrites : Host.Outcome State Fault Refusal → List (FnId × Nat × Bytes)
  | .next t => t.link.held
  | _ => []

/-- Refutes O28: with Bus Master Enable 0 the write of OUT is held (R211), not written: EXIT leaves one held write where the statement has none. -/
theorem not_sysExitAndAbort : ¬ Obligations.SysExitAndAbort := by
  unfold Obligations.SysExitAndAbort
  intro h
  obtain ⟨hexit, -⟩ := h noMaster 0 shortInv ⟨false, 0⟩ noMaster_ready (by decide)
  have hheld := congrArg heldWrites (hexit (by decide) (.inl (by decide)))
  exact absurd hheld (by decide +kernel)

/-! ### O29: arguments outside their limits (R827) -/

theorem sysInvalid_traps {k : BitVec 16} (hr : Ready s u i) (hg : guardHolds (pinnaOf s u) gd = true) (hk : 6 ≤ k.toNat) :
    Traps (.sysInvalid u gd k) s u i (pinnaOf s u).pc 6 k.toNat := by
  rw [Traps, exec_sysInvalid, execSysInvalid, if_neg (Nat.not_lt.mpr hk), sysOp_runs hr hg]

theorem sysExit_traps (hr : Ready s u i) (hg : guardHolds (pinnaOf s u) gd = true)
    (hbad : i.outLen < gNat (pinnaOf s u) 2 ∨
      (gNat (pinnaOf s u) 2 ≠ 0 ∧ mayStore i (gNat (pinnaOf s u) 1) (gNat (pinnaOf s u) 2) = false)) :
    Traps (.sysExit u gd) s u i (pinnaOf s u).pc 6 0 := by
  have hout : (gNat (pinnaOf s u) 2 > i.outLen ||
      (gNat (pinnaOf s u) 2 != 0 && !mayStore i (gNat (pinnaOf s u) 1) (gNat (pinnaOf s u) 2))) = true := by
    rw [Bool.or_eq_true, Bool.and_eq_true, bne_iff_ne, Bool.not_eq_true', decide_eq_true_iff]
    exact hbad
  rw [Traps, exec_sysExit, execSysExit, sysOp_runs hr hg]
  simp only [hout, if_true]

/-- Settles O29: each service by its own check. -/
theorem sysArgumentsOutsideTheirLimits : Obligations.SysArgumentsOutsideTheirLimits := by
  unfold Obligations.SysArgumentsOutsideTheirLimits
  exact fun s u i gd n hr hg => ⟨sysInvalid_traps hr hg, sysExit_traps hr hg, copyIn_traps hr hg⟩

end Sys2Proof.Proofs
end

section
/-! SUPPORT. Integers in byte strings at fixed offsets, and the layouts of the submission and the completion entry (Tables 6.2 and 6.3), O6
and O7. -/

namespace Sys2Proof.Proofs
open Sys2Proof Sys2Proof.Machine Sys2Proof.Claims

variable {n k x : Nat} {b bs r : Bytes}

/-! ### Fields of a byte string -/

theorem leNat_leBytes : leNat (leBytes n x) = x % 256 ^ n := by
  induction n generalizing x with
  | zero => rw [leBytes, leNat, Nat.pow_zero, Nat.mod_one]
  | succ n ih =>
    rw [leBytes, leNat, ih, BitVec.toNat_ofNat, pow_succ' 256 n]
    exact Nat.mod_mul.symm

theorem leNat_leBytes_of_lt (h : x < 256 ^ n) : leNat (leBytes n x) = x := by rw [leNat_leBytes, Nat.mod_eq_of_lt h]

/-- The first field of a string. -/
theorem take_leBytes_append : (leBytes n x ++ r).take n = leBytes n x := List.take_left' length_leBytes

/-- What lies beyond the first field. -/
theorem drop_leBytes_append (h : n ≤ k) : (leBytes n x ++ r).drop k = r.drop (k - n) := by
  rw [List.drop_append, length_leBytes, List.drop_eq_nil_of_le (length_leBytes.trans_le h), List.nil_append]

theorem getD_leBytes_append (h : n ≤ k) : (leBytes n x ++ r).getD k 0 = r.getD (k - n) 0 := by
  rw [List.getD_append_right _ _ _ _ (length_leBytes.trans_le h), length_leBytes]

/-- The bytes of the integer of a string of the same length are the string. -/
theorem leBytes_leNat_of_length (h : bs.length = n) : leBytes n (leNat bs) = bs := by
  obtain ⟨z, hz⟩ := leBytes_leNat (n := n) h.le
  have hlen := congrArg List.length hz
  rw [length_leBytes, List.length_append] at hlen
  rw [hz, List.eq_nil_of_length_eq_zero (l := z) (by omega), List.append_nil]

/-- A word of the string's length takes its integer whole. -/
theorem toNat_ofNat_leNat {w : Nat} (h : bs.length = n) (hw : 2 ^ w = 256 ^ n) : (BitVec.ofNat w (leNat bs)).toNat = leNat bs := by
  rw [BitVec.toNat_ofNat, hw, ← h, Nat.mod_eq_of_lt leNat_lt]

/-! ### O6: the completion entry -/

/-- Settles O6: each field stands behind the fields before it. -/
theorem completionEntryFields : Obligations.CompletionEntryFields := by
  unfold Obligations.CompletionEntryFields
  intro c r h fl ph hstatus hdetail h0 h1 h2 h3 hhead hfl e
  have htag : c.tag.toNat < 256 ^ 2 := c.tag.isLt
  refine ⟨?_, ?_, ?_, ?_, ?_, ?_, ?_, ?_, ?_, ?_, ?_⟩
  · simp only [e, completionOf, List.length_append, length_leBytes, List.length_cons, List.length_nil]
  all_goals
    simp (disch := decide) only [e, completionOf, List.append_assoc, drop_leBytes_append, getD_leBytes_append, take_leBytes_append,
      Nat.reduceSub, List.drop_zero]
  · exact leNat_leBytes_of_lt htag
  · exact leNat_leBytes_of_lt hstatus
  · exact leNat_leBytes_of_lt hdetail
  · exact leNat_leBytes_of_lt h0
  · exact leNat_leBytes_of_lt h1
  · exact leNat_leBytes_of_lt h2
  · exact leNat_leBytes_of_lt h3
  · exact leNat_leBytes_of_lt hhead
  · rfl
  · cases ph <;> rfl

/-! ### O7: the submission entry -/

theorem ofNat_leNat_leBytes {w : Nat} {v : BitVec w} (hw : 2 ^ w = 256 ^ n) : BitVec.ofNat w (leNat (leBytes n v.toNat)) = v := by
  rw [leNat_leBytes_of_lt (hw ▸ v.isLt), BitVec.ofNat_toNat, BitVec.setWidth_eq]

theorem ofNat_leNat_byte {v : Byte} : BitVec.ofNat 8 (leNat [v]) = v := by
  rw [leNat, leNat, Nat.mul_zero, Nat.add_zero, BitVec.ofNat_toNat, BitVec.setWidth_eq]

theorem params_width : 2 ^ 448 = 256 ^ 56 := by rw [show 448 = 8 * 56 by decide, Nat.pow_mul]

/-- Bytes 4 and 5, each written as itself. -/
theorem byte_eq_leBytes {v : Byte} : [v] = leBytes 1 v.toNat := by
  rw [leBytes, leBytes, BitVec.ofNat_toNat, BitVec.setWidth_eq]

/-- The entry as fields of bytes one behind the other. -/
theorem entryOf_eq {op : Nat} {c : Cmd} : entryOf op c = leBytes 2 op ++ (leBytes 2 c.tag.toNat ++ (leBytes 1 c.flags.toNat ++
    (leBytes 1 c.format.toNat ++ (leBytes 2 c.rsv.toNat ++ leBytes 56 c.params.toNat)))) := by
  rw [entryOf, ← byte_eq_leBytes, ← byte_eq_leBytes]
  simp only [List.append_assoc, List.cons_append, List.nil_append]

/-- What the device reads from an entry it laid out. -/
theorem parseEntry_entryOf {op : Nat} {c : Cmd} (hop : op < 2 ^ 16) : parseEntry c.fn c.q c.issuer (entryOf op c) = (op, c) := by
  have hparams : (leBytes 56 c.params.toNat).take 56 = leBytes 56 c.params.toNat := List.take_of_length_le length_leBytes.le
  rw [entryOf_eq, parseEntry]
  simp (disch := decide) only [drop_leBytes_append, take_leBytes_append, hparams, Nat.reduceSub, List.drop_zero]
  rw [leNat_leBytes_of_lt hop, ofNat_leNat_leBytes rfl, ofNat_leNat_leBytes rfl, ofNat_leNat_leBytes rfl, ofNat_leNat_leBytes rfl,
    ofNat_leNat_leBytes params_width]

/-- A field taken from a long enough string has its own length. -/
theorem length_slice (h : k + n ≤ b.length) : ((b.drop k).take n).length = n := by
  rw [List.length_take, List.length_drop]
  omega

/-- Adjacent fields make one. -/
theorem slice_append_slice {m : Nat} : (b.drop k).take n ++ (b.drop (k + n)).take m = (b.drop k).take (n + m) := by
  rw [List.take_add, List.drop_drop]

/-- The bytes an entry was read from. -/
theorem entryOf_parseEntry {f : FnId} {q : PairId} {i : Issuer} (h : b.length = 64) :
    entryOf (parseEntry f q i b).1 (parseEntry f q i b).2 = b := by
  have hslice : ∀ k n, k + n ≤ 64 → leBytes n (leNat ((b.drop k).take n)) = (b.drop k).take n := fun k n hk =>
    leBytes_leNat_of_length (length_slice (h.symm ▸ hk))
  have hword : ∀ k n w, k + n ≤ 64 → 2 ^ w = 256 ^ n → (BitVec.ofNat w (leNat ((b.drop k).take n))).toNat = leNat ((b.drop k).take n) :=
    fun k n w hk hw => toNat_ofNat_leNat (length_slice (h.symm ▸ hk)) hw
  rw [entryOf_eq, parseEntry]
  dsimp only
  rw [hword 2 2 16 (by decide) rfl, hword 4 1 8 (by decide) rfl, hword 5 1 8 (by decide) rfl, hword 6 2 16 (by decide) rfl,
    hword 8 56 448 (by decide) params_width, hslice 0 2 (by decide), hslice 2 2 (by decide), hslice 4 1 (by decide),
    hslice 5 1 (by decide), hslice 6 2 (by decide), hslice 8 56 (by decide)]
  rw [slice_append_slice (k := 6) (n := 2), slice_append_slice (k := 5) (n := 1), slice_append_slice (k := 4) (n := 1),
    slice_append_slice (k := 2) (n := 2), slice_append_slice (k := 0) (n := 2), List.drop_zero, List.take_of_length_le h.le]

/-- Settles O7: the two directions. -/
theorem entryIsParsedAsItIsLaidOut : Obligations.EntryIsParsedAsItIsLaidOut := by
  unfold Obligations.EntryIsParsedAsItIsLaidOut
  refine ⟨fun op c hop => ⟨?_, parseEntry_entryOf hop⟩, fun f q i b h => entryOf_parseEntry h⟩
  simp only [entryOf_eq, List.length_append, length_leBytes]

end Sys2Proof.Proofs
end

section
/-! SUPPORT. The Pinna encoding read back (Tables 19.2 to 19.4 and 19.9, R806 to R808), and O30. -/

namespace Sys2Proof.Proofs
open Sys2Proof Sys2Proof.Machine Sys2Proof.Claims

variable {gd : Guard} {u : Fin 8} {c : Instr} {w m n k low : Nat} {rd ra rb : BitVec 5}

/-! ### The fields of a word (Table 19.2) -/

/-- GN, GP and MAJOR as one number. -/
def headBits (gd : Guard) (m : Nat) : Nat := (if gd.neg then 2 ^ 9 else 0) + gd.p.toNat * 2 ^ 6 + m

theorem pinnaHead_eq : pinnaHead gd m = 2 ^ 22 * headBits gd m := by
  unfold pinnaHead headBits
  split <;> ring

theorem headBits_lt (hm : m < 64) : headBits gd m < 2 ^ 10 := by
  have hp := gd.p.isLt
  unfold headBits
  split <;> omega

theorem headBits_major (hm : m < 64) : headBits gd m % 2 ^ 6 = m := by
  unfold headBits
  split <;> omega

theorem headBits_pred (hm : m < 64) : headBits gd m / 2 ^ 6 % 2 ^ 3 = gd.p.toNat := by
  have hp := gd.p.isLt
  unfold headBits
  split <;> omega

theorem headBits_neg (hm : m < 64) : headBits gd m / 2 ^ 9 % 2 = if gd.neg then 1 else 0 := by
  have hp := gd.p.isLt
  unfold headBits
  split <;> omega

theorem pinnaHead_add_lt (hm : m < 64) (hlow : low < 2 ^ 22) : pinnaHead gd m + low < 2 ^ 32 := by
  have h := headBits_lt (gd := gd) hm
  rw [pinnaHead_eq]
  omega

theorem major_pinnaHead (hm : m < 64) (hlow : low < 2 ^ 22) : (pinnaHead gd m + low) / 2 ^ 22 % 2 ^ 6 = m := by
  have h := headBits_major (gd := gd) hm
  rw [pinnaHead_eq]
  omega

theorem low_pinnaHead (hlow : low < 2 ^ 22) : (pinnaHead gd m + low) % 2 ^ 22 = low := by
  rw [pinnaHead_eq]
  omega

/-- A field of a word without its head is the field. -/
theorem field_pinnaHead {j l : Nat} (hjl : j + l ≤ 22) :
    BitVec.ofNat l ((pinnaHead gd m + low) / 2 ^ j) = BitVec.ofNat l (low / 2 ^ j) := by
  have hpow : 2 ^ 22 = 2 ^ j * (2 ^ l * 2 ^ (22 - j - l)) := by rw [← pow_add, ← pow_add]; congr 1; omega
  apply BitVec.eq_of_toNat_eq
  rw [BitVec.toNat_ofNat, BitVec.toNat_ofNat, pinnaHead_eq, hpow, Nat.mul_assoc, Nat.mul_add_div (Nat.two_pow_pos j), Nat.mul_assoc,
    Nat.mul_add_mod]

/-- The guard of a word stands above MAJOR; every other field lies in the low 22 bits. -/
theorem pinnaFields_head (hm : m < 64) (hlow : low < 2 ^ 22) : pinnaFields (pinnaHead gd m + low) =
    { gd := gd, rd := BitVec.ofNat 5 (low / 2 ^ 17), ra := BitVec.ofNat 5 (low / 2 ^ 12), rb := BitVec.ofNat 5 (low / 2 ^ 7),
      fn := low % 2 ^ 7, imm := BitVec.ofNat 12 low } := by
  have hneg : bitOf (pinnaHead gd m + low) 31 = gd.neg := by
    have hbit : (pinnaHead gd m + low) / 2 ^ 31 % 2 = headBits gd m / 2 ^ 9 % 2 := by rw [pinnaHead_eq]; omega
    rw [bitOf, hbit, headBits_neg hm]
    cases gd.neg <;> rfl
  have hpred : BitVec.ofNat 3 ((pinnaHead gd m + low) / 2 ^ 28) = gd.p := by
    have hbits : (pinnaHead gd m + low) / 2 ^ 28 % 2 ^ 3 = headBits gd m / 2 ^ 6 % 2 ^ 3 := by rw [pinnaHead_eq]; omega
    apply BitVec.eq_of_toNat_eq
    rw [BitVec.toNat_ofNat, hbits, headBits_pred hm]
  have hfn : (pinnaHead gd m + low) % 2 ^ 7 = low % 2 ^ 7 := by rw [pinnaHead_eq]; omega
  have himm : BitVec.ofNat 12 (pinnaHead gd m + low) = BitVec.ofNat 12 low := by
    simpa using field_pinnaHead (gd := gd) (m := m) (low := low) (j := 0) (l := 12) (by decide)
  rw [pinnaFields, hneg, hpred, hfn, himm, field_pinnaHead (by decide), field_pinnaHead (by decide), field_pinnaHead (by decide)]

/-- The low bits of a form. -/
def formBits (rd ra rb : BitVec 5) (k : Nat) : Nat := rd.toNat * 2 ^ 17 + ra.toNat * 2 ^ 12 + rb.toNat * 2 ^ 7 + k

theorem pinnaForm_eq : pinnaForm gd m rd.toNat ra.toNat rb.toNat k = pinnaHead gd m + formBits rd ra rb k := by
  unfold pinnaForm formBits
  ring

theorem formBits_lt (hk : k < 2 ^ 7) : formBits rd ra rb k < 2 ^ 22 := by
  have h1 := rd.isLt
  have h2 := ra.isLt
  have h3 := rb.isLt
  unfold formBits
  omega

/-- The fields of a three-register form. -/
theorem pinnaFields_form (hm : m < 64) (hk : k < 2 ^ 7) : pinnaFields (pinnaForm gd m rd.toNat ra.toNat rb.toNat k) =
    { gd := gd, rd := rd, ra := ra, rb := rb, fn := k, imm := BitVec.ofNat 12 (rb.toNat * 2 ^ 7 + k) } := by
  have h1 := rd.isLt
  have h2 := ra.isLt
  have h3 := rb.isLt
  rw [pinnaForm_eq, pinnaFields_head hm (formBits_lt hk), PinnaFields.mk.injEq]
  refine ⟨rfl, ?_, ?_, ?_, ?_, ?_⟩
  case refine_4 => unfold formBits; omega
  all_goals
    apply BitVec.eq_of_toNat_eq
    rw [BitVec.toNat_ofNat, formBits]
  · omega
  · omega
  · omega
  · rw [BitVec.toNat_ofNat]
    omega

theorem pinnaForm_lt (hm : m < 64) (hk : k < 2 ^ 7) : pinnaForm gd m rd.toNat ra.toNat rb.toNat k < 2 ^ 32 := by
  rw [pinnaForm_eq]
  exact pinnaHead_add_lt hm (formBits_lt hk)

theorem major_pinnaForm (hm : m < 64) (hk : k < 2 ^ 7) : pinnaForm gd m rd.toNat ra.toNat rb.toNat k / 2 ^ 22 % 2 ^ 6 = m := by
  rw [pinnaForm_eq]
  exact major_pinnaHead hm (formBits_lt hk)

/-- A form with a 12-bit immediate in the places of RB and FN. -/
theorem pinnaForm_imm (hn : n < 2 ^ 12) : pinnaForm gd m rd.toNat ra.toNat 0 n =
    pinnaForm gd m rd.toNat ra.toNat (BitVec.ofNat 5 (n / 2 ^ 7)).toNat (n % 2 ^ 7) := by
  have hrb : (BitVec.ofNat 5 (n / 2 ^ 7)).toNat = n / 2 ^ 7 := by
    rw [BitVec.toNat_ofNat]
    omega
  rw [hrb]
  unfold pinnaForm
  omega

/-! ### A word of the encoding decodes to its instruction -/

/-- The word is one of 32 bits and decodes to the instruction. -/
def RoundTrips (u : Fin 8) (w : Nat) (c : Instr) : Prop := w < 2 ^ 32 ∧ decodePinna u w = some c

/-- A three-register form of a MAJOR whose decoder reads the fields alone. -/
theorem roundTrips_form {d : PinnaFields → Option Instr} (hm : m < 64) (hk : k < 2 ^ 7)
    (hmajor : ∀ w, w / 2 ^ 22 % 2 ^ 6 = m → decodePinna u w = d (pinnaFields w))
    (hd : d { gd := gd, rd := rd, ra := ra, rb := rb, fn := k, imm := BitVec.ofNat 12 (rb.toNat * 2 ^ 7 + k) } = some c) :
    RoundTrips u (pinnaForm gd m rd.toNat ra.toNat rb.toNat k) c :=
  ⟨pinnaForm_lt hm hk, by rw [hmajor _ (major_pinnaForm hm hk), pinnaFields_form hm hk, hd]⟩

/-- The same with an immediate of 12 bits in the places of RB and FN. -/
theorem roundTrips_imm {mk : Guard → BitVec 5 → BitVec 5 → BitVec 12 → Instr} {imm : BitVec 12} (hm : m < 64)
    (hmajor : ∀ w, w / 2 ^ 22 % 2 ^ 6 = m →
      decodePinna u w = some (mk (pinnaFields w).gd (pinnaFields w).rd (pinnaFields w).ra (pinnaFields w).imm)) :
    RoundTrips u (pinnaForm gd m rd.toNat ra.toNat 0 imm.toNat) (mk gd rd ra imm) := by
  have hlt := imm.isLt
  have himm : BitVec.ofNat 12 ((BitVec.ofNat 5 (imm.toNat / 2 ^ 7)).toNat * 2 ^ 7 + imm.toNat % 2 ^ 7) = imm := by
    apply BitVec.eq_of_toNat_eq
    rw [BitVec.toNat_ofNat, BitVec.toNat_ofNat]
    omega
  rw [pinnaForm_imm hlt]
  refine roundTrips_form (d := fun f => some (mk f.gd f.rd f.ra f.imm)) hm (Nat.mod_lt _ (by decide)) hmajor ?_
  rw [himm]

/-- MOVI and MOVHI: 16 bits of immediate, bit 16 zero. -/
theorem roundTrips_imm16 {mk : Guard → BitVec 5 → BitVec 16 → Instr} {imm : BitVec 16} (hm : m < 64)
    (hmajor : ∀ w, w / 2 ^ 22 % 2 ^ 6 = m →
      decodePinna u w = if bitOf w 16 then none else some (mk (pinnaFields w).gd (pinnaFields w).rd (BitVec.ofNat 16 w))) :
    RoundTrips u (pinnaForm gd m rd.toNat 0 0 imm.toNat) (mk gd rd imm) := by
  have hrd := rd.isLt
  have hlt := imm.isLt
  have hform : pinnaForm gd m rd.toNat 0 0 imm.toNat = pinnaHead gd m + (rd.toNat * 2 ^ 17 + imm.toNat) := by
    unfold pinnaForm
    ring
  have hlow : rd.toNat * 2 ^ 17 + imm.toNat < 2 ^ 22 := by omega
  have hbit : bitOf (pinnaHead gd m + (rd.toNat * 2 ^ 17 + imm.toNat)) 16 = false := by
    rw [bitOf, beq_eq_false_iff_ne, pinnaHead_eq]
    omega
  have hrd' : BitVec.ofNat 5 ((rd.toNat * 2 ^ 17 + imm.toNat) / 2 ^ 17) = rd := by
    apply BitVec.eq_of_toNat_eq
    rw [BitVec.toNat_ofNat]
    omega
  have himm : BitVec.ofNat 16 (pinnaHead gd m + (rd.toNat * 2 ^ 17 + imm.toNat)) = imm := by
    apply BitVec.eq_of_toNat_eq
    rw [BitVec.toNat_ofNat, pinnaHead_eq]
    omega
  rw [hform]
  refine ⟨pinnaHead_add_lt hm hlow, ?_⟩
  rw [hmajor _ (major_pinnaHead hm hlow), hbit, pinnaFields_head hm hlow, hrd', himm]
  rfl

/-- BR and CALL: 22 bits of immediate. -/
theorem roundTrips_imm22 {mk : Guard → BitVec 22 → Instr} {imm : BitVec 22} (hm : m < 64)
    (hmajor : ∀ w, w / 2 ^ 22 % 2 ^ 6 = m → decodePinna u w = some (mk (pinnaFields w).gd (BitVec.ofNat 22 w))) :
    RoundTrips u (pinnaHead gd m + imm.toNat) (mk gd imm) := by
  have himm : BitVec.ofNat 22 (pinnaHead gd m + imm.toNat) = imm := by
    apply BitVec.eq_of_toNat_eq
    rw [BitVec.toNat_ofNat, low_pinnaHead imm.isLt]
  refine ⟨pinnaHead_add_lt hm imm.isLt, ?_⟩
  rw [hmajor _ (major_pinnaHead hm imm.isLt), pinnaFields_head hm imm.isLt, himm]

/-- Table 19.4. -/
theorem roundTrips_regForm (hk : k < 2 ^ 7)
    (hd : decodeRegForm u { gd := gd, rd := rd, ra := ra, rb := rb, fn := k, imm := BitVec.ofNat 12 (rb.toNat * 2 ^ 7 + k) } = some c) :
    RoundTrips u (pinnaForm gd 0x00 rd.toNat ra.toNat rb.toNat k) c :=
  roundTrips_form (by decide) hk (fun w h => by simp only [decodePinna, h]) hd

/-- PERM of an even pair is decoded. -/
theorem decode_perm {f : PinnaFields} (hfn : f.fn = 0x14) (heven : (f.ra.toNat % 2 == 0) = true) :
    decodeRegForm u f = some (.perm u f.gd f.rd f.ra f.rb) := by
  have hbit : f.ra.getLsbD 0 = false := by rw [perm_illegal, heven, Bool.not_true]
  simp only [decodeRegForm, hfn, hbit, Bool.false_eq_true, if_false]

/-- The instruction of a bit-field operation, FN [1:0]. -/
def bitFieldRow (u : Fin 8) (gd : Guard) (rd ra pos wm1 : BitVec 5) : Nat → Option Instr
  | 0 => some (.bfx u gd rd ra pos wm1)
  | 1 => some (.bfxs u gd rd ra pos wm1)
  | 2 => some (.bfi u gd rd ra pos wm1)
  | _ => none

theorem decodeBitField_eq {f : PinnaFields} : decodeBitField u f =
    if f.rb.toNat + (BitVec.ofNat 5 (f.fn / 4)).toNat + 1 > 32 then none
    else bitFieldRow u f.gd f.rd f.ra f.rb (BitVec.ofNat 5 (f.fn / 4)) (f.fn % 4) := by
  rfl

/-- The bit-field form: FN [1:0] is the operation, FN [6:2] is WIDTH - 1. -/
theorem roundTrips_bitField {pos wm1 : BitVec 5} {t : Nat} (ht : t < 4) (hfit : decide (pos.toNat + wm1.toNat < 32) = true)
    (hrow : bitFieldRow u gd rd ra pos wm1 t = some c) :
    RoundTrips u (pinnaForm gd 0x08 rd.toNat ra.toNat pos.toNat (4 * wm1.toNat + t)) c := by
  have hlt := wm1.isLt
  have hwidth : BitVec.ofNat 5 ((4 * wm1.toNat + t) / 4) = wm1 := by
    apply BitVec.eq_of_toNat_eq
    rw [BitVec.toNat_ofNat]
    omega
  have hop : (4 * wm1.toNat + t) % 4 = t := by omega
  have hin : ¬ pos.toNat + wm1.toNat + 1 > 32 := by
    have := of_decide_eq_true hfit
    omega
  refine roundTrips_form (d := decodeBitField u) (by decide) (by omega) (fun w h => by simp only [decodePinna, h]) ?_
  rw [decodeBitField_eq]
  simp only [hwidth, hop, hin, if_false, hrow]

/-! A predicate or a special register in a field of five bits. -/

theorem toNat_setWidth_five {j : Nat} (hj : j ≤ 5) {x : BitVec j} : (x.setWidth 5).toNat = x.toNat := by
  rw [BitVec.toNat_setWidth, Nat.mod_eq_of_lt (lt_of_lt_of_le x.isLt (Nat.pow_le_pow_right (by decide) hj))]

theorem asP_setWidth {x : PReg} : asP (x.setWidth 5) = x := by
  revert x
  decide

theorem asS_setWidth {x : SReg} : asS (x.setWidth 5) = x := by
  revert x
  decide

theorem predField_lt {x : PReg} : (x.setWidth 5 : BitVec 5).toNat < 8 := by
  rw [toNat_setWidth_five (by decide)]
  exact x.isLt

/-- CMP. -/
theorem roundTrips_cmp {pd : PReg} {cond : BitVec 3} :
    RoundTrips u (pinnaForm gd 0x0A pd.toNat ra.toNat rb.toNat cond.toNat) (.cmp u gd pd ra rb cond) := by
  have hcond := cond.isLt
  rw [← toNat_setWidth_five (x := pd) (by decide)]
  refine roundTrips_form (d := fun f => if f.rd.toNat < 8 ∧ f.fn < 8 then
    some (.cmp u f.gd (asP f.rd) f.ra f.rb (BitVec.ofNat 3 f.fn)) else none) (by decide) (by omega)
    (fun w h => by simp only [decodePinna, h]) ?_
  simp only [predField_lt, hcond, asP_setWidth, BitVec.ofNat_toNat, BitVec.setWidth_eq, and_self, if_true]

/-- CMPI: the condition and nine bits of immediate in the places of RB and FN. -/
theorem roundTrips_cmpi {pd : PReg} {cond : BitVec 3} {imm : BitVec 9} :
    RoundTrips u (pinnaForm gd 0x0B pd.toNat ra.toNat 0 (cond.toNat * 2 ^ 9 + imm.toNat)) (.cmpi u gd pd ra cond imm) := by
  have hpd := pd.isLt
  have hra := ra.isLt
  have hcond := cond.isLt
  have himm := imm.isLt
  have hform : pinnaForm gd 0x0B pd.toNat ra.toNat 0 (cond.toNat * 2 ^ 9 + imm.toNat) =
      pinnaHead gd 0x0B + (pd.toNat * 2 ^ 17 + ra.toNat * 2 ^ 12 + cond.toNat * 2 ^ 9 + imm.toNat) := by
    unfold pinnaForm
    ring
  obtain ⟨low, hlow⟩ : ∃ low, low = pd.toNat * 2 ^ 17 + ra.toNat * 2 ^ 12 + cond.toNat * 2 ^ 9 + imm.toNat := ⟨_, rfl⟩
  rw [← hlow] at hform
  have hlt : low < 2 ^ 22 := by omega
  have hrd : BitVec.ofNat 5 (low / 2 ^ 17) = pd.setWidth 5 := by
    apply BitVec.eq_of_toNat_eq
    rw [BitVec.toNat_ofNat, toNat_setWidth_five (by decide)]
    omega
  have hra' : BitVec.ofNat 5 (low / 2 ^ 12) = ra := by
    apply BitVec.eq_of_toNat_eq
    rw [BitVec.toNat_ofNat]
    omega
  have hcond' : BitVec.ofNat 3 ((pinnaHead gd 0x0B + low) / 2 ^ 9) = cond := by
    apply BitVec.eq_of_toNat_eq
    rw [field_pinnaHead (by decide), BitVec.toNat_ofNat]
    omega
  have himm' : BitVec.ofNat 9 (pinnaHead gd 0x0B + low) = imm := by
    apply BitVec.eq_of_toNat_eq
    rw [BitVec.toNat_ofNat, pinnaHead_eq]
    omega
  rw [hform]
  refine ⟨pinnaHead_add_lt (by decide) hlt, ?_⟩
  simp only [decodePinna, major_pinnaHead (by decide : 0x0B < 64) hlt, pinnaFields_head (by decide : 0x0B < 64) hlt, hrd, hra', hcond', himm',
    predField_lt, asP_setWidth, if_true]

/-- The predicate form. -/
theorem roundTrips_pred (hk : k < 2 ^ 7)
    (hd : decodePred u { gd := gd, rd := rd, ra := ra, rb := rb, fn := k, imm := BitVec.ofNat 12 (rb.toNat * 2 ^ 7 + k) } = some c) :
    RoundTrips u (pinnaForm gd 0x0C rd.toNat ra.toNat rb.toNat k) c :=
  roundTrips_form (by decide) hk (fun w h => by simp only [decodePinna, h]) hd

/-- The special form. -/
theorem roundTrips_special (hk : k < 2 ^ 7)
    (hd : decodeSpecial u { gd := gd, rd := rd, ra := ra, rb := rb, fn := k, imm := BitVec.ofNat 12 (rb.toNat * 2 ^ 7 + k) } = some c) :
    RoundTrips u (pinnaForm gd 0x30 rd.toNat ra.toNat rb.toNat k) c :=
  roundTrips_form (by decide) hk (fun w h => by simp only [decodePinna, h]) hd

/-- JR and JALR. -/
theorem roundTrips_jump (hk : k < 2 ^ 7)
    (hd : (if rb ≠ 0 then none
      else if k = 0 then (if rd = 0 then some (.jr u gd ra) else none)
      else if k = 1 then some (.jalr u gd rd ra) else none) = some c) :
    RoundTrips u (pinnaForm gd 0x22 rd.toNat ra.toNat rb.toNat k) c :=
  roundTrips_form (d := fun f => if f.rb ≠ 0 then none else if f.fn = 0 then (if f.rd = 0 then some (.jr u f.gd f.ra) else none)
    else if f.fn = 1 then some (.jalr u f.gd f.rd f.ra) else none) (by decide) hk (fun w h => by simp only [decodePinna, h]) hd

/-- SLEEP: every other bit is zero. -/
theorem roundTrips_sleep : RoundTrips u (pinnaHead gd 0x3D) (.sleep u gd) := by
  have hlow : pinnaHead gd 0x3D = pinnaHead gd 0x3D + 0 := rfl
  rw [hlow]
  refine ⟨pinnaHead_add_lt (by decide) (by decide), ?_⟩
  simp only [decodePinna, major_pinnaHead (by decide : 0x3D < 64) (by decide : 0 < 2 ^ 22), low_pinnaHead (by decide : 0 < 2 ^ 22),
    pinnaFields_head (by decide : 0x3D < 64) (by decide : 0 < 2 ^ 22), if_true]

/-- SYS by its service number. -/
theorem roundTrips_sys (hn : n < 2 ^ 22) (hd : decodeSys u gd n = some c) : RoundTrips u (pinnaHead gd 0x3E + n) c := by
  refine ⟨pinnaHead_add_lt (by decide) hn, ?_⟩
  simp only [decodePinna, major_pinnaHead (by decide : 0x3E < 64) hn, low_pinnaHead hn, pinnaFields_head (by decide : 0x3E < 64) hn, hd]

/-- The four instructions of two predicates. -/
theorem roundTrips_preds {pd pa pb : PReg} {row : Guard → PReg → PReg → PReg → Instr} (hk : k < 2 ^ 7)
    (hd : ∀ f : PinnaFields, f.fn = k → decodePred u f =
      if f.rd.toNat < 8 ∧ f.ra.toNat < 8 ∧ f.rb.toNat < 8 then some (row f.gd (asP f.rd) (asP f.ra) (asP f.rb)) else none) :
    RoundTrips u (pinnaForm gd 0x0C pd.toNat pa.toNat pb.toNat k) (row gd pd pa pb) := by
  rw [← toNat_setWidth_five (x := pd) (by decide), ← toNat_setWidth_five (x := pa) (by decide), ← toNat_setWidth_five (x := pb) (by decide)]
  refine roundTrips_pred hk ?_
  rw [hd _ rfl]
  simp only [predField_lt, asP_setWidth, and_self, if_true]

theorem roundTrips_pnot {pd pa : PReg} : RoundTrips u (pinnaForm gd 0x0C pd.toNat pa.toNat 0 4) (.pnot u gd pd pa) := by
  rw [← toNat_setWidth_five (x := pd) (by decide), ← toNat_setWidth_five (x := pa) (by decide)]
  refine roundTrips_pred (rb := 0) (by decide) ?_
  simp only [decodePred, predField_lt, asP_setWidth, and_self, if_true]

theorem roundTrips_mfs {sa : SReg} (h : decide (sa.toNat < 10) = true) :
    RoundTrips u (pinnaForm gd 0x30 rd.toNat sa.toNat 0 0) (.mfs u gd rd sa) := by
  rw [← toNat_setWidth_five (x := sa) (by decide)]
  refine roundTrips_special (rb := 0) (by decide) ?_
  simp only [decodeSpecial, toNat_setWidth_five (by decide : 4 ≤ 5), asS_setWidth, of_decide_eq_true h, ne_eq, not_true, if_false, if_true]

theorem roundTrips_mts {sd : SReg} (h : [4, 5, 6, 7].contains sd.toNat = true) :
    RoundTrips u (pinnaForm gd 0x30 sd.toNat ra.toNat 0 1) (.mts u gd sd ra) := by
  have hrange : 4 ≤ sd.toNat ∧ sd.toNat < 8 := by
    revert h
    revert sd
    decide
  rw [← toNat_setWidth_five (x := sd) (by decide)]
  refine roundTrips_special (rb := 0) (by decide) ?_
  simp only [decodeSpecial, toNat_setWidth_five (by decide : 4 ≤ 5), asS_setWidth, hrange, ne_eq, not_true, if_false, and_self, if_true]

/-- A service number of 6 or more. -/
theorem decodeSys_invalid (h : 6 ≤ n) (hn : n < 2 ^ 16) : decodeSys u gd n = some (.sysInvalid u gd (BitVec.ofNat 16 n)) := by
  rw [decodeSys, if_neg (by omega)] <;> omega

theorem roundTrips_sysInvalid {service : BitVec 16} (h : decide (6 ≤ service.toNat) = true) :
    RoundTrips u (pinnaHead gd 0x3E + service.toNat) (.sysInvalid u gd service) := by
  have hlt := service.isLt
  refine roundTrips_sys (by omega) ?_
  rw [decodeSys_invalid (of_decide_eq_true h) hlt, BitVec.ofNat_toNat, BitVec.setWidth_eq]

/-- Every well-formed instruction of the tables is read back from its word. -/
theorem roundTrips_encode (he : encodePinna c = some w) (hu : pinnaUnit c = some u) (hwf : wellFormed c = true) : RoundTrips u w c := by
  cases c <;> cases he <;> cases hu
  case add => exact roundTrips_regForm (by decide) rfl
  case sub => exact roundTrips_regForm (by decide) rfl
  case andR => exact roundTrips_regForm (by decide) rfl
  case orR => exact roundTrips_regForm (by decide) rfl
  case xorR => exact roundTrips_regForm (by decide) rfl
  case andn => exact roundTrips_regForm (by decide) rfl
  case sll => exact roundTrips_regForm (by decide) rfl
  case srl => exact roundTrips_regForm (by decide) rfl
  case sra => exact roundTrips_regForm (by decide) rfl
  case ror => exact roundTrips_regForm (by decide) rfl
  case slli => exact roundTrips_regForm (by decide) rfl
  case srli => exact roundTrips_regForm (by decide) rfl
  case srai => exact roundTrips_regForm (by decide) rfl
  case rori => exact roundTrips_regForm (by decide) rfl
  case minS => exact roundTrips_regForm (by decide) rfl
  case maxS => exact roundTrips_regForm (by decide) rfl
  case minu => exact roundTrips_regForm (by decide) rfl
  case maxu => exact roundTrips_regForm (by decide) rfl
  case mul => exact roundTrips_regForm (by decide) rfl
  case mulh => exact roundTrips_regForm (by decide) rfl
  case mulhu => exact roundTrips_regForm (by decide) rfl
  case mulhsu => exact roundTrips_regForm (by decide) rfl
  case divS => exact roundTrips_regForm (by decide) rfl
  case divu => exact roundTrips_regForm (by decide) rfl
  case remS => exact roundTrips_regForm (by decide) rfl
  case remu => exact roundTrips_regForm (by decide) rfl
  case clz => exact roundTrips_regForm (rb := 0) (by decide) rfl
  case popc => exact roundTrips_regForm (rb := 0) (by decide) rfl
  case addi u _ _ _ _ => exact roundTrips_imm (mk := Instr.addi u) (by decide) (fun w h => by simp only [decodePinna, h])
  case andi u _ _ _ _ => exact roundTrips_imm (mk := Instr.andi u) (by decide) (fun w h => by simp only [decodePinna, h])
  case ori u _ _ _ _ => exact roundTrips_imm (mk := Instr.ori u) (by decide) (fun w h => by simp only [decodePinna, h])
  case xori u _ _ _ _ => exact roundTrips_imm (mk := Instr.xori u) (by decide) (fun w h => by simp only [decodePinna, h])
  case ldw u _ _ _ _ => exact roundTrips_imm (mk := Instr.ldw u) (by decide) (fun w h => by simp only [decodePinna, h])
  case ldh u _ _ _ _ => exact roundTrips_imm (mk := Instr.ldh u) (by decide) (fun w h => by simp only [decodePinna, h])
  case ldhs u _ _ _ _ => exact roundTrips_imm (mk := Instr.ldhs u) (by decide) (fun w h => by simp only [decodePinna, h])
  case ldb u _ _ _ _ => exact roundTrips_imm (mk := Instr.ldb u) (by decide) (fun w h => by simp only [decodePinna, h])
  case ldbs u _ _ _ _ => exact roundTrips_imm (mk := Instr.ldbs u) (by decide) (fun w h => by simp only [decodePinna, h])
  case stw u _ _ _ _ => exact roundTrips_imm (mk := Instr.stw u) (by decide) (fun w h => by simp only [decodePinna, h])
  case sth u _ _ _ _ => exact roundTrips_imm (mk := Instr.sth u) (by decide) (fun w h => by simp only [decodePinna, h])
  case stb u _ _ _ _ => exact roundTrips_imm (mk := Instr.stb u) (by decide) (fun w h => by simp only [decodePinna, h])
  case movi u _ _ _ => exact roundTrips_imm16 (mk := Instr.movi u) (by decide) (fun w h => by simp only [decodePinna, h])
  case movhi u _ _ _ => exact roundTrips_imm16 (mk := Instr.movhi u) (by decide) (fun w h => by simp only [decodePinna, h])
  case cmp => exact roundTrips_cmp
  case cmpi => exact roundTrips_cmpi
  case br u _ _ => exact roundTrips_imm22 (mk := Instr.br u) (by decide) (fun w h => by simp only [decodePinna, h])
  case call u _ _ => exact roundTrips_imm22 (mk := Instr.call u) (by decide) (fun w h => by simp only [decodePinna, h])
  case bfx => exact roundTrips_bitField (t := 0) (by decide) hwf rfl
  case bfxs => exact roundTrips_bitField (t := 1) (by decide) hwf rfl
  case bfi => exact roundTrips_bitField (t := 2) (by decide) hwf rfl
  case perm => exact roundTrips_regForm (by decide) (decode_perm rfl hwf)
  case pand u _ _ _ _ => exact roundTrips_preds (row := Instr.pand u) (by decide) (fun f h => by simp only [decodePred, h])
  case por u _ _ _ _ => exact roundTrips_preds (row := Instr.por u) (by decide) (fun f h => by simp only [decodePred, h])
  case pxor u _ _ _ _ => exact roundTrips_preds (row := Instr.pxor u) (by decide) (fun f h => by simp only [decodePred, h])
  case pandn u _ _ _ _ => exact roundTrips_preds (row := Instr.pandn u) (by decide) (fun f h => by simp only [decodePred, h])
  case pnot => exact roundTrips_pnot
  case prd => exact roundTrips_pred (ra := 0) (rb := 0) (by decide) rfl
  case pwr => exact roundTrips_pred (rd := 0) (rb := 0) (by decide) rfl
  case jr => exact roundTrips_jump (rd := 0) (rb := 0) (by decide) rfl
  case jalr => exact roundTrips_jump (rb := 0) (by decide) rfl
  case mfs => exact roundTrips_mfs hwf
  case mts => exact roundTrips_mts hwf
  case sleep => exact roundTrips_sleep
  case sysExit => exact roundTrips_sys (n := 0) (by decide) rfl
  case sysAbort => exact roundTrips_sys (n := 1) (by decide) rfl
  case sysCommand => exact roundTrips_sys (n := 2) (by decide) rfl
  case copyIn => exact roundTrips_sys (n := 3) (by decide) rfl
  case sysRaise => exact roundTrips_sys (n := 4) (by decide) rfl
  case sysInfo => exact roundTrips_sys (n := 5) (by decide) rfl
  case sysInvalid => exact roundTrips_sysInvalid hwf

/-! ### What decodes is the word of its instruction -/

/-- The instruction has the word, names the unit and is well formed. -/
def Encodes (u : Fin 8) (w : Nat) (c : Instr) : Prop := encodePinna c = some w ∧ pinnaUnit c = some u ∧ wellFormed c = true

/-- A word is its head and its low 22 bits. -/
theorem word_eq_head (hw : w < 2 ^ 32) : pinnaHead (pinnaFields w).gd (w / 2 ^ 22 % 2 ^ 6) + w % 2 ^ 22 = w := by
  have hneg : (if bitOf w 31 then 2 ^ 31 else 0) = w / 2 ^ 31 % 2 * 2 ^ 31 := by
    unfold bitOf
    rcases Nat.mod_two_eq_zero_or_one (w / 2 ^ 31) with h | h <;> rw [h] <;> rfl
  have hpred : (BitVec.ofNat 3 (w / 2 ^ 28)).toNat = w / 2 ^ 28 % 2 ^ 3 := BitVec.toNat_ofNat _ _
  rw [pinnaHead, pinnaFields]
  dsimp only
  rw [hneg, hpred]
  omega

/-- The five fields of a word are its low 22 bits. -/
theorem formBits_fields : formBits (pinnaFields w).rd (pinnaFields w).ra (pinnaFields w).rb (pinnaFields w).fn = w % 2 ^ 22 := by
  simp only [formBits, pinnaFields, BitVec.toNat_ofNat]
  omega

theorem form_word (hw : w < 2 ^ 32) (hm : w / 2 ^ 22 % 2 ^ 6 = m) (hfn : (pinnaFields w).fn = k) :
    pinnaForm (pinnaFields w).gd m (pinnaFields w).rd.toNat (pinnaFields w).ra.toNat (pinnaFields w).rb.toNat k = w := by
  rw [← hm, ← hfn, pinnaForm_eq, formBits_fields, word_eq_head hw]

/-- A form of RD, RA and twelve bits of immediate. -/
theorem immForm_word (hw : w < 2 ^ 32) (hm : w / 2 ^ 22 % 2 ^ 6 = m) :
    pinnaForm (pinnaFields w).gd m (pinnaFields w).rd.toNat (pinnaFields w).ra.toNat 0 (pinnaFields w).imm.toNat = w := by
  have himm : (pinnaFields w).imm.toNat = (pinnaFields w).rb.toNat * 2 ^ 7 + (pinnaFields w).fn := by
    simp only [pinnaFields, BitVec.toNat_ofNat]
    omega
  have hform := form_word hw hm rfl
  unfold pinnaForm at hform ⊢
  omega

/-- The same with RB zero, and with RA or RD zero as well. -/
theorem form_word_rb (hw : w < 2 ^ 32) (hm : w / 2 ^ 22 % 2 ^ 6 = m) (hfn : (pinnaFields w).fn = k) (hrb : (pinnaFields w).rb = 0) :
    pinnaForm (pinnaFields w).gd m (pinnaFields w).rd.toNat (pinnaFields w).ra.toNat 0 k = w := by
  have hform := form_word hw hm hfn
  rwa [hrb] at hform

/-- Table 19.4. -/
theorem regForm_encodes (hw : w < 2 ^ 32) (hm : w / 2 ^ 22 % 2 ^ 6 = 0x00) (hd : decodeRegForm u (pinnaFields w) = some c) :
    Encodes u w c := by
  have hform : ∀ k, (pinnaFields w).fn = k → pinnaForm (pinnaFields w).gd 0x00 (pinnaFields w).rd.toNat (pinnaFields w).ra.toNat
      (pinnaFields w).rb.toNat k = w := fun k hk => form_word hw hm hk
  unfold decodeRegForm at hd
  split at hd
  case h_19 hfn | h_20 hfn => -- CLZ and POPC
    split at hd <;> cases hd
    next hrb => exact ⟨congrArg some (form_word_rb hw hm hfn hrb), rfl, rfl⟩
  case h_21 hfn => -- PERM
    split at hd <;> cases hd
    next hodd =>
      have heven : ((pinnaFields w).ra.toNat % 2 == 0) = true := by
        rw [← Bool.not_eq_false', ← perm_illegal]
        exact Bool.eq_false_iff.mpr hodd
      exact ⟨congrArg some (hform _ hfn), rfl, heven⟩
  case h_30 => cases hd
  all_goals
    cases hd
    exact ⟨congrArg some (hform _ ‹_›), rfl, rfl⟩

/-- MAJOR 0x08: a field that stays below bit 31. -/
theorem bitField_encodes (hw : w < 2 ^ 32) (hm : w / 2 ^ 22 % 2 ^ 6 = 0x08) (hd : decodeBitField u (pinnaFields w) = some c) :
    Encodes u w c := by
  have hfn : (pinnaFields w).fn < 2 ^ 7 := Nat.mod_lt _ (by decide)
  have hwidth : (BitVec.ofNat 5 ((pinnaFields w).fn / 4)).toNat = (pinnaFields w).fn / 4 := by
    rw [BitVec.toNat_ofNat]
    omega
  have hform : ∀ t, (pinnaFields w).fn % 4 = t → pinnaForm (pinnaFields w).gd 0x08 (pinnaFields w).rd.toNat (pinnaFields w).ra.toNat
      (pinnaFields w).rb.toNat (4 * (BitVec.ofNat 5 ((pinnaFields w).fn / 4)).toNat + t) = w := by
    intro t ht
    rw [hwidth]
    exact form_word hw hm (by omega)
  rw [decodeBitField_eq] at hd
  split at hd
  · cases hd
  next hin =>
    have hfit : decide ((pinnaFields w).rb.toNat + (BitVec.ofNat 5 ((pinnaFields w).fn / 4)).toNat < 32) = true :=
      decide_eq_true (by omega)
    unfold bitFieldRow at hd
    split at hd
    case h_4 => cases hd
    all_goals
      cases hd
      exact ⟨congrArg some (hform _ ‹_›), rfl, hfit⟩

theorem toNat_asP {x : BitVec 5} (h : x.toNat < 8) : (asP x).toNat = x.toNat := by
  rw [asP, BitVec.toNat_setWidth]
  omega

theorem toNat_asS {x : BitVec 5} (h : x.toNat < 16) : (asS x).toNat = x.toNat := by
  rw [asS, BitVec.toNat_setWidth]
  omega

/-- MAJOR 0x0A. -/
theorem cmp_encodes (hw : w < 2 ^ 32) (hm : w / 2 ^ 22 % 2 ^ 6 = 0x0A) (hrd : (pinnaFields w).rd.toNat < 8) (hfn : (pinnaFields w).fn < 8) :
    Encodes u w (.cmp u (pinnaFields w).gd (asP (pinnaFields w).rd) (pinnaFields w).ra (pinnaFields w).rb
      (BitVec.ofNat 3 (pinnaFields w).fn)) := by
  refine ⟨congrArg some ?_, rfl, rfl⟩
  rw [toNat_asP hrd, BitVec.toNat_ofNat, Nat.mod_eq_of_lt hfn]
  exact form_word hw hm rfl

/-- MAJOR 0x0B. -/
theorem cmpi_encodes (hw : w < 2 ^ 32) (hm : w / 2 ^ 22 % 2 ^ 6 = 0x0B) (hrd : (pinnaFields w).rd.toNat < 8) :
    Encodes u w (.cmpi u (pinnaFields w).gd (asP (pinnaFields w).rd) (pinnaFields w).ra (BitVec.ofNat 3 (w / 2 ^ 9)) (BitVec.ofNat 9 w)) := by
  have himm : (BitVec.ofNat 3 (w / 2 ^ 9)).toNat * 2 ^ 9 + (BitVec.ofNat 9 w).toNat = (pinnaFields w).imm.toNat := by
    simp only [pinnaFields, BitVec.toNat_ofNat]
    omega
  refine ⟨congrArg some ?_, rfl, rfl⟩
  rw [toNat_asP hrd, himm]
  exact immForm_word hw hm

/-- MOVI and MOVHI: bit 16 is zero. -/
theorem imm16_word (hw : w < 2 ^ 32) (hm : w / 2 ^ 22 % 2 ^ 6 = m) (hbit : ¬ bitOf w 16 = true) :
    pinnaForm (pinnaFields w).gd m (pinnaFields w).rd.toNat 0 0 (BitVec.ofNat 16 w).toNat = w := by
  have hhead := word_eq_head hw
  have hrd : (pinnaFields w).rd.toNat = w / 2 ^ 17 % 2 ^ 5 := BitVec.toNat_ofNat _ _
  have hzero : w / 2 ^ 16 % 2 ≠ 1 := fun e => hbit (beq_iff_eq.mpr e)
  rw [hm] at hhead
  rw [pinnaForm, hrd, BitVec.toNat_ofNat]
  omega

/-- BR and CALL. -/
theorem imm22_word (hw : w < 2 ^ 32) (hm : w / 2 ^ 22 % 2 ^ 6 = m) : pinnaHead (pinnaFields w).gd m + (BitVec.ofNat 22 w).toNat = w := by
  rw [BitVec.toNat_ofNat, ← hm, word_eq_head hw]

/-- MAJOR 0x0C: the fields of predicates are below 8, the others zero. -/
theorem pred_encodes (hw : w < 2 ^ 32) (hm : w / 2 ^ 22 % 2 ^ 6 = 0x0C) (hd : decodePred u (pinnaFields w) = some c) : Encodes u w c := by
  simp only [decodePred] at hd
  split at hd
  case h_8 => cases hd
  all_goals split at hd <;> cases hd
  case h_1 hfn h | h_2 hfn h | h_3 hfn h | h_4 hfn h =>
    obtain ⟨hpd, hpa, hpb⟩ := h
    refine ⟨congrArg some ?_, rfl, rfl⟩
    rw [toNat_asP hpd, toNat_asP hpa, toNat_asP hpb]
    exact form_word hw hm hfn
  case h_5 hfn h =>
    obtain ⟨hpd, hpa, hrb⟩ := h
    refine ⟨congrArg some ?_, rfl, rfl⟩
    rw [toNat_asP hpd, toNat_asP hpa]
    exact form_word_rb hw hm hfn hrb
  case h_6 hfn h =>
    obtain ⟨hra, hrb⟩ := h
    have hform := form_word_rb hw hm hfn hrb
    rw [hra] at hform
    exact ⟨congrArg some hform, rfl, rfl⟩
  case h_7 hfn h =>
    obtain ⟨hrd, hrb⟩ := h
    have hform := form_word_rb hw hm hfn hrb
    rw [hrd] at hform
    exact ⟨congrArg some hform, rfl, rfl⟩

/-- MAJOR 0x30: a special register that exists, or one with a writable field. -/
theorem special_encodes (hw : w < 2 ^ 32) (hm : w / 2 ^ 22 % 2 ^ 6 = 0x30) (hd : decodeSpecial u (pinnaFields w) = some c) :
    Encodes u w c := by
  unfold decodeSpecial at hd
  split at hd
  · cases hd
  next hrb =>
    split at hd
    case h_3 => cases hd
    all_goals split at hd <;> cases hd
    case h_1 hfn hra =>
      have hsa := toNat_asS (x := (pinnaFields w).ra) (by omega)
      refine ⟨congrArg some ?_, rfl, decide_eq_true (by rw [hsa]; exact hra)⟩
      rw [hsa]
      exact form_word_rb hw hm hfn (not_not.mp hrb)
    case h_2 hfn hrd =>
      obtain ⟨hlo, hhi⟩ := hrd
      have hsd := toNat_asS (x := (pinnaFields w).rd) (by omega)
      have hwritable : [4, 5, 6, 7].contains (asS (pinnaFields w).rd).toNat = true := by
        rw [hsd, List.contains_iff_mem]
        simp only [List.mem_cons, List.not_mem_nil, or_false]
        omega
      refine ⟨congrArg some ?_, rfl, hwritable⟩
      rw [hsd]
      exact form_word_rb hw hm hfn (not_not.mp hrb)

/-- MAJOR 0x3E: the service number stands in the low 16 bits, the rest is zero. -/
theorem sys_encodes (hw : w < 2 ^ 32) (hm : w / 2 ^ 22 % 2 ^ 6 = 0x3E) (hd : decodeSys u (pinnaFields w).gd (w % 2 ^ 22) = some c) :
    Encodes u w c := by
  have hword : ∀ n, w % 2 ^ 22 = n → pinnaHead (pinnaFields w).gd 0x3E + n = w := fun n hn => by rw [← hn, ← hm, word_eq_head hw]
  unfold decodeSys at hd
  split at hd
  · cases hd
  next hlow =>
    split at hd
    case h_7 h0 h1 h2 h3 h4 h5 =>
      have hservice : (BitVec.ofNat 16 (w % 2 ^ 22)).toNat = w % 2 ^ 22 := by
        rw [BitVec.toNat_ofNat]
        omega
      cases hd
      refine ⟨congrArg some ?_, rfl, decide_eq_true ?_⟩ <;> rw [hservice]
      · exact hword _ rfl
      · simp only [imp_false] at h0 h1 h2 h3 h4 h5
        omega
    all_goals
      cases hd
      exact ⟨congrArg some (hword _ ‹_›), rfl, rfl⟩

/-- MAJOR 0x22: JR and JALR. -/
theorem jump_encodes (hw : w < 2 ^ 32) (hm : w / 2 ^ 22 % 2 ^ 6 = 0x22)
    (hd : (if (pinnaFields w).rb ≠ 0 then none
      else if (pinnaFields w).fn = 0 then
        (if (pinnaFields w).rd = 0 then some (Instr.jr u (pinnaFields w).gd (pinnaFields w).ra) else none)
      else if (pinnaFields w).fn = 1 then some (.jalr u (pinnaFields w).gd (pinnaFields w).rd (pinnaFields w).ra) else none) = some c) :
    Encodes u w c := by
  split at hd
  · cases hd
  next hrb =>
    split at hd
    next hfn =>
      split at hd <;> cases hd
      next hrd =>
        have hform := form_word_rb hw hm hfn (not_not.mp hrb)
        rw [hrd] at hform
        exact ⟨congrArg some hform, rfl, rfl⟩
    next =>
      split at hd <;> cases hd
      next hfn => exact ⟨congrArg some (form_word_rb hw hm hfn (not_not.mp hrb)), rfl, rfl⟩

/-- MAJOR 0x3D: every other bit is zero. -/
theorem sleep_word (hw : w < 2 ^ 32) (hm : w / 2 ^ 22 % 2 ^ 6 = 0x3D) (hlow : w % 2 ^ 22 = 0) : pinnaHead (pinnaFields w).gd 0x3D = w := by
  have hhead := word_eq_head hw
  rwa [hm, hlow, Nat.add_zero] at hhead

/-- A word that decodes is the word of what it gives. -/
theorem decode_encodes (hw : w < 2 ^ 32) (hd : decodePinna u w = some c) : Encodes u w c := by
  simp only [decodePinna] at hd
  split at hd
  case h_1 hm => exact regForm_encodes hw hm hd
  case h_6 hm | h_7 hm => -- MOVI and MOVHI
    split at hd <;> cases hd
    next hbit => exact ⟨congrArg some (imm16_word hw hm hbit), rfl, rfl⟩
  case h_8 hm => exact bitField_encodes hw hm hd
  case h_9 hm =>
    split at hd <;> cases hd
    next h => exact cmp_encodes hw hm h.1 h.2
  case h_10 hm =>
    split at hd <;> cases hd
    next h => exact cmpi_encodes hw hm h
  case h_11 hm => exact pred_encodes hw hm hd
  case h_20 hm | h_21 hm => -- BR and CALL
    cases hd
    exact ⟨congrArg some (imm22_word hw hm), rfl, rfl⟩
  case h_22 hm => exact jump_encodes hw hm hd
  case h_23 hm => exact special_encodes hw hm hd
  case h_24 hm =>
    split at hd <;> cases hd
    next hlow => exact ⟨congrArg some (sleep_word hw hm hlow), rfl, rfl⟩
  case h_25 hm => exact sys_encodes hw hm hd
  case h_26 => cases hd
  all_goals -- the forms with twelve bits of immediate
    cases hd
    exact ⟨congrArg some (immForm_word hw ‹_›), rfl, rfl⟩

/-- Settles O30: the word of each form is read back, and each word that decodes is split into its fields. -/
theorem pinnaDecodeOfEncode : Obligations.PinnaDecodeOfEncode := by
  unfold Obligations.PinnaDecodeOfEncode
  exact ⟨fun c u w he hu hwf => roundTrips_encode he hu hwf, fun u w c hw hd => decode_encodes hw hd⟩

end Sys2Proof.Proofs
end

section
/-! SUPPORT. PINNA_MODE where two jobs carry one entry (R849), and the refutation of O48. -/

namespace Sys2Proof.Proofs
open Sys2Proof Sys2Proof.Machine Sys2Proof.Claims

/-- PINNA_MODE to paired mode, with its CONFIRM. -/
def modeCmd : Cmd :=
  { fn := 0, q := 0, issuer := .host, tag := 0, flags := 0, format := 1, rsv := 0, params := 0xF3FA0000 }

/-- A device that serves function 0, with PINNA_MODE just fetched and an APPLET_INVOKE in flight under the same tag. -/
def twoJobs : State := { State.reset with
  boot := { state := .ready }
  fns := [(0, { busMaster := true })]
  jobs := [{ op := 0x0C05, cmd := modeCmd }, { op := 0x0C03, cmd := modeCmd, begun := true }] }

/-- The job as which PINNA_MODE starts. -/
def modeJob : Job := { op := 0x0C05, cmd := modeCmd, stage := .waiting, begun := true }

theorem modeJob_starts : Starts 0x0C05 modeCmd twoJobs modeJob := by
  rfl

/-- The open flash operations of a device that goes on. -/
def flashOpsOf : Host.Outcome State Fault Refusal → List FlashOp
  | .next t => t.flash.ops
  | _ => []

/-- Refutes O48: a command starts by taking the place of every job under its function, pair, tag and issuer, so an invocation under the tag of
PINNA_MODE itself is no longer in flight when the command looks for one, and the mode is recorded where the statement has NOT_IDLE. -/
theorem not_appletCommands : ¬ Obligations.AppletCommands := by
  unfold Obligations.AppletCommands
  intro h
  obtain ⟨-, -, -, -, hmode⟩ := h twoJobs modeCmd modeJob
  obtain ⟨hbusy, -⟩ := hmode modeJob_starts (by decide +kernel) (by decide +kernel)
  have hanswer := congrArg flashOpsOf (hbusy (by decide))
  rw [flashOpsOf, post_flash] at hanswer
  exact absurd hanswer (by decide +kernel)

end Sys2Proof.Proofs
end

section
/-! SUPPORT. How invocations come to their units, leave them and return, and what wakes a unit (R804, R823 to R825, R841 to R846), and O49. -/

namespace Sys2Proof.Proofs
open Sys2Proof Sys2Proof.Machine Sys2Proof.Claims

variable {s t : State} {j : Job} {u v : Fin 8} {i : Inv} {p : Pinna}

theorem exec_invocationDispatch : exec .invocationDispatch s = execInvocationDispatch s := rfl
theorem exec_quantumBoundary : exec .quantumBoundary s = execQuantumBoundary s := rfl
theorem exec_invocationResume : exec (.invocationResume u) s = execInvocationResume u s := rfl
theorem exec_budgetExpiry : exec (.budgetExpiry u) s = execBudgetExpiry u s := rfl
theorem exec_wakecmpMatch : exec (.wakecmpMatch u) s = execWakecmpMatch u s := rfl
theorem exec_wakeTask : exec (.wakeTask u) s = execWakeTask u s := rfl

/-! ### The dispatch leaves the units alone but the one it starts on -/

theorem replenish_pinnas {kind c : Nat} {fs : List Nat} : (replenish s kind c fs).pinnas = s.pinnas := by
  simp only [replenish]
  split
  · rfl
  · exact List.foldlRecOn fs _ (motive := fun a : State => a.pinnas = s.pinnas) rfl (fun _ ha _ _ => ha)

theorem countClass_pinnas {kind n : Nat} {js : List Job} : (countClass s kind js j n).pinnas = s.pinnas := by
  simp only [countClass]
  split_ifs
  · rfl
  · exact replenish_pinnas
  · exact replenish_pinnas

theorem OnlyEntropy.pinnas (h : OnlyEntropy s t) : t.pinnas = s.pinnas := by
  obtain ⟨e, rfl⟩ := h
  rfl

theorem dmaWrite_pinnas {f : FnId} {a : Nat} {bs : Bytes} : (dmaWrite s f a bs).pinnas = s.pinnas := by
  unfold dmaWrite
  split <;> rfl

/-- The draw of a job of host software writes no unit. -/
theorem startDraw_pinnas (hhost : j.cmd.issuer = .host) (h : startDraw s j = (t, true)) : t.pinnas = s.pinnas := by
  unfold startDraw at h
  split at h
  · cases h
    rfl
  split at h
  next bs s1 hg =>
    have hpinnas : s1.pinnas = s.pinnas := (onlyEntropy_generate hg).pinnas
    split at h
    · cases h
      exact hpinnas
    · dsimp only at h
      split at h <;> cases h
      · simp only [bufWrite, hhost]
        exact dmaWrite_pinnas.trans hpinnas
      · exact hpinnas
  · cases h
  · cases h

theorem pinnaOf_congr (h : t.pinnas = s.pinnas) : pinnaOf t u = pinnaOf s u := by rw [pinnaOf, h, pinnaOf]

theorem pinnaOf_instantiateInv {core : Nat} {tag : BitVec 16} {seed : Bytes} : pinnaOf (instantiateInv s u core tag seed) v = pinnaOf s v := rfl

theorem pinnaOf_touchCache {a : Nat} : pinnaOf (touchCache s a) v = pinnaOf s v := rfl

/-- An invocation whose applet is there and whose seed can be drawn starts on its unit, and changes no other. -/
theorem startInvocation_starts (hhost : j.cmd.issuer = .host) (hdraw : (startDraw s j).2 = true)
    (hin : (SMap.get {} s.pinnas.applets (param j.cmd 0 1)).installed = true)
    (howner : (SMap.get {} s.pinnas.applets (param j.cmd 0 1)).owner = j.cmd.fn) :
    pinnaOf (startInvocation s j u) u = startUnit s j (SMap.get {} s.pinnas.applets (param j.cmd 0 1)) ∧
    ∀ v, v ≠ u → pinnaOf (startInvocation s j u) v = pinnaOf s v := by
  obtain ⟨m, hm⟩ : ∃ m, startDraw s j = (m, true) := ⟨(startDraw s j).1, Prod.ext rfl hdraw⟩
  have hpinnas := startDraw_pinnas hhost hm
  simp only [startInvocation, hin, howner, hm, Bool.not_true, bne_self_eq_false, Bool.or_self, Bool.false_eq_true, if_false]
  exact ⟨pinnaOf_onPinna_same, fun v hv => (pinnaOf_onPinna_ne hv).trans
    (pinnaOf_touchCache.trans (pinnaOf_congr (t := onJob m j.cmd _) hpinnas))⟩

/-! ### The unit as an invocation finds it (R804, R818, R820) -/

theorem gGet_startUnit {x : Applet} : let p := startUnit s j x
    gGet p 1 = BitVec.ofNat 32 (param j.cmd 4 4) ∧ gGet p 2 = BitVec.ofNat 32 (param j.cmd 36 4) ∧
    gGet p 3 = BitVec.ofNat 32 (param j.cmd 16 4) ∧ gGet p 4 = BitVec.ofNat 32 (param j.cmd 32 4) ∧ gGet p 29 = 0x10010000 ∧
    ∀ r : GReg, r ∉ [1, 2, 3, 4, 29] → gGet p r = 0 := by
  have hget : ∀ (m : SMap U32) (k n : Nat) (w : U32), SMap.get 0 (SMap.set 0 m k w) n = if n = k then w else SMap.get 0 m n := by
    intro m k n w
    split
    next h => rw [h, SMap.get_set_same]
    next h => rw [SMap.get_set_ne h]
  simp only [gGet, startUnit, List.foldl_cons, List.foldl_nil, hget]
  refine ⟨rfl, rfl, rfl, rfl, rfl, fun r hr => ?_⟩
  have hne : ∀ k : GReg, k ∈ [1, 2, 3, 4, 29] → ∀ n, k.toNat = n → r.toNat ≠ n := fun k hk n hn e =>
    hr (BitVec.eq_of_toNat_eq (e.trans hn.symm) ▸ hk)
  rw [if_neg (hne 29 (by decide) 29 rfl), if_neg (hne 4 (by decide) 4 rfl), if_neg (hne 3 (by decide) 3 rfl),
    if_neg (hne 2 (by decide) 2 rfl), if_neg (hne 1 (by decide) 1 rfl), SMap.get_nil, ite_self]

theorem pGet_startUnit {x : Applet} {r : PReg} (h : r ≠ 0) : pGet (startUnit s j x) r = false := by
  rw [pGet, if_neg h]
  exact BitVec.getLsbD_zero

/-! ### Suspension (R843, R844) -/

/-- The device at the boundary of the quantum. -/
def atQuantum (s : State) : State :=
  (atInstant s (nextBoundary s.clocks.quantumAt 100000)).onClocks (fun c => { c with quantumAt := nextBoundary s.clocks.quantumAt 100000 })

theorem quantumBoundary_passes (h : waitingClass (atQuantum s) = none) : exec .quantumBoundary s = .next (atQuantum s) := by
  unfold atQuantum at h ⊢
  rw [exec_quantumBoundary]
  simp only [execQuantumBoundary, h]

theorem quantumBoundary_suspends {cls : Nat} (hw : waitingClass (atQuantum s) = some cls)
    (hbusy : (List.finRange 8).any (unitFree (atQuantum s)) = false) (hroom : maySuspend (atQuantum s) = true)
    (hu : lowestInOrder (atQuantum s) ((runningUnits (atQuantum s)).filter (suspendable (atQuantum s) cls)) = some u) :
    exec .quantumBoundary s = .next (suspendSoon (atQuantum s) u) := by
  unfold atQuantum at hw hbusy hroom hu ⊢
  rw [exec_quantumBoundary]
  simp only [execQuantumBoundary, hw, hbusy, hroom, hu, Bool.not_true, Bool.or_self, Bool.false_eq_true, if_false]

/-! ### Resumption (R845) -/

/-- The device after a resumption, but for the stage of the command. -/
def cameBack (s : State) (u : Fin 8) (p : Pinna) (i : Inv) : State :=
  onDrbg ((onPinna s u (fun _ => { p with inv := some { i with since := s.clocks.seta }, drbg := {} })).onPinnas
    (fun x => { x with saved := x.saved.filter (fun e => !(e.1 == u.val && e.2 == p)) })) (.inv u) (fun _ => p.drbg)

theorem pinnaOf_cameBack : pinnaOf (cameBack s u p i) u = { p with inv := some { i with since := s.clocks.seta }, drbg := {} } :=
  pinnaOf_onPinna_same (s := s) (h := fun _ => { p with inv := some { i with since := s.clocks.seta }, drbg := {} })

theorem pinnaOf_cameBack_ne (hv : v ≠ u) : pinnaOf (cameBack s u p i) v = pinnaOf s v :=
  pinnaOf_onPinna_ne (s := s) (h := fun _ => { p with inv := some { i with since := s.clocks.seta }, drbg := {} }) hv

theorem drbgOf_onDrbg {x : State} {k : Inst} {h : Drbg → Drbg} : drbgOf (onDrbg x k h) k = h (drbgOf x k) := by
  simp [drbgOf, onDrbg]

theorem drbgOf_cameBack : drbgOf (cameBack s u p i) (.inv u) = p.drbg := by
  rw [cameBack, drbgOf_onDrbg]

theorem saved_cameBack : (u.val, p) ∉ (cameBack s u p i).pinnas.saved := by
  intro hmem
  have hkept := List.of_mem_filter hmem
  simp only [beq_self_eq_true, Bool.and_self, Bool.not_true, Bool.false_eq_true] at hkept

/-- What comes back: the state of the unit, its generator, one save slot. -/
theorem invocationResume_returns (hsaved : savedFor s u = some p) (hinv : p.inv = some i) (hfree : unitFree s u = true) :
    ∃ t, exec (.invocationResume u) s = .next t ∧ pinnaOf t u = { p with inv := some { i with since := s.clocks.seta }, drbg := {} } ∧
      drbgOf t (.inv u) = p.drbg ∧ (u.val, p) ∉ t.pinnas.saved ∧ ∀ v, v ≠ u → pinnaOf t v = pinnaOf s v := by
  have hrow : execInvocationResume u s = .next (match invokeJob (cameBack s u p i) i with
      | some j => onJob (cameBack s u p i) j.cmd (fun y => { y with stage := .running (.pinna u) })
      | none => cameBack s u p i) := by
    simp only [execInvocationResume, hsaved, hinv, hfree, Bool.not_true, Bool.false_eq_true, if_false]
    rfl
  rw [exec_invocationResume, hrow]
  split
  · exact ⟨_, rfl, pinnaOf_cameBack, drbgOf_cameBack, saved_cameBack, fun v hv => pinnaOf_cameBack_ne hv⟩
  · exact ⟨_, rfl, pinnaOf_cameBack, drbgOf_cameBack, saved_cameBack, fun v hv => pinnaOf_cameBack_ne hv⟩

/-! ### Expiry and wake (R823 to R825, R846) -/

theorem budgetExpiry_traps (hinv : (pinnaOf s u).inv = some i) (hb : (pinnaOf s u).blocked = false)
    (hnow : s.clocks.seta = i.since + (i.quanta * 100000 - i.usedTicks)) :
    exec (.budgetExpiry u) s = .next (trap s u i (pinnaOf s u).pc 7 0) := by
  rw [exec_budgetExpiry]
  simp only [execBudgetExpiry, hinv, hb, atInstant_now hnow, Bool.false_eq_true, if_false]

/-- A unit that is woken: awake, some cycles later. -/
theorem pinnaOf_awaken {h : Pinna → Pinna} : ∃ k, pinnaOf (awaken s u.val h) u = h { pinnaOf s u with asleep := false, cycle := k } :=
  ⟨_, pinnaOf_onPinna_same⟩

theorem wakecmpMatch_matches (hinv : (pinnaOf s u).inv = some i) (hen : (pinnaOf s u).en = true)
    (hnow : s.clocks.seta = (pinnaOf s u).cmpLo.toNat + (pinnaOf s u).cmpHi.toNat * 2 ^ 32) :
    ∃ t, exec (.wakecmpMatch u) s = .next t ∧ (pinnaOf t u).matched = true ∧ (pinnaOf t u).en = false ∧ (pinnaOf t u).asleep = false ∧
      ((pinnaOf s u).asleep = false → pinnaOf t u = { pinnaOf s u with matched := true, en := false, wakePending := true }) := by
  rw [exec_wakecmpMatch]
  simp only [execWakecmpMatch, hinv, hen, atInstant_now hnow, Option.isNone_some, Bool.not_true, Bool.or_self, Bool.false_eq_true, if_false]
  cases ha : (pinnaOf s u).asleep
  case true =>
    obtain ⟨k, hk⟩ := pinnaOf_awaken (s := s) (u := u) (h := fun p => { p with matched := true, en := false })
    refine ⟨_, rfl, ?_, ?_, ?_, fun hn => by cases hn⟩ <;> simp only [if_true, hk]
  case false =>
    refine ⟨_, rfl, ?_, ?_, ?_, fun _ => ?_⟩ <;> simp only [Bool.false_eq_true, if_false, pinnaOf_onPinna_same]
    · exact ha
    · rw [ha, hinv]

/-- A wake reaches a unit that holds an invocation (R825). -/
theorem wakeUnit_reaches (hinv : (pinnaOf s u).inv = some i) : wakeUnit s u.val =
    (if (pinnaOf s u).asleep then awaken s u.val (fun p => { p with wokeTask := true })
      else onPinna s u (fun p => { p with wakePending := true }), true) := by
  have hinv' : (SMap.get {} s.pinnas.units u.val).inv = some i := hinv
  simp only [wakeUnit, hinv', Option.isNone_some, Bool.false_eq_true, if_false]
  split
  next h => rw [if_pos (show (pinnaOf s u).asleep = true from h)]
  next h =>
    rw [if_neg (show ¬ (pinnaOf s u).asleep = true from h)]
    rfl

/-- The wake task of a unit, outside paired mode. -/
theorem taskAction_wakes {put : State → Note → State} {e : Nat} (hsplit : s.pinnas.split = true) (hinv : (pinnaOf s u).inv = some i) :
    taskAction put s (48 + u.val) e = (wakeUnit s u.val).1 := by
  have hu := u.isLt
  have hlo : ¬ 48 + u.val < 48 := by omega
  have hhi : 48 + u.val < 56 := by omega
  have hunit : unitOfCore s (48 + u.val - 48) = u.val := by rw [unitOfCore, hsplit, if_pos rfl, Nat.add_sub_cancel_left]
  simp only [taskAction, hlo, hhi, hunit, wakeUnit_reaches hinv, if_false, if_true]

theorem wakeTask_wakes (hinv : (pinnaOf s u).inv = some i) (hsplit : s.pinnas.split = true)
    (hidle : (taskOf s (48 + u.val)).running = false) : ∃ t, exec (.wakeTask u) s = .next t ∧
      (taskOf t (48 + u.val)).running = true ∧ (taskOf t (48 + u.val)).fired = (taskOf s (48 + u.val)).fired + 1 ∧
      ((pinnaOf s u).asleep = true → (pinnaOf t u).asleep = false ∧ (pinnaOf t u).wokeTask = true) ∧
      ((pinnaOf s u).asleep = false → pinnaOf t u = { pinnaOf s u with wakePending := true }) := by
  obtain ⟨x, hx, hrun, hfired⟩ : ∃ x, (taskOf s (48 + u.val)).reach 1 true = (x, true) ∧ x.running = true ∧
      x.fired = (taskOf s (48 + u.val)).fired + 1 := ⟨_, reach_idle Nat.one_pos hidle, rfl, rfl⟩
  have hunit : pinnaOf (onTask s (48 + u.val) (fun _ => x)) u = pinnaOf s u := rfl
  have htask : taskOf (onTask s (48 + u.val) (fun _ => x)) (48 + u.val) = x := taskOf_onTask_same
  have hexec : exec (.wakeTask u) s = .next (wakeUnit (onTask s (48 + u.val) (fun _ => x)) u.val).1 := by
    rw [exec_wakeTask]
    simp only [execWakeTask, hx, if_true]
    rw [taskAction_wakes (s := onTask s (48 + u.val) (fun _ => x)) (i := i) hsplit hinv]
  rw [hexec, wakeUnit_reaches (s := onTask s (48 + u.val) (fun _ => x)) (i := i) hinv, hunit]
  cases ha : (pinnaOf s u).asleep
  case true =>
    obtain ⟨k, hk⟩ := pinnaOf_awaken (s := onTask s (48 + u.val) (fun _ => x)) (u := u) (h := fun p => { p with wokeTask := true })
    refine ⟨_, rfl, (congrArg Task.running htask).trans hrun, (congrArg Task.fired htask).trans hfired, fun _ => ?_, fun h => nomatch h⟩
    simp only [if_true, hk, and_self]
  case false =>
    refine ⟨_, rfl, (congrArg Task.running htask).trans hrun, (congrArg Task.fired htask).trans hfired, (fun h => nomatch h), fun _ => ?_⟩
    simp only [Bool.false_eq_true, if_false, pinnaOf_onPinna_same, hunit]

/-- Settles O49: the dispatch by what a start leaves, the others by their lemmas. -/
theorem invocationsComeAndGo : Obligations.InvocationsComeAndGo := by
  unfold Obligations.InvocationsComeAndGo
  refine ⟨fun s j u hj hhost hdraw hu hin howner => ?dispatch, fun s cls u => ⟨quantumBoundary_passes, quantumBoundary_suspends⟩,
    fun s u p i => invocationResume_returns,
    fun s u i hinv => ⟨budgetExpiry_traps hinv, wakecmpMatch_matches hinv, wakeTask_wakes hinv⟩⟩
  have hexec : exec .invocationDispatch s = .next (startInvocation (countClass s 3 (waitingInvokes s) j 1) j u) := by
    rw [exec_invocationDispatch]
    simp only [execInvocationDispatch, hj, hu]
  have happlets : (countClass s 3 (waitingInvokes s) j 1).pinnas = s.pinnas := countClass_pinnas
  obtain ⟨hunit, hothers⟩ := startInvocation_starts (u := u) hhost hdraw (by rw [happlets]; exact hin) (by rw [happlets]; exact howner)
  rw [happlets] at hunit
  obtain ⟨h1, h2, h3, h4, h29, hrest⟩ := gGet_startUnit (s := countClass s 3 (waitingInvokes s) j 1) (j := j)
    (x := SMap.get {} s.pinnas.applets (param j.cmd 0 1))
  refine ⟨_, hexec, ?_⟩
  dsimp only
  rw [hunit]
  exact ⟨h1, h2, h3, h4, h29, hrest, fun r hr => pGet_startUnit hr, rfl, rfl, rfl, rfl, rfl, fun v hv => (hothers v hv).trans (pinnaOf_congr happlets)⟩

end Sys2Proof.Proofs
end

section
/-! SUPPORT. The random commands (Table 12.3) and the events of the noise sources (R525 to R530). -/

namespace Sys2Proof.Proofs
open Sys2Proof Sys2Proof.Machine Sys2Proof.Claims

variable {s t u : State} {c : Cmd} {j : Job} {n : Fin 4} {k : Inst} {bs : Bytes}

theorem exec_random : exec (.random c) s = execRandom c s := rfl
theorem exec_reseed : exec (.reseed c) s = execReseed c s := rfl
theorem exec_entropyStatus : exec (.entropyStatus c) s = execEntropyStatus c s := rfl
theorem exec_rawMode : exec (.rawMode c) s = execRawMode c s := rfl
theorem exec_rawRead : exec (.rawRead c) s = execRawRead c s := rfl
theorem exec_entropyHealth {adaptive : Bool} : exec (.entropyHealth n adaptive) s = execEntropyHealth n adaptive s := rfl
theorem exec_entropyBlock : exec (.entropyBlock n) s = execEntropyBlock n s := rfl
theorem exec_startUpTestDone {pass : Bool} : exec (.startUpTestDone n pass) s = execStartUpTestDone n pass s := rfl
theorem exec_reseedDue : exec (.reseedDue k) s = execReseedDue k s := rfl

/-! ### What leaves the entropy group, or its modes, unchanged -/

theorem raise_entropy {l : List Nat} : (raise s l).entropy = s.entropy := (congrArg State.entropy apartFromHypha_raise :)
theorem append_entropy {e src d : Nat} : (append s e src d).entropy = s.entropy := (congrArg State.entropy apartFromHypha_append :)

theorem bufWrite_entropy {a : Nat} : (bufWrite s c a bs).entropy = s.entropy := by
  simp only [bufWrite, dmaWrite]
  split
  · split <;> rfl
  · rfl

theorem takeBlocks_modes {m : Nat} : (takeBlocks m s).2.entropy.rawMode = s.entropy.rawMode ∧
    (takeBlocks m s).2.entropy.pattern = s.entropy.pattern := by
  induction m generalizing s with
  | zero => exact ⟨rfl, rfl⟩
  | succ m ih => exact ih (s := s.onEntropy (fun e => { e with taken := e.taken + 1 }))

theorem instantiate_modes : (instantiate s k).entropy.rawMode = s.entropy.rawMode ∧ (instantiate s k).entropy.pattern = s.entropy.pattern :=
  takeBlocks_modes (m := 3)

/-- Instances are made again in the mode and with the pattern in force (R523, R524). -/
theorem instantiateAll_modes : (instantiateAll s).entropy.rawMode = s.entropy.rawMode ∧
    (instantiateAll s).entropy.pattern = s.entropy.pattern := by
  unfold instantiateAll
  generalize seededInsts s = l
  induction l generalizing s with
  | nil => exact ⟨rfl, rfl⟩
  | cons k l ih =>
    obtain ⟨hraw, hpat⟩ := ih (s := instantiate s k)
    obtain ⟨hraw', hpat'⟩ := instantiate_modes (s := s) (k := k)
    exact ⟨hraw.trans hraw', hpat.trans hpat'⟩

/-- R522, R524: neither mode is left. -/
theorem leaveRaw_pattern : (leaveRaw s).entropy.pattern = none := by
  unfold leaveRaw
  split_ifs with hpat hraw
  · exact instantiateAll_modes.2
  · simpa using hpat
  · simpa using hpat

/-! ### A noise source -/

theorem sourceState_of_entropy (h : t.entropy = s.entropy) (m : Nat) : sourceState t m = sourceState s m := by
  rw [sourceState, sourceState, h]
theorem sourceState_onSource {m : Nat} {h : Source → Source} : sourceState (onSource s m h) m = h (sourceState s m) :=
  SMap.get_mod_same
theorem sourceState_onSource_ne {m l : Nat} {h : Source → Source} (hne : l ≠ m) : sourceState (onSource s m h) l = sourceState s l :=
  SMap.get_mod_ne hne

theorem healthEntry_entropy {m test : Nat} {retired : Bool} : (healthEntry s m test retired).entropy = s.entropy := append_entropy

/-- The failures of a source that count: those within the last second, without the one that comes now (R528). -/
def countedFailures (s : State) (n : Nat) : List Nat := (sourceState s n).failures.filter (fun k => s.clocks.seta < k + 100000000)
/-- A source that has failed a health test: out of service, and retired by the third failure within a second. -/
def failedSource (s : State) (n : Nat) (adaptive : Bool) : Source where
  inService := false
  retired := decide (3 ≤ (s.clocks.seta :: countedFailures s n).length)
  failures := s.clocks.seta :: countedFailures s n
  failing := if adaptive then 2 else 1
/-- The device with the source out of service, its failure counted and its block bad (R527). -/
def sourceFailed (s : State) (n : Nat) (adaptive : Bool) : State :=
  (onSource s n (fun _ => failedSource s n adaptive)).onEntropy (fun e => { e with
    healthFailures := e.healthFailures + 1, repFails := e.repFails + (if adaptive then 0 else 1)
    adaptFails := e.adaptFails + (if adaptive then 1 else 0)
    badBlock := if e.rawMode then e.badBlock else e.badBlock ||| ((1 : BitVec 4) <<< n) })

theorem sourceState_sourceFailed {m : Nat} {adaptive : Bool} : sourceState (sourceFailed s m adaptive) m = failedSource s m adaptive :=
  sourceState_onSource (s := s) (h := fun _ => failedSource s m adaptive)
theorem sourceState_sourceFailed_ne {m l : Nat} {adaptive : Bool} (hne : l ≠ m) :
    sourceState (sourceFailed s m adaptive) l = sourceState s l :=
  sourceState_onSource_ne (s := s) (h := fun _ => failedSource s m adaptive) hne
theorem retired_failedSource {m : Nat} {adaptive : Bool} :
    (failedSource s m adaptive).retired = true ↔ 2 ≤ (countedFailures s m).length := by simp [failedSource]

/-- R527, R528: the entry of a retirement and E062 are no concern of the entropy group. -/
theorem entropyHealth_fails {adaptive : Bool} (hin : (sourceState s n.val).inService = true) (hret : (sourceState s n.val).retired = false)
    (hisl : islandWorks s 12 = true) :
    ∃ t, exec (.entropyHealth n adaptive) s = .next t ∧ t.entropy = (sourceFailed s n.val adaptive).entropy := by
  simp only [exec_entropyHealth, execEntropyHealth, hin, hret, hisl, Bool.not_true, Bool.or_self, Bool.false_eq_true, if_false]
  refine ⟨_, rfl, ?_⟩
  split <;> simp only [healthEntry_entropy, raiseWaking, raise_entropy] <;> rfl

/-- R527, R528: the test's result decides between service and retirement. -/
theorem startUpTestDone_entropy {pass : Bool} (hin : (sourceState s n.val).inService = false) (hret : (sourceState s n.val).retired = false)
    (hrun : running s = true) (hisl : islandWorks s 12 = true) :
    ∃ t, exec (.startUpTestDone n pass) s = .next t ∧ t.entropy.sources =
      (onSource s n.val (fun x => { x with inService := pass, retired := !pass, failing := 0 })).entropy.sources := by
  simp only [exec_startUpTestDone, execStartUpTestDone, hin, hret, hrun, hisl, Bool.not_true, Bool.or_self, Bool.false_eq_true, if_false]
  split_ifs
  · exact ⟨_, rfl, by rw [healthEntry_entropy]⟩
  · exact ⟨_, rfl, rfl⟩
  · exact ⟨_, rfl, by rw [healthEntry_entropy, raiseWaking, raise_entropy]; rfl⟩

/-- R505: a reseed starts the requests of its generator again. -/
theorem drbgOf_reseed_requests {x : Bytes} : (drbgOf (reseed s k x) k).requests = 0 := by
  simp only [reseed, drbgOf_onDrbg]

theorem execReseedDue_at {d : Drbg} (hd : drbgOf s k = d) (hinv : ∀ u, k ≠ .inv u) (hlive : d.live = true)
    (hdue : 65536 ≤ d.requests ∨ d.blocked = true) :
    exec (.reseedDue k) s =
      if entropyFailed s || s.entropy.rawMode then
        .next (if d.blocked then s else raiseWaking (onDrbg s k (fun d => { d with blocked := true })) [63])
      else if !blockReady s then .next s else .next (reseed s k []) := by
  have hdue' : (decide (65536 ≤ d.requests) || d.blocked) = true := by simpa using hdue
  cases k with
  | inv u => exact absurd rfl (hinv u)
  | f f => simp only [exec_reseedDue, execReseedDue, hd, hlive, ge_iff_le, hdue', Bool.not_true, Bool.or_self, Bool.false_eq_true, if_false, if_true]
  | i i => simp only [exec_reseedDue, execReseedDue, hd, hlive, ge_iff_le, hdue', Bool.not_true, Bool.or_self, Bool.false_eq_true, if_false, if_true]

theorem random_answers (h : Starts 0x0601 c s j) (hbuf : bufBad (started s c j) c (param c 0 8) (param c 8 4) true = false)
    (hlo : 1 ≤ param c 8 4) (hhi : param c 8 4 ≤ 65536) (hadd : param c 12 1 ≤ 1) (hre : j.rerun = false)
    (hg : generate (started s c j) (instOf c) (param c 8 4) (if param c 12 1 = 1 then paramBytes c 16 32 else []) = .got bs u) :
    Answers (.random c) s (bufWrite (onJob u c (fun x => { x with draws := bs })) c (param c 0 8) bs) j { res0 := param c 8 4 } := by
  have hcmd := (cmd_op_of_starts h).1
  rw [← hcmd] at hg
  refine exec_random.trans (xci_answers h ?_)
  rw [unlessRefused_when_not hbuf, unlessRefused_when_not (by simp; omega), unlessRefused_when_not (by simpa using hadd)]
  simp only [beq_iff_eq]
  rw [withDraw_got hre (by rw [hcmd] at hg ⊢; exact hg), hcmd, unlessRefused_nil]

theorem reseed_waits (h : Starts 0x0602 c s j) (hp : param c 0 1 ≤ 1) (hhost : isApplet c = false) (hf : entropyFailed s = false)
    (hraw : s.entropy.rawMode = false) (hblk : blockReady s = false) :
    Begins (.reseed c) s (onJob (started s c j) c (fun x => { x with stage := .fetched })) := by
  refine exec_reseed.trans (xci_begins h ?_)
  rw [unlessRefused_when_not (by simpa using hp), unlessRefused_when_not hhost,
    unlessRefused_when_not (by change (entropyFailed s || s.entropy.rawMode) = false; rw [hf, hraw]; rfl)]
  change (if (!blockReady s) = true then _ else _) = _
  rw [hblk]
  rfl

theorem reseed_answers (h : Starts 0x0602 c s j) (hp : param c 0 1 ≤ 1) (hhost : isApplet c = false) (hf : entropyFailed s = false)
    (hraw : s.entropy.rawMode = false) (hblk : blockReady s = true) :
    let v := reseed (started s c j) (.f c.fn) (if param c 0 1 = 1 then paramBytes c 8 32 else [])
    Answers (.reseed c) s v j { res0 := (drbgOf v (.f c.fn)).reseeds % 2 ^ 32 } := by
  refine exec_reseed.trans (xci_answers h ?_)
  rw [unlessRefused_when_not (by simpa using hp), unlessRefused_when_not hhost,
    unlessRefused_when_not (by change (entropyFailed s || s.entropy.rawMode) = false; rw [hf, hraw]; rfl)]
  change (if (!blockReady s) = true then _ else _) = _
  rw [hblk]
  simp only [Bool.not_true, Bool.false_eq_true, if_false, beq_iff_eq]

theorem rawMode_leaves (h : Starts 0x0604 c s j) (hp : param c 0 1 = 0) : Answers (.rawMode c) s (leaveRaw (started s c j)) j {} := by
  refine exec_rawMode.trans (xci_answers h ?_)
  simp only [hp]
  rfl

theorem rawMode_refused (h : Starts 0x0604 c s j) (hp : param c 0 1 = 1) (hno : rawAllowed s = false) :
    Answers (.rawMode c) s (started s c j) j { status := 0x000E } := by
  refine exec_rawMode.trans (xci_answers h ?_)
  have hno' : rawAllowed (started s c j) = false := hno
  simp only [hp, hno']
  rfl

theorem rawMode_opens (h : Starts 0x0604 c s j) (hp : param c 0 1 = 1) (hok : rawAllowed s = true) :
    Answers (.rawMode c) s ((leaveRaw (started s c j)).onEntropy (fun e => { e with rawMode := true })) j {} := by
  refine exec_rawMode.trans (xci_answers h ?_)
  have hok' : rawAllowed (started s c j) = true := hok
  simp only [hp, hok']
  rfl

theorem rawMode_pattern (h : Starts 0x0604 c s j) (hlo : 2 ≤ param c 0 1) (hhi : param c 0 1 ≤ 3) (hlc : lifecycle s = 1)
    (hbuf : bufBad (started s c j) c (param c 8 8) 64 false = false) :
    Answers (.rawMode c) s (instantiateAll ((started s c j).onEntropy (fun e => { e with
      rawMode := false, pattern := some (bufRead (started s c j) c (param c 8 8) 64) }))) j {} := by
  refine exec_rawMode.trans (xci_answers h ?_)
  have hlc' : lifecycle (started s c j) = 1 := hlc
  have hne : (param c 0 1 == 1) = false := by simp; omega
  rw [unlessRefused_when_not (by simpa using hhi), unlessRefused_when_not (by rw [hbuf, Bool.and_false]),
    unlessRefused_when_not (by rw [hlc', hne]; simp), if_pos hlo, unlessRefused_nil]

theorem rawRead_refused (h : Starts 0x0605 c s j) (hp : param c 0 1 ≤ 3)
    (hbuf : bufBad (started s c j) c (param c 8 8) (param c 16 4) true = false) (hlo : 1 ≤ param c 16 4) (hhi : param c 16 4 ≤ 65536)
    (hraw : s.entropy.rawMode = false) : Answers (.rawRead c) s (started s c j) j { status := 0x000E } := by
  refine exec_rawRead.trans (xci_answers h ?_)
  rw [unlessRefused_when_not (by simpa using hp), unlessRefused_when_not hbuf, unlessRefused_when_not (by simp; omega),
    unlessRefused_when (by change (!s.entropy.rawMode) = true; rw [hraw]; rfl)]
  rfl

/-- The device once RAW_READ's bits and its two counts are taken. -/
def rawTakenOnce (s : State) : State := (takeFree (takeFree (s.onEntropy (fun e => { e with rawTaken := e.rawTaken + 1 }))).2).2

theorem rawRead_answers (h : Starts 0x0605 c s j) (hp : param c 0 1 ≤ 3)
    (hbuf : bufBad (started s c j) c (param c 8 8) (param c 16 4) true = false) (hlo : 1 ≤ param c 16 4) (hhi : param c 16 4 ≤ 65536)
    (hraw : s.entropy.rawMode = true) : ∃ v r, Answers (.rawRead c) s v j r ∧ r.status = 0 ∧ r.res0 = param c 16 4 ∧
      v.entropy = { s.entropy with rawTaken := s.entropy.rawTaken + 1 } := by
  let bits := Config.bytes (param c 16 4) (Config.rawByte s.entropy.rawTaken)
  refine ⟨bufWrite (rawTakenOnce (started s c j)) c (param c 8 8) bits,
    { res0 := param c 16 4, res1 := (Config.freeValue s.free).toNat % 2 ^ 32, res2 := (Config.freeValue (s.free + 1)).toNat % 2 ^ 32 },
    exec_rawRead.trans (xci_answers h ?_), rfl, rfl, bufWrite_entropy⟩
  rw [unlessRefused_when_not (by simpa using hp), unlessRefused_when_not hbuf, unlessRefused_when_not (by simp; omega),
    unlessRefused_when_not (by change (!s.entropy.rawMode) = false; rw [hraw]; rfl)]
  rfl

theorem entropyStatus_answers (h : Starts 0x0603 c s j) :
    Answers (.entropyStatus c) s (started s c j) j {
      res0 := sourceMask (feeding s) + sourceMask (retiredSources s) * 2 ^ 4 + bit s.entropy.rawMode 8 + bit s.entropy.pattern.isSome 9 +
        bit (entropyFailed s || s.entropy.rawMode) 10
      res1 := s.entropy.healthFailures % 2 ^ 32, res2 := (drbgOf s (instOf c)).requests % 2 ^ 32
      res3 := (s.clocks.seta - (drbgOf s (instOf c)).lastReseed) / 100000 % 2 ^ 32 } :=
  exec_entropyStatus.trans (xci_answers h rfl)

theorem reseed_refused (h : Starts 0x0602 c s j) :
    (1 < param c 0 1 → Answers (.reseed c) s (started s c j) j (bad 0)) ∧
    (isApplet c = true → param c 0 1 ≤ 1 → Answers (.reseed c) s (started s c j) j { status := 0x0004 }) ∧
    (isApplet c = false → param c 0 1 ≤ 1 → (entropyFailed s = true ∨ s.entropy.rawMode = true) →
      Answers (.reseed c) s (started s c j) j { status := 0x0601 }) := by
  refine ⟨fun hp => exec_reseed.trans (xci_answers h ?_), fun happ hp => exec_reseed.trans (xci_answers h ?_), fun hhost hp hno => exec_reseed.trans (xci_answers h ?_)⟩
  · rw [unlessRefused_when (by simpa using hp)]
  · rw [unlessRefused_when_not (by simpa using hp), unlessRefused_when happ]
    rfl
  · have hno' : (entropyFailed (started s c j) || (started s c j).entropy.rawMode) = true := (Bool.or_eq_true _ _).mpr hno
    rw [unlessRefused_when_not (by simpa using hp), unlessRefused_when_not hhost, unlessRefused_when hno']
    rfl

/-- Settles O42, command after command, then a source's events and a due reseed. -/
theorem randomCommandsAndSources : Obligations.RandomCommandsAndSources := by
  refine ⟨fun s c j => ⟨fun h hbuf hlo hhi hadd hre bs u hg => random_answers h hbuf hlo hhi hadd hre hg,
    fun h => ?_, fun h => entropyStatus_answers h,
    fun h => ⟨rawMode_leaves h, rawMode_refused h, fun hp hok => ⟨_, rawMode_opens h hp hok, rfl, leaveRaw_pattern⟩,
      fun hlo hhi hlc hbuf => ⟨_, rawMode_pattern h hlo hhi hlc hbuf, instantiateAll_modes⟩⟩,
    fun h hp hbuf hlo hhi => ⟨rawRead_refused h hp hbuf hlo hhi, rawRead_answers h hp hbuf hlo hhi⟩⟩, fun s n => ⟨?_, ?_, ?_⟩⟩
  · obtain ⟨hbad, happ, hno⟩ := reseed_refused h
    exact ⟨hbad, happ, fun hhost hp => ⟨hno hhost hp, reseed_waits h hp hhost,
      fun hf hraw hblk => ⟨reseed_answers h hp hhost hf hraw hblk, drbgOf_reseed_requests⟩⟩⟩
  · intro hin hret hisl
    refine ⟨fun adaptive => ?_, fun hraw => ?_⟩
    · obtain ⟨t, ht, he⟩ := entropyHealth_fails (adaptive := adaptive) hin hret hisl
      have hsrc : ∀ m, sourceState t m = sourceState (sourceFailed s n.val adaptive) m := sourceState_of_entropy he
      refine ⟨t, ht, ?_, ?_, by rw [he]; rfl, by rw [he]; rfl, by rw [he]; rfl, fun hraw => ?_,
        fun m hm => (hsrc m).trans (sourceState_sourceFailed_ne hm)⟩
      · rw [hsrc, sourceState_sourceFailed]
        rfl
      · rw [hsrc, sourceState_sourceFailed]
        exact retired_failedSource
      · rw [he]
        change (if s.entropy.rawMode = true then _ else _) = _
        rw [hraw]
        rfl
    · simp only [exec_entropyBlock, execEntropyBlock, hin, hraw, hisl, Bool.not_true, Bool.or_self, Bool.false_eq_true, if_false]
  · intro hin hret hrun hisl pass
    obtain ⟨t, ht, he⟩ := startUpTestDone_entropy (pass := pass) hin hret hrun hisl
    have hsrc : ∀ m, sourceState t m = sourceState (onSource s n.val _) m := fun m => by rw [sourceState, he]; rfl
    exact ⟨t, ht, by rw [hsrc, sourceState_onSource], by rw [hsrc, sourceState_onSource],
      fun m hm => by rw [hsrc, sourceState_onSource_ne hm]⟩
  · intro k hinv hlive hdue
    have hexec := execReseedDue_at rfl hinv hlive hdue
    refine ⟨fun hf hraw hblk => ?_, fun hno hblk => ?_⟩
    · simp only [hexec, hf, hraw, hblk, Bool.or_self, Bool.false_eq_true, Bool.not_true, if_false]
    · have hno' : (entropyFailed s || s.entropy.rawMode) = true := by simpa using hno
      simp only [hexec, hno', hblk, if_true, Bool.false_eq_true, if_false]

end Sys2Proof.Proofs
end

section
/-! SUPPORT. The reader commands, and what a card or its silence does to the one at work (R623 to R641, R655). -/

namespace Sys2Proof.Proofs
open Sys2Proof Sys2Proof.Machine Sys2Proof.Claims

variable {s t u : State} {c : Cmd} {j : Job} {r : Reply} {op n : Nat} {b : Bytes} {reply : CardReply}

theorem exec_readerPoll : exec (.readerPoll c) s = execReaderPoll c s := rfl
theorem exec_readerExchange : exec (.readerExchange c) s = execReaderExchange c s := rfl
theorem exec_readerFieldOff : exec (.readerFieldOff c) s = execReaderFieldOff c s := rfl
theorem exec_badgeVerify : exec (.badgeVerify c) s = execBadgeVerify c s := rfl
theorem exec_visitRead : exec (.visitRead c) s = execVisitRead c s := rfl
theorem exec_cardFrame : exec (.cardFrame reply) s = execCardFrame reply s := rfl
theorem exec_pollTimeout : exec .pollTimeout s = execPollTimeout s := rfl
theorem exec_readerFrameTimeout : exec .readerFrameTimeout s = execReaderFrameTimeout s := rfl
theorem exec_cardWtxRequest {w : BitVec 6} : exec (.cardWtxRequest w) s = execCardWtxRequest w s := rfl

/-! ### Flash operations are opened in the flash group alone -/

theorem onlyFlash_suspendErase {a : Nat} {stays : Bool} : OnlyFlash s (suspendErase s a stays) := onlyFlash_onFlash

theorem onlyFlash_startErase {i : Nat} : OnlyFlash s (startErase s i) := by
  unfold startErase
  split
  · exact .refl
  · split
    · exact .refl
    · refine OnlyFlash.trans ?_ onlyFlash_onFlash
      split
      · exact onlyFlash_jAppend
      · exact onlyFlash_switchJournal.trans onlyFlash_jAppend

theorem onlyFlash_startErases : OnlyFlash s (startErases s) :=
  List.foldlRecOn _ _ (motive := OnlyFlash s) .refl (fun _ ha _ _ => ha.trans onlyFlash_startErase)

theorem onlyFlash_openFlash {x : FlashUnit} {erase : Bool} {use : FlashUse} : OnlyFlash s (openFlash s x erase use) := by
  refine OnlyFlash.trans (OnlyFlash.trans ?_ onlyFlash_onFlash) onlyFlash_startErases
  split
  · exact .refl
  · exact onlyFlash_suspendErase

theorem OnlyFlash.reader (h : OnlyFlash s t) : t.reader = s.reader := by
  obtain ⟨f, rfl⟩ := h
  rfl

/-! ### Operations that leave the reader -/

theorem post_reader : (post s j r).reader = s.reader := (congrArg State.reader apartFromMailbox_post :)
theorem flashCommand_reader {x : FlashUnit} : (flashCommand s j x).reader = s.reader := onlyFlash_openFlash.reader

theorem stepVcore_reader : (stepVcore s).reader = s.reader := by rw [stepVcore_frame, State.onPower_reader]

theorem atInstant_reader : (atInstant s n).reader = s.reader := by
  unfold atInstant
  split
  · exact stepVcore_reader
  · rfl

theorem applyCless_reader : (applyGroup s .cless).reader = s.reader := by
  simp only [applyGroup]
  split <;> rfl

theorem applyDeferred_cless_reader : (applyDeferred s .cless).reader = s.reader := by
  unfold applyDeferred
  split
  · rfl
  · refine List.foldlRecOn _ _ (motive := fun a : State => a.reader = s.reader) applyCless_reader (fun a ha x _ => ?_)
    split
    · exact flashCommand_reader.trans ha
    · exact post_reader.trans ha

/-- The field goes on after its off time, and nothing else of the reader changes (R633, R637). -/
theorem fieldUp_reader (h : s.reader.fieldOn = false) : (fieldUp s).reader = { s.reader with fieldOn := true } := by
  simp only [fieldUp, h, Bool.false_eq_true, if_false]
  rw [State.onReader_reader, applyDeferred_cless_reader, atInstant_reader]

theorem fieldDown_off : (fieldDown s).reader.fieldOn = false := by
  unfold fieldDown
  split
  next h => simpa using h
  · rfl

/-! ### The command that starts is the one at the reader -/

theorem stage_of_starts (h : Starts op c s j) : j.stage = .waiting := by
  unfold Starts admission at h
  split at h
  · cases h
  · split_ifs at h
    all_goals split at h
    all_goals cases h
    rfl

theorem exists_for_of_starts (h : Starts op c s j) : ∃ x ∈ s.jobs, x.isFor c = true := by
  unfold Starts admission at h
  split at h
  · cases h
  next x hx =>
    have hp := List.find?_some hx
    simp only [Bool.and_eq_true, beq_iff_eq] at hp
    obtain ⟨⟨-, hcmd⟩, -⟩ := hp
    exact ⟨x, List.mem_of_find?_eq_some hx, by simp [Job.isFor, hcmd]⟩

theorem readerJob_none_iff : readerJob s = none ↔ ∀ x ∈ s.jobs, x.stage ≠ .reader := by simp [readerJob]

/-- A command that starts is not at the reader yet. -/
theorem readerJob_started (h : Starts op c s j) (hn : readerJob s = none) : readerJob (started s c j) = none := by
  rw [readerJob_none_iff] at hn ⊢
  intro x hx
  obtain ⟨y, hy, rfl⟩ := List.mem_map.mp hx
  split
  · rw [stage_of_starts h]
    exact fun h => nomatch h
  · exact hn y hy

/-- A command sent to a free reader is the one at work there. -/
theorem readerJob_toReader (h : Starts op c s j) (hn : readerJob s = none) (hj : t.jobs = (started s c j).jobs) :
    ∃ x, readerJob (toReader t c) = some x ∧ x.op = op := by
  have hall : ∀ x ∈ (toReader t c).jobs, x.stage = .reader → x.op = op := by
    intro x hx hst
    obtain ⟨y, hy, rfl⟩ := List.mem_map.mp hx
    rw [hj] at hy
    obtain ⟨z, hz, rfl⟩ := List.mem_map.mp hy
    by_cases hf : z.isFor c = true
    · simp [hf, isFor_of_starts h, (cmd_op_of_starts h).2]
    · simp only [hf, Bool.false_eq_true, if_false] at hst
      exact absurd hst (readerJob_none_iff.mp hn z hz)
  rcases hr : readerJob (toReader t c) with _ | x
  · obtain ⟨z, hz, hf⟩ := exists_for_of_starts h
    refine absurd rfl (readerJob_none_iff.mp hr { j with stage := .reader } (List.mem_map.mpr ⟨j, ?_, by simp [isFor_of_starts h]⟩))
    rw [hj]
    exact List.mem_map.mpr ⟨z, hz, by simp [hf]⟩
  · exact ⟨x, rfl, hall x (List.mem_of_find?_eq_some hr) (by simpa using List.find?_some hr)⟩

/-! ### READER_POLL -/

/-- Where the field is on, or the front end does not run yet, a poll that starts changes no more. -/
theorem raiseField_waits (h : s.reader.fieldOn = true ∨ islandWorks s 16 = false) : raiseField s = s := by
  have hno : (!pollWaits s || !islandWorks s 16) = true := by
    rcases h with h | h
    · simp [pollWaits, h]
    · simp [h]
  rw [raiseField, if_pos hno]

/-- R623: with no field there and no tag session open a waiting poll switches the field on. -/
theorem raiseField_up {x : Job} (hx : readerJob s = some x) (hop : x.op = 0x0B01) (hoff : s.reader.fieldOn = false)
    (hisl : islandWorks s 16 = true) (htag : fieldRefused s = none) : raiseField s = fieldUp s := by
  have hgo : (!pollWaits s || !islandWorks s 16) = false := by simp [pollWaits, hoff, hx, hop, hisl]
  simp only [raiseField, hgo, Bool.false_eq_true, if_false, hx, htag]

theorem fieldRefused_none (h : s.reader.fieldOn = true ∨ (s.tag.field = false ∧ s.tag.opened = false)) : fieldRefused s = none := by
  rw [fieldRefused, when_eq_none]
  rcases h with h | ⟨hf, ho⟩
  · simp [h]
  · simp [hf, ho]

/-- The device once a poll that may go on has started. -/
def pollStarted (s : State) (c : Cmd) : State :=
  toReader (s.onReader (fun r => { r with card := false, layer4 := false, retries := 0, badBlocks := false })) c

/-- The ranges of READER_POLL's PARAMS. -/
structure PollParams (t : State) (c : Cmd) : Prop where
  types : param c 0 1 ≤ 3
  some : pollTypes t c ≠ 0
  rate : param c 1 1 ≤ 3
  layer4 : param c 2 1 ≤ 1
  least : 1 ≤ param c 4 2
  most : param c 4 2 ≤ 1000
  buf : bufBad t c (param c 8 8) 64 true = false

/-- Past its ranges a poll on a free reader meets the reader's own refusals. -/
theorem execReaderPoll_body (h : Starts 0x0B01 c s j) (hn : readerJob s = none) (hp : PollParams (started s c j) c) :
    exec (.readerPoll c) s = .next (bodyDone j (unlessRefused (started s c j) [readerGone (started s c j), fieldRefused (started s c j)]
      (raiseField (pollStarted (started s c j) c), none))) := by
  obtain ⟨htypes, hsome, hrate, hl4, hlo, hhi, hbuf⟩ := hp
  refine (exec_readerPoll.trans (xci_starts h)).trans ?_
  rw [readerJob_started h hn, if_neg (by simp), unlessRefused_when_not (by simp [hsome]; omega), unlessRefused_when_not (by simpa using hrate),
    unlessRefused_when_not (by simpa using hl4), unlessRefused_when_not (by simp; omega), unlessRefused_when_not hbuf]
  rfl

theorem readerPoll_gone (h : Starts 0x0B01 c s j) (hn : readerJob s = none) (hp : PollParams (started s c j) c)
    (hr : readerGone (started s c j) = some r) : Answers (.readerPoll c) s (started s c j) j r := by
  refine (execReaderPoll_body h hn hp).trans ?_
  rw [hr]
  rfl

theorem readerPoll_fieldRefused (h : Starts 0x0B01 c s j) (hn : readerJob s = none) (hp : PollParams (started s c j) c)
    (hr : readerGone (started s c j) = none) (hoff : s.reader.fieldOn = false) (htag : s.tag.field = true ∨ s.tag.opened = true) :
    Answers (.readerPoll c) s (started s c j) j { status := 0x0B04, detail := 1 } := by
  have href : fieldRefused (started s c j) = some { status := 0x0B04, detail := 1 } := by
    change when (!s.reader.fieldOn && (s.tag.field || s.tag.opened)) _ = _
    rcases htag with htag | htag <;> simp [hoff, htag] <;> rfl
  refine (execReaderPoll_body h hn hp).trans ?_
  rw [hr, href]
  rfl

theorem readerPoll_begins (h : Starts 0x0B01 c s j) (hn : readerJob s = none) (hp : PollParams (started s c j) c)
    (hr : readerGone (started s c j) = none) (hok : s.reader.fieldOn = true ∨ (s.tag.field = false ∧ s.tag.opened = false)) :
    exec (.readerPoll c) s = .next (raiseField (pollStarted (started s c j) c)) := by
  refine (execReaderPoll_body h hn hp).trans ?_
  have href : fieldRefused (started s c j) = none := fieldRefused_none hok
  rw [hr, href]
  rfl

theorem raiseField_pollStarted (h : Starts 0x0B01 c s j) (hn : readerJob s = none)
    (hok : s.reader.fieldOn = true ∨ (s.tag.field = false ∧ s.tag.opened = false)) :
    let m := pollStarted (started s c j) c
    let v := raiseField m
    v.reader.card = false ∧ v.reader.layer4 = false ∧ (s.reader.fieldOn = true ∨ islandWorks s 16 = false → v = m) ∧
      (s.reader.fieldOn = false → islandWorks s 16 = true → v.reader.fieldOn = true) := by
  intro m v
  by_cases hw : s.reader.fieldOn = true ∨ islandWorks s 16 = false
  · have hv : v = m := raiseField_waits hw
    rw [hv]
    refine ⟨rfl, rfl, fun _ => rfl, fun hoff hisl => ?_⟩
    rcases hw with hw | hw
    · rw [hw] at hoff; cases hoff
    · rw [hw] at hisl; cases hisl
  · obtain ⟨hoff, hisl⟩ := not_or.mp hw
    obtain ⟨x, hx, hop⟩ := readerJob_toReader h hn
      (t := (started s c j).onReader (fun r => { r with card := false, layer4 := false, retries := 0, badBlocks := false })) rfl
    rw [Bool.not_eq_true] at hoff
    rw [Bool.not_eq_false] at hisl
    have hoffm : m.reader.fieldOn = false := hoff
    have hrd : v.reader = { m.reader with fieldOn := true } :=
      (congrArg State.reader (raiseField_up hx hop hoffm hisl (fieldRefused_none hok))).trans (fieldUp_reader hoffm)
    rw [hrd]
    exact ⟨rfl, rfl, fun h => absurd h hw, fun _ _ => rfl⟩

/-! ### The other commands -/

/-- The ranges of READER_EXCHANGE's PARAMS. -/
structure ExchangeParams (t : State) (c : Cmd) : Prop where
  apdu : bufBad t c (param c 8 8) (param c 16 2) false = false
  least : 4 ≤ param c 16 2
  most : param c 16 2 ≤ 261
  out : bufBad t c (param c 24 8) (param c 32 2) true = false
  outLeast : 2 ≤ param c 32 2
  outMost : param c 32 2 ≤ 258

theorem execReaderExchange_body (h : Starts 0x0B02 c s j) (hn : readerJob s = none) (hp : ExchangeParams (started s c j) c)
    (hr : readerGone (started s c j) = none) :
    exec (.readerExchange c) s = .next (bodyDone j (unlessRefused (started s c j) [noLayer4 (started s c j)]
      (toReader ((started s c j).onReader (fun r => { r with retries := 0, badBlocks := false })) c, none))) := by
  obtain ⟨hapdu, hlo, hhi, hout, holo, hohi⟩ := hp
  refine (exec_readerExchange.trans (xci_starts h)).trans ?_
  dsimp only
  rw [readerJob_started h hn, if_neg (by simp), unlessRefused_when_not hapdu, unlessRefused_when_not (by simp; omega),
    unlessRefused_when_not hout, unlessRefused_when_not (by simp; omega), hr, unlessRefused_passed]

theorem readerFieldOff_answers (h : Starts 0x0B03 c s j) (hn : readerJob s = none) (hr : readerGone (started s c j) = none) :
    Answers (.readerFieldOff c) s (fieldDown (started s c j)) j {} := by
  refine exec_readerFieldOff.trans (xci_answers h ?_)
  rw [readerJob_started h hn, hr]
  rfl

theorem badgeVerify_begins (h : Starts 0x0B04 c s j) (hn : readerJob s = none) (hk : param c 0 1 ≤ 1) (hbuf : param c 8 8 = 0)
    (hr : readerGone (started s c j) = none) (hl4 : s.reader.layer4 = true) (hcal : calyptraGone (started s c j) = none)
    (hg : generate (started s c j) (.i 6) 32 [] = .got b u) :
    exec (.badgeVerify c) s = .next (onJob (toReader (u.onReader (fun r => { r with badgeStep := 1, challenge := b, retries := 0, badBlocks := false })) c)
      c (fun x => { x with draws := b })) := by
  have hl4' : noLayer4 (started s c j) = none := by
    change when (!s.reader.layer4) _ = none
    rw [hl4]
    rfl
  refine exec_badgeVerify.trans (xci_begins h ?_)
  rw [readerJob_started h hn, if_neg (by simp), unlessRefused_when_not (by simpa using hk), unlessRefused_when_not (by rw [hbuf]; rfl),
    hr, hl4', hcal, unlessRefused_passed, unlessRefused_passed, unlessRefused_passed, unlessRefused_nil, withOwn_got hg]

theorem visitRead_answers (h : Starts 0x0B05 c s j) (hk : param c 0 1 ≤ 7)
    (hbuf : param c 8 8 = 0 ∨ bufBad (started s c j) c (param c 8 8) 72 true = false) :
    ∃ r, Answers (.visitRead c) s
        (if param c 8 8 = 0 then started s c j else bufWrite (started s c j) c (param c 8 8) (sporeBytes s (visitBase (param c 0 1)) 9)) j r ∧
      r.status = 0 ∧ r.res0 = (if visitCounts s (param c 0 1) then visitSerial s (param c 0 1) else 0xFFFFFFFF) ∧
      r.res2 = sporeCounter s 1 ∧ r.res3 = visitMark s := by
  refine ⟨{
    res0 := if visitCounts s (param c 0 1) then visitSerial s (param c 0 1) else 0xFFFFFFFF
    res1 := flagBit (visitCounts s (param c 0 1)) 0 + flagBit (visitCounts s (param c 0 1) && visitSerial s (param c 0 1) ≤ visitMark s) 1
    res2 := sporeCounter s 1, res3 := visitMark s }, exec_visitRead.trans (xci_answers h ?_), rfl, rfl, rfl, rfl⟩
  dsimp only
  rw [unlessRefused_when_not (by simpa using hk), unlessRefused_when_not (by rcases hbuf with hbuf | hbuf <;> simp [hbuf])]
  simp only [beq_iff_eq]
  rfl

/-! ### The card -/

section
variable (hj : readerJob s = some j) (hw : readerWorks s = true)
include hj hw

/-- The command at work, with the front end working. -/
theorem readerJob_works : (readerJob s).filter (fun _ => readerWorks s) = some j := by
  rw [hj, hw]
  rfl

theorem cardFrame_activated {tb l4 co : Bool} {ca ra : BitVec 2} {uid ats : Bytes} {sak : BitVec 32} (hop : j.op = 0x0B01) :
    exec (.cardFrame (.activated tb ca l4 co ra uid sak ats)) s = .next (pollAnswered s j tb l4 co ca ra uid sak ats) := by
  simp only [exec_cardFrame, execCardFrame, readerJob_works hj hw, hop, beq_self_eq_true, if_true]

theorem cardFrame_malformed (hop : j.op = 0x0B01) :
    exec (.cardFrame .malformedAts) s = .next (raise (complete (fieldDown s) j { status := 0x0B03 }) [75]) := by
  simp only [exec_cardFrame, execCardFrame, readerJob_works hj hw, hop, beq_self_eq_true, if_true]
  rfl

theorem pollTimeout_ends (hop : j.op = 0x0B01) : exec .pollTimeout s = .next (complete s j { status := 0x0B01 }) := by
  simp only [exec_pollTimeout, execPollTimeout, readerJob_works hj hw, hop, beq_self_eq_true, if_true]
  rfl

theorem cardFrame_response (hop : j.op = 0x0B02) (hb : 2 ≤ b.length) :
    let v := raise (s.onReader (fun r => { r with retries := 0, badBlocks := false })) [74]
    exec (.cardFrame (.response b)) s = .next (if param j.cmd 32 2 < b.length then complete v j (bad 32)
      else complete (bufWrite v j.cmd (param j.cmd 24 8) b) j { res0 := b.length, res1 := beNat (b.drop (b.length - 2)) }) := by
  have hlen : ¬ b.length < 2 := by omega
  simp only [exec_cardFrame, execCardFrame, readerJob_works hj hw, cardAnswered, hop, Nat.reduceBEq, Bool.false_eq_true, if_false, if_true, hlen]
  rfl

section
variable (hop : j.op ≠ 0x0B01)
include hop

theorem cardWtxRequest_waits {w : BitVec 6} : exec (.cardWtxRequest w) s = .next (s.onReader (fun r => { r with wtx := w.toNat })) := by
  simp only [exec_cardWtxRequest, execCardWtxRequest, readerJob_works hj hw, beq_eq_false_iff_ne.mpr hop, Bool.false_eq_true, if_false]

theorem readerFrameTimeout_retransmits : exec .readerFrameTimeout s = .next (retransmit s j false) := by
  simp only [exec_readerFrameTimeout, execReaderFrameTimeout, readerJob_works hj hw, beq_eq_false_iff_ne.mpr hop, Bool.false_eq_true, if_false]

theorem invalidBlock_retransmits : exec (.cardFrame .invalidBlock) s = .next (retransmit s j true) := by
  simp only [exec_cardFrame, execCardFrame, readerJob_works hj hw, beq_eq_false_iff_ne.mpr hop, Bool.false_eq_true, if_false]
end
end

/-- R655: up to three retransmissions. -/
theorem retransmit_again {bad : Bool} (h : s.reader.retries < 3) :
    retransmit s j bad = s.onReader (fun r => { r with badBlocks := r.badBlocks || bad, retries := r.retries + 1 }) := by
  rw [retransmit, if_pos h]
  rfl

/-- R655: after them the command fails as its blocks, or their silence, say. -/
theorem retransmit_fails (h : 3 ≤ s.reader.retries) :
    retransmit s j false = raise (complete (fieldDown s) j { status := if s.reader.badBlocks then 0x0B03 else 0x0B02 }) [75] := by
  have hsame : s.onReader (fun r => { r with badBlocks := r.badBlocks || false }) = s := by simp only [Bool.or_false]; rfl
  simp only [retransmit, hsame, if_neg (Nat.not_lt.mpr h)]
  rfl

/-- Settles O47, command after command, then what the card does. -/
theorem readerCommandsAndCards : Obligations.ReaderCommandsAndCards := by
  refine ⟨fun s c j hn => ⟨?_, ?_, ?_, ?_⟩, fun s c j h => ⟨fun hk => ?_, fun hk hbuf => visitRead_answers h hk hbuf⟩, fun s j hj hw => ⟨?_, ?_, ?_⟩⟩
  · intro h htypes hsome hrate hl4 hlo hhi hbuf
    have hp : PollParams (started s c j) c := ⟨htypes, hsome, hrate, hl4, hlo, hhi, hbuf⟩
    exact ⟨fun r hr => readerPoll_gone h hn hp hr, fun hr => ⟨fun ⟨hoff, htag⟩ => readerPoll_fieldRefused h hn hp hr hoff htag,
      fun hok => ⟨_, readerPoll_begins h hn hp hr hok, raiseField_pollStarted h hn hok⟩⟩⟩
  · intro h hapdu hlo hhi hout holo hohi hr
    have hbody := execReaderExchange_body h hn ⟨hapdu, hlo, hhi, hout, holo, hohi⟩ hr
    refine ⟨fun hl4 => hbody.trans ?_, fun hl4 => hbody.trans ?_⟩
    · rw [noLayer4, unlessRefused_when (by change (!s.reader.layer4) = true; rw [hl4]; rfl)]
      rfl
    · rw [noLayer4, unlessRefused_when_not (by change (!s.reader.layer4) = false; rw [hl4]; rfl)]
      rfl
  · exact fun h hr => ⟨_, readerFieldOff_answers h hn hr, fieldDown_off⟩
  · exact fun h hk hbuf hr hl4 hcal b u hg => ⟨_, badgeVerify_begins h hn hk hbuf hr hl4 hcal hg, rfl, rfl⟩
  · exact exec_visitRead.trans (xci_answers h (unlessRefused_when (by simpa using hk)))
  · exact fun hop => ⟨fun _ _ _ _ _ _ _ _ => cardFrame_activated hj hw hop, pollTimeout_ends hj hw hop, cardFrame_malformed hj hw hop⟩
  · intro hop b hb
    have hresp := cardFrame_response hj hw hop hb
    exact ⟨fun hlong => hresp.trans (by rw [if_pos hlong]), fun hfits => hresp.trans (by rw [if_neg (Nat.not_lt.mpr hfits)])⟩
  · intro hop
    refine ⟨fun w => cardWtxRequest_waits hj hw hop, fun h3 => ⟨?_, ?_⟩, fun h3 => ?_⟩
    · rw [readerFrameTimeout_retransmits hj hw hop, retransmit_again h3]
      simp only [Bool.or_false]
    · rw [invalidBlock_retransmits hj hw hop, retransmit_again h3]
      simp only [Bool.or_true]
    · rw [readerFrameTimeout_retransmits hj hw hop, retransmit_fails h3]

end Sys2Proof.Proofs
end

section
/-! SUPPORT. UPDATE_START, the update's reports, ROSTER_SET, and Crozier's start with the commands that had to end (R690 to R693, R709 to R713,
Table 16.8). -/

namespace Sys2Proof.Proofs
open Sys2Proof Sys2Proof.Machine Sys2Proof.Claims

variable {s t : State} {c : Cmd} {j : Job} {i : Nat} {x : FlashUnit} {use : FlashUse}

theorem exec_updateStart : exec (.updateStart c) s = execUpdateStart c s := rfl
theorem exec_updateStatus : exec (.updateStatus c) s = execUpdateStatus c s := rfl
theorem exec_chainStatus : exec (.chainStatus c) s = execChainStatus c s := rfl
theorem exec_rosterSet : exec (.rosterSet c) s = execRosterSet c s := rfl

/-! ### UPDATE_START -/

/-- The image an UPDATE_START names: that of the package, or the one that runs (R691). -/
def manifestNamed (s : State) (c : Cmd) : Manifest :=
  if param c 8 1 % 2 = 1 then manifestOf (hostRead s 0 (param c 0 8) 512) else runningManifest s
/-- The session it opens, before the drain and the feeds. -/
def sessionOpened (s : State) (c : Cmd) : State :=
  let m := manifestNamed s c
  let isLocal := bitOf (param c 8 1) 0
  s.onUpdate (fun u => { u with
    session := Machine.newSession s, starts := u.starts + 1, svn := BitVec.ofNat 32 m.svn, version := BitVec.ofNat 32 m.version, size := m.size
    chunks := chunksOf m.size, digest := m.digest, highWater := if isLocal then 0 else chunksOf m.size, isLocal := isLocal
    relay := bitOf (param c 8 1) 1, pkg := param c 0 8, receivers := [], acks := [], erased := [], held := [], chunkData := [], progress := none
    state := 3 })
/-- A local one drains towards Crozier (R692). -/
def sessionBegun (s : State) (c : Cmd) : State := if param c 8 1 % 2 = 1 then beginHandover (sessionOpened s c) else sessionOpened s c

/-- The ranges of UPDATE_START's PARAMS. -/
structure UpdateParams (c : Cmd) : Prop where
  flags : param c 8 1 ≤ 3
  some : 1 ≤ param c 8 1
  aligned : param c 0 8 % 8 = 0
  noPackage : param c 8 1 % 2 = 0 → param c 0 8 = 0
  confirm : Confirms c 10 0x0A01

theorem bitOf_zero_iff {n : Nat} : (bitOf n 0 = true) = (n % 2 = 1) := by simp [bitOf]
theorem bitOf_one_iff {n : Nat} (h : n ≤ 3) : (bitOf n 1 = true) = (2 ≤ n) := by
  simp only [bitOf, beq_iff_eq, eq_iff_iff, Nat.reducePow]
  omega

/-- Past its ranges UPDATE_START makes its checks in the order of R691 and R709, and opens the session. -/
theorem execUpdateStart_body (h : Starts 0x0A01 c s j) (hp : UpdateParams c) :
    let t := started s c j
    let m := manifestNamed t c
    exec (.updateStart c) s = .next (bodyDone j (unlessRefused t [
        when (t.update.state != 0) { status := 0x0A04 }, when (floorSpent t) { status := 0x0A03 }, when (!m.ok) { status := 0x0A05 },
        when (m.svn < floorValue t) { status := 0x0A02 }, when t.flash.crozierTorn { status := 0x0A07 }, when (bankWorn t) { status := 0x0A01 },
        when (decide (2 ≤ param c 8 1) && silent t) { status := 0x0A06 }]
      (if 2 ≤ param c 8 1 then relayFeeds (sessionBegun t c) none else sessionBegun t c, none))) := by
  obtain ⟨hflags, hsome, halign, hnone, hconf⟩ := hp
  have haddr : (param c 0 8 % 8 != 0 || (!bitOf (param c 8 1) 0 && param c 0 8 != 0)) = false := by
    rcases Nat.mod_two_eq_zero_or_one (param c 8 1) with hl | hl
    · simp [hnone hl]
    · simp [halign, bitOf_zero_iff, hl]
  have hany : (decide (param c 8 1 > 3) || (!bitOf (param c 8 1) 0 && !bitOf (param c 8 1) 1)) = false := by
    rw [← Bool.not_or, Bool.or_eq_false_iff, Bool.not_eq_false', Bool.or_eq_true, bitOf_zero_iff, bitOf_one_iff hflags]
    exact ⟨by simpa using hflags, by omega⟩
  have hrelay : bitOf (param c 8 1) 1 = decide (2 ≤ param c 8 1) := by rw [Bool.eq_iff_iff, bitOf_one_iff hflags, decide_eq_true_iff]
  have hm : (if bitOf (param c 8 1) 0 = true then manifestOf (hostRead (started s c j) 0 (param c 0 8) 512) else runningManifest (started s c j)) =
      manifestNamed (started s c j) c := by simp only [bitOf_zero_iff, manifestNamed]
  refine (exec_updateStart.trans (xci_starts h)).trans ?_
  dsimp only
  rw [haddr, hany, confirmBad_of_confirms hconf, hm, hrelay]
  simp only [when_false, unlessRefused_passed, fail, Status.updateActive, Status.floorSpent, Status.manifestBad, Status.belowFloor, Status.flashFailed,
    Status.wornBlock, Status.notEnrolled, sessionBegun, sessionOpened, hrelay, decide_eq_true_eq, bitOf_zero_iff]

/-- What the session's opening sets, and what it leaves (R690, R691). -/
theorem sessionBegun_fields : let w := sessionBegun t c
    let m := manifestNamed t c
    w = { t with update := w.update, boot := w.boot } ∧ w.update.session = Machine.newSession t ∧ w.update.starts = t.update.starts + 1 ∧
      w.update.svn = BitVec.ofNat 32 m.svn ∧ w.update.size = m.size ∧ w.update.chunks = chunksOf m.size ∧ w.update.digest = m.digest ∧
      (param c 8 1 % 2 = 1 → w.update.state = 1 ∧ w.update.highWater = 0 ∧ w.boot = { t.boot with state := .updating }) ∧
      (param c 8 1 % 2 = 0 → w.update.state = 3 ∧ w.update.highWater = chunksOf m.size ∧ w.boot = t.boot) := by
  rcases Nat.mod_two_eq_zero_or_one (param c 8 1) with hl | hl
  · have hbit : bitOf (param c 8 1) 0 = false := by rw [← Bool.not_eq_true, bitOf_zero_iff, hl]; decide
    have hw : sessionBegun t c = sessionOpened t c := by rw [sessionBegun, hl]; rfl
    rw [hw, hl]
    exact ⟨rfl, rfl, rfl, rfl, rfl, rfl, rfl, (fun h => nomatch h), fun _ => ⟨rfl, if_neg (by rw [hbit]; exact Bool.false_ne_true), rfl⟩⟩
  · have hbit : bitOf (param c 8 1) 0 = true := by rw [bitOf_zero_iff, hl]
    have hw : sessionBegun t c = beginHandover (sessionOpened t c) := by rw [sessionBegun, hl]; rfl
    rw [hw, hl]
    exact ⟨rfl, rfl, rfl, rfl, rfl, rfl, rfl, fun _ => ⟨rfl, if_pos hbit, rfl⟩, (fun h => nomatch h)⟩

/-! ### The reports and ROSTER_SET -/

theorem updateStatus_answers (h : Starts 0x0A02 c s j) :
    Answers (.updateStatus c) s (started s c j) j {
      res0 := (if s.update.state = 2 ∧ s.update.highWater = s.update.chunks then 3 else s.update.state) + s.update.cause % 256 * 2 ^ 8 +
        s.update.highWater % 2 ^ 16 * 2 ^ 16
      res1 := s.update.chunks
      res2 := s.update.session.toNat % 2 ^ 32
      res3 := countReceivers s (· == 1) + countReceivers s (fun k => k == 0 || k == 4) * 2 ^ 8 + countReceivers s (· == 2) * 2 ^ 16 +
        countReceivers s (· == 3) * 2 ^ 24 } := by
  have hst : updateState (started s c j) = if s.update.state = 2 ∧ s.update.highWater = s.update.chunks then 3 else s.update.state := by
    simp only [updateState, Bool.and_eq_true, beq_iff_eq]
    rfl
  refine exec_updateStatus.trans (xci_answers h ?_)
  rw [hst]
  rfl

theorem chainStatus_refused (h : Starts 0x0A03 c s j) (hp : param c 0 1 ≤ 1) (hk : 1 < param c 1 1) :
    Answers (.chainStatus c) s (started s c j) j (bad 1) := by
  refine exec_chainStatus.trans (xci_answers h ?_)
  rw [unlessRefused_when_not (by simpa using hp), unlessRefused_when (by simpa using hk)]

theorem chainStatus_port (h : Starts 0x0A03 c s j) (hp : param c 0 1 ≤ 1) (hk : param c 1 1 = 0) :
    let x := portOf s (if param c 0 1 = 0 then 0 else 1)
    ∃ r, Answers (.chainStatus c) s (started s c j) j r ∧ r.status = 0 ∧ r.res1 = heardMask x % 2 ^ 32 ∧ r.res2 = heardMask x / 2 ^ 32 ∧
      r.res3 = min 0xFFFF x.edge + min 0xFFFF x.intrusionCount * 2 ^ 16 := by
  refine ⟨?reply, exec_chainStatus.trans (xci_answers h ?body), ?fields⟩
  case body =>
    rw [unlessRefused_when_not (by simpa using hp), unlessRefused_when_not (by rw [hk]; rfl), unlessRefused_nil]
    simp only [hk, beq_self_eq_true, if_true, beq_iff_eq]
    rfl
  case fields => exact ⟨rfl, rfl, rfl, rfl⟩

theorem chainStatus_counts (h : Starts 0x0A03 c s j) (hp : param c 0 1 ≤ 1) (hk : param c 1 1 = 1) :
    let x := portOf s (if param c 0 1 = 0 then 0 else 1)
    Answers (.chainStatus c) s (started s c j) j {
      res0 := min 0xFFFFFFFF x.crcErrors, res1 := min 0xFFFFFFFF x.macFails, res2 := min 0xFFFFFFFF x.badPids
      res3 := min 0xFFFF x.strangers + min 0xFFFF x.collisions * 2 ^ 16 } := by
  refine exec_chainStatus.trans (xci_answers h ?_)
  rw [unlessRefused_when_not (by simpa using hp), unlessRefused_when_not (by rw [hk]; rfl), unlessRefused_nil]
  simp only [hk, Nat.reduceBEq, Bool.false_eq_true, if_false, beq_iff_eq]
  rfl

theorem rosterSet_bad (h : Starts 0x0A04 c s j) (hbad : rosterBad (hostRead s 0 (param c 0 8) (24 * param c 8 1)) = true) :
    Answers (.rosterSet c) s (started s c j) j (bad 0) := by
  refine exec_rosterSet.trans (xci_answers h (unlessRefused_when ?_))
  rw [Bool.or_eq_true]
  exact Or.inr hbad

/-- A roster of distinct addresses in range meets the open session only (R710). -/
theorem execRosterSet_body (h : Starts 0x0A04 c s j) (hal : param c 0 8 % 8 = 0) (hconf : Confirms c 16 0x0A04) :
    let bs := hostRead s 0 (param c 0 8) (24 * param c 8 1)
    let t := started s c j
    rosterBad bs = false → 1 ≤ param c 8 1 → param c 8 1 ≤ 64 → ((rosterOf bs).map (·.address)).Nodup →
    exec (.rosterSet c) s = .next (bodyDone j (unlessRefused t [when (s.update.state != 0) { status := 0x0A04 }]
      (onJob (flashCommand t j (configUnit t)) c (fun x => { x with draws := bs }), none))) := by
  intro bs t hok hlo hhi hnd
  have haddr : (param c 0 8 % 8 != 0 || rosterBad (hostRead t 0 (param c 0 8) (24 * param c 8 1))) = false := by
    rw [hal]
    exact hok
  have hcount : (decide (param c 8 1 < 1) || decide (param c 8 1 > 64) ||
      decide (¬ ((rosterOf (hostRead t 0 (param c 0 8) (24 * param c 8 1))).map (·.address)).Nodup)) = false := by
    rw [decide_eq_false (by omega), decide_eq_false (by omega)]
    exact decide_eq_false (not_not.mpr hnd)
  refine (exec_rosterSet.trans (xci_starts h)).trans ?_
  dsimp only
  rw [haddr, hcount, confirmBad_of_confirms hconf]
  rfl

/-! ### FLASH_WEAR's refusals and its WORN bit -/

theorem flashWear_refused (h : Starts 0x0A05 c s j) :
    (3 < param c 0 1 → Answers (.flashWear c) s (started s c j) j (bad 0)) ∧
    (param c 0 1 ≤ 3 → unitsOf (param c 0 1) ≤ param c 2 2 → Answers (.flashWear c) s (started s c j) j (bad 2)) := by
  refine ⟨fun hk => exec_flashWear.trans (xci_answers h ?_), fun hk hu => exec_flashWear.trans (xci_answers h ?_)⟩
  · exact unlessRefused_when (by simpa using hk)
  · dsimp only
    rw [unlessRefused_when_not (by simpa using hk), unlessRefused_when (by simpa using hu)]

/-- The lowest bit of a sum whose other terms are even. -/
theorem flagBit_odd_iff {b d e : Bool} {n : Nat} (hn : n % 2 = 0) : (flagBit b 0 + flagBit d 1 + flagBit e 2 + n) % 2 = 1 ↔ b = true := by
  cases b <;> cases d <;> cases e <;> simp [flagBit] <;> omega

theorem flashWear_reply (h : Starts 0x0A05 c s j) (hk : param c 0 1 ≤ 3) (hu : param c 2 2 < unitsOf (param c 0 1)) :
    let u : FlashUnit := ⟨param c 0 1, param c 2 2⟩
    ∃ r, Answers (.flashWear c) s (started s c j) j r ∧ r.status = 0 ∧ r.res0 = eraseCount s u ∧
      r.res1 = (if param c 0 1 < 2 then 10000 else 100000) ∧ (r.res2 % 2 = 1 ↔ wornMark s u = true) := by
  refine ⟨?reply, exec_flashWear.trans (xci_answers h ?body), ?fields⟩
  case body =>
    dsimp only
    rw [unlessRefused_when_not (by simpa using hk), unlessRefused_when_not (by simpa using hu), unlessRefused_nil]
  case fields =>
    refine ⟨rfl, rfl, rfl, flagBit_odd_iff ?_⟩
    split <;> omega

/-! ### What Crozier's start leaves, and its first erase -/

theorem OnlyFlash.update (h : OnlyFlash s t) : t.update = s.update := by
  obtain ⟨f, rfl⟩ := h
  rfl

theorem post_update {r : Reply} : (post s j r).update = s.update := (congrArg State.update apartFromMailbox_post :)

theorem dropInvocations_update {p : Inv → Bool} : (dropInvocations s p).update = s.update := by
  rw [dropInvocations, State.onPinnas_update]
  refine List.foldlRecOn _ _ (motive := fun a : State => a.update = s.update) rfl (fun a ha u _ => ?_)
  split
  · exact ha
  · exact ha

theorem dropInvocations_flash {p : Inv → Bool} : (dropInvocations s p).flash = s.flash := by
  rw [dropInvocations, State.onPinnas_flash]
  refine List.foldlRecOn _ _ (motive := fun a : State => a.flash = s.flash) rfl (fun a ha u _ => ?_)
  split
  · exact ha
  · exact ha

theorem appendConfig_update : (appendConfig s).update = s.update := by
  simp only [appendConfig, State.onFlash_update]
  split <;> rfl

theorem appendConfig_ops : (appendConfig s).flash.ops = s.flash.ops := by
  simp only [appendConfig, State.onFlash_flash]
  split <;> rfl

/-- An erase of the unit is requested or open, for a given use. -/
def ErasesFor (s : State) (x : FlashUnit) (use : FlashUse) : Prop := ∃ o ∈ s.flash.ops, o.unit = x ∧ o.erase = true ∧ o.use = use

/-- What starts waiting erases keeps those requested. -/
theorem erasesFor_startErase (h : ErasesFor s x use) : ErasesFor (startErase s i) x use := by
  unfold startErase
  split
  · exact h
  next o ho =>
    split
    · exact h
    · obtain ⟨y, hy, hunit, herase, huse⟩ := h
      obtain ⟨k, hk⟩ := List.mem_iff_getElem?.mp hy
      have hops : (jAppend (if journalRoom s = true then s else switchJournal s) 1 o.unit).flash.ops = s.flash.ops := by
        rw [jAppend_ops]
        split
        · rfl
        · exact switchJournal_ops
      simp only [ErasesFor, State.onFlash_flash, hops]
      by_cases hki : i = k
      · subst hki
        rw [ho] at hk
        cases hk
        obtain ⟨hlt, -⟩ := List.getElem?_eq_some_iff.mp ho
        exact ⟨_, List.mem_iff_getElem?.mpr ⟨i, List.getElem?_set_self hlt⟩, hunit, herase, huse⟩
      · exact ⟨y, List.mem_iff_getElem?.mpr ⟨k, by rw [List.getElem?_set_ne hki, hk]⟩, hunit, herase, huse⟩

theorem erasesFor_openFlash : ErasesFor (openFlash s x true use) x use :=
  List.foldlRecOn _ _ (motive := fun a => ErasesFor a x use) ⟨_, List.mem_append_right _ (List.mem_singleton_self _), rfl, rfl, rfl⟩
    (fun _ ha _ _ => erasesFor_startErase ha)

/-- R695: with no block erased yet Crozier requests the erase of block 30, and programs no page. -/
theorem writeNext_first (hc : s.update.crozier = true) (he : s.update.erased = []) :
    writeNext s = if s.update.chunks = 0 ∨ openErase s = true then s else openFlash s ⟨0, 30⟩ true (.crozierErase 30) := by
  have hblock : blockToErase s = some 30 := by simp [blockToErase, he]
  have hnoPage : ∀ a : State, a.update = s.update → ∀ n, mayProgram a n = false := fun a ha n => by simp [mayProgram, ha, he]
  have hopen : ∀ b, (openFlash s ⟨0, 30⟩ b (.crozierErase 30)).update = s.update := fun _ => onlyFlash_openFlash.update
  by_cases hch : s.update.chunks = 0
  · simp [writeNext, hch]
  · by_cases ho : openErase s = true
    · simp [writeNext, writingBank, hc, hch, hblock, ho, he, hnoPage s rfl]
    · simp [writeNext, writingBank, hc, hch, hblock, ho, he, hnoPage _ (hopen true)]

theorem writeNext_first_update (hc : s.update.crozier = true) (he : s.update.erased = []) : (writeNext s).update = s.update := by
  rw [writeNext_first hc he]
  split
  · rfl
  · exact onlyFlash_openFlash.update

/-! ### CROZIER_HANDOVER -/

/-- The commands that may not go on after the drain (R692). -/
def drainedCommands (s : State) : List Job :=
  s.jobs.filter (fun j => decide (j.op ≠ 0x0A01 ∧ ¬(j.cmd.fn = 0 ∧ range j.op ∈ [0x00, 0x08, 0x0A, 0x0D])))
/-- The device after they have ended. -/
def afterDrain (s : State) : State :=
  if drainedCommands s = [] then s else
    (drainedCommands s).foldl (fun a j => complete a j { status := 0x000E }) (atInstant s (s.update.handoverAt + 10000000))
/-- Crozier in charge, with the progress recorded. -/
def crozierStarted (s : State) : State :=
  (appendConfig (dropInvocations s (fun _ => true))).onUpdate (fun u => { u with state := 2, crozier := true, progress := some (progressOf u) })
/-- The waiting UPDATE_START completed. -/
def startAnswered (s : State) : State :=
  match s.jobs.find? (fun j => j.op == 0x0A01 && j.stage == .waiting) with | some j => post s j (updateReply s) | none => s

theorem crozierHandover_eq (hu : s.update.state = 1) (hb : s.boot.state = .updating) :
    exec .crozierHandover s = .next (writeNext (startAnswered (crozierStarted (afterDrain s)))) := by
  have hleft : s.jobs.filter (fun j => j.op != 0x0A01 && !(j.cmd.fn == 0 && [0x00, 0x08, 0x0A, 0x0D].contains (range j.op))) = drainedCommands s := by
    rw [drainedCommands]
    congr 1
    funext j
    rw [Bool.eq_iff_iff]
    simp
  have hgo : ¬(s.update.state != 1 || s.boot.state != .updating) = true := by
    rw [hu, hb]
    decide
  have hdrain : (drainedCommands s).foldl (fun a j => complete a j (fail Status.serviceLimited))
      (if (drainedCommands s).isEmpty then s else atInstant s (s.update.handoverAt + 10000000)) = afterDrain s := by
    unfold afterDrain
    by_cases hnone : drainedCommands s = []
    · rw [if_pos hnone, hnone, List.isEmpty_nil, if_pos rfl, List.foldl_nil]
    · have hsome : ¬(drainedCommands s).isEmpty = true := by simpa using hnone
      rw [if_neg hnone, if_neg hsome]
      rfl
  rw [exec_crozierHandover, execCrozierHandover, if_neg hgo, hleft]
  dsimp only
  rw [hdrain]
  refine congrArg (fun a => Host.Outcome.next (writeNext a)) ?_
  unfold startAnswered crozierStarted
  generalize State.onUpdate (appendConfig _) _ = m
  cases m.jobs.find? (fun j => j.op == 0x0A01 && j.stage == .waiting) <;> rfl

theorem crozierStarted_update : (crozierStarted s).update = { s.update with state := 2, crozier := true, progress := some (progressOf s.update) } := by
  rw [crozierStarted, State.onUpdate_update, appendConfig_update, dropInvocations_update]

theorem crozierStarted_ops : (crozierStarted s).flash.ops = s.flash.ops := by
  rw [crozierStarted, State.onUpdate_flash, appendConfig_ops, dropInvocations_flash]

theorem startAnswered_update : (startAnswered s).update = s.update := by
  unfold startAnswered
  split
  · exact post_update
  · rfl

theorem startAnswered_flash : (startAnswered s).flash = s.flash := by
  unfold startAnswered
  split
  · exact post_flash
  · rfl

theorem openErase_startAnswered_crozierStarted : openErase (startAnswered (crozierStarted s)) = openErase s := by
  rw [openErase, startAnswered_flash, crozierStarted_ops, openErase]

/-- With nothing to end and no block erased Crozier records the progress and requests the erase of block 30. -/
theorem crozierStarts (he : s.update.erased = []) : let v := writeNext (startAnswered (crozierStarted s))
    v.update.crozier = true ∧ v.update.state = 2 ∧ v.update.progress = some (progressOf s.update) ∧
      (s.update.chunks ≠ 0 → openErase s = false → ErasesFor v ⟨0, 30⟩ (.crozierErase 30)) := by
  have hu := (startAnswered_update (s := crozierStarted s)).trans crozierStarted_update
  have hc : (startAnswered (crozierStarted s)).update.crozier = true := by rw [hu]
  have he' : (startAnswered (crozierStarted s)).update.erased = [] := by rw [hu]; exact he
  intro v
  have hv : v.update = _ := (writeNext_first_update hc he').trans hu
  refine ⟨by rw [hv], by rw [hv], by rw [hv], fun hch ho => ?_⟩
  have hgo : ¬((startAnswered (crozierStarted s)).update.chunks = 0 ∨ openErase (startAnswered (crozierStarted s)) = true) := by
    rw [hu, openErase_startAnswered_crozierStarted, ho]
    exact fun h => h.elim hch Bool.false_ne_true
  have hopen : v = openFlash _ ⟨0, 30⟩ true (.crozierErase 30) := (writeNext_first hc he').trans (if_neg hgo)
  rw [hopen]
  exact erasesFor_openFlash

/-- The checks of UPDATE_START in their order, and the session that passes them. -/
theorem updateStart_cases (h : Starts 0x0A01 c s j) (hp : UpdateParams c) :
    let t := started s c j
    let m := manifestNamed t c
    let no := fun st : Nat => Answers (.updateStart c) s t j { status := st }
    (s.update.state ≠ 0 → no 0x0A04) ∧
    (s.update.state = 0 → floorSpent t = true → no 0x0A03) ∧
    (s.update.state = 0 → floorSpent t = false → m.ok = false → no 0x0A05) ∧
    (s.update.state = 0 → floorSpent t = false → m.ok = true → m.svn < floorValue t → no 0x0A02) ∧
    (s.update.state = 0 → floorSpent t = false → m.ok = true → floorValue t ≤ m.svn → s.flash.crozierTorn = true → no 0x0A07) ∧
    (s.update.state = 0 → floorSpent t = false → m.ok = true → floorValue t ≤ m.svn → s.flash.crozierTorn = false →
      (bankWorn t = true → no 0x0A01) ∧
      (bankWorn t = false → 2 ≤ param c 8 1 → silent t = true → no 0x0A06) ∧
      (bankWorn t = false → (2 ≤ param c 8 1 → silent t = false) →
        exec (.updateStart c) s = .next (if 2 ≤ param c 8 1 then relayFeeds (sessionBegun t c) none else sessionBegun t c))) := by
  intro t m no
  have hbody := execUpdateStart_body h hp
  have hstate : s.update.state = 0 → (t.update.state != 0) = false := fun h => by
    change (s.update.state != 0) = false
    rw [h]
    rfl
  have hsvn : floorValue t ≤ m.svn → decide (m.svn < floorValue t) = false := fun h => by simpa using h
  have htorn : t.flash.crozierTorn = s.flash.crozierTorn := rfl
  refine ⟨fun hs => hbody.trans ?_, fun hs hf => hbody.trans ?_, fun hs hf hm => hbody.trans ?_, fun hs hf hm hv => hbody.trans ?_,
    fun hs hf hm hv ht => hbody.trans ?_, fun hs hf hm hv ht => ⟨fun hw => hbody.trans ?_, fun hw hr hsil => hbody.trans ?_, fun hw hok => hbody.trans ?_⟩⟩
  · rw [unlessRefused_when (by change (s.update.state != 0) = true; simpa using hs)]
    rfl
  · rw [unlessRefused_when_not (hstate hs), unlessRefused_when hf]
    rfl
  · rw [unlessRefused_when_not (hstate hs), unlessRefused_when_not hf, unlessRefused_when (by rw [hm]; rfl)]
    rfl
  · rw [unlessRefused_when_not (hstate hs), unlessRefused_when_not hf, unlessRefused_when_not (by rw [hm]; rfl),
      unlessRefused_when (decide_eq_true hv)]
    rfl
  all_goals rw [unlessRefused_when_not (hstate hs), unlessRefused_when_not hf, unlessRefused_when_not (by rw [hm]; rfl),
    unlessRefused_when_not (hsvn hv)]
  · rw [unlessRefused_when (htorn.trans ht)]
    rfl
  all_goals rw [unlessRefused_when_not (htorn.trans ht)]
  · rw [unlessRefused_when hw]
    rfl
  all_goals rw [unlessRefused_when_not hw]
  · rw [unlessRefused_when (by rw [hsil, decide_eq_true hr]; rfl)]
    rfl
  · rw [unlessRefused_when_not, unlessRefused_nil, bodyDone_begins]
    rw [Bool.and_eq_false_iff, decide_eq_false_iff_not]
    exact (Classical.em (2 ≤ param c 8 1)).elim (fun hr => .inr (hok hr)) .inl

/-- Settles O46, command after command, then the hand-over. -/
theorem updateAndFlashCommands : Obligations.UpdateAndFlashCommands := by
  refine ⟨fun s c j => ⟨?_, updateStatus_answers, fun h hp => ⟨chainStatus_port h hp, chainStatus_counts h hp, chainStatus_refused h hp⟩, ?_, ?_, ?_⟩,
    fun s hu hb => ?_⟩
  · intro h hflags hsome hal hnone hconf
    obtain ⟨hactive, hfloor, hbad, hbelow, htorn, hrest⟩ := updateStart_cases h ⟨hflags, hsome, hal, hnone, hconf⟩
    refine ⟨hactive, hfloor, hbad, hbelow, htorn, fun hs hf hm hv ht => ?_⟩
    obtain ⟨hworn, hsilent, hgo⟩ := hrest hs hf hm hv ht
    exact ⟨hworn, hsilent, fun hw hok => ⟨_, sessionBegun (started s c j) c, hgo hw hok, rfl, sessionBegun_fields⟩⟩
  · intro h bs hal hconf
    refine ⟨rosterSet_bad h, fun hok hlo hhi hnd => ?_⟩
    have hbody := execRosterSet_body h hal hconf hok hlo hhi hnd
    refine ⟨fun hs => hbody.trans ?_, fun hs => hbody.trans ?_⟩
    · rw [unlessRefused_when (by simpa using hs)]
      rfl
    · rw [unlessRefused_when_not (by simpa using hs), unlessRefused_nil, bodyDone_begins]
  · intro h k u
    obtain ⟨hkind, hunit⟩ := flashWear_refused h
    exact ⟨hkind, hunit, flashWear_reply h⟩
  · exact fun h hb ha hc => wornOverride_begins h hb ha hc
  · intro left r m n
    have hn : n = startAnswered (crozierStarted (afterDrain s)) := by
      change _ = startAnswered m
      simp only [n, startAnswered] <;> cases m.jobs.find? (fun j => j.op == 0x0A01 && j.stage == .waiting) <;> rfl
    rw [hn]
    refine ⟨crozierHandover_eq hu hb, fun hleft hjob he => ?_⟩
    have hsame : afterDrain s = s := if_pos hleft
    rw [hsame]
    exact crozierStarts he

end Sys2Proof.Proofs
end

section
/-! SUPPORT. The Spore store, the visit records, a tag session and the APDUs of Table 15.7 (R624 to R656). -/

namespace Sys2Proof.Proofs
open Sys2Proof Sys2Proof.Machine Sys2Proof.Claims

variable {s t : State} {a : Apdu} {b : Bytes} {k n w sw : Nat} {v : U64}

theorem exec_sporeWordWrite {x : BitVec 10} : exec (.sporeWordWrite x v) s = execSporeWordWrite x v s := rfl
theorem exec_sporeRingMirror : exec .sporeRingMirror s = execSporeRingMirror s := rfl
theorem exec_challengePoolRefill : exec .challengePoolRefill s = execChallengePoolRefill s := rfl
theorem exec_tagFieldOn {h : Fin 4} : exec (.tagFieldOn h) s = execTagFieldOn h s := rfl
theorem exec_tagActivation : exec .tagActivation s = execTagActivation s := rfl
theorem exec_tagSessionEnd {lost : Bool} : exec (.tagSessionEnd lost) s = execTagSessionEnd lost s := rfl
theorem exec_unsupportedApdu : exec (.unsupportedApdu a) s = execUnsupportedApdu a s := rfl
theorem exec_selectApdu : exec (.selectApdu a) s = execSelectApdu a s := rfl
theorem exec_getChallenge : exec (.getChallenge a) s = execGetChallenge a s := rfl
theorem exec_authenticate : exec (.authenticate a) s = execAuthenticate a s := rfl
theorem exec_readLogHead : exec (.readLogHead a) s = execReadLogHead a s := rfl
theorem exec_readCounters : exec (.readCounters a) s = execReadCounters a s := rfl
theorem exec_readVisits : exec (.readVisits a) s = execReadVisits a s := rfl
theorem exec_writeVisit : exec (.writeVisit a) s = execWriteVisit a s := rfl

/-! ### Words and counters of the store -/

theorem sporeWord_setSpore_same : sporeWord (setSpore s w v) w = v := SMap.get_set_same

/-- R628: a word is written whole. -/
theorem sporeWordWrite_writes {x : BitVec 10} (hei : 1 ≤ heiOf s) (hlt : x.toNat < 540) (h50 : x.toNat ≠ 50) (h51 : x.toNat ≠ 51) :
    exec (.sporeWordWrite x v) s = .next (setSpore s x.toNat v) := by
  have hok : (decide (heiOf s < 1) || x.toNat == 50 || x.toNat == 51 || decide (x.toNat ≥ 540)) = false := by
    simp [h50, h51]
    omega
  rw [exec_sporeWordWrite, execSporeWordWrite, hok]
  rfl

theorem sporeWord_setSpores_ne {ws : List U64} (h : k < w ∨ w + ws.length ≤ k) : sporeWord (setSpores s w ws) k = sporeWord s k := by
  induction ws generalizing s w with
  | nil => rfl
  | cons x ws ih =>
    rw [List.length_cons] at h
    rw [setSpores, ih (by omega), sporeWord_setSpore_ne (by omega)]

theorem sporeWord_setSpores {ws : List U64} (h : n < ws.length) : sporeWord (setSpores s w ws) (w + n) = ws[n] := by
  induction ws generalizing s w n with
  | nil => cases h
  | cons x ws ih =>
    cases n with
    | zero =>
      rw [setSpores, sporeWord_setSpores_ne (by omega)]
      exact sporeWord_setSpore_same
    | succ n =>
      rw [setSpores, show w + (n + 1) = w + 1 + n by omega, ih (by simpa using h)]
      rfl

/-- The bytes of words just written are theirs. -/
theorem sporeBytes_setSpores {ws r : List U64} : sporeBytes (setSpores s w (ws ++ r)) w ws.length = ws.flatMap (fun x => leBytes 8 x.toNat) := by
  have hwords : (List.range ws.length).map (fun i => sporeWord (setSpores s w (ws ++ r)) (w + i)) = ws := by
    refine List.ext_getElem (by simp) fun i hi hlt => ?_
    rw [List.getElem_map, List.getElem_range, sporeWord_setSpores (by rw [List.length_append]; omega), List.getElem_append_left hlt]
  rw [sporeBytes]
  conv_rhs => rw [← hwords, List.flatMap_map]

theorem bad_setSpore (h : s.spore.bad = []) : (setSpore s w v).spore.bad = [] := by
  rw [setSpore, State.onSpore_spore, h]
  rfl

theorem bad_setSpores {ws : List U64} (h : s.spore.bad = []) : (setSpores s w ws).spore.bad = [] := by
  induction ws generalizing s w with
  | nil => exact h
  | cons x ws ih => exact ih (bad_setSpore h)

theorem bad_bumpSpore (h : s.spore.bad = []) : (bumpSpore s n).spore.bad = [] := by
  unfold bumpSpore
  dsimp only
  split
  · exact h
  · exact bad_setSpore (bad_setSpore h)

/-- A counter's value has 24 bits. -/
theorem sporeCounter_lt : sporeCounter s n < 2 ^ 24 := by
  have hcopy : ∀ {x : U64} {m : Nat}, sporeCopy x = some m → m < 2 ^ 24 := by
    intro x m hm
    simp only [sporeCopy] at hm
    split at hm
    · cases hm
      exact Nat.mod_lt _ (by decide)
    · cases hm
  have hread : ∀ {i m : Nat}, (if s.spore.bad.contains i then none else sporeCopy (sporeWord s i)) = some m → m < 2 ^ 24 := by
    intro i m hm
    split at hm
    · cases hm
    · exact hcopy hm
  simp only [sporeCounter]
  split
  next hx hy => exact max_lt (hread hx) (hread hy)
  next hx _ => exact hread hx
  next _ hy => exact hread hy
  next => decide

/-- A counter is read from its two words. -/
theorem sporeCounter_congr (hs : s.spore.bad = []) (ht : t.spore.bad = []) (h : ∀ i, i = 2 * n ∨ i = 2 * n + 1 → sporeWord t i = sporeWord s i) :
    sporeCounter t n = sporeCounter s n := by
  simp only [sporeCounter, hs, ht, h _ (.inl rfl), h _ (.inr rfl)]

/-! ### Visit records (R646, R647) -/

theorem visitSlot_lt : visitSlot s < 8 := by
  unfold visitSlot
  split
  next k hk => exact List.mem_range.mp (List.mem_of_find?_eq_some hk)
  · refine List.foldlRecOn _ _ (motive := fun m : Nat => m < 8) (by decide) (fun m hm k hk => ?_)
    split
    · exact List.mem_range.mp hk
    · exact hm

/-- The store with COMMIT of the slot cleared and the serial taken. -/
def serialTaken (s : State) : State := bumpSpore (setSpore s (visitBase (visitSlot s) + 8) 0) 1
/-- The words of the record. -/
def recordWords (s : State) (x : Visit) : List U64 := visitWords (sporeCounter (serialTaken s) 1) x
def recordCrc (s : State) (x : Visit) : U64 := crc64 ((recordWords s x).flatMap (fun w => leBytes 8 w.toNat))

theorem writeVisitRecord_eq {x : Visit} : writeVisitRecord s x =
    setSpores (serialTaken s) (visitBase (visitSlot s)) (recordWords s x ++ [recordCrc s x, ~~~recordCrc s x]) := rfl

section
variable {x : Visit} (hs : s.spore.bad = [])
include hs

theorem bad_writeVisitRecord : (writeVisitRecord s x).spore.bad = [] :=
  bad_setSpores (bad_bumpSpore (bad_setSpore hs))

/-- The record's words are no counter's. -/
theorem sporeCounter_writeVisitRecord : sporeCounter (writeVisitRecord s x) 1 = sporeCounter (serialTaken s) 1 :=
  sporeCounter_congr (bad_bumpSpore (bad_setSpore hs)) (bad_writeVisitRecord hs) (fun i hi => by
    rw [writeVisitRecord_eq, sporeWord_setSpores_ne (by rw [visitBase]; omega)])

omit hs in
theorem visitWord_writeVisitRecord {i : Nat} (hi : i < 9) :
    visitWord (writeVisitRecord s x) (visitSlot s) i = (recordWords s x ++ [recordCrc s x, ~~~recordCrc s x])[i]'hi := by
  rw [visitWord, writeVisitRecord_eq, sporeWord_setSpores hi]

/-- R646: its CRC and COMMIT agree. -/
theorem visitCounts_writeVisitRecord : visitCounts (writeVisitRecord s x) (visitSlot s) = true := by
  have hgood : firstBad (writeVisitRecord s x) ((List.range 9).map (visitBase (visitSlot s) + ·)) = none := by
    simp [firstBad, wordBad, bad_writeVisitRecord hs]
  have hbytes : sporeBytes (writeVisitRecord s x) (visitBase (visitSlot s)) 7 = (recordWords s x).flatMap (fun w => leBytes 8 w.toNat) := by
    have hlen : (recordWords s x).length = 7 := rfl
    rw [writeVisitRecord_eq, ← hlen]
    exact sporeBytes_setSpores
  have hcrc : visitWord (writeVisitRecord s x) (visitSlot s) 7 = recordCrc s x := visitWord_writeVisitRecord (by decide)
  have hcommit : visitWord (writeVisitRecord s x) (visitSlot s) 8 = ~~~recordCrc s x := visitWord_writeVisitRecord (by decide)
  rw [visitCounts, hgood, hbytes, hcrc, hcommit, recordCrc]
  simp

/-- Its SERIAL is Spore counter 1 after the increment. -/
theorem visitSerial_writeVisitRecord : visitSerial (writeVisitRecord s x) (visitSlot s) = sporeCounter (writeVisitRecord s x) 1 := by
  have hlt := sporeCounter_lt (s := serialTaken s) (n := 1)
  have hw : visitWord (writeVisitRecord s x) (visitSlot s) 0 = BitVec.ofNat 64 (sporeCounter (serialTaken s) 1 % 2 ^ 24 + x.flags % 2 ^ 8 * 2 ^ 24 +
      x.tech % 2 ^ 32 * 2 ^ 32) := visitWord_writeVisitRecord (by decide)
  rw [sporeCounter_writeVisitRecord hs, visitSerial, hw]
  generalize sporeCounter (serialTaken s) 1 = c at hlt
  simp only [bitsOf, BitVec.toNat_ofNat, pow_zero, Nat.div_one]
  omega
end

/-! ### The session -/

theorem tagFieldOn_still {h : Fin 4} (hno : s.tag.field = true ∨ running s = false) : exec (.tagFieldOn h) s =
    .next (s.onTag (fun x => { x with field := true, hei := h.val, fieldOns := if x.field then x.fieldOns else x.fieldOns + 1 })) := by
  have hno' : (s.tag.field || !running s) = true := by simpa using hno
  rw [exec_tagFieldOn, execTagFieldOn, if_pos hno']

theorem tagFieldOn_raises {h : Fin 4} (hf : s.tag.field = false) (hr : running s = true) : exec (.tagFieldOn h) s =
    .next (raise (s.onTag (fun x => { x with field := true, hei := h.val, fieldOns := if x.field then x.fieldOns else x.fieldOns + 1 })) [72]) := by
  have hgo : ¬(s.tag.field || !running s) = true := by simp [hf, hr]
  rw [exec_tagFieldOn, execTagFieldOn, if_neg hgo]

theorem tagActivation_opens (hf : s.tag.field = true) (hr : s.reader.fieldOn = false) : exec .tagActivation s =
    .next ((endSession s).onTag (fun x => { field := x.field, hei := x.hei, fieldOns := x.fieldOns, opened := true, answer := tagUid s })) := by
  have hgo : ¬(!s.tag.field || s.reader.fieldOn) = true := by simp [hf, hr]
  rw [exec_tagActivation, execTagActivation, if_neg hgo]
  rfl

/-- R649, R654: the end of an open session. -/
theorem endSession_opened (ho : s.tag.opened = true) :
    let m := s.onTag (fun x => { field := x.field, hei := x.hei, fieldOns := x.fieldOns })
    endSession s = if running s then importVisits m else m := by
  have hgo : ¬(!s.tag.opened) = true := by simp [ho]
  rw [endSession, if_neg hgo]
  rfl

theorem deferred_in_session (ho : s.tag.opened = true) : exec .sporeRingMirror s = .next s ∧ exec .challengePoolRefill s = .next s := by
  have hno : (!running s || s.tag.opened) = true := by rw [ho, Bool.or_true]
  rw [exec_sporeRingMirror, execSporeRingMirror, exec_challengePoolRefill, execChallengePoolRefill, if_pos hno, if_pos hno]
  exact ⟨rfl, rfl⟩

theorem done_without_session (hr : running s = true) (ho : s.tag.opened = false) :
    exec .sporeRingMirror s = .next (mirrorRing s) ∧ exec .challengePoolRefill s = .next (refillPool s) := by
  have hgo : ¬(!running s || s.tag.opened) = true := by simp [hr, ho]
  rw [exec_sporeRingMirror, execSporeRingMirror, exec_challengePoolRefill, execChallengePoolRefill, if_neg hgo, if_neg hgo]
  exact ⟨rfl, rfl⟩

/-! ### APDUs (R652) -/

@[simp] theorem firstSw_nil : firstSw [] = none := rfl
@[simp] theorem firstSw_fails {r : List (Bool × Nat)} : firstSw ((true, sw) :: r) = some sw := rfl
@[simp] theorem firstSw_passes {r : List (Bool × Nat)} : firstSw ((false, sw) :: r) = firstSw r := rfl

section
variable {l : List (Bool × Nat)} {go : State} (ho : TagOpen s)
include ho

theorem apdu_open : (!s.tag.opened || s.reader.fieldOn) = false := by
  obtain ⟨hopen, hfield⟩ := ho
  rw [hopen, hfield]
  rfl

/-- The first check that fails answers. -/
theorem apdu_refuses (h : firstSw l = some sw) : apdu s l go = .next (refuse s sw) := by
  rw [apdu, apdu_open ho, h]
  rfl

theorem apdu_goes (h : firstSw l = none) : apdu s l go = .next go := by
  rw [apdu, apdu_open ho, h]
  rfl

theorem unsupportedApdu_says (h : apduFail a = some sw) : TagSays (.unsupportedApdu a) s s [] sw := by
  refine exec_unsupportedApdu.trans ?_
  rw [execUnsupportedApdu, h]
  exact apdu_refuses ho rfl

theorem unsupportedApdu_unknown_cla (h0 : a.cla ≠ 0) (h80 : a.cla ≠ 0x80) : TagSays (.unsupportedApdu a) s s [] 0x6E00 :=
  unsupportedApdu_says ho (if_pos (by rw [bne_iff_ne.mpr h0, bne_iff_ne.mpr h80]; rfl))

theorem unsupportedApdu_unknown_ins (hcla : a.cla = 0x80) (hins : a.ins ∉ ([0x10, 0x20, 0x22, 0x32, 0x30] : List Byte)) :
    TagSays (.unsupportedApdu a) s s [] 0x6D00 := by
  have hno : ([0x10, 0x20, 0x22, 0x32, 0x30] : List Byte).contains a.ins = false := by simpa using hins
  refine unsupportedApdu_says ho ?_
  rw [apduFail, hcla, hno]
  rfl

theorem unsupportedApdu_other_aid (hi : ApduIs a 0 0xA4 4 0) (hlo : 5 ≤ a.data.length) (hhi : a.data.length ≤ 16) (hle : a.le = some 0)
    (haid : a.data ≠ sporeAid) : TagSays (.unsupportedApdu a) s s [] 0x6A82 := by
  obtain ⟨hcla, hins, hp1, hp2⟩ := hi
  have hrow : apduFail a = none := by rw [apduFail, hcla, hins]; rfl
  have hsel : (isApdu a 0 0xA4 && a.data != sporeAid) = true := by simp [isApdu, hcla, hins, haid]
  have hlen : (decide (a.data.length < 5) || decide (a.data.length > 16)) = false := by simp; omega
  refine exec_unsupportedApdu.trans ?_
  rw [execUnsupportedApdu, hrow]
  simp only [hsel, if_true]
  refine apdu_goes ho ?_
  rw [hp1, hp2, hlen, hle]
  rfl

theorem selectApdu_says (hi : ApduIs a 0 0xA4 4 0) (haid : a.data = sporeAid) (hle : a.le = some 0) (hr : Readable s [38, 39, 48]) :
    TagSays (.selectApdu a) s (s.onTag (fun x => { x with selected := true })) (selectData s) 0x9000 := by
  obtain ⟨hcla, hins, hp1, hp2⟩ := hi
  have hrow : ¬(!isApdu a 0 0xA4) = true := by simp [isApdu, hcla, hins]
  refine exec_selectApdu.trans ?_
  rw [execSelectApdu, if_neg hrow, apdu_goes ho (by rw [hp1, hp2, haid, hle]; rfl), hr]
  rfl
end

theorem length_sporeBytes : (sporeBytes s w n).length = 8 * n := by
  simp [sporeBytes, List.length_flatMap, length_leBytes, Nat.mul_comm]

theorem length_selectData : (selectData s).length = 24 := by
  rw [selectData, List.length_append, length_sporeBytes]
  rfl

theorem heiOf_low (h : heiOf s < 2) : decide (heiOf s < 2) = true := decide_eq_true h
theorem heiOf_enough (h : 2 ≤ heiOf s) : decide (heiOf s < 2) = false := decide_eq_false (Nat.not_lt.mpr h)

theorem leIs_of_asks (h : ApduAsks a n) : leIs a n = true := by
  obtain ⟨hdata, hle⟩ := h
  simp [leIs, hdata, hle]

section
variable (hsel : Selected s)
include hsel

/-- The row of GET CHALLENGE, with its own checks passed. -/
theorem getChallenge_row (hi : ApduIs a 0 0x84 0 0) (hask : ApduAsks a 0x20) : execGetChallenge a s =
    apdu s [(decide (heiOf s < 2), 0x6400), (sporeSpent s 3, 0x6A84)]
      (match firstBad s ((List.range 5).map (poolBase (sporeCounter s 3 % 32) + ·)) with
      | some w => refuseEcc s w
      | none =>
        if poolUse s (sporeCounter s 3 % 32) != some (sporeCounter s 3) then refuse s 0x6A84
        else
          let b := sporeBytes s (poolBase (sporeCounter s 3 % 32) + 1) 4
          answer ((bumpSpore s 3).onTag (fun x => { x with challenge := some (sporeCounter s 3, b) })) b 0x9000) := by
  obtain ⟨hcla, hins, hp1, hp2⟩ := hi
  obtain ⟨-, hs⟩ := hsel
  have hrow : ¬(!isApdu a 0 0x84) = true := by simp [isApdu, hcla, hins]
  rw [execGetChallenge, if_neg hrow]
  dsimp only
  rw [hp1, hp2, leIs_of_asks hask, hs]
  rfl

theorem getChallenge_refused (hi : ApduIs a 0 0x84 0 0) (hask : ApduAsks a 0x20) :
    (heiOf s < 2 → TagSays (.getChallenge a) s s [] 0x6400) ∧
    (2 ≤ heiOf s → sporeSpent s 3 = true → TagSays (.getChallenge a) s s [] 0x6A84) := by
  refine ⟨fun hlow => exec_getChallenge.trans ?_, fun hei hspent => exec_getChallenge.trans ?_⟩
  · rw [getChallenge_row hsel hi hask, apdu_refuses hsel.1 (by rw [heiOf_low hlow]; rfl)]
    rfl
  · rw [getChallenge_row hsel hi hask, apdu_refuses hsel.1 (by rw [heiOf_enough hei, hspent]; rfl)]
    rfl

theorem getChallenge_says (hi : ApduIs a 0 0x84 0 0) (hask : ApduAsks a 0x20) (hei : 2 ≤ heiOf s) (hspent : sporeSpent s 3 = false)
    (hr : Readable s ((List.range 5).map (poolBase (sporeCounter s 3 % 32) + ·))) :
    let c := sporeCounter s 3
    let b := sporeBytes s (poolBase (c % 32) + 1) 4
    (poolUse s (c % 32) = some c → TagSays (.getChallenge a) s ((bumpSpore s 3).onTag (fun x => { x with challenge := some (c, b) })) b 0x9000) ∧
    (poolUse s (c % 32) ≠ some c → TagSays (.getChallenge a) s s [] 0x6A84) := by
  refine ⟨fun huse => exec_getChallenge.trans ?_, fun huse => exec_getChallenge.trans ?_⟩
  · have hgo : ¬(poolUse s (sporeCounter s 3 % 32) != some (sporeCounter s 3)) = true := by simp [huse]
    rw [getChallenge_row hsel hi hask, apdu_goes hsel.1 (by rw [heiOf_enough hei, hspent]; rfl), hr]
    dsimp only
    rw [if_neg hgo]
    rfl
  · have hno : (poolUse s (sporeCounter s 3 % 32) != some (sporeCounter s 3)) = true := by simp [huse]
    rw [getChallenge_row hsel hi hask, apdu_goes hsel.1 (by rw [heiOf_enough hei, hspent]; rfl), hr]
    dsimp only
    rw [if_pos hno]
    rfl

/-! ### AUTHENTICATE -/

/-- The session with its challenge used up (R651). -/
abbrev challengeUsed (s : State) : State := s.onTag (fun x => { x with challenge := none })

theorem authenticate_row (hi : ApduIs a 0x80 0x10 0 0) : execAuthenticate a s =
    apdu (challengeUsed s) [(a.data.length != 360, 0x6700)]
      (match s.tag.challenge with
      | none => refuse (challengeUsed s) 0x6985
      | some (use, b) =>
        if s.tag.fails ≥ 3 then refuse (challengeUsed s) 0x6983
        else if heiOf s < 2 then refuse (challengeUsed s) 0x6400
        else if sporeSpent s 3 then refuse (challengeUsed s) 0x6A84
        else authDecide (challengeUsed s) use b a.data) := by
  obtain ⟨hcla, hins, hp1, hp2⟩ := hi
  obtain ⟨⟨hopen, hfield⟩, hs⟩ := hsel
  have hrow : ¬(!isApdu a 0x80 0x10) = true := by simp [isApdu, hcla, hins]
  have hsess : (s.tag.opened && !s.reader.fieldOn) = true := by rw [hopen, hfield]; rfl
  rw [execAuthenticate, if_neg hrow, if_pos hsess]
  dsimp only
  rw [hp1, hp2, hs]
  unfold apdu
  rcases hlen : a.data.length != 360 with _ | _ <;> rcases s.tag.challenge with _ | ⟨u, b⟩ <;> rfl

theorem authenticate_refused (hi : ApduIs a 0x80 0x10 0 0) :
    (a.data.length ≠ 360 → TagSays (.authenticate a) s (challengeUsed s) [] 0x6700) ∧
    (a.data.length = 360 → s.tag.challenge = none → TagSays (.authenticate a) s (challengeUsed s) [] 0x6985) := by
  have ho : TagOpen (challengeUsed s) := hsel.1
  refine ⟨fun hlen => exec_authenticate.trans ?_, fun hlen hc => exec_authenticate.trans ?_⟩
  · rw [authenticate_row hsel hi, apdu_refuses ho (by rw [bne_iff_ne.mpr hlen]; rfl)]
    rfl
  · rw [authenticate_row hsel hi, apdu_goes ho (by rw [hlen]; rfl), hc]
    rfl

theorem authenticate_challenged (hi : ApduIs a 0x80 0x10 0 0) (hlen : a.data.length = 360) (hc : s.tag.challenge = some (n, b)) :
    exec (.authenticate a) s = .next (if s.tag.fails ≥ 3 then refuse (challengeUsed s) 0x6983
        else if heiOf s < 2 then refuse (challengeUsed s) 0x6400
        else if sporeSpent s 3 then refuse (challengeUsed s) 0x6A84
        else authDecide (challengeUsed s) n b a.data) := by
  have ho : TagOpen (challengeUsed s) := hsel.1
  refine exec_authenticate.trans ?_
  rw [authenticate_row hsel hi, apdu_goes ho (by rw [hlen]; rfl), hc]

/-- The reason of R642 for the credential and the proof of an AUTHENTICATE. -/
def authReason (s : State) (a : Apdu) (b : Bytes) : Nat :=
  credRefusal s (sporeBytes s 32 6) (sporeBytes s 38 2) (a.data.take 296) (a.data.drop 296) b false

omit hsel in
/-- The decision over readable words (R639, R640, R653). -/
theorem authDecide_eq (hr : Readable s [32, 33, 34, 35, 36, 37, 38, 39]) : authDecide (challengeUsed s) n b a.data =
    if authReason s a b = 0 then authGranted (challengeUsed s) n (a.data.take 296) else authFails (challengeUsed s) := by
  have hr' : firstBad (challengeUsed s) [32, 33, 34, 35, 36, 37, 38, 39] = none := hr
  rw [authDecide, hr']
  dsimp only
  simp only [beq_iff_eq]
  rfl

theorem authenticate_cases (hi : ApduIs a 0x80 0x10 0 0) (hlen : a.data.length = 360) (hc : s.tag.challenge = some (n, b)) :
    let m := challengeUsed s
    (3 ≤ s.tag.fails → TagSays (.authenticate a) s m [] 0x6983) ∧
    (s.tag.fails < 3 → heiOf s < 2 → TagSays (.authenticate a) s m [] 0x6400) ∧
    (s.tag.fails < 3 → 2 ≤ heiOf s → sporeSpent s 3 = true → TagSays (.authenticate a) s m [] 0x6A84) ∧
    (s.tag.fails < 3 → 2 ≤ heiOf s → sporeSpent s 3 = false → Readable s [32, 33, 34, 35, 36, 37, 38, 39] →
      (authReason s a b ≠ 0 → TagSays (.authenticate a) s ((bumpSpore m 2).onTag (fun x => { x with fails := x.fails + 1 })) [] 0x6300) ∧
      (authReason s a b = 0 → sporeSpent s 0 = true → TagSays (.authenticate a) s m [] 0x6A84) ∧
      (authReason s a b = 0 → sporeSpent s 0 = false → TagSays (.authenticate a) s ((bumpSpore m 0).onTag (fun x => { x with
        scope := some (credScope (a.data.take 296))
        techId := BitVec.ofNat 32 (credTech (a.data.take 296))
        credDigest := Config.sha384 (a.data.take 296)
        usedChallenge := n })) [] 0x9000)) := by
  intro m
  have hexec := authenticate_challenged hsel hi hlen hc
  refine ⟨fun hf => hexec.trans ?_, fun hf hlow => hexec.trans ?_, fun hf hei hsp => hexec.trans ?_, fun hf hei hsp hr => ?_⟩
  · rw [if_pos hf]
    rfl
  · rw [if_neg (Nat.not_le.mpr hf), if_pos hlow]
    rfl
  · rw [if_neg (Nat.not_le.mpr hf), if_neg (Nat.not_lt.mpr hei), if_pos hsp]
    rfl
  · have hgo : exec (.authenticate a) s = .next (authDecide m n b a.data) := by
      rw [hexec, if_neg (Nat.not_le.mpr hf), if_neg (Nat.not_lt.mpr hei), hsp]
      rfl
    rw [authDecide_eq hr] at hgo
    refine ⟨fun hwhy => hgo.trans ?_, fun hwhy h0 => hgo.trans ?_, fun hwhy h0 => hgo.trans ?_⟩
    · rw [if_neg hwhy]
      rfl
    · have h0' : sporeSpent (challengeUsed s) 0 = true := h0
      rw [if_pos hwhy, authGranted, if_pos h0']
      rfl
    · have h0' : ¬sporeSpent (challengeUsed s) 0 = true := by rw [Bool.not_eq_true]; exact h0
      rw [if_pos hwhy, authGranted, if_neg h0']
      rfl

/-! ### The reads and WRITE VISIT -/

/-- The ring slots READ LOG HEAD asks for. -/
def slotsAsked (s : State) (a : Apdu) : List Nat := (List.range a.p2.toNat).map (fun i => ringSlot s (a.p1.toNat + i))

theorem readLogHead_row (hcla : a.cla = 0x80) (hins : a.ins = 0x20) (hp1 : a.p1.toNat ≤ 31) (hlo : 1 ≤ a.p2.toNat) (hhi : a.p2.toNat ≤ 5)
    (hask : ApduAsks a 0) : execReadLogHead a s = apdu s [(!scopeHas s 0, 0x6982)]
      (match firstBad s ((slotsAsked s a).flatMap (fun k => (List.range 6).map (52 + 6 * k + ·))) with
      | some w => refuseEcc s w
      | none =>
        answer (s.onTag (fun x => { x with actions := x.actions ||| 1, entriesRead := x.entriesRead + a.p2.toNat }))
          ((slotsAsked s a).flatMap (fun k => sporeBytes s (52 + 6 * k) 6)) 0x9000) := by
  obtain ⟨-, hs⟩ := hsel
  have hrow : ¬(!isApdu a 0x80 0x20) = true := by simp [isApdu, hcla, hins]
  have hp : (decide (a.p1.toNat > 31) || decide (a.p2.toNat < 1) || decide (a.p2.toNat > 5)) = false := by simp; omega
  rw [execReadLogHead, if_neg hrow]
  dsimp only
  rw [hp, leIs_of_asks hask, hs]
  rfl

theorem readLogHead_says (hcla : a.cla = 0x80) (hins : a.ins = 0x20) (hp1 : a.p1.toNat ≤ 31) (hlo : 1 ≤ a.p2.toNat) (hhi : a.p2.toNat ≤ 5)
    (hask : ApduAsks a 0) :
    (scopeHas s 0 = false → TagSays (.readLogHead a) s s [] 0x6982) ∧
    (scopeHas s 0 = true → Readable s ((slotsAsked s a).flatMap (fun k => (List.range 6).map (52 + 6 * k + ·))) →
      TagSays (.readLogHead a) s (s.onTag (fun x => { x with actions := x.actions ||| 1, entriesRead := x.entriesRead + a.p2.toNat }))
        ((slotsAsked s a).flatMap (fun k => sporeBytes s (52 + 6 * k) 6)) 0x9000) := by
  have hrow := readLogHead_row hsel hcla hins hp1 hlo hhi hask
  refine ⟨fun hno => exec_readLogHead.trans ?_, fun hok hr => exec_readLogHead.trans ?_⟩
  · rw [hrow, apdu_refuses hsel.1 (by rw [hno]; rfl)]
    rfl
  · rw [hrow, apdu_goes hsel.1 (by rw [hok]; rfl), hr]
    rfl

/-- What READ COUNTERS answers. -/
def counterData (s : State) : Bytes :=
  (List.range 16).flatMap (fun n => beBytes 3 (sporeCounter s n)) ++ beBytes 4 (fieldEpoch s) ++ beBytes 4 ((mirrorValue s 42).getD 0) ++
    [BitVec.ofNat 8 ((sporeWord s 48).toNat % 8)]

omit hsel in
theorem length_beBytes {m : Nat} : (beBytes n m).length = n := by rw [beBytes, List.length_reverse, length_leBytes]

omit hsel in
theorem length_counterData : (counterData s).length = 57 := by
  simp [counterData, List.length_flatMap, length_beBytes]

omit hsel in
theorem beNat_beBytes {m : Nat} (h : m < 256 ^ n) : beNat (beBytes n m) = m := by
  rw [beNat, beBytes, List.reverse_reverse, leNat_leBytes_of_lt h]

omit hsel in
/-- Item `n` of a run of blocks of one size, whatever stands behind it. -/
theorem take_drop_flatMap_range {f : Nat → Bytes} {m size : Nat} {r : Bytes} (hf : ∀ i, (f i).length = size) (hn : n < m) :
    (((List.range m).flatMap f ++ r).drop (size * n)).take size = f n := by
  obtain ⟨d, rfl⟩ : ∃ d, m = n + (d + 1) := ⟨m - n - 1, by omega⟩
  have hfront : ((List.range n).flatMap f).length = size * n := by simp [List.length_flatMap, hf, Nat.mul_comm]
  rw [List.range_add, List.flatMap_append, List.append_assoc, List.drop_left' hfront, List.range_succ_eq_map, List.map_cons, List.flatMap_cons,
    List.append_assoc, Nat.add_zero, List.take_left' (hf n)]

omit hsel in
theorem counterData_counter (hn : n < 16) : beNat (((counterData s).drop (3 * n)).take 3) = sporeCounter s n := by
  rw [counterData, List.append_assoc, List.append_assoc, take_drop_flatMap_range (fun _ => length_beBytes) hn, beNat_beBytes sporeCounter_lt]

theorem readCounters_says (hi : ApduIs a 0x80 0x22 0 0) (hask : ApduAsks a 0x39) :
    (scopeHas s 1 = false → TagSays (.readCounters a) s s [] 0x6982) ∧
    (scopeHas s 1 = true → countersUnreadable s = none →
      TagSays (.readCounters a) s (s.onTag (fun x => { x with actions := x.actions ||| 2 })) (counterData s) 0x9000) := by
  obtain ⟨hcla, hins, hp1, hp2⟩ := hi
  obtain ⟨ho, hs⟩ := hsel
  have hrow : ¬(!isApdu a 0x80 0x22) = true := by simp [isApdu, hcla, hins]
  refine ⟨fun hno => exec_readCounters.trans ?_, fun hok hr => exec_readCounters.trans ?_⟩
  · rw [execReadCounters, if_neg hrow, apdu_refuses ho (by rw [hp1, hp2, leIs_of_asks hask, hs, hno]; rfl)]
    rfl
  · rw [execReadCounters, if_neg hrow, apdu_goes ho (by rw [hp1, hp2, leIs_of_asks hask, hs, hok]; rfl), hr]
    rfl

theorem readVisits_says {k : Byte} (hi : ApduIs a 0x80 0x32 k 0) (hk : k.toNat ≤ 7) (hask : ApduAsks a 0x48) (hok : scopeHas s 1 = true)
    (hr : Readable s ((List.range 9).map (visitBase k.toNat + ·))) :
    TagSays (.readVisits a) s (s.onTag (fun x => { x with actions := x.actions ||| 4 })) (sporeBytes s (visitBase k.toNat) 9) 0x9000 := by
  obtain ⟨hcla, hins, hp1, hp2⟩ := hi
  obtain ⟨ho, hs⟩ := hsel
  have hrow : ¬(!isApdu a 0x80 0x32) = true := by simp [isApdu, hcla, hins]
  have hslot : decide (k.toNat > 7) = false := by simpa using hk
  refine exec_readVisits.trans ?_
  rw [execReadVisits, if_neg hrow]
  dsimp only
  rw [hp1, hp2, apdu_goes ho (by rw [hslot, leIs_of_asks hask, hs, hok]; rfl), hr]
  rfl

theorem writeVisit_says (hi : ApduIs a 0x80 0x30 0 0) (hlen : a.data.length = 4) :
    (s.tag.visitDone = true → TagSays (.writeVisit a) s s [] 0x6985) ∧
    (s.tag.visitDone = false → scopeHas s 2 = true → heiOf s < 2 → TagSays (.writeVisit a) s s [] 0x6400) ∧
    (s.tag.visitDone = false → scopeHas s 2 = true → 2 ≤ heiOf s → sporeSpent s 1 = true → TagSays (.writeVisit a) s s [] 0x6A84) ∧
    (s.tag.visitDone = false → scopeHas s 2 = true → 2 ≤ heiOf s → sporeSpent s 1 = false →
      let t := writeVisitRecord s (tagVisit s (beNat a.data))
      TagSays (.writeVisit a) s (t.onTag (fun x => { x with visitDone := true })) (beBytes 3 (sporeCounter t 1)) 0x9000) := by
  obtain ⟨hcla, hins, hp1, hp2⟩ := hi
  obtain ⟨ho, hs⟩ := hsel
  have hrow : ¬(!isApdu a 0x80 0x30) = true := by simp [isApdu, hcla, hins]
  have hexec : exec (.writeVisit a) s = _ := exec_writeVisit.trans (if_neg hrow)
  refine ⟨fun hd => hexec.trans ?_, fun hd hok hlow => hexec.trans ?_, fun hd hok hei hsp => hexec.trans ?_, fun hd hok hei hsp => hexec.trans ?_⟩
  · rw [apdu_refuses ho (by rw [hp1, hp2, hlen, hs, hd]; rfl)]
    rfl
  · rw [apdu_refuses ho (by rw [hp1, hp2, hlen, hs, hd, hok, heiOf_low hlow]; rfl)]
    rfl
  · rw [apdu_refuses ho (by rw [hp1, hp2, hlen, hs, hd, hok, heiOf_enough hei, hsp]; rfl)]
    rfl
  · rw [apdu_goes ho (by rw [hp1, hp2, hlen, hs, hd, hok, heiOf_enough hei, hsp]; rfl)]
    rfl
end

/-- Settles O58: the store, the session, then the APDUs in the order of Table 15.7. -/
theorem sporeStoreAndTagMode : Obligations.SporeStoreAndTagMode := by
  refine ⟨fun s w v hei hlt h50 h51 => ⟨_, sporeWordWrite_writes hei hlt h50 h51, sporeWord_setSpore_same, fun k hk => sporeWord_setSpore_ne hk, rfl⟩,
    fun s hr => ⟨fun ho => ?_, deferred_in_session⟩, fun s h => ⟨tagFieldOn_still, tagFieldOn_raises⟩, fun s => tagActivation_opens, fun s ho => ?_,
    fun s v hs => ⟨visitSlot_lt, visitCounts_writeVisitRecord hs, visitSerial_writeVisitRecord hs⟩,
    fun s a ho => ⟨unsupportedApdu_unknown_cla ho, unsupportedApdu_unknown_ins ho, unsupportedApdu_other_aid ho⟩,
    fun s a ho hi haid hle hr => ⟨selectApdu_says ho hi haid hle hr, length_selectData⟩, fun s a hsel hi hask => ?_, fun s a hsel hi => ?_,
    fun s a hsel hcla hins hp1 hlo hhi hask => readLogHead_says hsel hcla hins hp1 hlo hhi hask,
    fun s a hsel => ⟨fun hi hask => ?_, fun k hi hk hask hok hr => readVisits_says hsel hi hk hask hok hr, writeVisit_says hsel⟩⟩
  · obtain ⟨hmirror, hrefill⟩ := done_without_session hr ho
    exact ⟨hmirror, rfl, hrefill⟩
  · intro m n
    have hn : endSession s = n := endSession_opened ho
    rw [exec_tagSessionEnd, execTagSessionEnd, exec_tagSessionEnd, execTagSessionEnd, hn]
    exact ⟨rfl, rfl⟩
  · obtain ⟨hlow, hspent⟩ := getChallenge_refused hsel hi hask
    exact ⟨hlow, hspent, fun hei hsp hr => getChallenge_says hsel hi hask hei hsp hr⟩
  · obtain ⟨hlong, hnone⟩ := authenticate_refused hsel hi
    exact ⟨hlong, fun hlen => ⟨hnone hlen, fun u b hc => authenticate_cases hsel hi hlen hc⟩⟩
  · obtain ⟨hno, hok⟩ := readCounters_says hsel hi hask
    exact ⟨hno, fun hs hr => ⟨counterData s, length_counterData, fun n hn => counterData_counter hn, hok hs hr⟩⟩

end Sys2Proof.Proofs
end

section
/-! SUPPORT. Turtis frames heard and discarded, what each accepted frame does, and the slot and retry timers (chapter 16). -/

namespace Sys2Proof.Proofs
open Sys2Proof Sys2Proof.Machine Sys2Proof.Claims

variable {s t : State} {f : Frame} {p : Fin 2} {a : Byte} {i : Instr} {c : Cmd} {j : Job} {pid : Nat} {body : State → State} {o : Offered}

/-! ### Every frame row hears its frame -/

/-- A frame heard, with the nonce, superframe number and session its MAC is made with. -/
abbrev heardFrame (s : State) (f : Frame) (pid : Nat) (body : State → State) : Host.Outcome State Fault Refusal :=
  hear s f pid (frameNonce s f pid) (frameSfn s f pid) (withSession s pid) body

theorem exec_beacon : exec (.beacon f) s = heardFrame s f 0x01 (fun s => takeBeacon s f) := rfl
theorem exec_hello : exec (.hello f) s = heardFrame s f 0x02 (fun s => takeHello s f) := rfl
theorem exec_turtisClaim : exec (.turtisClaim f) s = heardFrame s f 0x03 (fun s => onPort s f.port (fun x =>
    if isMaster x && f.src.toNat < (portAddr x).toNat then { x with heir := some f.src } else x)) := rfl
theorem exec_grantReq : exec (.grantReq f) s = heardFrame s f 0x04 (fun s => onPort s f.port (fun x =>
    if isMaster x && x.grant != f.src && !x.grantQueue.contains f.src then { x with grantQueue := x.grantQueue ++ [f.src] } else x)) := rfl
theorem exec_turtisEnd : exec (.turtisEnd f) s = heardFrame s f 0x15 (fun s => onPort s f.port (fun x =>
    if isMaster x && x.grant == f.src then { x with grant := 0xFF } else x)) := rfl

/-- What a node does with an OFFER (R698, R159). -/
def offerHeard (f : Frame) (s : State) : State :=
  if s.update.pulling then (if bitOf (offeredOf f.payload).flags 1 then takePull s f (offeredOf f.payload) else s)
  else if bitOf (offeredOf f.payload).flags 1 || !(xemberon s || s.update.crozier) then s
  else takeOffer s f (offeredOf f.payload)
theorem exec_offer : exec (.offer f) s = heardFrame s f 0x10 (offerHeard f) := rfl

/-- What a feeder does with an ACCEPT (R698). -/
def acceptHeard (f : Frame) (s : State) : State :=
  let p := f.port
  if !(portOf s p).feed.on || recField f.payload 0 8 != s.update.session.toNat then s
  else
    let hw := recField f.payload 10 2
    let ok := recField f.payload 8 1 == 0
    let st := if !ok then 2 else if hw == feedChunks s then 1 else 0
    let s1 := setReceiver (settleReturned s p f.src hw) p f.src { highWater := hw, status := st }
    if ok then onFeed s1 p (fun x => { x with next := (lowestHigh s1 p).getD x.next, half := none }) else s1
theorem exec_acceptFrame : exec (.acceptFrame f) s = heardFrame s f 0x11 (acceptHeard f) := rfl
theorem exec_turtisData : exec (.turtisData f) s = heardFrame s f 0x12 (fun s =>
    if writingBank s && !s.update.isLocal && f.src == s.update.source && f.port == s.update.srcPort then takeData s f else s) := rfl
theorem exec_turtisAck : exec (.turtisAck f) s = heardFrame s f 0x13 (fun s => takeAck s f) := rfl
theorem exec_pullReq : exec (.pullReq f) s = heardFrame s f 0x14 (fun s =>
    if !(xemberon s || s.update.crozier) then s else onFeed (beginFeed s f.port true) f.port (fun x => { x with offered := false })) := rfl

theorem exec_turtisFrame (h : turtisFrame i = some (f, pid)) : ∃ body, exec i s = heardFrame s f pid body := by
  unfold turtisFrame at h
  split at h <;> cases h
  · exact ⟨_, exec_beacon⟩
  · exact ⟨_, exec_hello⟩
  · exact ⟨_, exec_turtisClaim⟩
  · exact ⟨_, exec_grantReq⟩
  · exact ⟨_, exec_offer⟩
  · exact ⟨_, exec_acceptFrame⟩
  · exact ⟨_, exec_turtisData⟩
  · exact ⟨_, exec_turtisAck⟩
  · exact ⟨_, exec_pullReq⟩
  · exact ⟨_, exec_turtisEnd⟩

/-! ### The checks of a frame (R664, R676, R677, R680) -/

theorem hear_dead (hw : portWorks s f.port = false) : heardFrame s f pid body = .next s := by
  simp only [heardFrame, hear, hw, Bool.not_false, if_true]

section
variable (hw : portWorks s f.port = true)
include hw

theorem hear_badCrc (hc : ¬CrcRight f pid) : heardFrame s f pid body = .next (onPort s f.port (fun x => { x with crcErrors := x.crcErrors + 1 })) := by
  have hcrc : (f.crc != frameCrc (heardBytes f pid) f.mac) = true := bne_iff_ne.mpr hc
  simp only [heardFrame, hear, hw, Bool.not_true, Bool.false_eq_true, if_false, hcrc, if_true]

section
variable (hc : CrcRight f pid)
include hc

omit hw in
theorem crc_passes : (f.crc != frameCrc (heardBytes f pid) f.mac) = false := bne_eq_false_iff_eq.mpr hc

theorem hear_stranger (he : enrolled s f.port f.src = false) : heardFrame s f pid body = .next (seeStranger s f.port f.src) := by
  simp only [heardFrame, hear, hw, Bool.not_true, Bool.false_eq_true, if_false, crc_passes hc, he, Bool.not_false, if_true]

theorem hear_muted (he : enrolled s f.port f.src = true) (hm : (portOf s f.port).mutes.any (·.1 == f.src) = true) :
    heardFrame s f pid body = .next s := by
  simp only [heardFrame, hear, hw, Bool.not_true, Bool.false_eq_true, if_false, crc_passes hc, he, hm, if_true]
end
end

theorem hear_listened (hl : Listens s f pid) : heardFrame s f pid body =
    if (frameNonce s f pid).isEmpty || !macRuns s 3 || f.mac != expectedMac s f pid (frameNonce s f pid) (frameSfn s f pid) (withSession s pid) then
      .next (badMac s f.port)
    else if f.offset < -guardBand (portOf s f.port) || guardBand (portOf s f.port) < f.offset then .next (seeIntrusion s f.port f.src f.offset)
    else if f.dst == 0xFF || f.dst == portAddr (portOf s f.port) then .next (body (frameHeard s f pid)) else .next (frameHeard s f pid) := by
  obtain ⟨hw, hc, he, hm⟩ := hl
  simp only [heardFrame, hear, hw, Bool.not_true, Bool.false_eq_true, if_false, crc_passes hc, he, hm]

theorem macChecks_iff : ((frameNonce s f pid).isEmpty || !macRuns s 3 ||
    f.mac != expectedMac s f pid (frameNonce s f pid) (frameSfn s f pid) (withSession s pid)) = true ↔ ¬MacRight s f pid := by
  simp only [Bool.or_eq_true, List.isEmpty_iff, Bool.not_eq_eq_eq_not, Bool.not_true, bne_iff_ne, MacRight]
  cases macRuns s 3
  · simp
  · simp only [Bool.true_eq_false, or_false, true_and]
    tauto

theorem guardCheck_iff : (decide (f.offset < -guardBand (portOf s f.port)) || decide (guardBand (portOf s f.port) < f.offset)) = true ↔ ¬InGuard s f := by
  simp only [Bool.or_eq_true, decide_eq_true_eq, InGuard]
  omega

theorem hear_badMac (hl : Listens s f pid) (hm : ¬MacRight s f pid) :
    heardFrame s f pid body = .next (onPort s f.port (fun x => { x with macFails := x.macFails + 1 })) := by
  rw [hear_listened hl, if_pos (macChecks_iff.mpr hm)]
  rfl

theorem hear_intrudes (hl : Listens s f pid) (hm : MacRight s f pid) (hg : ¬InGuard s f) :
    heardFrame s f pid body = .next (seeIntrusion s f.port f.src f.offset) := by
  rw [hear_listened hl, if_neg (fun h => macChecks_iff.mp h hm), if_pos (guardCheck_iff.mpr hg)]

theorem hear_accepted (ha : Accepted s f pid) : heardFrame s f pid body =
    if f.dst == 0xFF || f.dst == portAddr (portOf s f.port) then .next (body (frameHeard s f pid)) else .next (frameHeard s f pid) := by
  obtain ⟨hl, hm, hg⟩ := ha
  rw [hear_listened hl, if_neg (fun h => macChecks_iff.mp h hm), if_neg (fun h => guardCheck_iff.mp h hg)]

theorem forUs_iff : (f.dst == 0xFF || f.dst == portAddr (portOf s f.port)) = true ↔ ForUs s f := by
  simp only [Bool.or_eq_true, beq_iff_eq, ForUs]

theorem hear_others (ha : Accepted s f pid) (hf : ¬ForUs s f) : heardFrame s f pid body = .next (frameHeard s f pid) := by
  rw [hear_accepted ha, if_neg (fun h => hf (forUs_iff.mp h))]

/-- An accepted frame for this node is acted on, once it is heard. -/
theorem hear_acts (ha : Accepted s f pid) (hf : ForUs s f) : heardFrame s f pid body = .next (body (frameHeard s f pid)) := by
  rw [hear_accepted ha, if_pos (forUs_iff.mpr hf)]

/-! ### What a frame says -/

theorem takeHello_stranger (h : (entryOfAddr s f.src).any (fun e => e.identity == (f.payload.drop 8).take 16) = false) :
    takeHello s f = seeStranger s f.port f.src := by
  simp only [takeHello, h, Bool.false_eq_true, if_false]

theorem offerHeard_pull (hp : s.update.pulling = true) (hb : bitOf (offeredOf f.payload).flags 1 = true) :
    offerHeard f s = takePull s f (offeredOf f.payload) := by
  simp only [offerHeard, hp, hb, if_true]

theorem offerHeard_offer (hp : s.update.pulling = false) (hb : bitOf (offeredOf f.payload).flags 1 = false) (hx : xemberon s = true) :
    offerHeard f s = takeOffer s f (offeredOf f.payload) := by
  simp only [offerHeard, hp, hb, hx, Bool.true_or, Bool.not_true, Bool.or_self, Bool.false_eq_true, if_false]

theorem acceptHeard_declined (hon : (portOf s f.port).feed.on = true) (hsess : recField f.payload 0 8 = s.update.session.toNat)
    (hres : recField f.payload 8 1 ≠ 0) (hret : (nbrOf (portOf s f.port) f.src).returning = false) :
    acceptHeard f s = setReceiver s f.port f.src { highWater := recField f.payload 10 2, status := 2 } := by
  have hsess' : (recField f.payload 0 8 != s.update.session.toNat) = false := by rw [hsess, bne_self_eq_false]
  simp only [acceptHeard, hon, hsess', beq_eq_false_iff_ne.mpr hres, settleReturned, hret, Bool.not_true, Bool.not_false, Bool.or_self,
    Bool.false_eq_true, if_false, if_true]

/-! ### BEACON -/

/-- What a beacon says of its port, and of its sender's link. -/
def beaconView (s : State) (p : Fin 2) (a : Byte) : (U32 × Byte × Bool × Byte × Nat × Nat × Bool) × Bool × Bytes :=
  let y := portOf s p
  ((y.sfn, y.master, y.layoutUpdate, y.grant, y.missed, y.beacons, y.synced), (nbrOf y a).known, (nbrOf y a).nonce)

theorem beaconView_of_ports (h : t.ports = s.ports) : beaconView t p a = beaconView s p a := by
  simp only [beaconView, portOf, h]

theorem append_ports {e src d : Nat} : (append s e src d).ports = s.ports := (congrArg State.ports apartFromHypha_append :)

theorem nbrOf_onNbr {h : Nbr → Nbr} : nbrOf (portOf (onNbr s p a h) p) a = h (nbrOf (portOf s p) a) := by
  rw [onNbr, portOf_onPort_same]
  exact SMap.get_mod_same

/-- A change of the sender's record that keeps its link. -/
theorem beaconView_onNbr {h : Nbr → Nbr} (hk : ∀ n, (h n).known = n.known ∧ (h n).nonce = n.nonce) :
    beaconView (onNbr s p a h) p a = beaconView s p a := by
  obtain ⟨hknown, hnonce⟩ := hk (nbrOf (portOf s p) a)
  simp only [beaconView, nbrOf_onNbr, hknown, hnonce]
  rw [onNbr, portOf_onPort_same]

theorem OnlyEntropy.ports (h : OnlyEntropy s t) : t.ports = s.ports := by
  obtain ⟨e, rfl⟩ := h
  rfl

/-- The node's own nonce is no part of it (R686). -/
theorem beaconView_drawNonce : beaconView (drawNonce s p) p a = beaconView s p a := by
  have hown : ∀ {u : State} {n : Bytes}, beaconView (onPort u p (fun x => { x with nonce := n, hello := true })) p a = beaconView u p a := by
    intro u n
    simp only [beaconView, portOf_onPort_same]
    rfl
  have hdraw : (drawOwn s 5 8).2.ports = s.ports := onlyEntropy_drawOwn.ports
  unfold drawNonce
  split
  · rfl
  · split
    · exact hown
    · split
      next h => rw [h] at hdraw; exact hown.trans (beaconView_of_ports hdraw)
      next h => rw [h] at hdraw; exact beaconView_of_ports hdraw

theorem beaconView_drawNonce_if {b : Prop} [Decidable b] : beaconView (if b then drawNonce s p else s) p a = beaconView s p a := by
  split
  · exact beaconView_drawNonce
  · rfl

theorem beaconView_logReturned {hw : Nat} : beaconView (logReturned s p a hw) p a = beaconView s p a :=
  (beaconView_of_ports append_ports).trans (beaconView_onNbr (fun _ => ⟨rfl, rfl⟩))

theorem beaconView_checkRosterGen {gen : Nat} : beaconView (checkRosterGen s p a gen) p a = beaconView s p a := by
  unfold checkRosterGen
  split
  · rfl
  · exact (beaconView_of_ports append_ports).trans (beaconView_onNbr (fun _ => ⟨rfl, rfl⟩))

/-- R688: the sender is known by the nonce it announces. -/
theorem beaconView_openLink {nonce : Bytes} : beaconView (openLink s p a nonce) p a = ((beaconView s p a).1, true, nonce) := by
  have hlink : ∀ {h : Nbr → Nbr}, (∀ n, (h n).known = true ∧ (h n).nonce = nonce) →
      beaconView (onNbr s p a h) p a = ((beaconView s p a).1, true, nonce) := by
    intro h hk
    obtain ⟨hknown, hnonce⟩ := hk (nbrOf (portOf s p) a)
    simp only [beaconView, nbrOf_onNbr, hknown, hnonce]
    rw [onNbr, portOf_onPort_same]
  unfold openLink
  dsimp only
  split
  · exact hlink (by exact fun _ => ⟨rfl, rfl⟩)
  · split
    · exact (beaconView_onNbr (by exact fun _ => ⟨rfl, rfl⟩)).trans (hlink (by exact fun _ => ⟨rfl, rfl⟩))
    · exact beaconView_logReturned.trans (hlink (by exact fun _ => ⟨rfl, rfl⟩))

/-- A node that beacons itself yields to a lower address alone. -/
theorem takeBeacon_ignored (hm : isMaster (portOf s f.port) = true) (ha : (portAddr (portOf s f.port)).toNat < f.src.toNat) : takeBeacon s f = s := by
  simp only [takeBeacon, hm, ha, decide_true, Bool.and_self, if_true]

theorem takeBeacon_view (h : ¬(isMaster (portOf s f.port) = true ∧ (portAddr (portOf s f.port)).toNat < f.src.toNat)) :
    let x := portOf s f.port
    let b := f.payload
    beaconView (takeBeacon s f) f.port f.src = ((BitVec.ofNat 32 (recField b 0 4), BitVec.ofNat 8 (recField b 4 1), recField b 5 1 == 1,
      BitVec.ofNat 8 (recField b 6 1), 0, x.beacons + 1, x.synced || decide (1 ≤ x.beacons)), true, (b.drop 10).take 8) := by
  have hgo : ¬(isMaster (portOf s f.port) && decide ((portAddr (portOf s f.port)).toNat < f.src.toNat)) = true := by simpa using h
  have hsync : decide (1 ≤ (portOf s f.port).beacons) = decide ((portOf s f.port).beacons + 1 ≥ 2) := decide_eq_decide.mpr (by omega)
  intro x b
  unfold takeBeacon
  dsimp only
  rw [if_neg hgo, beaconView_checkRosterGen, beaconView_drawNonce_if, beaconView_openLink, beaconView, portOf_onPort_same, hsync]

/-! ### OFFER -/

theorem offerResult_cases : let r := offerResult s o
    (s.update.state ≠ 0 → s.update.session = o.session → s.update.crozier = true → r = 0) ∧
    (s.update.crozier = false → isCurrent s o = true → r = 1) ∧
    (s.update.crozier = false → isCurrent s o = false → s.update.state ≠ 0 → r = 4) ∧
    (s.update.state = 0 → isCurrent s o = false → s.power.safeHold = none → floorSpent s = false → 1 ≤ o.size → o.size ≤ 3932160 →
      o.chunks = chunksOf o.size → o.svn < floorValue s → r = 2) := by
  refine ⟨fun hst hsess hcr => ?_, fun hcr hcur => ?_, fun hcr hcur hst => ?_, fun hst hcur hsafe hspent hlo hhi hch hsvn => ?_⟩
  · have hjoin : (s.update.state != 0 && s.update.session == o.session && s.update.crozier) = true := by simp [hst, hsess, hcr]
    rw [offerResult, if_pos hjoin]
  · simp only [offerResult, hcr, hcur, Bool.and_false, Bool.false_eq_true, if_false, if_true]
  · simp only [offerResult, hcr, hcur, bne_iff_ne.mpr hst, Bool.and_false, Bool.true_or, Bool.false_eq_true, if_false, if_true]
  · have hbusy : (s.update.state != 0) = false := by rw [hst]; rfl
    have hsize : (decide (o.size < 1) || decide (o.size > 3932160) || o.chunks != chunksOf o.size) = false := by
      rw [hch, bne_self_eq_false, decide_eq_false (by omega), decide_eq_false (by omega)]
      rfl
    simp only [offerResult, hbusy, hcur, hsafe, hspent, hsize, Option.isSome_none, Bool.false_and, Bool.or_self, Bool.false_eq_true, if_false, hsvn,
      if_true]

theorem takeOffer_declined (h : offerResult s o ≠ 0) : takeOffer s f o =
    append (sendAccept s f.port f.src o.session.toNat (offerResult s o) 0) Entry.updateDeclined Src.xemberon
      (offerResult s o + f.src.toNat * 2 ^ 8 + o.session.toNat % 2 ^ 32 * 2 ^ 32) :=
  if_pos (bne_iff_ne.mpr h)

theorem takeData_refused (h : s.update.chunks ≤ f.seq.toNat ∨ f.payload.length ≠ 256) : takeData s f = s := by
  have hno : (decide (f.seq.toNat ≥ s.update.chunks) || f.payload.length != 256) = true := by simpa using h
  rw [takeData]
  exact if_pos hno

/-! ### Slots and timers -/

theorem exec_slotStart {echo : Bool} : exec (.slotStart p echo) s = execSlotStart p echo s := rfl
theorem exec_retryTimerExpiry : exec (.retryTimerExpiry p a) s = execRetryTimerExpiry p a s := rfl
theorem exec_discardedFrame {why : Discard} : exec (.discardedFrame p why) s = execDiscardedFrame p why s := rfl

/-- The port in its next slot, the one that ends charged to its owner. -/
def slotOpened (s : State) (p : Fin 2) : State :=
  let m := closeSlot s p
  onPort m p (fun x => { x with
    slot := ((portOf m p).slot + 1) % 16, heard := false, sent := none, busy := if x.busyMark then x.busy else 0, busyMark := false })
/-- The slot's number. -/
def slotNumber (s : State) (p : Fin 2) : Nat := ((portOf (closeSlot s p) p).slot + 1) % 16
/-- The device in the slot, its superframe begun where it is the first. -/
def slotBegun (s : State) (p : Fin 2) : State := if slotNumber s p = 0 then startSuperframe (slotOpened s p) p else slotOpened s p
/-- The node transmits in the slot. -/
def Transmits (w : State) (p : Fin 2) (k : Nat) : Prop :=
  (portOf w p).running = true ∧ slotOwner w p k = some (portAddr (portOf w p)) ∧ mayTransmit w p = true

theorem slotStart_dead {echo : Bool} (h : portWorks s p = false) : exec (.slotStart p echo) s = .next s := by
  simp only [exec_slotStart, execSlotStart, h, Bool.not_false, if_true]

theorem slotStart_eq {echo : Bool} (h : portWorks s p = true) : exec (.slotStart p echo) s =
    (let w := slotBegun s p
    if !(portOf w p).running || slotOwner w p (slotNumber s p) != some (portAddr (portOf w p)) || !mayTransmit w p then .next w
    else if !echo then .next (onPort (portEvent w p 1) p (fun x => { x with collisions := satAdd 0xFFFF x.collisions 1 }))
    else .next (finishUpdate (offerSent (sendInSlot (portEvent w p 1) p) p))) := by
  have hbegun : slotBegun s p = if slotNumber s p == 0 then startSuperframe (slotOpened s p) p else slotOpened s p := by
    simp only [slotBegun, beq_iff_eq]
  rw [exec_slotStart, execSlotStart, if_neg (by rw [h]; exact Bool.false_ne_true), hbegun]
  rfl

theorem transmits_iff {w : State} {k : Nat} :
    (!(portOf w p).running || slotOwner w p k != some (portAddr (portOf w p)) || !mayTransmit w p) = true ↔ ¬Transmits w p k := by
  simp only [Bool.or_eq_true, Bool.not_eq_eq_eq_not, Bool.not_true, bne_iff_ne, Transmits]
  cases (portOf w p).running <;> cases mayTransmit w p <;> simp

theorem slotStart_listens {echo : Bool} (h : portWorks s p = true) (hm : ¬Transmits (slotBegun s p) p (slotNumber s p)) :
    exec (.slotStart p echo) s = .next (slotBegun s p) := by
  rw [slotStart_eq h]
  exact if_pos (transmits_iff.mpr hm)

theorem slotStart_transmits (h : portWorks s p = true) (hm : Transmits (slotBegun s p) p (slotNumber s p)) :
    exec (.slotStart p true) s = .next (finishUpdate (offerSent (sendInSlot (portEvent (slotBegun s p) p 1) p) p)) ∧
      exec (.slotStart p false) s =
        .next (onPort (portEvent (slotBegun s p) p 1) p (fun x => { x with collisions := satAdd 0xFFFF x.collisions 1 })) := by
  have hgo := fun hno => transmits_iff.mp hno hm
  rw [slotStart_eq h, slotStart_eq h]
  exact ⟨if_neg hgo, if_neg hgo⟩

theorem emptySlotOf_loses (hk : (nbrOf (portOf s p) a).known = true) (hl : (nbrOf (portOf s p) a).lost = false)
    (he : 2 ≤ (nbrOf (portOf s p) a).empty) : emptySlotOf s p a = loseNbr (onNbr s p a (fun n => { n with empty := n.empty + 1 })) p a := by
  have hthird : (nbrOf (portOf s p) a).empty + 1 ≥ 3 := by omega
  simp only [emptySlotOf, hk, hl, hthird, decide_true, Bool.not_false, Bool.and_self, if_true]

theorem emptySlotOf_counts (h : (nbrOf (portOf s p) a).known = false ∨ (nbrOf (portOf s p) a).lost = true ∨ (nbrOf (portOf s p) a).empty < 2) :
    emptySlotOf s p a = onNbr s p a (fun n => { n with empty := n.empty + 1 }) := by
  have hno : ((nbrOf (portOf s p) a).known && !(nbrOf (portOf s p) a).lost && decide ((nbrOf (portOf s p) a).empty + 1 ≥ 3)) = false := by
    rcases h with h | h | h
    · rw [h]
      rfl
    · rw [h, Bool.not_true, Bool.and_false, Bool.false_and]
    · rw [decide_eq_false (by omega), Bool.and_false]
  simp only [emptySlotOf, hno, Bool.false_eq_true, if_false]

/-- The neighbour gone, and its session with it (R689). -/
def neighbourGone (s : State) (p : Fin 2) (a : Byte) : State :=
  let m := onNbr s p a (fun n => { n with gone := true })
  match receiverOf m p a with | some r => setReceiver m p a { r with status := 3 } | none => m

theorem retryTimerExpiry_gone (hl : (nbrOf (portOf s p) a).lost = true) (hg : (nbrOf (portOf s p) a).gone = false) :
    exec (.retryTimerExpiry p a) s = .next (finishUpdate (append (neighbourGone s p a) Entry.neighbourGone (Src.port p.val)
      (nbrDetail s p a (ackedBy s p a) + if s.update.state ≠ 0 ∧ takenOver s p a = true then 2 ^ 32 else 0))) := by
  have hgo : ¬(!(nbrOf (portOf s p) a).lost || (nbrOf (portOf s p) a).gone) = true := by simp [hl, hg]
  rw [exec_retryTimerExpiry, execRetryTimerExpiry, if_neg hgo]
  simp only [Bool.and_eq_true, bne_iff_ne]
  rfl

theorem retryTimerExpiry_done (h : (nbrOf (portOf s p) a).lost = false ∨ (nbrOf (portOf s p) a).gone = true) :
    exec (.retryTimerExpiry p a) s = .next s := by
  have hno : (!(nbrOf (portOf s p) a).lost || (nbrOf (portOf s p) a).gone) = true := by simpa using h
  rw [exec_retryTimerExpiry, execRetryTimerExpiry]
  exact if_pos hno

theorem discardedFrame_works {why : Discard} (h : portWorks s p = true) : exec (.discardedFrame p why) s =
    match why with
    | .crc => .next (onPort s p (fun x => { x with crcErrors := x.crcErrors + 1 }))
    | .stranger a => .next (seeStranger s p a)
    | .mac _ => .next (badMac s p)
    | .pid => .next (onPort s p (fun x => { x with badPids := x.badPids + 1 }))
    | .slotWindow a d => .next (if enrolled s p a then seeIntrusion s p a d else seeStranger s p a)
    | .collision => .next (onPort s p (fun x => { x with collisions := satAdd 0xFFFF x.collisions 1, sent := none }))
    | .lineBusy =>
      let n := (portOf s p).busy + 1
      let s1 := onPort s p (fun x => { x with busy := n, busyMark := true })
      if n ≥ 16 && !(portOf s p).busFault then
        .next (append (onPort s1 p (fun x => { x with busFault := true })) Entry.busFault (Src.port p.val) (n * 2 ^ 8))
      else .next s1 := by
  have hgo : ¬(!portWorks s p) = true := by rw [h]; exact Bool.false_ne_true
  cases why <;> exact if_neg hgo

/-! ### The commands of an update, in its words -/

theorem chainStatus_res2 (h : Starts 0x0A03 c s j) (hp : param c 0 1 ≤ 1) (hk : param c 1 1 ≤ 1) :
    let x := portOf s (if param c 0 1 = 0 then 0 else 1)
    ∃ r, Answers (.chainStatus c) s (started s c j) j r ∧ r.status = 0 ∧
      r.res2 = if param c 1 1 = 0 then heardMask x / 2 ^ 32 else min 0xFFFFFFFF x.badPids := by
  by_cases h0 : param c 1 1 = 0
  · obtain ⟨r, hr, hst, -, hres, -⟩ := chainStatus_port h hp h0
    exact ⟨r, hr, hst, by rw [if_pos h0]; exact hres⟩
  · exact ⟨_, chainStatus_counts h hp (by omega), rfl, by rw [if_neg h0]⟩

theorem updateStart_local (h : Starts 0x0A01 c s j) (hal : param c 0 8 % 8 = 0) (hfl : param c 8 1 = 1) (hconf : Confirms c 10 0x0A01)
    (hst : s.update.state = 0) (hf : floorSpent (started s c j) = false) (ht : s.flash.crozierTorn = false)
    (hw : bankWorn (started s c j) = false) : let m := manifestOf (hostRead s 0 (param c 0 8) 512)
    m.ok = true → floorValue (started s c j) ≤ m.svn → ∃ v, exec (.updateStart c) s = .next v ∧ v.boot.state = .updating ∧ v.update.state = 1 ∧
      v.update.session = Machine.newSession (started s c j) ∧ v.update.digest = m.digest := by
  intro m hm hsvn
  have hnamed : manifestNamed (started s c j) c = m := by rw [manifestNamed, hfl]; rfl
  obtain ⟨-, -, -, -, -, hpass⟩ := updateStart_cases h ⟨by omega, by omega, hal, by omega, hconf⟩
  obtain ⟨-, -, hgo⟩ := hpass hst hf (by rw [hnamed]; exact hm) (by rw [hnamed]; exact hsvn) ht
  obtain ⟨-, hsess, -, -, -, -, hdigest, hlocal, -⟩ := sessionBegun_fields (t := started s c j) (c := c)
  obtain ⟨hstate, -, hboot⟩ := hlocal (by omega)
  refine ⟨sessionBegun (started s c j) c, ?_, by rw [hboot], hstate, hsess, hdigest.trans (by rw [hnamed])⟩
  rw [hgo hw (by omega), if_neg (by omega)]

/-- Settles O59: the checks of a frame, what each frame does, then slots, timers, commands and discards. -/
theorem turtisFramesAndSlots : Obligations.TurtisFramesAndSlots := by
  refine ⟨fun s i f pid hi => ?_, fun s f hf => ⟨?_, ?_, ?_, ?_, ?_, ?_, ?_, ?_, ?_, ?_⟩, fun s f => ⟨takeBeacon_ignored, fun h => ?_⟩, fun s f o => ?_,
    fun s f h => takeData_refused h, fun s p echo h => slotStart_dead h, fun s p echo h => ⟨slotStart_listens h, slotStart_transmits h⟩,
    fun s p a => ⟨emptySlotOf_loses, emptySlotOf_counts, ?_, retryTimerExpiry_done⟩, fun s c j => ⟨fun h => ⟨_, updateStatus_answers h, rfl, rfl, rfl⟩,
      fun h hp hk => chainStatus_res2 h hp hk, ?_, fun h hal hfl hconf hst hf ht hw => updateStart_local h hal hfl hconf hst hf ht hw⟩,
    fun s p => by simp only [portWorks, Bool.and_eq_true], fun s p h => ?_⟩
  · obtain ⟨body, hexec⟩ := exec_turtisFrame (s := s) hi
    rw [hexec]
    exact ⟨hear_dead, hear_badCrc, hear_stranger, hear_muted, hear_badMac, hear_intrudes, hear_others⟩
  · exact fun ha => exec_beacon.trans (hear_acts ha hf)
  · exact fun ha => ⟨fun hid => (exec_hello.trans (hear_acts ha hf)).trans (congrArg Host.Outcome.next (takeHello_stranger hid)),
      fun _ => exec_hello.trans (hear_acts ha hf)⟩
  · exact fun ha => exec_turtisClaim.trans (hear_acts ha hf)
  · exact fun ha => exec_grantReq.trans (hear_acts ha hf)
  · exact fun ha => exec_turtisEnd.trans (hear_acts ha hf)
  · exact fun ha => ⟨fun hp hb => (exec_offer.trans (hear_acts ha hf)).trans (congrArg Host.Outcome.next (offerHeard_pull hp hb)),
      fun hp hb hx => (exec_offer.trans (hear_acts ha hf)).trans (congrArg Host.Outcome.next (offerHeard_offer hp hb hx))⟩
  · exact fun ha hon hsess hres hret =>
      (exec_acceptFrame.trans (hear_acts ha hf)).trans (congrArg Host.Outcome.next (acceptHeard_declined hon hsess hres hret))
  · intro ha m hwr hloc hsrc hport
    refine (exec_turtisData.trans (hear_acts ha hf)).trans (congrArg Host.Outcome.next (if_pos ?_))
    simp only [Bool.and_eq_true, beq_iff_eq, Bool.not_eq_eq_eq_not, Bool.not_true]
    exact ⟨⟨⟨hwr, hloc⟩, hsrc⟩, hport⟩
  · exact fun ha => exec_turtisAck.trans (hear_acts ha hf)
  · intro ha m hx
    refine (exec_pullReq.trans (hear_acts ha hf)).trans (congrArg Host.Outcome.next (if_neg ?_))
    rw [Bool.not_eq_true, Bool.not_eq_false', Bool.or_eq_true]
    exact hx
  · have hv := takeBeacon_view h
    simp only [beaconView, Prod.mk.injEq] at hv
    obtain ⟨⟨hsfn, hmaster, hlayout, hgrant, hmissed, hbeacons, hsynced⟩, hknown, hnonce⟩ := hv
    exact ⟨hsfn, hmaster, hlayout, hgrant, hmissed, hbeacons, hsynced, hknown, hnonce⟩
  · obtain ⟨hjoin, hcurrent, hbusy, hbelow⟩ := offerResult_cases (s := s) (o := o)
    exact ⟨hjoin, hcurrent, hbusy, hbelow, takeOffer_declined⟩
  · intro hl hg m r
    have hr : r = neighbourGone s p a := by
      simp only [r, neighbourGone] <;> cases receiverOf m p a <;> rfl
    rw [hr]
    exact retryTimerExpiry_gone hl hg
  · intro h hal hlo hhi hconf hst bs hok hnd
    refine (execRosterSet_body h hal hconf hok hlo hhi hnd).trans ?_
    rw [unlessRefused_when_not (by rw [hst]; rfl), unlessRefused_nil, bodyDone_begins]
  · refine ⟨discardedFrame_works h, fun a => discardedFrame_works h, fun a => discardedFrame_works h, discardedFrame_works h,
      fun a d => discardedFrame_works h, discardedFrame_works h, fun hno => ?_, fun hn hf => ?_⟩
    · have hno' : ¬(decide ((portOf s p).busy + 1 ≥ 16) && !(portOf s p).busFault) = true := by
        rcases hno with hno | hno
        · rw [decide_eq_false (by omega)]
          exact Bool.false_ne_true
        · rw [hno, Bool.not_true, Bool.and_false]
          exact Bool.false_ne_true
      exact (discardedFrame_works h).trans (if_neg hno')
    · have hgo : (decide ((portOf s p).busy + 1 ≥ 16) && !(portOf s p).busFault) = true := by
        rw [decide_eq_true hn, hf]
        rfl
      exact (discardedFrame_works h).trans (if_pos hgo)

end Sys2Proof.Proofs
end

section
/-! SUPPORT. The responses of Table 17.3, the latch, the clear and the erasure, escalation, the end of a suspension and forced machines
(R721 to R740, R763, R764). -/

namespace Sys2Proof.Proofs
open Sys2Proof Sys2Proof.Machine Sys2Proof.Claims

variable {s t : State} {n lvl k : Nat} {z : ZeroEnv} {esc : Bool} {w : U64} {b : Nat} {f : FnId}

theorem exec_tamperAlarm {src : Fin 13} : exec (.tamperAlarm src z) s = execTamperAlarm src z s := rfl
theorem exec_shieldForcedCheck {ok : Bool} : exec (.shieldForcedCheck ok z) s = execShieldForcedCheck ok z s := rfl
theorem exec_sourceInactive {src : Fin 13} : exec (.sourceInactive src) s = execSourceInactive src s := rfl
theorem exec_tamperEscalate {src : Fin 13} : exec (.tamperEscalate src z) s = execTamperEscalate src z s := rfl
theorem exec_tamperEnd : exec .tamperEnd s = execTamperEnd s := rfl
theorem exec_fsmInvalid {x : FsmValue} : exec (.fsmInvalid x z) s = execFsmInvalid x z s := rfl

/-! ### An alarm -/

theorem tamperAlarm_off {src : Fin 13} (h : policyLevel s src.val = 7) : exec (.tamperAlarm src z) s = .next s := by
  have hno : (!watched s src.val || policyLevel s src.val == 7) = true := by simp [h]
  rw [exec_tamperAlarm, execTamperAlarm, alarm, if_pos hno]

theorem tamperAlarm_answered {src : Fin 13} (hw : watched s src.val = true) (h : policyLevel s src.val ≠ 7) : exec (.tamperAlarm src z) s =
    .next (noticed s (respond (alarmed s src) src.val (policyLevel s src.val) false z) src) := by
  have hgo : ¬(!watched s src.val || policyLevel s src.val == 7) = true := by simp [hw, h]
  rw [exec_tamperAlarm, execTamperAlarm, alarm, if_neg hgo]

theorem shieldForcedCheck_passes (h : s.power.sentinel = true) :
    exec (.shieldForcedCheck true z) s = .next (s.onTamper (fun t => { t with net := (t.net + 1) % 128 })) := by
  rw [exec_shieldForcedCheck, execShieldForcedCheck, if_neg (by rw [h]; exact Bool.false_ne_true)]
  rfl

theorem shieldForcedCheck_missed (h : s.power.sentinel = true) :
    exec (.shieldForcedCheck false z) s = exec (.tamperAlarm 0 z) (s.onTamper (fun t => { t with net := (t.net + 1) % 128 })) := by
  rw [exec_shieldForcedCheck, execShieldForcedCheck, if_neg (by rw [h]; exact Bool.false_ne_true), exec_tamperAlarm, execTamperAlarm]
  dsimp only
  rw [if_neg Bool.false_ne_true]
  rfl

theorem sourceInactive_quiet {src : Fin 13} (h : s.tamper.live.getLsbD src.val = true) :
    exec (.sourceInactive src) s = .next (s.onTamper (fun t => { t with
      live := t.live &&& ~~~(1 <<< src.val : BitVec 13)
      liveSince := SMap.set 0 t.liveSince src.val 0
      quietSince := SMap.set 0 t.quietSince src.val (s.clocks.seta + 1) })) := by
  rw [exec_sourceInactive, execSourceInactive, if_neg (by rw [h]; exact Bool.false_ne_true)]

/-! ### Xemberon's responses -/

section
variable (hx : XemberonAnswers s)
include hx

/-- Which of the responses is Xemberon's own. -/
theorem respond_xemberon (h7 : lvl ≠ 7) : respond s n lvl esc z =
    if lvl == 5 then append (dozeWake s) Entry.tamperNotice (Src.tamper n) (tamperDetail n 5 false (alarmState s) 0)
    else respondRunning s n lvl esc z := by
  obtain ⟨hr, hhib, hoff, hcr⟩ := hx
  have hstopped : (s.power.state == .off || !running s) = false := by simp [hoff, hr]
  have hcrozier : (s.boot.state == .updating && s.update.crozier) = false := by
    rw [Bool.and_eq_false_imp, beq_iff_eq]
    exact hcr
  rw [respond, if_neg (by simpa using h7), if_neg (by simpa using hhib), hstopped, hcrozier, if_neg Bool.false_ne_true, if_neg Bool.false_ne_true]

theorem respond_notice : respond s n 5 esc z =
    append (dozeWake s) Entry.tamperNotice (Src.tamper n) (tamperDetail n 5 false (alarmState s) 0) := respond_xemberon hx (by decide)

theorem respond_log : let a := abortJobs (dozeWake s) n
    respond s n 1 esc z = fnEvent (append a.1 Entry.tamper (Src.tamper n) (tamperDetail n 1 esc (alarmState s) a.2)) 0 4 :=
  respond_xemberon hx (by decide)

theorem respond_suspend : let a := abortJobs (latchAlarm (dozeWake s) n 2) n
    respond s n 2 esc z =
      fnEvent (setLatchBit (append (suspendFns a.1 n) Entry.tamper (Src.tamper n) (tamperDetail n 2 esc (alarmState s) a.2)) 14) 0 4 :=
  respond_xemberon hx (by decide)

/-- The source latched and suspended, before anything is cleared. -/
def latchedAt (s : State) (n lvl : Nat) : State :=
  (latchAlarm (dozeWake s) n lvl).onTamper (fun t => { t with suspended := t.suspended ||| (1 <<< n : BitVec 13) })

theorem respond_zeroise (hlvl : lvl = 3 ∨ lvl = 4) : let b := latchedAt s n lvl
    let e := fnEvent (setLatchBit (applyZeroise b n lvl esc (alarmState s) ((dozeWake s).jobs.filter onEngine).length z) 14) 0 4
    respond s n lvl esc z = if lvl == 4 || (zeroiseFailed z true && !zeroisedInForce b n) then retireSoon e else e := by
  rcases hlvl with rfl | rfl
  · exact respond_xemberon hx (by decide)
  · exact respond_xemberon hx (by decide)

theorem respond_zeroise_whole (hlvl : lvl = 3 ∨ lvl = 4) (hno : zeroisedInForce (latchedAt s n lvl) n = false) :
    let d := tamperDetail n lvl esc (alarmState s) ((dozeWake s).jobs.filter onEngine).length
    let e := fnEvent (setLatchBit (zeroiseEntries (append (zeroiseAll (latchedAt s n lvl) z true) Entry.tamper (Src.tamper n) d) z true) 14) 0 4
    respond s n lvl esc z = if lvl = 4 ∨ z.clears.val = 3 ∨ z.seeds.val = 3 then retireSoon e else e := by
  have happ : applyZeroise (latchedAt s n lvl) n lvl esc (alarmState s) ((dozeWake s).jobs.filter onEngine).length z = _ := if_neg (by rw [hno]; exact Bool.false_ne_true)
  refine (respond_zeroise hx hlvl).trans ?_
  simp only [hno, happ, zeroiseFailed, Bool.not_false, Bool.and_true, Bool.true_and, Bool.or_eq_true, beq_iff_eq]

theorem respond_zeroise_in_force (hlvl : lvl = 3 ∨ lvl = 4) (hin : zeroisedInForce (latchedAt s n lvl) n = true) :
    let d := tamperDetail n lvl esc (alarmState s) ((dozeWake s).jobs.filter onEngine).length
    let e := fnEvent (setLatchBit (append (latchedAt s n lvl) Entry.tamper (Src.tamper n) d) 14) 0 4
    respond s n lvl esc z = if lvl = 4 then retireSoon e else e := by
  have happ : applyZeroise (latchedAt s n lvl) n lvl esc (alarmState s) ((dozeWake s).jobs.filter onEngine).length z = _ := if_pos hin
  refine (respond_zeroise hx hlvl).trans ?_
  simp only [hin, happ, Bool.not_true, Bool.and_false, Bool.or_false, beq_iff_eq]
end

/-! ### The latch word (R733, Table 17.4) -/

theorem latchFirst_lt : latchFirst w < 256 := Nat.mod_lt _ (by decide)
theorem latchLevel_lt : latchLevel w < 8 := Nat.mod_lt _ (by decide)

/-- The field of the source named first. -/
def firstNamed (w : U64) (n : Nat) : Nat := if latchSources w == 0 && !w.getLsbD 13 then n else latchFirst w

theorem latchWith_toNat : (latchWith w n lvl).toNat = (bitsOf (w ||| (1 <<< n : U64)).toNat 0 16 + max lvl (latchLevel w) * 2 ^ 16 +
    bitsOf w.toNat 19 5 * 2 ^ 19 + firstNamed w n * 2 ^ 24) % 2 ^ 64 := BitVec.toNat_ofNat _ _

theorem testBit_add_mul_two_pow {x y i m : Nat} (hi : i < m) : (x + y * 2 ^ m).testBit i = x.testBit i := by
  have h := Nat.testBit_mod_two_pow (x + y * 2 ^ m) m i
  have h' := Nat.testBit_mod_two_pow x m i
  rw [Nat.add_mul_mod_self_right] at h
  rw [decide_eq_true hi, Bool.true_and] at h h'
  rw [← h, ← h']

/-- A source latches itself and no other. -/
theorem getLsbD_latchWith (hk : k < 16) : (latchWith w n lvl).getLsbD k = (w.getLsbD k || k == n) := by
  have hrest : bitsOf (w ||| (1 <<< n : U64)).toNat 0 16 + max lvl (latchLevel w) * 2 ^ 16 + bitsOf w.toNat 19 5 * 2 ^ 19 + firstNamed w n * 2 ^ 24 =
      bitsOf (w ||| (1 <<< n : U64)).toNat 0 16 + (max lvl (latchLevel w) + bitsOf w.toNat 19 5 * 2 ^ 3 + firstNamed w n * 2 ^ 8) * 2 ^ 16 := by ring
  have hone : (1 <<< n : U64).getLsbD k = (k == n) := by
    rw [BitVec.natCast_eq_ofNat, BitVec.getLsbD_ofNat, decide_eq_true (by omega), Bool.true_and, Nat.shiftLeft_eq, one_mul, Nat.testBit_two_pow,
      Bool.eq_iff_iff, decide_eq_true_iff, beq_iff_eq, eq_comm]
  rw [BitVec.getLsbD, latchWith_toNat, Nat.testBit_mod_two_pow, decide_eq_true (by omega), Bool.true_and, hrest, testBit_add_mul_two_pow hk, bitsOf,
    pow_zero, Nat.div_one, Nat.testBit_mod_two_pow, decide_eq_true hk, Bool.true_and, BitVec.testBit_toNat, BitVec.getLsbD_or, hone]

/-- The level and the first source of a latch word. -/
theorem latchWith_fields (hn : n < 13) (hl : lvl ≤ 4) :
    latchLevel (latchWith w n lvl) = max lvl (latchLevel w) ∧ latchFirst (latchWith w n lvl) = firstNamed w n := by
  have hfirst : firstNamed w n < 256 := by
    unfold firstNamed
    split
    · omega
    · exact latchFirst_lt
  have hlevel : max lvl (latchLevel w) < 8 := max_lt (by omega) latchLevel_lt
  have hlow : bitsOf (w ||| (1 <<< n : U64)).toNat 0 16 < 2 ^ 16 := Nat.mod_lt _ (by decide)
  have hmid : bitsOf w.toNat 19 5 < 2 ^ 5 := Nat.mod_lt _ (by decide)
  have hx := latchWith_toNat (w := w) (n := n) (lvl := lvl)
  generalize bitsOf (w ||| (1 <<< n : U64)).toNat 0 16 = low at *
  generalize max lvl (latchLevel w) = top at *
  generalize bitsOf w.toNat 19 5 = mid at *
  generalize firstNamed w n = first at *
  rw [latchLevel, latchFirst, hx]
  simp only [bitsOf]
  omega

/-! ### The status word (Table 15.1) -/

theorem bitOf_statusWord {v : Nat} (hb : b ≤ 1) : bitOf (statusWord v).toNat b = bitOf v b := by
  have hword : (statusWord v).toNat = v % 4294967296 + (4294967295 - v % 4294967296) * 4294967296 := by
    rw [statusWord, BitVec.toNat_ofNat]
    norm_num only
    omega
  rw [hword, Bool.eq_iff_iff]
  have hb' : b = 0 ∨ b = 1 := by omega
  rcases hb' with rfl | rfl <;> simp only [bitOf, beq_iff_eq, Nat.reducePow] <;> omega

/-- A status bit that is set reads as set. -/
theorem bitOf_setStatusBit (hb : b ≤ 1) : bitOf (sporeWord (setStatusBit s b true) 48).toNat b = true := by
  rw [setStatusBit, sporeWord_setSpore_same, bitOf_statusWord hb, if_pos rfl]
  split
  next h => exact h
  next h =>
    have hb' : b = 0 ∨ b = 1 := by omega
    rcases hb' with rfl | rfl <;> simp only [bitOf, beq_iff_eq] at h ⊢ <;> omega

/-- Latching changes the latch, and in the store the status word. -/
theorem latchAlarm_frame : ∃ p, latchAlarm s n lvl =
    (s.onTamper (fun t => { t with latch := latchWith t.latch n lvl })).onSpore (fun _ => p) := onlySpore_setStatusBit

theorem latchAlarm_tamper : (latchAlarm s n lvl).tamper = { s.tamper with latch := latchWith s.tamper.latch n lvl } := by
  obtain ⟨p, hp⟩ := latchAlarm_frame (s := s) (n := n) (lvl := lvl)
  rw [hp, State.onSpore_tamper, State.onTamper_tamper]
theorem latchAlarm_regs : (latchAlarm s n lvl).regs = s.regs := by
  obtain ⟨p, hp⟩ := latchAlarm_frame (s := s) (n := n) (lvl := lvl)
  rw [hp, State.onSpore_regs, State.onTamper_regs]
theorem latchAlarm_boot : (latchAlarm s n lvl).boot = s.boot := by
  obtain ⟨p, hp⟩ := latchAlarm_frame (s := s) (n := n) (lvl := lvl)
  rw [hp, State.onSpore_boot, State.onTamper_boot]

/-! ### What another source has in force -/

theorem reg_latchAlarm {m : Nat} : reg (latchAlarm s n lvl) m = reg s m := by rw [reg, reg, latchAlarm_regs]
theorem policyLevel_latchAlarm {m : Nat} : policyLevel (latchAlarm s n lvl) m = policyLevel s m := by
  rw [policyLevel, reg_latchAlarm, reg_latchAlarm, policyLevel]
theorem appliedLevel_latchAlarm {m : Nat} : appliedLevel (latchAlarm s n lvl) m = appliedLevel s m := by
  rw [appliedLevel, latchAlarm_tamper, policyLevel_latchAlarm, appliedLevel]

/-- R730: an alarm's own latch is not another source's. -/
theorem zeroisedInForce_latchAlarm : zeroisedInForce (latchAlarm s n lvl) n = zeroisedInForce s n := by
  unfold zeroisedInForce
  rw [Bool.eq_iff_iff, List.any_eq_true, List.any_eq_true]
  refine exists_congr fun m => and_congr_right fun hm => ?_
  have hlt : m < 16 := by have := List.mem_range.mp hm; omega
  rw [appliedLevel_latchAlarm, latchAlarm_tamper, getLsbD_latchWith hlt]
  by_cases hmn : m = n
  · simp [hmn]
  · rw [beq_eq_false_iff_ne.mpr hmn, Bool.or_false]

/-! ### The Sentinel's responses -/

theorem onlySpore_setSpores {ws : List U64} : OnlySpore s (setSpores s k ws) := by
  induction ws generalizing s k with
  | nil => exact .refl
  | cons x ws ih => exact onlySpore_setSpore.trans ih

theorem OnlySpore.boot (h : OnlySpore s t) : t.boot = s.boot := by
  obtain ⟨p, rfl⟩ := h
  rfl

theorem setLatchBit_boot : (setLatchBit s b).boot = s.boot := by rw [setLatchBit, State.onTamper_boot]

theorem eraseSeed_boot : (eraseSeed s z).boot = s.boot := by
  unfold eraseSeed
  split
  · exact List.foldlRecOn _ _ (motive := fun a : State => a.boot = s.boot) rfl (fun a ha i _ =>
      (onlySpore_setSpore (s := (takeFree a).2) (w := 44 + i) (v := (takeFree a).1)).boot.trans ha)
  · rw [setLatchBit_boot, (onlySpore_setSpores.trans onlySpore_setStatusBit).boot]

theorem zeroiseClear_boot : (zeroiseClear s z).boot = s.boot := by
  simp only [zeroiseClear, State.onTag_boot]
  split
  · simp only [State.onFns_boot, State.onJobs_boot, State.onLog_boot, State.onMedulla_boot]
  · simp only [setLatchBit_boot, State.onFns_boot, State.onJobs_boot, State.onLog_boot, State.onMedulla_boot]

/-- ROM does not run and the device does not wait in TAMPERED. -/
def RomIdle (s : State) : Prop := romRuns s = false ∧ s.boot.state ≠ .tampered

theorem romIdle_of_boot (h : t.boot = s.boot) (hi : RomIdle s) : RomIdle t := by
  obtain ⟨hrom, hst⟩ := hi
  exact ⟨by rw [romRuns, h]; exact hrom, by rw [h]; exact hst⟩

/-- Retirement leaves the device with ROM not at work: waiting as it was, or at the start of a reset. -/
theorem romIdle_retireSoon (hi : RomIdle s) : RomIdle (retireSoon s) := by
  unfold retireSoon
  split
  · exact romIdle_of_boot (by rfl) hi
  · exact ⟨rfl, (fun h => nomatch h)⟩

section
variable (hs : SentinelAnswers s)
include hs

theorem romIdle_of_sentinelAnswers : RomIdle s := by
  obtain ⟨-, -, hrom, hst⟩ := hs
  exact ⟨hrom, hst⟩

/-- What the Sentinel does alone, by the level. -/
def sentinelAlone (s : State) (n lvl : Nat) (z : ZeroEnv) : State := if lvl == 5 then holdNotice s n 5 else respondSentinel s n lvl z

/-- With ROM idle after it, the Sentinel's own response is the whole response. -/
theorem respond_sentinel (h7 : lvl ≠ 7) (h : sentinelAlone s n lvl z = t) (hi : RomIdle t) : respond s n lvl false z = t := by
  obtain ⟨hdown, hhib, -, -⟩ := hs
  obtain ⟨hrom, hst⟩ := hi
  have hstopped : (s.power.state == .off || !running s) = true := by simpa using hdown
  have hkey : romChainKey t = t := by
    rw [romChainKey, hrom, beq_eq_false_iff_ne.mpr hst]
    rfl
  unfold sentinelAlone at h
  rw [respond, if_neg (by simpa using h7), if_neg (by simpa using hhib), if_pos hstopped, h, hkey]
  dsimp only
  rw [hrom]
  rfl

omit hs in
theorem sentinelAlone_of_ne (h5 : lvl ≠ 5) : sentinelAlone s n lvl z = respondSentinel s n lvl z := if_neg (by simpa using h5)

theorem respond_sentinel_held : respond s n 5 false z =
      s.onTamper (fun t => { t with notices := t.notices ||| (1 <<< (2 * n + 1) : BitVec 26) }) ∧
    respond s n 1 false z = s.onTamper (fun t => { t with notices := t.notices ||| (1 <<< (2 * n) : BitVec 26) }) ∧
    respond s n 2 false z = latchAlarm s n 2 := by
  have hi := romIdle_of_sentinelAnswers hs
  have hheld : ∀ i, RomIdle (holdNotice s n i) := fun i => romIdle_of_boot (by rw [holdNotice, State.onTamper_boot]) hi
  have hlatch : respondSentinel s n 2 z = latchAlarm s n 2 := by simp only [respondSentinel, Nat.reduceBEq, Bool.false_eq_true, if_false, le_refl, if_true]
  have hlog : respondSentinel s n 1 z = holdNotice s n 1 := by simp only [respondSentinel, Nat.reduceBEq, if_true]
  exact ⟨respond_sentinel hs (by decide) (if_pos rfl) (hheld 5), respond_sentinel hs (by decide) ((sentinelAlone_of_ne (by decide)).trans hlog) (hheld 1),
    respond_sentinel hs (by decide) ((sentinelAlone_of_ne (by decide)).trans hlatch) (romIdle_of_boot latchAlarm_boot hi)⟩

/-- The array cleared and the seed erased by the Sentinel. -/
theorem romIdle_cleared : RomIdle (eraseSeed (zeroiseClear (latchAlarm s n lvl) z) z) :=
  romIdle_of_boot ((eraseSeed_boot.trans zeroiseClear_boot).trans latchAlarm_boot) (romIdle_of_sentinelAnswers hs)

omit hs in
theorem respondSentinel_clears (hno : zeroisedInForce s n = false) (hlvl : 3 ≤ lvl) : respondSentinel s n lvl z =
    if lvl == 4 || zeroiseFailed z true then retireSoon (eraseSeed (zeroiseClear (latchAlarm s n lvl) z) z)
    else eraseSeed (zeroiseClear (latchAlarm s n lvl) z) z := by
  have h1 : (lvl == 1) = false := by simp; omega
  have h2 : ¬lvl ≤ 2 := by omega
  simp only [respondSentinel, h1, h2, zeroisedInForce_latchAlarm, hno, Bool.not_false, Bool.and_true, Bool.false_eq_true, if_false]

theorem respond_sentinel_zeroises (hno : zeroisedInForce s n = false) (hc : z.clears.val ≠ 3) (hsd : z.seeds.val ≠ 3) :
    respond s n 3 false z = eraseSeed (zeroiseClear (latchAlarm s n 3) z) z := by
  have hresp : respondSentinel s n 3 z = eraseSeed (zeroiseClear (latchAlarm s n 3) z) z := by
    have hok : zeroiseFailed z true = false := by simp [zeroiseFailed, hc, hsd]
    rw [respondSentinel_clears hno (by decide), hok, if_neg (by decide)]
  exact respond_sentinel hs (by decide) ((sentinelAlone_of_ne (by decide)).trans hresp) (romIdle_cleared hs)

theorem respond_sentinel_retires (hno : zeroisedInForce s n = false) :
    respond s n 4 false z = retireSoon (eraseSeed (zeroiseClear (latchAlarm s n 4) z) z) := by
  have hresp : respondSentinel s n 4 z = retireSoon (eraseSeed (zeroiseClear (latchAlarm s n 4) z) z) := by
    rw [respondSentinel_clears hno (by decide), if_pos (by rw [beq_self_eq_true, Bool.true_or])]
  exact respond_sentinel hs (by decide) ((sentinelAlone_of_ne (by decide)).trans hresp) (romIdle_retireSoon (romIdle_cleared hs))
end

/-! ### The clear and the erasure (R738, R740) -/

theorem zeroiseClear_medulla : (zeroiseClear s z).medulla.slots = [] ∧ (zeroiseClear s z).medulla.kek = none := by
  simp only [zeroiseClear, State.onTag_medulla]
  split <;> exact ⟨rfl, rfl⟩

theorem zeroiseClear_jobs : (zeroiseClear s z).jobs = s.jobs.map Job.cleared := by
  simp only [zeroiseClear, State.onTag_jobs]
  split <;> rfl

theorem zeroiseClear_fns : (zeroiseClear s z).fns = SMap.mapV {} (fun _ x => { x with ctxKey := [] }) s.fns := by
  simp only [zeroiseClear, State.onTag_fns]
  split <;> rfl

theorem ctxKey_zeroiseClear (h : SMap.wf {} s.fns = true) : (fnOf (zeroiseClear s z) f).ctxKey = [] := by
  rw [fnOf, zeroiseClear_fns, get_mapV h rfl]

/-- The device with the four seed words erased, before the verify. -/
theorem eraseSeed_verified (hs : z.seeds.val ≠ 3) : eraseSeed s z = setLatchBit (setStatusBit (setSpores s 44 [0, 0, 0, 0]) 1 true) 19 :=
  if_neg (by simpa using hs)

theorem sporeWord_setLatchBit : sporeWord (setLatchBit s b) k = sporeWord s k := by rw [sporeWord, setLatchBit, State.onTamper_spore, sporeWord]

theorem seedWords_eraseSeed (hs : z.seeds.val ≠ 3) : seedWords (eraseSeed s z) = [0, 0, 0, 0] := by
  have hword : ∀ i, (hi : i < 4) → sporeWord (eraseSeed s z) (44 + i) = ([0, 0, 0, 0] : List U64)[i] := by
    intro i hi
    rw [eraseSeed_verified hs, sporeWord_setLatchBit, setStatusBit, sporeWord_setSpore_ne (by omega), sporeWord_setSpores hi]
  rw [seedWords]
  exact congrArg₂ List.cons (hword 0 (by decide)) (congrArg₂ List.cons (hword 1 (by decide)) (congrArg₂ List.cons (hword 2 (by decide))
    (congrArg₂ List.cons (hword 3 (by decide)) rfl)))

theorem seedErased_eraseSeed (hs : z.seeds.val ≠ 3) : seedErased (eraseSeed s z) = true := by
  rw [eraseSeed_verified hs, seedErased, sporeWord_setLatchBit]
  exact bitOf_setStatusBit (by decide)

/-! ### Escalation and the end of a suspension (R728, R729) -/

theorem running_of_boot (h : t.boot = s.boot) : running t = running s := by rw [running, running, h]

theorem atInstant_frame : atInstant s k = { s with clocks := (atInstant s k).clocks, power := (atInstant s k).power, tamper := (atInstant s k).tamper } := by
  unfold atInstant
  split
  · exact setaTo_frame
  · rfl

theorem atInstant_power_state : (atInstant s k).power.state = s.power.state := by
  unfold atInstant
  split
  · rw [setaTo_power_frame]
  · rfl

/-- The passing of time moves the ticks of the tamper record alone. -/
theorem atInstant_tamper : let t := (atInstant s k).tamper
    t.suspended = s.tamper.suspended ∧ t.live = s.tamper.live ∧ t.latch = s.tamper.latch := by
  unfold atInstant
  split
  · rw [setaTo_tamper, pass_frame]
    exact ⟨rfl, rfl, rfl⟩
  · exact ⟨rfl, rfl, rfl⟩

/-- Seta stands at an instant that fits it, or beyond. -/
theorem atInstant_reaches (hp : s.power.sentinel = true) (hk : k < 2 ^ 64) :
    s.clocks.seta ≤ (atInstant s k).clocks.seta ∧ k ≤ (atInstant s k).clocks.seta := by
  unfold atInstant
  by_cases hlt : s.clocks.seta < k
  · rw [if_pos (by rw [hp, decide_eq_true hlt]; rfl), setaTo_seta, Nat.mod_eq_of_lt hk]
    exact ⟨hlt.le, le_rfl⟩
  · rw [if_neg (by rw [decide_eq_false hlt, Bool.and_false]; exact Bool.false_ne_true)]
    exact ⟨le_rfl, Nat.not_lt.mp hlt⟩

/-- The alarm at the end of its millisecond. -/
def escalatedAt (s : State) (src : Fin 13) : State :=
  (atInstant s (SMap.get 0 s.tamper.liveSince src.val - 1 + 100000)).onTamper (fun t => { t with
    escalated := t.escalated ||| (1 <<< src.val : BitVec 13) })

theorem tamperEscalate_eq {src : Fin 13} (h : Escalates s src) : exec (.tamperEscalate src z) s =
    .next (respond (if running s && s.power.state != .hibernate && s.power.state != .off then
      append (escalatedAt s src) Entry.tamperEscalate (Src.tamper src.val) (src.val + 3 * 2 ^ 8) else escalatedAt s src) src.val 3 true z) := by
  obtain ⟨hlo, hhi, hpol, hlive, hlatch, hesc, hsent⟩ := h
  have hgo : (decide (src.val < 2) || decide (src.val > 5) || policyLevel s src.val != 2 || !s.tamper.live.getLsbD src.val ||
      !s.tamper.latch.getLsbD src.val || s.tamper.escalated.getLsbD src.val || !s.power.sentinel) = false := by
    rw [decide_eq_false (Nat.not_lt.mpr hlo), decide_eq_false (Nat.not_lt.mpr hhi), hpol, hlive, hlatch, hesc, hsent]
    rfl
  have hrun : running (escalatedAt s src) = running s := running_of_boot atInstant_boot
  have hst : (escalatedAt s src).power.state = s.power.state := atInstant_power_state
  rw [exec_tamperEscalate, execTamperEscalate]
  dsimp only
  rw [hgo, if_neg Bool.false_ne_true, ← hrun, ← hst]
  rfl

/-- The instant at which the last source of a suspension fell quiet. -/
def lastQuiet (s : State) : Nat :=
  ((List.range 13).map (fun n => if s.tamper.suspended.getLsbD n then SMap.get 0 s.tamper.quietSince n - 1 else 0)).foldl max 0

theorem le_foldl_max {l : List Nat} {x : Nat} (h : x ≤ k ∨ x ∈ l) : x ≤ l.foldl max k := by
  induction l generalizing k with
  | nil => exact h.resolve_right (List.not_mem_nil)
  | cons y l ih =>
    rcases h with h | h
    · exact ih (.inl (le_max_of_le_left h))
    · rcases List.mem_cons.mp h with rfl | h
      · exact ih (.inl (le_max_right _ _))
      · exact ih (.inr h)

theorem foldl_max_lt {l : List Nat} {top : Nat} (hk : k < top) (h : ∀ x ∈ l, x < top) : l.foldl max k < top :=
  List.foldlRecOn _ _ (motive := fun a : Nat => a < top) hk (fun _ ha x hx => max_lt ha (h x hx))

theorem quiet_le_lastQuiet {i : Nat} (hi : i < 13) (hsus : s.tamper.suspended.getLsbD i = true) :
    SMap.get 0 s.tamper.quietSince i - 1 ≤ lastQuiet s :=
  le_foldl_max (.inr (List.mem_map.mpr ⟨i, List.mem_range.mpr hi, if_pos hsus⟩))

theorem lastQuiet_lt (h : ∀ i, i < 13 → SMap.get 0 s.tamper.quietSince i + 1000000 ≤ 2 ^ 64) : lastQuiet s + 1000000 < 2 ^ 64 := by
  have hlast : lastQuiet s < 2 ^ 64 - 1000000 := by
    refine foldl_max_lt (by decide) (fun x hx => ?_)
    obtain ⟨i, hi, rfl⟩ := List.mem_map.mp hx
    have := h i (List.mem_range.mp hi)
    split <;> omega
  omega

/-- The device with the suspension over, 10 ms after its last source fell quiet. -/
def suspensionOver (s : State) : State :=
  (atInstant s (lastQuiet s + 1000000)).onTamper (fun t => { t with suspended := 0, escalated := 0 })

theorem tamperEnd_ends (hsus : s.tamper.suspended ≠ 0) (hlive : s.tamper.suspended &&& s.tamper.live = 0) (hr : running s = true) :
    exec .tamperEnd s = .next (dispatch (append (suspensionOver s) Entry.tamperEnd Src.xemberon s.tamper.suspended.toNat)) := by
  have hgo : ¬(s.tamper.suspended == 0 || s.tamper.suspended &&& s.tamper.live != 0 || !running s) = true := by
    rw [beq_eq_false_iff_ne.mpr hsus, hlive, hr]
    decide
  rw [exec_tamperEnd, execTamperEnd]
  exact if_neg hgo

theorem suspensionOver_frame : suspensionOver s =
    { s with clocks := (suspensionOver s).clocks, power := (suspensionOver s).power, tamper := (suspensionOver s).tamper } := by
  rw [suspensionOver, atInstant_frame]
  rfl

/-- Settles O57: the alarm, the responses by who answers, the latch, the clear, then the timed events and the machines. -/
theorem tamperResponses : Obligations.TamperResponses := by
  refine ⟨fun s n z hw => ⟨tamperAlarm_off, tamperAlarm_answered hw⟩,
    fun s n esc z hx => ⟨respond_notice hx, respond_log hx, respond_suspend hx, fun lvl hlvl =>
      ⟨respond_zeroise_whole hx hlvl, respond_zeroise_in_force hx hlvl⟩⟩,
    fun s n z hs => ?_, fun w n lvl hn hl => ⟨fun k hk => getLsbD_latchWith hk, ?_⟩, fun s n lvl => ⟨by rw [latchAlarm_tamper], bitOf_setStatusBit (by decide)⟩,
    fun s z _ hf => ?_, fun s z h => ⟨shieldForcedCheck_passes h, shieldForcedCheck_missed h⟩, fun s n h => sourceInactive_quiet h,
    fun s n z h => ⟨fun hr hhib hoff => ?_, fun hr => ?_⟩, fun s hsus hlive hr => ?_, fun s m v z h => ⟨fun hv => ?_, fun hv => ⟨?_, ?_⟩⟩⟩
  · obtain ⟨hnotice, hlog, hlatch⟩ := respond_sentinel_held (n := n) (z := z) hs
    exact ⟨hnotice, hlog, hlatch, respond_sentinel_zeroises hs, respond_sentinel_retires hs⟩
  · obtain ⟨hlevel, hfirst⟩ := latchWith_fields (w := w) hn hl
    refine ⟨hlevel, hfirst.trans ?_⟩
    simp only [firstNamed, Bool.and_eq_true, beq_iff_eq, Bool.not_eq_eq_eq_not, Bool.not_true]
  · obtain ⟨hslots, hkek⟩ := zeroiseClear_medulla (s := s) (z := z)
    refine ⟨hslots, hkek, fun j hj => ?_, fun f => ctxKey_zeroiseClear hf, fun hz => ⟨seedWords_eraseSeed hz, seedErased_eraseSeed hz⟩⟩
    rw [zeroiseClear_jobs] at hj
    obtain ⟨x, -, rfl⟩ := List.mem_map.mp hj
    rfl
  · rw [tamperEscalate_eq h, if_pos (by simp [hr, hhib, hoff])]
    rfl
  · rw [tamperEscalate_eq h, if_neg (by simp [hr])]
    rfl
  · obtain ⟨-, hlv, hlt⟩ := atInstant_tamper (s := s) (k := lastQuiet s + 1000000)
    refine ⟨suspensionOver s, tamperEnd_ends hsus hlive hr, rfl, rfl, hlv, hlt, fun hp hq => ?_, suspensionOver_frame⟩
    obtain ⟨hseta, hlast⟩ := atInstant_reaches hp (lastQuiet_lt hq)
    exact ⟨hseta, fun i hi hs => (Nat.add_le_add_right (quiet_le_lastQuiet hi hs) _).trans hlast⟩
  · rw [exec_fsmInvalid, execFsmInvalid, if_pos (by simp [hv])]
  · rw [exec_fsmInvalid, execFsmInvalid, if_neg (by simp [h, hv])]
    cases hsix : raisesSix m <;> rfl
  · simp only [State.onTamper_tamper]
    split
    next hc => simpa using hc
    next => exact List.mem_cons_self

end Sys2Proof.Proofs
end

section
/-! SUPPORT. Known-answer sets and double-bit faults: what a set that ends leaves of its unit, the fault that is handled, the patrol read
over the three arrays, the two cores of a Pinna pair. -/

namespace Sys2Proof.Proofs

open Sys2Proof Sys2Proof.Machine Sys2Proof.Claims

/-! ### Known-answer sets -/

section
variable {s : State} {u : UnitRef}

theorem resumeOn_engines : (resumeOn s u).engines = s.engines := by
  unfold resumeOn
  dsimp only
  split
  · split
    · simp [startPay]
    · rfl
  · rfl

theorem unitOf_backInService : unitOf (backInService s u) u = { unitOf s u with
    lastTest := s.clocks.seta
    passed := false
    forced := testWanted s u
    st := if (unitOf (backInService s u) u).st = .borrowed then .borrowed else .inService } := by
  unfold backInService
  rw [unitOf_congr resumeOn_engines, unitOf_onUnit_same]
  generalize s.jobs.any _ = lent
  cases lent <;> rfl

theorem endTest_failed : endTest s u false = failUnit s u (testCauseCode u (unitOf s u).why) := rfl

theorem endTest_joining (h : (unitOf s u).why = .join ∨ (unitOf s u).why = .returning) :
    endTest s u true = onUnit s u (fun x => { x with passed := true, lastTest := s.clocks.seta }) := by
  rcases h with h | h <;> simp [endTest, h]

theorem endTest_passed (hjoin : (unitOf s u).why ≠ .join) (hback : (unitOf s u).why ≠ .returning) :
    endTest s u true = backInService s u := by
  unfold endTest
  cases h : (unitOf s u).why <;> simp_all

theorem exec_forcedTest_due (hruns : testsRun s = true) (haging : aging s u = true) :
    exec (.forcedTest u) s = .next (startForced (onUnit (raise (atInstant s ((unitOf s u).lastTest + forcedAge u)) [87]) u
      (fun x => { x with forced := true, why := .slot }))) :=
  if_neg (by simp [hruns, haging])

theorem exec_testDone_under (h : UnderTest s u) (pass : Bool) :
    exec (.testDone u pass) s = .next (dispatch (settleReturns (endTest (noteTested s u true pass) u pass))) := by
  obtain ⟨hrun, hquiet, hst, hpassed, hpower, hclock⟩ := h
  exact if_neg (by simp [hrun, hquiet, hst, hpassed, hpower, hclock])

end

/-! ### Double-bit faults -/

section
variable {s : State}

theorem exec_eccDoubleBit_handled (h : HandlesEcc s) {p : EccPlace} :
    exec (.eccDoubleBit p) s = .next (doubleBit (eccCounted s) p) := by
  obtain ⟨hrun, hquiet, hpower⟩ := h
  exact if_neg (by simp [hrun, hquiet, hpower])

theorem doubleBit_sramJob {f : FnId} {q : PairId} {t : BitVec 16} {j : Job} (h : hostJob s f q t = some j) :
    doubleBit s (.sramJob f q t) = descriptorLost s j := by
  simp only [doubleBit, h]

theorem doubleBit_tcm {u : Fin 8} {b : Bool} {w : BitVec 16} {i : Inv} (h : (pinnaOf s u).inv = some i) :
    doubleBit s (.tcm u b w) = trap s u i (pinnaOf s u).pc 9 w.toNat := by
  simp only [doubleBit, h]

theorem doubleBit_hold {n : Fin 64} (h : frondState s n = .inService) : doubleBit s (.hold n) = dispatch (failFrond s n 4) :=
  if_pos (by rw [h]; rfl)

theorem doubleBit_calyptraMem {n : Fin 2} (h : (unitOf s (.calyptra n)).st = .inService) :
    doubleBit s (.calyptraMem n) = dispatch (failUnit s (.calyptra n) 4) :=
  if_pos (by rw [h]; rfl)

theorem slotFault_volatile {n : Nat} (hvalid : attrValid (attrOf s n) = true) (hn : n ≠ 1) (hkept : attrPersistent (attrOf s n) = false) :
    slotFault s n = loseSlot (append (emptySlot s n) Entry.keyLost Src.xemberon (n + attrOf s n % 256 * 2 ^ 16)) n := by
  simp only [slotFault, hvalid, hkept, beq_iff_eq, hn, Bool.not_true, Bool.false_eq_true, if_false]

theorem slotFault_persistent {n : Nat} {r : Nat × KeyRec} (hvalid : attrValid (attrOf s n) = true) (hn : n ≠ 1)
    (hkept : attrPersistent (attrOf s n) = true) (hrec : recordFor s n (attrOf s n % 256) = some r) :
    slotFault s n = loadRecord (emptySlot s n) r.2 := by
  simp only [slotFault, hvalid, hkept, hrec, beq_iff_eq, hn, Bool.not_true, Bool.false_eq_true, if_false, if_true]

end

/-! ### Scrub passes and the patrol read -/

section
variable {s : State} {c : BitVec 16}

theorem exec_scrubPass_counts {x : ScrubMem} (hrun : running s = true) (hpower : s.power.state ≠ .hibernate)
    (hon : domainOn s (scrubDomain x) = true) : exec (.scrubPass x c) s =
      let m := s.onHealth (fun h => { h with corrections := h.corrections + c.toNat })
      .next (if x == .sram 0 then raise (m.onHealth (fun h => { h with scrubPasses := h.scrubPasses + 1 })) [47] else m) :=
  if_neg (by simp [hrun, hpower, hon])

/-- The open erases of the arrays below `n` are suspended for a read. -/
def suspendBelow (n : Nat) (o : FlashOp) : FlashOp :=
  if o.erase && o.begun && decide (arrayOf o.unit < n) then { o with suspends := o.suspends + 1 } else o

theorem suspendErase_read {k : Nat} : suspendErase s k false = s.onFlash (fun f => { f with
    ops := f.ops.map (fun o => if o.erase && o.begun && arrayOf o.unit == k then { o with suspends := o.suspends + 1 } else o) }) := by
  simp only [suspendErase, Bool.or_false]

/-- An erase is open on one array only: it is suspended once. -/
theorem suspends_after_suspendBelow {n : Nat} {o : FlashOp} :
    (let x := suspendBelow n o
      if x.erase && x.begun && arrayOf x.unit == n then { x with suspends := x.suspends + 1 } else x) = suspendBelow (n + 1) o := by
  unfold suspendBelow
  rcases Nat.lt_trichotomy (arrayOf o.unit) n with h | h | h
  · have hne : arrayOf o.unit ≠ n := by omega
    have hlt : arrayOf o.unit < n + 1 := by omega
    cases he : o.erase && o.begun <;> simp [he, h, hne, hlt]
  · cases he : o.erase && o.begun <;> simp [he, h]
  · have hne : arrayOf o.unit ≠ n := by omega
    have hnlt : ¬arrayOf o.unit < n := by omega
    have hle : ¬arrayOf o.unit < n + 1 := by omega
    simp [hne, hnlt, hle]

theorem foldl_suspendErase {n : Nat} : (List.range n).foldl (fun a k => suspendErase a k false) s =
    s.onFlash (fun f => { f with ops := f.ops.map (suspendBelow n) }) := by
  induction n with
  | zero =>
    have hnone : suspendBelow 0 = id := by funext o; simp [suspendBelow]
    simp [hnone, State.onFlash]
  | succ n ih =>
    rw [List.range_succ, List.foldl_append, ih, List.foldl_cons, List.foldl_nil, suspendErase_read]
    simp only [State.onFlash, List.map_map]
    have heach : (fun o : FlashOp => if o.erase && o.begun && arrayOf o.unit == n then { o with suspends := o.suspends + 1 } else o) ∘
        suspendBelow n = suspendBelow (n + 1) := funext fun o => suspends_after_suspendBelow
    rw [heach]

theorem exec_patrolRead_busy (hx : xemberon s = true) (hquiet : s.power.quiesced = false)
    (hopen : (List.range 3).any (programOn s) = true) : exec (.patrolRead c) s = .next (raise s [79]) :=
  (if_neg (by simp [hx, hquiet])).trans (if_pos hopen)

theorem exec_patrolRead_free (hx : xemberon s = true) (hquiet : s.power.quiesced = false)
    (hopen : (List.range 3).any (programOn s) = false) : exec (.patrolRead c) s =
      let t := atInstant ((List.range 3).foldl (fun a k => suspendErase a k false) s) (s.health.lastPatrol + 8640000000000)
      .next (t.onHealth (fun h => { h with corrections := h.corrections + c.toNat, lastPatrol := t.clocks.seta })) :=
  (if_neg (by simp [hx, hquiet])).trans (if_neg (by simp [hopen]))

theorem onHealth_atInstant_frame {k : Nat} {h : Health → Health} : (atInstant s k).onHealth h = { s with
    clocks := (atInstant s k).clocks
    power := (atInstant s k).power
    tamper := (atInstant s k).tamper
    health := h (atInstant s k).health } := congrArg (fun t => { t with health := h (atInstant s k).health }) atInstant_frame

/-- A patrol read that finds no program open takes place at its instant and suspends each open erase of the three arrays once. -/
theorem patrolRead_done (hx : xemberon s = true) (hquiet : s.power.quiesced = false) (hopen : (List.range 3).any (programOn s) = false)
    (hpower : s.power.sentinel = true) :
    let t := max s.clocks.seta (s.health.lastPatrol + 8640000000000)
    let m := (List.range 3).foldl (fun a k => suspendErase a k false) s
    t < 2 ^ 64 → ∃ v, exec (.patrolRead c) s = .next v ∧ v.clocks.seta = t ∧
      v.health = { s.health with corrections := s.health.corrections + c.toNat, lastPatrol := t } ∧
      v = { m with clocks := v.clocks, power := v.power, tamper := v.tamper, health := v.health } ∧
      m.flash = { s.flash with ops := s.flash.ops.map (suspendBelow 3) } := by
  intro t m ht
  have hm : m = s.onFlash (fun f => { f with ops := f.ops.map (suspendBelow 3) }) := foldl_suspendErase
  have hseta : (atInstant m (s.health.lastPatrol + 8640000000000)).clocks.seta = t := by
    rw [hm]
    exact atInstant_seta hpower ht
  refine ⟨_, exec_patrolRead_free hx hquiet hopen, hseta, ?_, ?_, by rw [hm]; rfl⟩
  · dsimp only [State.onHealth]
    rw [show (List.range 3).foldl (fun a k => suspendErase a k false) s = m from rfl, hseta, atInstant_frame, hm]
    rfl
  · exact onHealth_atInstant_frame

end

/-! ### A Pinna pair -/

theorem coresOfPair : ∀ k : Fin 4, (List.finRange 8).filter (fun n => n.val / 2 == k.val) =
    [(⟨2 * k.val, by omega⟩ : Fin 8), ⟨2 * k.val + 1, by omega⟩] := by
  decide

theorem exec_pairMismatch_paired {s : State} {k : Fin 4} (hrun : running s = true) (hquiet : s.power.quiesced = false)
    (hpaired : s.pinnas.split = false) (heven : (unitOf s (.pinna ⟨2 * k.val, by omega⟩)).st = .inService)
    (hodd : (unitOf s (.pinna ⟨2 * k.val + 1, by omega⟩)).st = .inService) : exec (.pairMismatch k) s =
      let ended := match (pinnaOf s ⟨k.val, by omega⟩).inv with
        | some i => trap s ⟨k.val, by omega⟩ i (pinnaOf s ⟨k.val, by omega⟩).pc 8 0
        | none => s
      .next (startTest (startTest ended (.pinna ⟨2 * k.val, by omega⟩) .mismatch) (.pinna ⟨2 * k.val + 1, by omega⟩) .mismatch) := by
  have hcores := coresOfPair k
  refine (if_neg (c := (!running s || s.power.quiesced || s.pinnas.split ||
    !((List.finRange 8).filter (fun n => n.val / 2 == k.val)).all (fun n => (unitOf s (.pinna n)).st == .inService)) = true) ?_).trans ?_
  · simp [hrun, hquiet, hpaired, hcores, heven, hodd]
  · rw [hcores]
    rfl

/-- Settles O55: a known-answer set ends by its outcome and by what it was for; each double-bit fault is handled once it is counted; an open
erase belongs to one array and so is suspended once for a patrol read. -/
theorem testsDoubleBitFaultsAndScrubs : Obligations.TestsDoubleBitFaultsAndScrubs := by
  unfold Obligations.TestsDoubleBitFaultsAndScrubs
  refine ⟨fun s u hruns haging => exec_forcedTest_due hruns haging,
    fun s u h => ⟨exec_testDone_under h, endTest_failed, endTest_joining, fun hjoin hback => ?_⟩,
    fun s h => ⟨exec_eccDoubleBit_handled h, exec_eccDoubleBit_handled h, exec_eccDoubleBit_handled h, fun f q => exec_eccDoubleBit_handled h,
      fun f q t j hj => ?_, fun u b w i hi => ?_, fun n hn => ?_, fun n hn => ?_, fun g => exec_eccDoubleBit_handled h,
      fun n hvalid hn hkept => ?_, fun n r hvalid hn hkept hr => ?_, fun c => exec_eccDoubleBit_handled h,
      fun w => exec_eccDoubleBit_handled h, fun k i w => ⟨exec_eccDoubleBit_handled h, exec_eccDoubleBit_handled h⟩⟩,
    fun s c hrun hpower => ⟨fun x hx hon => ?_, fun hon => exec_scrubPass_counts hrun hpower hon⟩,
    fun s c hx hquiet => ⟨exec_patrolRead_busy hx hquiet, patrolRead_done hx hquiet⟩,
    fun s k hrun hquiet hpaired heven hodd => ⟨fun i hi => ?_, fun hi => ?_⟩⟩
  · rw [endTest_passed hjoin hback]
    exact unitOf_backInService
  · rw [exec_eccDoubleBit_handled h, doubleBit_sramJob (s := eccCounted s) hj]
  · rw [exec_eccDoubleBit_handled h, doubleBit_tcm (s := eccCounted s) hi]
    rfl
  · rw [exec_eccDoubleBit_handled h, doubleBit_hold (s := eccCounted s) hn]
  · rw [exec_eccDoubleBit_handled h, doubleBit_calyptraMem (s := eccCounted s) hn]
  · exact (exec_eccDoubleBit_handled h).trans (congrArg _ (slotFault_volatile (s := eccCounted s) hvalid hn hkept))
  · exact (exec_eccDoubleBit_handled h).trans (congrArg _ (slotFault_persistent (s := eccCounted s) hvalid hn hkept hr))
  · exact (exec_scrubPass_counts hrun hpower hon).trans (congrArg _ (if_neg (by simpa using hx)))
  · rw [exec_pairMismatch_paired hrun hquiet hpaired heven hodd, hi]
  · rw [exec_pairMismatch_paired hrun hquiet hpaired heven hodd, hi]

end Sys2Proof.Proofs
end

section
/-! SUPPORT. The canonical form of the whole device, and the changes that keep it: a change of a group that holds none of its records and
memories, a write of a listed record, a write of a memory. -/

namespace Sys2Proof.Proofs

open Sys2Proof Sys2Proof.Machine Sys2Proof.Claims

-- One declaration after another: checked side by side, the many short proofs of this part hold a thread each.
set_option Elab.async false

/-- The register files in canonical form. -/
structure CanonicalRegs (x : Regs) : Prop where
  active : SMap.wf 0 x.active = true
  stage : SMap.wf 0 x.stage = true
  commit : SMap.wf {} x.commit = true
  events : SMap.wf 0 x.events = true

/-- The slots and the records of keys in canonical form. -/
structure CanonicalMedulla (x : Medulla) : Prop where
  slots : SMap.wf {} x.slots = true
  records : SMap.wf {} x.records = true

/-- The words of flash and OTP in canonical form. -/
structure CanonicalFlash (x : Flash) : Prop where
  journal : SMap.wf erasedWord x.journal = true
  option : SMap.wf erasedWord x.option = true
  otp : SMap.wf 0 x.otp = true
  bankA : Memory.wf 0xFF x.bankA = true

/-- Every record and memory of the device in canonical form. -/
structure Canonical (s : State) : Prop where
  fns : SMap.wf {} s.fns = true
  pairs : SMap.wf {} s.pairs = true
  ports : SMap.wf {} s.ports = true
  units : SMap.wf {} s.engines.units = true
  regs : CanonicalRegs s.regs
  hostMem : Memory.wf 0 s.link.hostMem = true
  medulla : CanonicalMedulla s.medulla
  flash : CanonicalFlash s.flash
  log : SMap.wf .erased s.log.slots = true
  spore : SMap.wf 0 s.spore.words = true

theorem canonical_iff {s : State} : Canonical s ↔ CanonicalRecords s ∧ CanonicalMemories s := by
  constructor
  · rintro ⟨hfns, hpairs, hports, hunits, ⟨hactive, hstage, hcommit, hevents⟩, hhost, ⟨hslots, hkeys⟩, ⟨hjournal, hoption, hotp, hbank⟩, hlog, hspore⟩
    exact ⟨⟨hfns, hpairs, hports, hunits, hactive, hstage, hcommit, hevents⟩, hhost, hslots, hkeys, hjournal, hoption, hotp, hbank, hlog, hspore⟩
  · rintro ⟨⟨hfns, hpairs, hports, hunits, hactive, hstage, hcommit, hevents⟩, hhost, hslots, hkeys, hjournal, hoption, hotp, hbank, hlog, hspore⟩
    exact ⟨hfns, hpairs, hports, hunits, ⟨hactive, hstage, hcommit, hevents⟩, hhost, ⟨hslots, hkeys⟩, ⟨hjournal, hoption, hotp, hbank⟩, hlog, hspore⟩

/-- The device beside a value that an operation answers. -/
def CanonicalFst {α : Type} (p : State × α) : Prop := Canonical p.1
def CanonicalSnd {α : Type} (p : α × State) : Prop := Canonical p.2
/-- The device of an operation that may answer none. -/
def CanonicalSome (o : Option State) : Prop := ∀ t, o = some t → Canonical t
/-- The device after a request for draws, or after a check that may refuse. -/
def CanonicalDraw : Draw → Prop
  | .got _ t => Canonical t
  | .wait => True
  | .none t => Canonical t
def CanonicalAdmit : Admit → Prop
  | .wait t => Canonical t
  | .deny _ _ => True
  | .go _ => True
def CanonicalOk : Except Reply State → Prop
  | .ok t => Canonical t
  | .error _ => True
def CanonicalOkFst {α : Type} : Except Reply (State × α) → Prop
  | .ok p => Canonical p.1
  | .error _ => True
/-- The next state of a step that answers one. -/
def CanonicalNext : Host.Outcome State Fault Refusal → Prop
  | .next t => Canonical t
  | .fault _ => True
  | .refused _ => True

theorem Memory.wf_filter {d : Byte} {m : Memory} {q : Nat × Byte → Bool} (h : Memory.wf d m = true) : Memory.wf d (m.filter q) = true :=
  SMap.wf_filter h

theorem holds_ite {α : Type} {P : α → Prop} {p : Prop} {_ : Decidable p} {a b : α} (ha : P a) (hb : P b) : P (if p then a else b) := by
  split
  · exact ha
  · exact hb

theorem holds_foldl {α β : Type} {P : α → Prop} {g : α → β → α} {l : List β} {a : α} (ha : P a) (hg : ∀ x b, P x → P (g x b)) :
    P (l.foldl g a) :=
  List.foldlRecOn l g ha (fun x hx b _ => hg x b hx)

section
variable {s t : State} {α : Type} {x : α}

theorem canonical_mk (h : Canonical s) : CanonicalFst (s, x) := h
theorem canonical_mk_snd (h : Canonical s) : CanonicalSnd (x, s) := h
theorem canonical_some (h : Canonical s) : CanonicalSome (some s) := by
  intro t e
  rwa [← Option.some.inj e]
theorem canonical_none : CanonicalSome none := fun t e => (Option.some_ne_none t e.symm).elim
theorem canonical_got {b : Bytes} (h : Canonical s) : CanonicalDraw (.got b s) := h
theorem canonical_undrawn (h : Canonical s) : CanonicalDraw (.none s) := h
theorem canonical_wait (h : Canonical s) : CanonicalAdmit (.wait s) := h
theorem canonical_ok (h : Canonical s) : CanonicalOk (.ok s) := h
theorem canonical_ok_mk (h : Canonical s) : CanonicalOkFst (.ok (s, x)) := h
theorem canonical_next (h : Canonical s) : CanonicalNext (.next s) := h

theorem canonical_of_eq_mk {p : State × α} (h : CanonicalFst p) (e : p = (t, x)) : Canonical t := by
  subst e
  exact h

theorem canonical_of_eq_mk_snd {p : α × State} (h : CanonicalSnd p) (e : p = (x, t)) : Canonical t := by
  subst e
  exact h

theorem canonical_of_eq_some {o : Option State} (h : CanonicalSome o) (e : o = some t) : Canonical t := h t e

theorem canonical_of_got {d : Draw} {b : Bytes} (h : CanonicalDraw d) (e : d = .got b t) : Canonical t := by
  subst e
  exact h

theorem canonical_of_undrawn {d : Draw} (h : CanonicalDraw d) (e : d = .none t) : Canonical t := by
  subst e
  exact h

theorem canonical_of_wait {a : Admit} (h : CanonicalAdmit a) (e : a = .wait t) : Canonical t := by
  subst e
  exact h

theorem canonical_of_ok {o : Except Reply State} (h : CanonicalOk o) (e : o = .ok t) : Canonical t := by
  subst e
  exact h

theorem canonical_of_ok_mk {o : Except Reply (State × α)} (h : CanonicalOkFst o) (e : o = .ok (t, x)) : Canonical t := by
  subst e
  exact h

/-! ### Groups without a record or memory of the form -/

theorem canonical_onBoot {g : Boot → Boot} (h : Canonical s) : Canonical (s.onBoot g) := { h with }
theorem canonical_onPower {g : Power → Power} (h : Canonical s) : Canonical (s.onPower g) := { h with }
theorem canonical_onClocks {g : Clocks → Clocks} (h : Canonical s) : Canonical (s.onClocks g) := { h with }
theorem canonical_onJobs {g : List Job → List Job} (h : Canonical s) : Canonical (s.onJobs g) := { h with }
theorem canonical_onEntropy {g : Entropy → Entropy} (h : Canonical s) : Canonical (s.onEntropy g) := { h with }
theorem canonical_onCounters {g : Counters → Counters} (h : Canonical s) : Canonical (s.onCounters g) := { h with }
theorem canonical_onReader {g : Reader → Reader} (h : Canonical s) : Canonical (s.onReader g) := { h with }
theorem canonical_onTag {g : Tag → Tag} (h : Canonical s) : Canonical (s.onTag g) := { h with }
theorem canonical_onUpdate {g : Update → Update} (h : Canonical s) : Canonical (s.onUpdate g) := { h with }
theorem canonical_onTamper {g : Tamper → Tamper} (h : Canonical s) : Canonical (s.onTamper g) := { h with }
theorem canonical_onPinnas {g : Pinnas → Pinnas} (h : Canonical s) : Canonical (s.onPinnas g) := { h with }
theorem canonical_onHealth {g : Health → Health} (h : Canonical s) : Canonical (s.onHealth g) := { h with }
theorem canonical_onFree {g : Nat → Nat} (h : Canonical s) : Canonical (s.onFree g) := { h with }
theorem canonical_pending {l : List Instr} (h : Canonical s) : Canonical { s with pending := l } := { h with }

/-! ### Groups of which a part is of the form, where the change leaves that part -/

theorem canonical_onLink {g : Link → Link} (h : Canonical s) (hg : ∀ x, (g x).hostMem = x.hostMem := by intro x; rfl) :
    Canonical (s.onLink g) :=
  { h with hostMem := (congrArg (Memory.wf 0) (hg s.link)).trans h.hostMem }

theorem canonical_onEngines {g : Engines → Engines} (h : Canonical s) (hg : ∀ x, (g x).units = x.units := by intro x; rfl) :
    Canonical (s.onEngines g) :=
  { h with units := (congrArg (SMap.wf {}) (hg s.engines)).trans h.units }

theorem canonical_onLog {g : Log → Log} (h : Canonical s) (hg : ∀ x, (g x).slots = x.slots := by intro x; rfl) :
    Canonical (s.onLog g) :=
  { h with log := (congrArg (SMap.wf .erased) (hg s.log)).trans h.log }

theorem canonical_onSpore {g : Spore → Spore} (h : Canonical s) (hg : ∀ x, (g x).words = x.words := by intro x; rfl) :
    Canonical (s.onSpore g) :=
  { h with spore := (congrArg (SMap.wf 0) (hg s.spore)).trans h.spore }

theorem canonical_onMedulla {g : Medulla → Medulla} (h : Canonical s)
    (hslots : ∀ x, (g x).slots = x.slots := by intro x; rfl) (hrecords : ∀ x, (g x).records = x.records := by intro x; rfl) :
    Canonical (s.onMedulla g) :=
  { h with medulla := {
      slots := (congrArg (SMap.wf {}) (hslots s.medulla)).trans h.medulla.slots
      records := (congrArg (SMap.wf {}) (hrecords s.medulla)).trans h.medulla.records } }

theorem canonical_onFlash {g : Flash → Flash} (h : Canonical s) (hjournal : ∀ x, (g x).journal = x.journal := by intro x; rfl)
    (hoption : ∀ x, (g x).option = x.option := by intro x; rfl) (hotp : ∀ x, (g x).otp = x.otp := by intro x; rfl)
    (hbankA : ∀ x, (g x).bankA = x.bankA := by intro x; rfl) : Canonical (s.onFlash g) :=
  { h with flash := {
      journal := (congrArg (SMap.wf erasedWord) (hjournal s.flash)).trans h.flash.journal
      option := (congrArg (SMap.wf erasedWord) (hoption s.flash)).trans h.flash.option
      otp := (congrArg (SMap.wf 0) (hotp s.flash)).trans h.flash.otp
      bankA := (congrArg (Memory.wf 0xFF) (hbankA s.flash)).trans h.flash.bankA } }

/-! ### Changes of the records and the memories themselves -/

theorem canonical_mapFns {g : Nat → Fn → Fn} (h : Canonical s) : Canonical (s.onFns (SMap.mapV {} g)) := { h with fns := SMap.wf_mapV h.fns }
theorem canonical_mapPairs {g : Nat → Pair → Pair} (h : Canonical s) : Canonical (s.onPairs (SMap.mapV {} g)) :=
  { h with pairs := SMap.wf_mapV h.pairs }

theorem canonical_onFns {g : SMap Fn → SMap Fn} (h : Canonical s) (hg : SMap.wf {} (g s.fns) = true) : Canonical (s.onFns g) :=
  { h with fns := hg }
theorem canonical_onPairs {g : SMap Pair → SMap Pair} (h : Canonical s) (hg : SMap.wf {} (g s.pairs) = true) : Canonical (s.onPairs g) :=
  { h with pairs := hg }
theorem canonical_onPorts {g : SMap Port → SMap Port} (h : Canonical s) (hg : SMap.wf {} (g s.ports) = true) : Canonical (s.onPorts g) :=
  { h with ports := hg }

theorem canonical_writeRegs {g : Regs → Regs} (h : Canonical s)
    (hactive : SMap.wf 0 s.regs.active = true → SMap.wf 0 (g s.regs).active = true := by
      intro h; simp only [h, SMap.wf_set, SMap.wf_mod, SMap.wf_filter])
    (hstage : SMap.wf 0 s.regs.stage = true → SMap.wf 0 (g s.regs).stage = true := by
      intro h; simp only [h, SMap.wf_set, SMap.wf_mod, SMap.wf_filter])
    (hcommit : SMap.wf {} s.regs.commit = true → SMap.wf {} (g s.regs).commit = true := by
      intro h; simp only [h, SMap.wf_set, SMap.wf_mod, SMap.wf_filter])
    (hevents : SMap.wf 0 s.regs.events = true → SMap.wf 0 (g s.regs).events = true := by
      intro h; simp only [h, SMap.wf_set, SMap.wf_mod, SMap.wf_filter]) : Canonical (s.onRegs g) :=
  { h with regs := ⟨hactive h.regs.active, hstage h.regs.stage, hcommit h.regs.commit, hevents h.regs.events⟩ }

theorem canonical_writeActive {m : SMap U32} (h : Canonical s) (hm : SMap.wf 0 m = true) :
    Canonical (s.onRegs (fun x => { x with active := m })) :=
  { h with regs := { h.regs with active := hm } }

theorem canonical_writeMedulla {g : Medulla → Medulla} (h : Canonical s)
    (hslots : SMap.wf {} s.medulla.slots = true → SMap.wf {} (g s.medulla).slots = true := by
      intro h; simp only [h, SMap.wf_set, SMap.wf_mod, SMap.wf_filter, SMap.wf_nil])
    (hrecords : SMap.wf {} s.medulla.records = true → SMap.wf {} (g s.medulla).records = true := by
      intro h; simp only [h, SMap.wf_set, SMap.wf_mod, SMap.wf_filter, SMap.wf_nil]) : Canonical (s.onMedulla g) :=
  { h with medulla := ⟨hslots h.medulla.slots, hrecords h.medulla.records⟩ }

theorem canonical_writeFlash {g : Flash → Flash} (h : Canonical s)
    (hjournal : SMap.wf erasedWord s.flash.journal = true → SMap.wf erasedWord (g s.flash).journal = true := by
      intro h; simp only [h, SMap.wf_set, SMap.wf_filter])
    (hoption : SMap.wf erasedWord s.flash.option = true → SMap.wf erasedWord (g s.flash).option = true := by
      intro h; simp only [h, SMap.wf_set, SMap.wf_filter])
    (hotp : SMap.wf 0 s.flash.otp = true → SMap.wf 0 (g s.flash).otp = true := by intro h; simp only [h, SMap.wf_set])
    (hbankA : Memory.wf 0xFF s.flash.bankA = true → Memory.wf 0xFF (g s.flash).bankA = true := by
      intro h; simp only [h, Memory.wf_write, Memory.wf_filter]) : Canonical (s.onFlash g) :=
  { h with flash := ⟨hjournal h.flash.journal, hoption h.flash.option, hotp h.flash.otp, hbankA h.flash.bankA⟩ }

theorem canonical_writeLog {g : Log → Log} (h : Canonical s)
    (hslots : SMap.wf .erased s.log.slots = true → SMap.wf .erased (g s.log).slots = true := by
      intro h; simp only [h, SMap.wf_set, SMap.wf_mod]) : Canonical (s.onLog g) :=
  { h with log := hslots h.log }

variable {f : FnId} {q : PairId} {p : Fin 2} {u : UnitRef} {c : Cmd} {n : Nat}

theorem canonical_onFn {g : Fn → Fn} (h : Canonical s) : Canonical (onFn s f g) := canonical_onFns h (SMap.wf_mod h.fns)
theorem canonical_onPair {g : Pair → Pair} (h : Canonical s) : Canonical (onPair s f q g) := canonical_onPairs h (SMap.wf_mod h.pairs)
theorem canonical_onPort {g : Port → Port} (h : Canonical s) : Canonical (onPort s p g) := canonical_onPorts h (SMap.wf_mod h.ports)
theorem canonical_onUnit {g : UnitSt → UnitSt} (h : Canonical s) : Canonical (onUnit s u g) := { h with units := SMap.wf_mod h.units }
theorem canonical_onJob {g : Job → Job} (h : Canonical s) : Canonical (onJob s c g) := canonical_onJobs h
theorem canonical_dropJob (h : Canonical s) : Canonical (dropJob s c) := canonical_onJobs h
theorem canonical_setSpore {v : U64} (h : Canonical s) : Canonical (setSpore s n v) := { h with spore := SMap.wf_set h.spore }
theorem canonical_hostWrite {bs : Bytes} (h : Canonical s) : Canonical (hostWrite s f n bs) :=
  { h with hostMem := Memory.wf_write (Memory.wf_write h.hostMem) }

end

end Sys2Proof.Proofs
end

section
/-! SUPPORT. The canonical form is kept: the records, registers, events and the evidence log, the completion queues, draws and flash operations. -/

namespace Sys2Proof.Proofs

open Sys2Proof Sys2Proof.Machine Sys2Proof.Claims

-- One declaration after another: checked side by side, the many short proofs of this part hold a thread each.
set_option Elab.async false

/-! ### Machine/Access.lean -/

section
variable {s : State} {g : Pinna → Pinna}

theorem canonical_onPinnaNat {u : Nat} (h : Canonical s) : Canonical (onPinnaNat s u g) := canonical_onPinnas h
theorem canonical_onPinna {u : Fin 8} (h : Canonical s) : Canonical (onPinna s u g) := canonical_onPinnaNat h
theorem canonical_takeFree (h : Canonical s) : CanonicalSnd (takeFree s) := canonical_mk_snd (canonical_onFree h)

end

/-! ### Machine/Ops.lean -/

section
variable {s : State} {n : Note} {f : FnId} {bit type t u : Nat} {put : State → Note → State} {srcs : List Nat} {c : Cmd} {done : Bytes}
   {q : PairId} {r : Reply}

theorem canonical_setReg {s : State} {k v : Nat} (h : Canonical s) : Canonical (setReg s k v) := canonical_writeRegs h

theorem canonical_setStage {s : State} {k v : Nat} (h : Canonical s) : Canonical (setStage s k v) := canonical_writeRegs h

theorem canonical_onCommit {s : State} {k : Nat} {g : CommitReg → CommitReg} (h : Canonical s) : Canonical (onCommit s k g) :=
  canonical_writeRegs h

theorem canonical_setStatusBit {b : Nat} {on : Bool} (h : Canonical s) : Canonical (setStatusBit s b on) := canonical_setSpore h
theorem canonical_bumpSpore {n : Nat} (h : Canonical s) : Canonical (bumpSpore s n) :=
  holds_ite h (canonical_setSpore (canonical_setSpore h))
theorem canonical_signal {v : Nat} (h : Canonical s) : Canonical (signal s f v) := holds_ite (canonical_hostWrite h) (canonical_onLink h)
theorem canonical_setEvents {k bits mask : Nat} (h : Canonical s) : Canonical (setEvents s k f bits mask) :=
  holds_ite (canonical_signal (canonical_writeRegs h)) (canonical_writeRegs h)
theorem canonical_fnEvent (h : Canonical s) : Canonical (fnEvent s f bit) := canonical_setEvents h
theorem canonical_allFnEvent (h : Canonical s) : Canonical (allFnEvent s bit) :=
  holds_foldl h (fun _ _ ha => holds_ite (canonical_fnEvent ha) ha)
theorem canonical_pwrEvent (h : Canonical s) : Canonical (pwrEvent s bit) := canonical_setEvents h
theorem canonical_poolEvent (h : Canonical s) : Canonical (poolEvent s bit) := canonical_setEvents h
theorem canonical_countOverflow (h : Canonical s) : Canonical (countOverflow s type) := canonical_setStatusBit (canonical_setSpore h)
theorem canonical_writeEntry (h : Canonical s) : Canonical (writeEntry s n) :=
  holds_ite (canonical_bumpSpore (canonical_writeLog h)) (canonical_writeLog h)
theorem canonical_logPlace (h : Canonical s) : Canonical (logPlace s n) :=
  holds_ite (canonical_onLog h) (holds_ite (holds_ite h (canonical_countOverflow h)) (holds_ite (canonical_onLog h) (holds_ite
      (canonical_writeEntry h) (holds_ite h (canonical_countOverflow h)))))
theorem canonical_onTask {g : Machine.Task → Machine.Task} (h : Canonical s) : Canonical (onTask s t g) := canonical_onClocks h
theorem canonical_awaken {g : Pinna → Pinna} (h : Canonical s) : Canonical (awaken s u g) := by
  unfold awaken
  split
  · have hs1 := canonical_of_eq_mk_snd (canonical_takeFree h) ‹_›
    exact canonical_onPinnaNat hs1

theorem canonical_wakeUnit (h : Canonical s) : CanonicalFst (wakeUnit s u) :=
  holds_ite (canonical_mk h) (holds_ite (canonical_mk (canonical_awaken h)) (canonical_mk (canonical_onPinnaNat h)))
theorem canonical_taskAction {src : Nat} (hput : ∀ t x, Canonical t → Canonical (put t x)) (h : Canonical s) :
    Canonical (taskAction put s t src) := by
  unfold taskAction
  refine holds_ite h ?_
  refine holds_ite ?_ ?_
  · split
    · have hs1 := canonical_of_eq_mk (canonical_wakeUnit h) ‹_›
      exact holds_ite hs1 (canonical_onTask hs1)
  · refine holds_ite (canonical_onClocks h) ?_
    refine holds_ite ?_ (holds_ite (canonical_signal h) (hput _ _ h))
    split
    · have hs1 := canonical_of_eq_mk_snd (canonical_takeFree h) ‹_›
      exact canonical_onClocks hs1

theorem canonical_dozeWake (h : Canonical s) : Canonical (dozeWake s) := holds_ite h (canonical_onPower h)
theorem canonical_reachTasks (hput : ∀ t x, Canonical t → Canonical (put t x)) (h : Canonical s) : Canonical (reachTasks put s srcs) := by
  unfold reachTasks
  refine holds_foldl h (fun a1 t1 ha1 => ?_)
  extract_lets k
  split
  · exact holds_ite ha1 (holds_ite (canonical_taskAction hput (canonical_onTask ha1)) (canonical_onTask ha1))

theorem canonical_raiseWith (hput : ∀ t x, Canonical t → Canonical (put t x)) (h : Canonical s) : Canonical (raiseWith put s srcs) :=
  holds_ite (canonical_dozeWake (canonical_reachTasks hput h)) (canonical_reachTasks hput h)
theorem canonical_logLevels {raise : State → List Nat → State} (hraise : ∀ t l, Canonical t → Canonical (raise t l)) (h : Canonical s) :
    Canonical (logLevels raise s) :=
  holds_ite (hraise _ _ (canonical_onLog (holds_ite (canonical_logPlace (hraise _ _ (canonical_onLog h))) h))) (holds_ite
      (canonical_logPlace (hraise _ _ (canonical_onLog h))) h)
theorem canonical_appendNote (h : Canonical s) : Canonical (appendNote s n) :=
  canonical_logLevels (fun _ _ hs => canonical_raiseWith (fun _ _ hs1 => canonical_logPlace hs1) hs) (canonical_logPlace h)
theorem canonical_append {source detail : Nat} (h : Canonical s) : Canonical (append s type source detail) := canonical_appendNote h
theorem canonical_raise (h : Canonical s) : Canonical (raise s srcs) := canonical_raiseWith (fun _ _ hs => canonical_appendNote hs) h
theorem canonical_afterIncrement {c : Nat} (h : Canonical s) : Canonical (afterIncrement s c) :=
  holds_ite (canonical_append (canonical_raise (canonical_onCounters h))) h
theorem canonical_recordReplay {op : Nat} (h : Canonical s) : Canonical (recordReplay s op c done) :=
  canonical_onPair (canonical_hostWrite h)
theorem canonical_signalCompletion (h : Canonical s) : Canonical (signalCompletion s f q) :=
  holds_ite (canonical_signal (canonical_onPair h)) (canonical_onPair h)
theorem canonical_writeCompletion (h : Canonical s) : Canonical (writeCompletion s c done) := canonical_onPair (canonical_hostWrite h)
theorem canonical_openPair (h : Canonical s) : Canonical (openPair s f q) := canonical_onPair h
theorem canonical_conflict (h : Canonical s) : Canonical (conflict s f q) := canonical_fnEvent (canonical_onPair h)
theorem canonical_drained (h : Canonical s) : Canonical (drained s f q) :=
  holds_ite (holds_ite (canonical_onPair h) (holds_ite (canonical_conflict (canonical_onPair h)) (canonical_openPair
      (canonical_onPair h)))) h
theorem canonical_suspendUnit {u : Fin 8} (h : Canonical s) : Canonical (suspendUnit s u) := by
  unfold suspendUnit
  extract_lets p
  split
  · exact h
  · exact canonical_onJobs (canonical_onEntropy (canonical_onPinna (canonical_onPinnas h)))

theorem canonical_postApplet {u : Fin 8} {rerun : Bool} (h : Canonical s) : Canonical (postApplet s c u r rerun) :=
  holds_ite (holds_ite (canonical_suspendUnit (canonical_onPinna h)) (canonical_onPinna h)) (canonical_onPinnas h)
theorem canonical_deliver {st : Nat} {own : Bool} (h : Canonical s) : Canonical (deliver s c done st own) :=
  holds_ite h (holds_ite (canonical_drained h) (canonical_drained (canonical_signalCompletion (canonical_onPair
      (canonical_writeCompletion h)))))
theorem canonical_post {j : Job} (h : Canonical s) : Canonical (post s j r) := by
  unfold post
  extract_lets c s0 p flags done
  have hs0 : Canonical s0 := canonical_dropJob h
  split
  · exact canonical_postApplet hs0
  · exact holds_ite hs0 (holds_ite (canonical_onJob h) (canonical_deliver (holds_ite hs0 (canonical_recordReplay hs0))))

end

/-! ### Machine/Checks.lean -/

section
variable {s : State} {f : FnId} {op a : Nat} {c : Cmd} {bs : Bytes}

theorem canonical_startQuarantine (h : Canonical s) : Canonical (startQuarantine s f) :=
  canonical_append (canonical_raise (canonical_fnEvent (canonical_onFn h)))
theorem canonical_violate (h : Canonical s) : Canonical (violate s f) :=
  holds_ite (canonical_startQuarantine (canonical_onFn h)) (canonical_onFn h)
theorem canonical_admission (h : Canonical s) : CanonicalAdmit (admission op c s) := by
  unfold admission
  split
  · exact canonical_wait h
  · refine holds_ite (canonical_wait h) ?_
    refine holds_ite (canonical_wait (canonical_onJob h)) ?_
    refine holds_ite (canonical_wait h) ?_
    split
    · exact trivial
    · exact holds_ite trivial trivial

theorem canonical_xci {body : State → Job → State × Option Reply} (h : Canonical s) (hbody : ∀ t j, Canonical t → CanonicalFst (body t j)) :
    CanonicalNext (xci op c s body) := by
  unfold xci
  split
  · have ha := canonical_of_wait (canonical_admission h) ‹_›
    exact canonical_next ha
  · exact canonical_next (canonical_post h)
  · split
    · have hs2 := canonical_of_eq_mk (hbody _ _ (canonical_onJob h)) ‹_›
      exact canonical_next (canonical_post hs2)
    · have hs2 := canonical_of_eq_mk (hbody _ _ (canonical_onJob h)) ‹_›
      exact canonical_next hs2

theorem canonical_dmaWrite (h : Canonical s) : Canonical (dmaWrite s f a bs) := holds_ite (canonical_hostWrite h) (canonical_onLink h)
theorem canonical_bufWrite (h : Canonical s) : Canonical (bufWrite s c a bs) := by
  unfold bufWrite
  split
  · exact canonical_dmaWrite h
  · exact canonical_onPinna h

end

/-! ### Machine/Drbg.lean -/

section
variable {s : State} {k : Inst} {extra : Bytes} {n : Nat} {body : State → Bytes → State × Option Reply}

theorem canonical_onDrbg {g : Drbg → Drbg} (h : Canonical s) : Canonical (onDrbg s k g) := canonical_onEntropy h
theorem canonical_takeBlocks {n : Nat} {s : State} (h : Canonical s) : CanonicalSnd (takeBlocks n s) := by
  induction n generalizing s with
  | zero => exact h
  | succ n ih => exact canonical_mk_snd (ih (canonical_onEntropy h))

theorem canonical_instantiate (h : Canonical s) : Canonical (instantiate s k) := by
  unfold instantiate
  split
  · have hs1 := canonical_of_eq_mk_snd (canonical_takeBlocks h) ‹_›
    exact canonical_onDrbg hs1

theorem canonical_instantiateInv {u : Fin 8} {core : Nat} {tag : BitVec 16} {seed : Bytes} (h : Canonical s) :
    Canonical (instantiateInv s u core tag seed) :=
  canonical_onDrbg h
theorem canonical_reseed (h : Canonical s) : Canonical (reseed s k extra) := by
  unfold reseed
  split
  · have hs1 := canonical_of_eq_mk_snd (canonical_takeBlocks h) ‹_›
    exact canonical_onDrbg hs1

theorem canonical_generate (h : Canonical s) : CanonicalDraw (generate s k n extra) :=
  holds_ite (canonical_undrawn h) (holds_ite trivial (canonical_got (canonical_onDrbg (holds_ite (canonical_reseed h) h))))
theorem canonical_withDraw {j : Job} (h : Canonical s) (hbody : ∀ t b, Canonical t → CanonicalFst (body t b)) :
    CanonicalFst (withDraw s j n extra body) := by
  unfold withDraw
  refine holds_ite (hbody _ _ h) ?_
  split
  · have ha := canonical_of_got (canonical_generate h) ‹_›
    exact hbody _ _ (canonical_onJob ha)
  · exact canonical_mk (canonical_onJob h)
  · have ha := canonical_of_undrawn (canonical_generate h) ‹_›
    exact canonical_mk ha

theorem canonical_withOwn {c : Cmd} {k : Fin 8} (h : Canonical s) (hbody : ∀ t b, Canonical t → CanonicalFst (body t b)) :
    CanonicalFst (withOwn s c k n body) := by
  unfold withOwn
  split
  · have ha := canonical_of_got (canonical_generate h) ‹_›
    exact hbody _ _ ha
  · exact canonical_mk (canonical_onJob h)
  · have ha := canonical_of_undrawn (canonical_generate h) ‹_›
    exact canonical_mk ha

theorem canonical_drawOwn {k : Fin 8} (h : Canonical s) : CanonicalSnd (drawOwn s k n) := by
  unfold drawOwn
  split
  · have ha := canonical_of_got (canonical_generate h) ‹_›
    exact canonical_mk_snd ha
  · exact canonical_mk_snd h
  · have ha := canonical_of_undrawn (canonical_generate h) ‹_›
    exact canonical_mk_snd ha

end

/-! ### Machine/Journal.lean -/

section
variable {s : State} {sec n : Nat} {u : FlashUnit}

theorem canonical_setJWord {k : Nat} {w : U64} (h : Canonical s) : Canonical (setJWord s sec k w) := canonical_writeFlash h
theorem canonical_eraseJournal (h : Canonical s) : Canonical (eraseJournal s sec) := canonical_writeFlash h
theorem canonical_jAppend {type : Nat} (h : Canonical s) : Canonical (jAppend s type u) := canonical_setJWord h
theorem canonical_foldSector (h : Canonical s) : Canonical (foldSector s sec) := holds_foldl h (fun _ _ ha => canonical_onFlash ha)
theorem canonical_switchJournal (h : Canonical s) : Canonical (switchJournal s) :=
  canonical_setJWord (canonical_eraseJournal (canonical_foldSector (canonical_setJWord h)))
theorem canonical_initJournal (h : Canonical s) : Canonical (initJournal s) :=
  canonical_setJWord (canonical_eraseJournal (canonical_eraseJournal h))
theorem canonical_eraseWhole (h : Canonical s) : Canonical (eraseWhole s u) :=
  canonical_jAppend (canonical_jAppend (holds_ite h (canonical_switchJournal h)))
theorem canonical_suspendErase {a : Nat} {stays : Bool} (h : Canonical s) : Canonical (suspendErase s a stays) := canonical_onFlash h
theorem canonical_resumeErases (h : Canonical s) : Canonical (resumeErases s) := canonical_onFlash h
theorem canonical_startErase {i : Nat} (h : Canonical s) : Canonical (startErase s i) := by
  unfold startErase
  split
  · exact h
  · exact holds_ite h (canonical_onFlash (canonical_jAppend (holds_ite h (canonical_switchJournal h))))

theorem canonical_startErases (h : Canonical s) : Canonical (startErases s) := holds_foldl h (fun _ _ hs => canonical_startErase hs)
theorem canonical_openFlash {unit : FlashUnit} {erase : Bool} {use : FlashUse} (h : Canonical s) : Canonical (openFlash s unit erase use) :=
  canonical_startErases (canonical_onFlash (holds_ite h (canonical_suspendErase h)))
theorem canonical_switchHalf (h : Canonical s) : Canonical (switchHalf s) := canonical_onFlash h
theorem canonical_appendConfig (h : Canonical s) : Canonical (appendConfig s) := by
  unfold appendConfig
  exact canonical_onFlash (holds_ite (canonical_switchHalf h) h)

theorem canonical_loseSector (h : Canonical s) : Canonical (loseSector s n) := holds_ite (canonical_onCounters h) h
theorem canonical_replaceSector (h : Canonical s) : Canonical (replaceSector s n) := by
  unfold replaceSector
  refine holds_ite h ?_
  split
  · exact canonical_onFlash h
  · split
    · exact canonical_onFlash h
    · exact canonical_loseSector h

theorem canonical_markWorn (h : Canonical s) : Canonical (markWorn s u) := canonical_onFlash h
theorem canonical_replaceIfWorn (h : Canonical s) : Canonical (replaceIfWorn s u) := holds_ite (canonical_replaceSector h) h

end

/-! ### Machine/Groups.lean -/

section
variable {s : State} {f : FnId} {q : PairId} {g : CommitGroup} {v : Nat} {j : Job}

theorem canonical_closePair {reopen : Bool} (h : Canonical s) : Canonical (closePair s f q reopen) := canonical_drained (canonical_onPair h)
theorem canonical_applyQueue (h : Canonical s) : Canonical (applyQueue s f q) := by
  unfold applyQueue
  extract_lets b cfg p cls
  refine holds_ite (holds_ite (canonical_closePair h) (canonical_onPair h)) ?_
  refine holds_ite (canonical_onPair h) ?_
  exact holds_ite (canonical_conflict (holds_ite (canonical_closePair h) h)) (holds_ite (canonical_closePair h) (canonical_openPair h))

theorem canonical_applyTurtis {p : Fin 2} (h : Canonical s) : Canonical (applyTurtis s p) := canonical_onPort h
theorem canonical_applyGpio (h : Canonical s) : Canonical (applyGpio s) := by
  unfold applyGpio
  exact canonical_onClocks h

theorem canonical_applyGroup (h : Canonical s) : Canonical (applyGroup s g) := by
  unfold applyGroup
  extract_lets why s1 s2
  have hs1 : Canonical s1 := holds_foldl h (fun _ _ ha => canonical_setReg ha)
  have hs2 : Canonical s2 := canonical_onCommit hs1
  refine holds_ite (canonical_onCommit h) ?_
  split
  · exact canonical_applyQueue hs2
  · exact canonical_applyTurtis hs2
  · exact canonical_applyGpio hs2
  · exact canonical_onClocks hs2
  · exact canonical_append hs2
  · exact hs2

theorem canonical_commitGo (h : Canonical s) : Canonical (commitGo s g) :=
  holds_ite (canonical_onCommit h) (holds_ite (canonical_onCommit h) (canonical_applyGroup (canonical_onCommit h)))
theorem canonical_commitStart {clearing : Bool} (h : Canonical s) : Canonical (commitStart s g clearing) :=
  holds_ite (canonical_onCommit h) (canonical_commitGo h)
theorem canonical_stageGroup (h : Canonical s) : Canonical (stageGroup s g v) :=
  holds_ite (canonical_onCommit h) (holds_foldl h (fun _ _ ha => canonical_setStage ha))
theorem canonical_setGroup {off : Nat} {res : Bool} (h : Canonical s) : CanonicalFst (setGroup s j g v off res) :=
  holds_ite (canonical_mk (canonical_onJob (canonical_commitGo (canonical_onCommit (canonical_stageGroup h))))) (canonical_mk
      (canonical_commitGo (canonical_onCommit (canonical_stageGroup h))))
theorem canonical_flashCommand {unit : FlashUnit} (h : Canonical s) : Canonical (flashCommand s j unit) :=
  canonical_onJob (canonical_openFlash h)
theorem canonical_applyDeferred (h : Canonical s) : Canonical (applyDeferred s g) :=
  holds_ite h (holds_foldl (canonical_applyGroup h) (fun _ _ ha => holds_ite (canonical_flashCommand ha) (canonical_post ha)))

end

end Sys2Proof.Proofs
end

section
/-! SUPPORT. The canonical form is kept: the Pinna units, the power domains, the pool, the key slots and the scheduler. -/

namespace Sys2Proof.Proofs

open Sys2Proof Sys2Proof.Machine Sys2Proof.Claims

-- One declaration after another: checked side by side, the many short proofs of this part hold a thread each.
set_option Elab.async false

/-! ### Machine/PinnaOps.lean -/

section
variable {s : State} {u : Fin 8} {i : Machine.Inv} {cyc n : Nat} {gd : Guard} {illegal : Bool} {rd ra : GReg} {imm : BitVec 12}

theorem canonical_removeWaiting {a : Nat} (h : Canonical s) : Canonical (removeWaiting s a) := by
  unfold removeWaiting
  refine holds_ite h ?_
  split
  · exact canonical_flashCommand h
  · exact h

theorem canonical_clearUnit (h : Canonical s) : Canonical (clearUnit s u) := by
  unfold clearUnit
  exact canonical_onEntropy (canonical_onPinna h)

theorem canonical_dropIssued (h : Canonical s) : Canonical (dropIssued s u) := canonical_onJobs h
theorem canonical_endInvocation {r : Reply} (h : Canonical s) : Canonical (endInvocation s u i r) := by
  unfold endInvocation
  extract_lets s1 s2
  have hs1 : Canonical s1 := canonical_dropIssued (canonical_clearUnit h)
  have hs2 : Canonical s2 := by
    unfold s2
    split
    · exact canonical_post hs1
    · exact hs1
  exact canonical_removeWaiting hs2

theorem canonical_trap {pc : U32} {cause info : Nat} (h : Canonical s) : Canonical (trap s u i pc cause info) :=
  canonical_raise (canonical_endInvocation h)
theorem canonical_skipped (h : Canonical s) : Canonical (skipped u cyc s) := canonical_onPinna h
theorem canonical_issue {skip : State → State} {effect : State → Pinna → Machine.Inv → State}
    (hskip : ∀ t, Canonical t → Canonical (skip t)) (h : Canonical s) (heffect : ∀ t p i, Canonical t → Canonical (effect t p i)) :
    CanonicalNext (issue u gd illegal skip s effect) := by
  unfold issue
  refine holds_ite trivial ?_
  split
  · exact canonical_next h
  · extract_lets p
    exact holds_ite (canonical_next (canonical_trap h)) (holds_ite (canonical_next (canonical_trap h)) (holds_ite (canonical_next
        (heffect _ _ _ h)) (canonical_next (hskip _ h))))

theorem canonical_regOp {f : Pinna → Pinna} (h : Canonical s) : CanonicalNext (regOp u gd illegal cyc s f) :=
  canonical_issue (fun _ hs => canonical_skipped hs) h (fun _ _ _ hs => canonical_onPinna hs)
theorem canonical_aluOp {rb : GReg} {f : U32 → U32 → U32} (h : Canonical s) : CanonicalNext (aluOp u gd rd ra rb cyc f s) :=
  canonical_regOp h
theorem canonical_aluOp1 {f : U32 → U32} (h : Canonical s) : CanonicalNext (aluOp1 u gd rd ra f s) := canonical_regOp h
theorem canonical_predOp {pd pa pb : PReg} {f : Bool → Bool → Bool} (h : Canonical s) : CanonicalNext (predOp u gd pd pa pb f s) :=
  canonical_regOp h
theorem canonical_loadOp {f : Nat → U32} (h : Canonical s) : CanonicalNext (loadOp u gd rd ra imm n f s) :=
  canonical_issue (fun _ hs => canonical_skipped hs) h (fun _ _ _ hs => holds_ite (canonical_trap hs) (holds_ite (canonical_trap hs)
      (canonical_onPinna hs)))
theorem canonical_storeOp (h : Canonical s) : CanonicalNext (storeOp u gd rd ra imm n s) :=
  canonical_issue (fun _ hs => canonical_skipped hs) h (fun _ _ _ hs => holds_ite (canonical_trap hs) (holds_ite (canonical_trap hs)
      (canonical_onPinna hs)))
theorem canonical_branchOp {link : Option GReg} {target : Pinna → U32} (h : Canonical s) : CanonicalNext (branchOp u gd s link target) :=
  canonical_issue (fun _ hs => canonical_skipped hs) h (fun _ _ _ hs => holds_ite (canonical_trap hs) (canonical_onPinna hs))

end

/-! ### Machine/PinnaSys.lean -/

section
variable {u unit : Fin 8} {gd : Guard} {s : State}

theorem canonical_execMfs {rd : GReg} {sa : SReg} (h : Canonical s) : CanonicalNext (execMfs u gd rd sa s) := by
  unfold execMfs
  refine canonical_issue (fun _ hs => canonical_skipped hs) h (fun s1 p1 i1 hs1 => ?_)
  split
  · exact canonical_onPinna hs1

theorem canonical_execMts {sd : SReg} {ra : GReg} (h : Canonical s) : CanonicalNext (execMts u gd sd ra s) :=
  canonical_issue (fun _ hs => canonical_skipped hs) h (fun _ _ _ hs => canonical_onPinna hs)
theorem canonical_endWake {ts : List Nat} (h : Canonical s) : Canonical (endWake s ts) := holds_foldl h (fun _ _ ha => canonical_onTask ha)
theorem canonical_execSleep (h : Canonical s) : CanonicalNext (execSleep u gd s) := by
  unfold execSleep
  refine canonical_issue (fun _ hs => canonical_skipped hs) h (fun s1 p1 x hs1 => ?_)
  extract_lets ts held s1'
  have hs1' : Canonical s1' := canonical_endWake hs1
  exact holds_ite (canonical_onPinna hs1') (holds_ite (canonical_onPinna hs1') (canonical_onPinna hs1'))

theorem canonical_execInvalidEncoding {word : U32} (h : Canonical s) : CanonicalNext (execInvalidEncoding unit word s) := by
  unfold execInvalidEncoding
  split
  · exact canonical_next h
  · refine canonical_issue (fun s1 hs1 => ?_) h (fun _ _ _ hs => hs)
    unfold id
    exact hs1

theorem canonical_sysCycles (h : Canonical s) : Canonical (sysCycles s u) := by
  unfold sysCycles
  split
  · have hs1 := canonical_of_eq_mk_snd (canonical_takeFree h) ‹_›
    exact canonical_onPinna hs1

theorem canonical_sysRaises (h : Canonical s) : Canonical (sysRaises s u) := canonical_raise h
theorem canonical_sysOp {effect : State → Pinna → Machine.Inv → State} (h : Canonical s)
    (heffect : ∀ t p i, Canonical t → Canonical (effect t p i)) : CanonicalNext (sysOp u gd s effect) :=
  canonical_issue (fun _ hs => canonical_sysCycles hs) h heffect
theorem canonical_sysReturn {p : Pinna} {st : BitVec 16} (h : Canonical s) : Canonical (sysReturn s u p st) :=
  canonical_sysRaises (canonical_sysCycles (canonical_onPinna h))
theorem canonical_execSysExit (h : Canonical s) : CanonicalNext (execSysExit u gd s) :=
  canonical_sysOp h (fun _ _ _ hs => holds_ite (canonical_trap hs) (canonical_sysRaises (canonical_endInvocation (canonical_dmaWrite hs))))
theorem canonical_execSysAbort (h : Canonical s) : CanonicalNext (execSysAbort u gd s) :=
  canonical_sysOp h (fun _ _ _ hs => canonical_sysRaises (canonical_endInvocation hs))
theorem canonical_submitApplet {op : Nat} {c : Cmd} (h : Canonical s) : Canonical (submitApplet s op c) :=
  canonical_onJobs (canonical_onLink h)
theorem canonical_execSysCommand (h : Canonical s) : CanonicalNext (execSysCommand u gd s) := by
  unfold execSysCommand
  refine canonical_sysOp h (fun s1 p1 i1 hs1 => ?_)
  extract_lets a
  refine holds_ite ?_ ?_
  · split
    · have hs11 := canonical_of_eq_mk_snd (canonical_takeFree hs1) ‹_›
      exact canonical_sysReturn hs11
  · split
    · split
      · exact canonical_sysRaises (canonical_onPinna (canonical_sysCycles hs1))
      · exact canonical_sysRaises (canonical_onPinna (canonical_submitApplet (canonical_sysCycles hs1)))

theorem canonical_execCopyIn (h : Canonical s) : CanonicalNext (execCopyIn u gd s) :=
  canonical_sysOp h (fun _ _ _ hs => holds_ite (canonical_trap hs) (canonical_sysReturn hs))
theorem canonical_execSysRaise (h : Canonical s) : CanonicalNext (execSysRaise u gd s) := by
  unfold execSysRaise
  refine canonical_sysOp h (fun s1 p1 x hs1 => ?_)
  extract_lets n
  refine holds_ite (canonical_raise (canonical_sysReturn hs1)) ?_
  split
  · have hs11 := canonical_of_eq_mk_snd (canonical_takeFree hs1) ‹_›
    exact canonical_sysReturn hs11

theorem canonical_execSysInfo (h : Canonical s) : CanonicalNext (execSysInfo u gd s) :=
  canonical_sysOp h (fun _ _ _ hs => canonical_sysReturn hs)
theorem canonical_execSysInvalid {service : BitVec 16} (h : Canonical s) : CanonicalNext (execSysInvalid unit gd service s) :=
  holds_ite (canonical_next h) (canonical_sysOp h (fun _ _ _ hs => canonical_trap hs))
theorem canonical_returns {v : U32} (h : Canonical s) : Canonical (returns s v) := canonical_onLink h
theorem canonical_execRngdataRead (h : Canonical s) : CanonicalNext (execRngdataRead unit s) := by
  unfold execRngdataRead
  split
  · exact canonical_next h
  · split
    · exact canonical_next (canonical_returns (canonical_onPinna h))

theorem canonical_execRngdataRefill (h : Canonical s) : CanonicalNext (execRngdataRefill unit s) := by
  unfold execRngdataRefill
  extract_lets p
  refine holds_ite (canonical_next h) ?_
  split
  · have ha := canonical_of_got (canonical_generate h) ‹_›
    exact canonical_next (canonical_onPinna ha)
  · exact canonical_next h
  · have ha := canonical_of_undrawn (canonical_generate h) ‹_›
    exact canonical_next ha

theorem canonical_execSetaLoRead {reader : FnId ⊕ Fin 8} {disagrees : Bool} (h : Canonical s) :
    CanonicalNext (execSetaLoRead reader disagrees s) := by
  unfold execSetaLoRead
  refine holds_ite (canonical_next (canonical_returns h)) ?_
  extract_lets hi s1 s2 island
  have hs1 : Canonical s1 := by
    unfold s1
    split
    · exact canonical_onFn h
    · exact canonical_onPinna h
  have hs2 : Canonical s2 := canonical_returns hs1
  exact canonical_next (holds_ite (canonical_append hs2) hs2)

end

/-! ### Machine/Power.lean -/

section
variable {s : State} {on : Bool} {t : Nat}

theorem canonical_dropLocks (h : Canonical s) : Canonical (dropLocks s) := canonical_onClocks h
theorem canonical_setDomain {d : Nat} (h : Canonical s) : Canonical (setDomain s d on) :=
  holds_ite (canonical_onPower h) (canonical_dropLocks (canonical_onPower h))
theorem canonical_setDomains {ds : List Nat} (h : Canonical s) : Canonical (setDomains s ds on) :=
  holds_foldl h (fun _ _ ha => canonical_setDomain ha)
theorem canonical_startTransition {p : OpPoint} (h : Canonical s) : Canonical (startTransition s p) := holds_ite h (canonical_onPower h)
theorem canonical_stepVcore (h : Canonical s) : Canonical (stepVcore s) := by
  unfold stepVcore
  split
  · exact h
  · exact canonical_onPower h

theorem canonical_moveToSafe (h : Canonical s) : Canonical (moveToSafe s) := canonical_onPower h
theorem canonical_raiseWaking {srcs : List Nat} (h : Canonical s) : Canonical (raiseWaking s srcs) := canonical_raise h
theorem canonical_noteClock (h : Canonical s) : Canonical (noteClock s) :=
  canonical_append (canonical_pwrEvent (canonical_raiseWaking (canonical_onPower h)))
theorem canonical_fieldDown (h : Canonical s) : Canonical (fieldDown s) := holds_ite h (canonical_onReader h)
theorem canonical_setaTo (h : Canonical s) : Canonical (setaTo s t) := canonical_stepVcore (canonical_onClocks (canonical_onTamper h))
theorem canonical_atInstant (h : Canonical s) : Canonical (atInstant s t) := holds_ite (canonical_setaTo h) h

end

/-! ### Machine/Pool.lean -/

section
variable {s : State} {f : FnId} {kind cause src index : Nat} {c : Cmd} {j : Job} {u : UnitRef} {pass : Bool}

theorem canonical_poolChanged (h : Canonical s) : Canonical (poolChanged s) := canonical_allFnEvent h
theorem canonical_setDeficit {c : Nat} {d : ℤ} (h : Canonical s) : Canonical (setDeficit s f kind c d) := canonical_onFn h
theorem canonical_bill {c : Nat} {ns : ℤ} (h : Canonical s) : Canonical (bill s f c ns) :=
  holds_ite (canonical_onFn h) (canonical_setDeficit h)
theorem canonical_payTo {t : Nat} (h : Canonical s) : Canonical (payTo s c t) := by
  unfold payTo
  split
  · exact h
  · split
    · exact h
    · exact canonical_bill (canonical_onJob h)

theorem canonical_startPay (h : Canonical s) : Canonical (startPay s c) := canonical_payTo (canonical_onJob h)
theorem canonical_stopPay (h : Canonical s) : Canonical (stopPay s c) := canonical_onJob (canonical_payTo h)
theorem canonical_refund {kept : ℤ} (h : Canonical s) : Canonical (refund s c kept) := by
  unfold refund
  split
  · exact h
  · exact canonical_bill (canonical_onJob h)

theorem canonical_giveBack (h : Canonical s) : Canonical (giveBack s j) :=
  holds_foldl (holds_ite (canonical_onJob (canonical_stopPay h)) (canonical_stopPay h)) (fun _ _ ha => canonical_onUnit ha)
theorem canonical_abandon (h : Canonical s) : Canonical (abandon s j) := canonical_onJob (canonical_refund (canonical_giveBack h))
theorem canonical_latticeLost (h : Canonical s) : Canonical (latticeLost s u) := by
  unfold latticeLost
  split
  · exact canonical_onJobs h
  · exact h

theorem canonical_stopUnit (h : Canonical s) : CanonicalFst (stopUnit s u) :=
  canonical_mk (canonical_latticeLost (holds_foldl h (fun _ _ ha => holds_ite (canonical_onJob (canonical_refund (canonical_giveBack ha)))
      (canonical_abandon ha))))
theorem canonical_failFrond {n : Fin 64} (h : Canonical s) : Canonical (failFrond s n cause) := by
  unfold failFrond
  split
  · have hs1 := canonical_of_eq_mk (canonical_stopUnit h) ‹_›
    exact canonical_append (canonical_raiseWaking (canonical_poolChanged (canonical_poolEvent (canonical_onUnit hs1))))

theorem canonical_unitFailedEntry {k : Nat} (h : Canonical s) : Canonical (unitFailedEntry s src kind index cause k) := canonical_append h
theorem canonical_failEngine (h : Canonical s) : Canonical (failEngine s u src kind index cause) := by
  unfold failEngine
  split
  · have hs1 := canonical_of_eq_mk (canonical_stopUnit h) ‹_›
    exact canonical_unitFailedEntry (canonical_poolEvent (canonical_onUnit hs1))

theorem canonical_failUnit (h : Canonical s) : Canonical (failUnit s u cause) := by
  unfold failUnit
  split
  · exact canonical_failFrond h
  · exact canonical_failEngine h
  · exact canonical_failEngine h
  · exact canonical_unitFailedEntry (holds_foldl h (fun _ _ ha => canonical_onUnit ha))
  · exact canonical_append (canonical_onEntropy (canonical_raiseWaking (canonical_onUnit h)))
  · exact canonical_unitFailedEntry (canonical_onMedulla (canonical_onUnit h))

theorem canonical_startTest {why : TestCause} (h : Canonical s) : Canonical (startTest s u why) := canonical_onUnit h
theorem canonical_resumeOn (h : Canonical s) : Canonical (resumeOn s u) := by
  unfold resumeOn
  extract_lets l
  split
  · split
    · exact canonical_startPay (canonical_onJob h)
    · exact h
  · exact h

theorem canonical_backInService (h : Canonical s) : Canonical (backInService s u) := canonical_resumeOn (canonical_onUnit h)
theorem canonical_endTest (h : Canonical s) : Canonical (endTest s u pass) := by
  unfold endTest
  extract_lets x
  refine holds_ite (canonical_failUnit h) ?_
  split
  · exact canonical_onUnit h
  · exact canonical_onUnit h
  · exact canonical_backInService h

theorem canonical_settleReturns (h : Canonical s) : Canonical (settleReturns s) := by
  unfold settleReturns
  refine holds_foldl h (fun a1 j1 ha1 => ?_)
  split
  · exact canonical_post ha1
  · exact ha1

theorem canonical_noteTested {counted : Bool} (h : Canonical s) : Canonical (noteTested s u counted pass) :=
  holds_foldl h (fun _ _ ha => holds_ite (canonical_post (canonical_onJob ha)) (canonical_onJob ha))
theorem canonical_settleSelfTest (h : Canonical s) : Canonical (settleSelfTest s u) :=
  holds_ite h (holds_ite (canonical_noteTested h) (canonical_noteTested h))
theorem canonical_settleSelfTests (h : Canonical s) : Canonical (settleSelfTests s) :=
  holds_ite h (holds_foldl h (fun _ _ hs => canonical_settleSelfTest hs))
theorem canonical_joinUnits (h : Canonical s) : Canonical (joinUnits s) :=
  holds_ite h (canonical_settleReturns (holds_ite (canonical_poolChanged (canonical_poolEvent (holds_foldl h
      (fun _ _ ha => canonical_onUnit ha)))) (holds_foldl h (fun _ _ ha => canonical_onUnit ha))))
theorem canonical_takeOut (h : Canonical s) : Canonical (takeOut s u) := canonical_onUnit (canonical_stopUnit h)
theorem canonical_startForced (h : Canonical s) : Canonical (startForced s) :=
  holds_foldl h (fun _ _ ha => holds_ite (canonical_startTest ha) ha)
theorem canonical_shedGroup {g : Nat} (h : Canonical s) : Canonical (shedGroup s g) :=
  canonical_setDomain (holds_foldl h (fun _ _ ha => canonical_onUnit (canonical_stopUnit ha)))
theorem canonical_shedTo {n : Nat} {s : State} (h : Canonical s) : Canonical (shedTo n s) := by
  induction n generalizing s with
  | zero => exact h
  | succ n ih =>
    rw [shedTo]
    refine holds_ite h ?_
    split
    · exact h
    · exact ih (canonical_shedGroup h)

theorem canonical_shed (h : Canonical s) : Canonical (shed s) := by
  unfold shed
  exact holds_ite h (canonical_poolChanged (holds_ite (canonical_pwrEvent (canonical_shedTo h)) (canonical_shedTo h)))

theorem canonical_returnGroup (h : Canonical s) : Canonical (returnGroup s) := by
  unfold returnGroup
  refine holds_ite h ?_
  split
  · exact h
  · exact holds_ite (holds_foldl (canonical_setDomain h) (fun _ _ ha => holds_ite (canonical_startTest ha) ha)) h

end

/-! ### Machine/Slots.lean -/

section
variable {s : State} {n i owner : Nat} {j : Job} {key : Bytes} {r : KeyRec}

theorem canonical_setSlot {x : Slot} (h : Canonical s) : Canonical (setSlot s n x) := canonical_writeMedulla h
theorem canonical_takeSlot (h : Canonical s) : CanonicalOk (takeSlot s j) := by
  unfold takeSlot
  refine holds_ite (canonical_ok h) ?_
  refine holds_ite (canonical_ok (canonical_onJob h)) ?_
  refine holds_ite (canonical_ok (canonical_onJob h)) ?_
  split
  · exact trivial
  · exact canonical_ok (canonical_onJob h)

theorem canonical_fillSlot {c : Cmd} {template origin : Nat} (h : Canonical s) : Canonical (fillSlot s c n template origin key) :=
  canonical_setSlot h
theorem canonical_emptySlot (h : Canonical s) : Canonical (emptySlot s n) := canonical_setSlot h
theorem canonical_loadChainKey (h : Canonical s) : Canonical (loadChainKey s) := canonical_setSlot h
theorem canonical_renewCtxKey {f : FnId} (h : Canonical s) : Canonical (renewCtxKey s f) := by
  unfold renewCtxKey
  split
  · have hs1 := canonical_of_eq_mk_snd (canonical_drawOwn h) ‹_›
    exact canonical_onFn hs1
  · have hs1 := canonical_of_eq_mk_snd (canonical_drawOwn h) ‹_›
    exact canonical_onFn hs1

theorem canonical_putRecord (h : Canonical s) : Canonical (putRecord s i r) := canonical_writeMedulla h
theorem canonical_programRecord (h : Canonical s) : Canonical (programRecord s j i r) :=
  canonical_onJob (canonical_flashCommand (canonical_putRecord h))
/-- A map that keeps the keys and makes no value the default keeps the form. -/
theorem wf_map {α : Type} [DecidableEq α] {d : α} {m : SMap α} {g : Nat × α → Nat × α} (hkey : ∀ e, (g e).1 = e.1)
    (hval : ∀ e, e.2 ≠ d → (g e).2 ≠ d) (h : SMap.wf d m = true) : SMap.wf d (m.map g) = true := by
  have hfrom : ∀ lo, SMap.wfFrom d lo m = true → SMap.wfFrom d lo (m.map g) = true := by
    clear h
    induction m with
    | nil => exact fun _ h => h
    | cons e r ih =>
      intro lo h
      simp only [List.map_cons, SMap.wfFrom, Bool.and_eq_true, bne_iff_ne, hkey] at h ⊢
      exact ⟨⟨h.1.1, hval e h.1.2⟩, ih _ h.2⟩
  exact hfrom none h

theorem canonical_commitRecord {s : State} {i : Nat} (h : Canonical s) : Canonical (commitRecord s i) := by
  refine { h with medulla := { h.medulla with records := wf_map (fun e => ?_) (fun e he => ?_) h.medulla.records } }
  · split <;> rfl
  · split
    · exact fun hdefault => Bool.noConfusion (congrArg KeyRec.committed hdefault)
    · exact he

theorem canonical_writeRecord {attr : U64} (h : Canonical s) : Canonical (writeRecord s n owner attr key) := by
  unfold writeRecord
  split
  · exact h
  · exact canonical_commitRecord (canonical_putRecord h)

theorem canonical_buryOthers {s : State} {n owner : Nat} {keep : Option Nat} (h : Canonical s) : Canonical (buryOthers s n owner keep) := by
  refine { h with medulla := { h.medulla with records := wf_map (fun e => ?_) (fun e he => ?_) h.medulla.records } }
  · split <;> rfl
  · split
    · exact fun hdefault => Bool.noConfusion (congrArg KeyRec.tombstone hdefault)
    · exact he

theorem canonical_buryRecords (h : Canonical s) : Canonical (buryRecords s n owner) := canonical_buryOthers h
theorem canonical_loadRecord (h : Canonical s) : Canonical (loadRecord s r) := by
  unfold loadRecord
  refine holds_ite (holds_ite (canonical_append h) h) ?_
  refine holds_ite h ?_
  split
  · exact canonical_setSlot h
  · exact canonical_append (canonical_onMedulla h)

theorem canonical_reloadRecords (h : Canonical s) : Canonical (reloadRecords s) :=
  holds_ite h (holds_foldl h (fun _ _ ha => canonical_loadRecord ha))

end

/-! ### Machine/Sched.lean -/

section
variable {s : State} {kind n : Nat} {js : List Job} {j : Job}

theorem canonical_replenish {c : Nat} {fs : List Nat} (h : Canonical s) : Canonical (replenish s kind c fs) :=
  holds_ite h (holds_foldl h (fun _ _ ha => canonical_setDeficit ha))
theorem canonical_countClass (h : Canonical s) : Canonical (countClass s kind js j n) :=
  holds_ite h (holds_ite (canonical_onEngines (canonical_replenish h)) (canonical_setDeficit (canonical_onEngines (canonical_replenish h))))
theorem canonical_startDraw (h : Canonical s) : CanonicalFst (startDraw s j) := by
  unfold startDraw
  refine holds_ite (canonical_mk h) ?_
  split
  · have ha := canonical_of_got (canonical_generate h) ‹_›
    exact holds_ite (canonical_mk (canonical_onJob ha)) (canonical_mk (holds_ite (canonical_bufWrite (canonical_onJob ha))
        (canonical_onJob ha)))
  · exact canonical_mk h
  · have ha := canonical_of_undrawn (canonical_generate h) ‹_›
    exact canonical_mk (canonical_post (canonical_giveBack ha))

theorem canonical_bindTo {a : Fin 64} {b : Option (Fin 64)} (h : Canonical s) : Canonical (bindTo s j a b) :=
  canonical_startPay (canonical_onJob h)
theorem canonical_bindFrond (h : Canonical s) : Canonical (bindFrond s j) := by
  unfold bindFrond
  split
  · exact h
  · exact canonical_bindTo h

theorem canonical_lendFrond (h : Canonical s) : Canonical (lendFrond s j) := by
  unfold lendFrond
  split
  · exact h
  · exact canonical_startPay (holds_foldl (canonical_onJob h) (fun _ _ hx => canonical_onUnit hx))

theorem canonical_serveFrond (h : Canonical s) : Canonical (serveFrond s js j) :=
  holds_ite (canonical_lendFrond (canonical_countClass h)) (canonical_bindFrond (canonical_countClass h))
theorem canonical_dispatchFronds {n : Nat} {s : State} (h : Canonical s) : Canonical (dispatchFronds n s) := by
  induction n generalizing s with
  | zero => exact h
  | succ n ih =>
    rw [dispatchFronds]
    split
    · exact h
    · exact ih (canonical_serveFrond h)

theorem canonical_serveMinima {n : Nat} {s : State} (h : Canonical s) : Canonical (serveMinima n s) := by
  induction n generalizing s with
  | zero => exact h
  | succ n ih =>
    rw [serveMinima]
    split
    · exact h
    · exact ih (canonical_serveFrond h)

theorem canonical_markCapped (h : Canonical s) : Canonical (markCapped s) :=
  holds_foldl (canonical_mapFns h) (fun _ _ ha => canonical_onFn ha)
theorem canonical_bindAt {u : UnitRef} (h : Canonical s) : Canonical (bindAt s j u) := canonical_onJob h
theorem canonical_dispatchUnits {kind : Nat} {p : State → Job → Bool} {us : List UnitRef} {n : Nat} {s : State} (h : Canonical s) :
    Canonical (dispatchUnits kind p us n s) := by
  induction n generalizing s with
  | zero => exact h
  | succ n ih =>
    rw [dispatchUnits]
    split
    · exact h
    · extract_lets js
      split
      · exact h
      · exact ih (canonical_bindAt (canonical_countClass h))

theorem canonical_latticeAt {n : Fin 4} (h : Canonical s) : Canonical (latticeAt s n) := by
  unfold latticeAt
  split
  · exact h
  · exact canonical_onJob (canonical_countClass h)

theorem canonical_serveLattice (h : Canonical s) : Canonical (serveLattice s) :=
  holds_ite (canonical_onJobs h) (holds_foldl h (fun _ _ ha => holds_ite (canonical_latticeAt ha) ha))
theorem canonical_failHopeless (h : Canonical s) : Canonical (failHopeless s) :=
  holds_foldl h (fun _ _ ha => holds_foldl (canonical_post (canonical_giveBack ha)) (fun _ _ hs => canonical_resumeOn hs))
theorem canonical_noteMinima (h : Canonical s) : Canonical (noteMinima s) := by
  unfold noteMinima
  exact holds_ite (canonical_poolEvent (canonical_onEngines h)) (canonical_onEngines h)

theorem canonical_place (h : Canonical s) : Canonical (place s) :=
  canonical_dispatchFronds (canonical_dispatchUnits (canonical_dispatchUnits (canonical_dispatchFronds h)))
theorem canonical_drawn (h : Canonical s) : Canonical (drawn s j) := by
  unfold drawn
  split
  · exact canonical_post (canonical_giveBack h)
  · have hs0 := canonical_of_ok (canonical_takeSlot h) ‹_›
    split
    · have hs1 := canonical_of_eq_mk (canonical_startDraw hs0) ‹_›
      exact hs1
    · have hs1 := canonical_of_eq_mk (canonical_startDraw hs0) ‹_›
      exact canonical_onJob (canonical_stopPay hs1)

theorem canonical_takeDraws (h : Canonical s) : Canonical (takeDraws s) :=
  holds_foldl h (fun _ _ ha => holds_foldl ha (fun _ _ hs => canonical_drawn hs))
theorem canonical_placeAll {n : Nat} {s : State} (h : Canonical s) : Canonical (placeAll n s) := by
  induction n generalizing s with
  | zero => exact h
  | succ n ih =>
    have hdrawn : Canonical (takeDraws (place s)) := canonical_takeDraws (canonical_place h)
    rw [placeAll]
    exact holds_ite hdrawn (ih hdrawn)

theorem canonical_resumeAll (h : Canonical s) : Canonical (resumeAll s) := holds_foldl h (fun _ _ hs => canonical_resumeOn hs)
theorem canonical_dispatch (h : Canonical s) : Canonical (dispatch s) := by
  unfold dispatch
  refine holds_ite h ?_
  refine canonical_markCapped ?_
  refine canonical_serveLattice ?_
  exact canonical_placeAll (canonical_startForced (canonical_failHopeless (canonical_noteMinima (canonical_settleSelfTests
      (canonical_resumeAll h)))))

theorem canonical_awaitUnit (h : Canonical s) : CanonicalFst (awaitUnit s j n) := canonical_mk (canonical_dispatch (canonical_onJob h))
theorem canonical_chargeEpoch (h : Canonical s) : Canonical (chargeEpoch s) :=
  holds_foldl (canonical_mapFns h) (fun _ _ ha => holds_ite (canonical_payTo ha) ha)
theorem canonical_topUp (h : Canonical s) : Canonical (topUp s) :=
  holds_foldl h (fun _ _ hx => holds_foldl hx (fun _ _ hy => canonical_replenish (holds_foldl hy (fun _ _ hz => canonical_setDeficit hz))))
theorem canonical_scheduleEpoch (h : Canonical s) : Canonical (scheduleEpoch s) :=
  canonical_dispatch (canonical_serveMinima (canonical_topUp (canonical_chargeEpoch h)))

end

end Sys2Proof.Proofs
end

section
/-! SUPPORT. The canonical form is kept: key, option, Spore and system commands, function and device resets. -/

namespace Sys2Proof.Proofs

open Sys2Proof Sys2Proof.Machine Sys2Proof.Claims

-- One declaration after another: checked side by side, the many short proofs of this part hold a thread each.
set_option Elab.async false

/-! ### Machine/Complete.lean -/

section
variable {s : State} {j : Job}

theorem canonical_goDelete {n : Nat} (h : Canonical s) : CanonicalFst (goDelete s j n) := by
  unfold goDelete
  split
  · exact canonical_mk (canonical_flashCommand h)
  · exact canonical_mk (canonical_emptySlot h)

theorem canonical_settleDeletes (h : Canonical s) : Canonical (settleDeletes s) := by
  unfold settleDeletes
  refine holds_foldl h (fun a1 j1 ha1 => ?_)
  split
  · have hs2 := canonical_of_eq_mk (canonical_goDelete ha1) ‹_›
    exact canonical_post hs2
  · have hs2 := canonical_of_eq_mk (canonical_goDelete ha1) ‹_›
    exact hs2

theorem canonical_complete {r : Reply} (h : Canonical s) : Canonical (complete s j r) :=
  canonical_dispatch (canonical_settleDeletes (holds_foldl (canonical_onPower (canonical_post (canonical_giveBack h)))
      (fun _ _ hs => canonical_resumeOn hs)))
theorem canonical_backToQueue {c : Cmd} (h : Canonical s) : CanonicalFst (backToQueue s c) := canonical_mk (canonical_onJob h)

end

/-! ### Machine/Keys.lean -/

section
variable {s : State} {c : Cmd} {key : Bytes} {j : Job}

theorem canonical_unlessRefused {l : List (Option Reply)} {go : State × Option Reply} (h : Canonical s) (hgo : CanonicalFst go) :
    CanonicalFst (unlessRefused s l go) := by
  unfold unlessRefused
  split
  · exact canonical_mk h
  · exact hgo

theorem canonical_createKey {n template origin : Nat} (h : Canonical s) : CanonicalFst (createKey s c n template origin key) := by
  unfold createKey
  split
  · exact canonical_mk h
  · exact canonical_mk (canonical_fillSlot h)

theorem canonical_writeSeed {seed : Bytes} (h : Canonical s) : Canonical (writeSeed s seed) := by
  unfold writeSeed
  exact canonical_onMedulla (canonical_setStatusBit (holds_foldl h (fun _ _ ha => canonical_setSpore ha)))

theorem canonical_renewSlot0 {k : Bytes} (h : Canonical s) : Canonical (renewSlot0 s k) :=
  canonical_append (canonical_setSlot (canonical_writeRecord (canonical_buryRecords h)))
theorem canonical_withSeedDraws {body : State → Bytes → State × Option Reply} (h : Canonical s)
    (hbody : ∀ t b, Canonical t → CanonicalFst (body t b)) : CanonicalFst (withSeedDraws s c body) :=
  canonical_withOwn h (fun _ _ hs1 => canonical_withOwn hs1 (fun _ _ hs2 => hbody _ _ hs2))
theorem canonical_deviceSeed (h : Canonical s) : CanonicalFst (deviceSeed s j) :=
  canonical_unlessRefused h (canonical_withSeedDraws h (fun _ _ hs1 => canonical_mk (canonical_onJob (canonical_openFlash
      (canonical_writeSeed hs1)))))
theorem canonical_execKeyGenerate (h : Canonical s) : CanonicalNext (execKeyGenerate c s) :=
  canonical_xci h (fun _ _ hs => holds_ite (canonical_deviceSeed hs) (canonical_unlessRefused hs (canonical_withDraw hs
      (fun _ _ hs1 => canonical_createKey hs1))))
theorem canonical_commitDeviceSeed (h : Canonical s) : CanonicalFst (commitDeviceSeed s j) := by
  unfold commitDeviceSeed
  extract_lets s1
  have hs1 : Canonical s1 := canonical_writeMedulla (holds_foldl h (fun _ _ ha => canonical_eraseWhole ha))
  exact canonical_mk (holds_ite hs1 (canonical_renewSlot0 hs1))

theorem canonical_importMaster {hdr : Nat} (h : Canonical s) : CanonicalFst (importMaster s j hdr key) := by
  unfold importMaster
  refine holds_ite (canonical_mk h) ?_
  refine holds_ite (canonical_mk h) ?_
  refine holds_ite (canonical_backToQueue h) ?_
  split
  · exact canonical_mk h
  · exact canonical_mk (canonical_programRecord h)

theorem canonical_execKeyImport (h : Canonical s) : CanonicalNext (execKeyImport c s) := by
  unfold execKeyImport
  refine canonical_xci h (fun s1 j1 hs1 => ?_)
  extract_lets n buf len master
  refine canonical_unlessRefused hs1 ?_
  split
  · exact canonical_mk hs1
  · exact holds_ite (canonical_mk hs1) (holds_ite (canonical_importMaster hs1) (canonical_createKey hs1))

theorem canonical_commitImport (h : Canonical s) : CanonicalFst (commitImport s j) := by
  unfold commitImport
  extract_lets i s1 s2
  have hs1 : Canonical s1 := canonical_buryOthers (canonical_commitRecord h)
  have hs2 : Canonical s2 := by
    unfold s2
    split
    · exact canonical_setSlot hs1
    · exact canonical_emptySlot hs1
  exact canonical_mk hs2

theorem canonical_execKeyDerive (h : Canonical s) : CanonicalNext (execKeyDerive c s) :=
  canonical_xci h (fun _ _ hs => canonical_unlessRefused hs (canonical_createKey hs))
theorem canonical_execKeyDelete (h : Canonical s) : CanonicalNext (execKeyDelete c s) :=
  canonical_xci h (fun _ _ hs => canonical_unlessRefused hs (holds_ite (canonical_mk (canonical_onJob hs)) (canonical_goDelete
      (canonical_onJob hs))))
theorem canonical_commitDelete (h : Canonical s) : CanonicalFst (commitDelete s j) :=
  canonical_mk (canonical_emptySlot (canonical_buryRecords h))
theorem canonical_execKeyInfo (h : Canonical s) : CanonicalNext (execKeyInfo c s) :=
  canonical_xci h (fun _ _ hs => holds_ite (canonical_unlessRefused hs (canonical_mk (canonical_bufWrite hs))) (canonical_unlessRefused hs
      (canonical_mk hs)))
theorem canonical_execKeyPersist (h : Canonical s) : CanonicalNext (execKeyPersist c s) := by
  unfold execKeyPersist
  refine canonical_xci h (fun s1 j1 hs1 => ?_)
  extract_lets n now
  split
  · exact canonical_mk hs1
  · exact holds_ite (canonical_mk hs1) (holds_ite (canonical_backToQueue hs1) (canonical_unlessRefused hs1 (canonical_mk
        (canonical_programRecord hs1))))

theorem canonical_commitPersist (h : Canonical s) : CanonicalFst (commitPersist s j) :=
  canonical_mk (holds_ite (canonical_setSlot (canonical_commitRecord h)) (canonical_commitRecord h))
theorem canonical_persistFailed (h : Canonical s) : Canonical (persistFailed s j) := holds_ite (canonical_emptySlot h) h
theorem canonical_execKeyExportWrapped (h : Canonical s) : CanonicalNext (execKeyExportWrapped c s) :=
  canonical_xci h (fun _ _ hs => canonical_unlessRefused hs (canonical_mk (canonical_bufWrite hs)))

end

/-! ### Machine/Option.lean -/

section
variable {s : State}

theorem canonical_setOptWord {copy w : Nat} {v : U64} (h : Canonical s) : Canonical (setOptWord s copy w v) := canonical_writeFlash h
theorem canonical_writeCopy {changed : Nat → Option U64} (h : Canonical s) : Canonical (writeCopy s changed) :=
  canonical_setOptWord (canonical_setOptWord (holds_foldl (canonical_writeFlash h) (fun _ _ ha => canonical_setOptWord ha)))

end

/-! ### Machine/Spore.lean -/

section
variable {s : State}

theorem canonical_setSpores {s : State} {w : Nat} {l : List U64} (h : Canonical s) : Canonical (setSpores s w l) := by
  induction l generalizing s w with
  | nil => exact h
  | cons v r ih => exact ih (canonical_setSpore h)

theorem canonical_writeVisitRecord {v : Visit} (h : Canonical s) : Canonical (writeVisitRecord s v) :=
  canonical_setSpores (canonical_bumpSpore (canonical_setSpore h))
theorem canonical_importFrom {n : Nat} {s : State} (h : Canonical s) : Canonical (importFrom n s) := by
  induction n generalizing s with
  | zero => exact h
  | succ n ih =>
    rw [importFrom]
    split
    · exact h
    · exact ih (canonical_setSpore (canonical_appendNote h))

theorem canonical_importVisits (h : Canonical s) : Canonical (importVisits s) := canonical_importFrom h
theorem canonical_mirrorEntry {slot : Nat} (h : Canonical s) : Canonical (mirrorEntry s slot) := by
  unfold mirrorEntry
  split
  · exact canonical_setSpores h
  · exact h

theorem canonical_mirrorRing (h : Canonical s) : Canonical (mirrorRing s) :=
  canonical_onLog (holds_foldl h (fun _ _ hs => canonical_mirrorEntry hs))
theorem canonical_execSporeRingMirror (h : Canonical s) : CanonicalNext (execSporeRingMirror s) :=
  holds_ite (canonical_next h) (canonical_next (canonical_mirrorRing h))
theorem canonical_refillEntry {k : Nat} (h : Canonical s) : Canonical (refillEntry s k) := by
  unfold refillEntry
  refine holds_ite h ?_
  split
  · have hs1 := canonical_of_eq_mk_snd (canonical_drawOwn h) ‹_›
    exact hs1
  · have hs1 := canonical_of_eq_mk_snd (canonical_drawOwn h) ‹_›
    exact canonical_setSpore (canonical_setSpores hs1)

theorem canonical_refillPool (h : Canonical s) : Canonical (refillPool s) := holds_foldl h (fun _ _ hs => canonical_refillEntry hs)
theorem canonical_execChallengePoolRefill (h : Canonical s) : CanonicalNext (execChallengePoolRefill s) :=
  holds_ite (canonical_next h) (canonical_next (canonical_refillPool h))
theorem canonical_execSporeWordWrite {word : BitVec 10} {v : U64} (h : Canonical s) : CanonicalNext (execSporeWordWrite word v s) :=
  holds_ite (canonical_next h) (canonical_next (canonical_setSpore h))
theorem canonical_logSporeEcc {w : Nat} (h : Canonical s) : Canonical (logSporeEcc s w) := holds_ite (canonical_append h) h

end

/-! ### Machine/Badge.lean -/

section
variable {s : State}

theorem canonical_badgeRefused {reason sw tech : Nat} (h : Canonical s) : CanonicalFst (badgeRefused s reason sw tech) :=
  canonical_mk (canonical_append (canonical_bumpSpore h))
theorem canonical_badgeAccepted {c : Cmd} {cred : Bytes} (h : Canonical s) : CanonicalFst (badgeAccepted s c cred) := by
  unfold badgeAccepted
  extract_lets tech scope s1 s2 r s3
  have hs1 : Canonical s1 := canonical_append (canonical_bumpSpore h)
  have hs2 : Canonical s2 := holds_ite hs1 (canonical_bufWrite hs1)
  have hs3 : Canonical s3 := canonical_writeVisitRecord hs2
  exact holds_ite (canonical_mk hs2) (holds_ite (canonical_mk hs2) (canonical_mk (canonical_importVisits hs3)))

theorem canonical_finishBadge {j : Job} (h : Canonical s) : CanonicalFst (finishBadge s j) :=
  holds_ite (canonical_badgeAccepted h) (canonical_badgeRefused h)

end

/-! ### Machine/FnReset.lean -/

section
variable {s : State} {event : Nat} {f : FnId}

theorem canonical_shareEntry (h : Canonical s) : Canonical (shareEntry s event) := canonical_append h
theorem canonical_endShare (h : Canonical s) : Canonical (endShare s event) :=
  holds_ite h (holds_ite (canonical_onEngines (canonical_shareEntry h)) (holds_foldl (canonical_onEngines (canonical_shareEntry h))
      (fun _ _ ha => canonical_complete ha)))
theorem canonical_instantiateAll (h : Canonical s) : Canonical (instantiateAll s) := holds_foldl h (fun _ _ hs => canonical_instantiate hs)
theorem canonical_leaveRaw (h : Canonical s) : Canonical (leaveRaw s) :=
  holds_ite (canonical_instantiateAll (canonical_onEntropy h)) (holds_ite (canonical_onEntropy h) h)
theorem canonical_leaveRawOnly (h : Canonical s) : Canonical (leaveRawOnly s) := holds_ite (canonical_leaveRaw h) h
theorem canonical_dropInvocations {p : Machine.Inv → Bool} (h : Canonical s) : Canonical (dropInvocations s p) := by
  unfold dropInvocations
  exact canonical_onPinnas (holds_foldl h (fun _ _ ha => holds_ite (canonical_clearUnit ha) ha))

theorem canonical_stopJobs {p : Job → Bool} (h : Canonical s) : Canonical (stopJobs s p) :=
  holds_foldl (canonical_onJobs (holds_foldl h (fun _ _ hs => canonical_giveBack hs))) (fun _ _ hs => canonical_resumeOn hs)
theorem canonical_clearVolatile (h : Canonical s) : Canonical (clearVolatile s f) :=
  holds_foldl h (fun _ _ ha => holds_ite (canonical_emptySlot ha) ha)
theorem canonical_clearFnRegs (h : Canonical s) : Canonical (clearFnRegs s f) := by
  unfold clearFnRegs
  exact canonical_writeRegs h

theorem canonical_resetFunction (h : Canonical s) : Canonical (resetFunction s f) := by
  unfold resetFunction
  extract_lets s0 s1 s2 s3 s4 s5 s6 s7 s8
  have hs0 : Canonical s0 := canonical_leaveRawOnly (holds_ite (canonical_fieldDown h) h)
  have hs1 : Canonical s1 := canonical_stopJobs hs0
  have hs2 : Canonical s2 := canonical_dropInvocations hs1
  have hs3 : Canonical s3 := holds_ite (canonical_endShare hs2) hs2
  have hs4 : Canonical s4 := canonical_clearVolatile hs3
  have hs5 : Canonical s5 := canonical_onFn hs4
  have hs6 : Canonical s6 := holds_ite (canonical_reseed hs5) hs5
  have hs7 : Canonical s7 := canonical_onLink (canonical_renewCtxKey hs6)
  have hs8 : Canonical s8 := holds_foldl (canonical_clearFnRegs hs7) (fun _ _ ha => canonical_onPair ha)
  exact canonical_onLink hs8

theorem canonical_flrOne (h : Canonical s) : Canonical (flrOne s f) := holds_ite h (canonical_resetFunction h)
theorem canonical_execFlrInitiate {fn : FnId} (h : Canonical s) : CanonicalNext (execFlrInitiate fn s) := by
  unfold execFlrInitiate
  refine holds_ite (canonical_next h) ?_
  extract_lets s1 vfs a b s2
  have hs1 : Canonical s1 := canonical_flrOne h
  have ha : Canonical a := holds_foldl hs1 (fun _ _ ha => canonical_flrOne ha)
  have hb : Canonical b := holds_foldl ha (fun _ _ ha1 => canonical_onFn ha1)
  have hs2 : Canonical s2 := holds_ite hs1 (canonical_onLink hb)
  exact canonical_next (canonical_dispatch (canonical_raise hs2))

theorem canonical_endWaitingReset (h : Canonical s) : Canonical (endWaitingReset s f) := holds_ite (canonical_onFn h) h
theorem canonical_deviceReset {s : State} {k : ResetKind} {row : Nat} (h : Canonical s) : Canonical (deviceReset s k row) where
  fns := by
    change SMap.wf {} (SMap.mapV {} (fun _ x => x.overReset k) s.fns) = true
    exact SMap.wf_mapV h.fns
  pairs := rfl
  ports := rfl
  units := rfl
  regs := ⟨SMap.wf_filter h.regs.active, rfl, rfl, rfl⟩
  hostMem := by
    unfold deviceReset Link.overReset
    split <;> exact h.hostMem
  medulla := ⟨rfl, h.medulla.records⟩
  flash := { h.flash with }
  log := h.log
  spore := h.spore

end

/-! ### Machine/SysCmds.lean -/

section
variable {c : Cmd} {s : State}

theorem canonical_execNop (h : Canonical s) : CanonicalNext (execNop c s) := canonical_xci h (fun _ _ hs => canonical_mk hs)
theorem canonical_execGetInfo (h : Canonical s) : CanonicalNext (execGetInfo c s) :=
  canonical_xci h (fun _ _ hs => holds_ite (canonical_mk hs) (holds_ite (canonical_mk hs) (canonical_mk hs)))
theorem canonical_execGetLimits (h : Canonical s) : CanonicalNext (execGetLimits c s) := canonical_xci h (fun _ _ hs => canonical_mk hs)
theorem canonical_execOptionRead (h : Canonical s) : CanonicalNext (execOptionRead c s) :=
  canonical_xci h (fun _ _ hs => canonical_unlessRefused hs (canonical_mk hs))
theorem canonical_execOptionWrite (h : Canonical s) : CanonicalNext (execOptionWrite c s) :=
  canonical_xci h (fun _ _ hs => canonical_unlessRefused hs (holds_ite (canonical_mk (canonical_onJob hs)) (canonical_mk (canonical_onJob
      (canonical_openFlash hs)))))
theorem canonical_commitOption {j : Job} (h : Canonical s) : CanonicalFst (commitOption s j) := canonical_mk (canonical_writeCopy h)
theorem canonical_stagePart {g : CommitGroup} {first n v : Nat} (h : Canonical s) : Canonical (stagePart s g first n v) :=
  holds_foldl h (fun _ _ ha => canonical_setStage ha)
theorem canonical_execConfigSet (h : Canonical s) : CanonicalNext (execConfigSet c s) := by
  unfold execConfigSet
  refine canonical_xci h (fun s1 x hs1 => ?_)
  extract_lets g
  split
  · exact canonical_mk hs1
  · refine holds_ite (canonical_mk hs1) ?_
    refine holds_ite (canonical_mk (canonical_onJob hs1)) ?_
    extract_lets s1' s2
    have hs1' : Canonical s1' := canonical_stagePart hs1
    have hs2 : Canonical s2 := canonical_commitGo (canonical_onCommit hs1')
    exact holds_ite (canonical_mk hs1') (holds_ite (canonical_mk (canonical_onJob hs2)) (canonical_mk hs2))

theorem canonical_execConfigGet (h : Canonical s) : CanonicalNext (execConfigGet c s) := by
  unfold execConfigGet
  refine canonical_xci h (fun s1 x hs1 => ?_)
  extract_lets g off
  split
  · exact canonical_mk hs1
  · exact holds_ite (canonical_mk hs1) (holds_ite (canonical_mk hs1) (canonical_mk hs1))

theorem canonical_execRaiseEvent (h : Canonical s) : CanonicalNext (execRaiseEvent c s) :=
  canonical_xci h (fun _ _ hs => holds_ite (canonical_mk hs) (canonical_mk (canonical_raiseWaking hs)))

end

/-! ### Machine/TenantCmds.lean -/

section
variable {c : Cmd} {s : State} {j : Job}

theorem canonical_execTenantCreate (h : Canonical s) : CanonicalNext (execTenantCreate c s) :=
  canonical_xci h (fun _ _ hs => holds_ite (canonical_backToQueue hs) (canonical_unlessRefused hs (canonical_mk
      (canonical_flashCommand hs))))
theorem canonical_commitCreate (h : Canonical s) : CanonicalFst (commitCreate s j) :=
  canonical_mk (canonical_append (canonical_instantiate (canonical_setReg (canonical_onFn h))))
theorem canonical_execTenantRelease (h : Canonical s) : CanonicalNext (execTenantRelease c s) :=
  canonical_xci h (fun _ _ hs => holds_ite (canonical_backToQueue hs) (canonical_unlessRefused hs (canonical_mk (canonical_flashCommand
      (canonical_resetFunction hs)))))
theorem canonical_commitRelease (h : Canonical s) : CanonicalFst (commitRelease s j) := by
  unfold commitRelease
  extract_lets f g s1 s2 s3 mine s4 s5 s6 s7
  have hs1 : Canonical s1 := canonical_stopJobs h
  have hs2 : Canonical s2 := holds_foldl hs1 (fun _ _ hs => canonical_emptySlot hs)
  have hs3 : Canonical s3 := canonical_writeMedulla hs2
  have hs4 : Canonical s4 := canonical_onPinnas hs3
  have hs5 : Canonical s5 := canonical_onCounters hs4
  have hs6 : Canonical s6 := canonical_onFn hs5
  have hs7 : Canonical s7 := canonical_setReg hs6
  exact canonical_mk (canonical_append hs7)

theorem canonical_execTenantSet (h : Canonical s) : CanonicalNext (execTenantSet c s) :=
  canonical_xci h (fun _ _ hs => holds_ite (canonical_backToQueue hs) (canonical_setGroup hs))
theorem canonical_commitTenantSet (h : Canonical s) : CanonicalFst (commitTenantSet s j) := canonical_mk (canonical_onFn h)
theorem canonical_undoTenantSet (h : Canonical s) : Canonical (undoTenantSet s j) := canonical_setReg h
theorem canonical_execTenantStatus (h : Canonical s) : CanonicalNext (execTenantStatus c s) :=
  canonical_xci h (fun _ _ hs => holds_ite (canonical_mk hs) (canonical_mk hs))
theorem canonical_execTenantList (h : Canonical s) : CanonicalNext (execTenantList c s) :=
  canonical_xci h (fun _ _ hs => holds_ite (canonical_mk hs) (canonical_mk hs))

end

end Sys2Proof.Proofs
end

section
/-! SUPPORT. The canonical form is kept: counter, log, flash and applet store commands, the fronds, Calyptra, the reader, tag mode and the applets. -/

namespace Sys2Proof.Proofs

open Sys2Proof Sys2Proof.Machine Sys2Proof.Claims

-- One declaration after another: checked side by side, the many short proofs of this part hold a thread each.
set_option Elab.async false

/-! ### Machine/CounterCmds.lean -/

section
variable {c : Cmd} {s : State} {j : Job}

theorem canonical_execCounterAlloc (h : Canonical s) : CanonicalNext (execCounterAlloc c s) :=
  canonical_xci h (fun _ _ hs => canonical_unlessRefused hs (holds_ite (canonical_mk hs) (canonical_mk (canonical_onJob
      (canonical_flashCommand hs)))))
theorem canonical_commitAlloc (h : Canonical s) : CanonicalFst (commitAlloc s j) := by
  unfold commitAlloc
  extract_lets n
  split
  · exact canonical_mk h
  · exact canonical_mk (canonical_onCounters h)

theorem canonical_execCounterRead (h : Canonical s) : CanonicalNext (execCounterRead c s) :=
  canonical_xci h (fun _ _ hs => canonical_unlessRefused hs (holds_ite (canonical_mk hs) (canonical_mk hs)))
theorem canonical_execCounterIncrement (h : Canonical s) : CanonicalNext (execCounterIncrement c s) :=
  canonical_xci h (fun _ _ hs => canonical_unlessRefused hs (holds_ite (canonical_backToQueue hs) (holds_ite (canonical_mk hs)
      (canonical_mk (canonical_onJob (canonical_flashCommand hs))))))
theorem canonical_commitIncrement (h : Canonical s) : CanonicalFst (commitIncrement s j) := by
  unfold commitIncrement
  extract_lets n
  split
  · exact canonical_mk h
  · exact canonical_mk (canonical_afterIncrement (canonical_onCounters h))

theorem canonical_execCounterList (h : Canonical s) : CanonicalNext (execCounterList c s) :=
  canonical_xci h (fun _ _ hs => canonical_unlessRefused hs (canonical_mk hs))

end

/-! ### Machine/LogTime.lean -/

section
variable {c : Cmd} {s : State}

theorem canonical_execTimeRead (h : Canonical s) : CanonicalNext (execTimeRead c s) := canonical_xci h (fun _ _ hs => canonical_mk hs)
theorem canonical_execAnchorRecord (h : Canonical s) : CanonicalNext (execAnchorRecord c s) :=
  canonical_xci h (fun _ _ hs => canonical_unlessRefused hs (canonical_mk (canonical_appendNote hs)))
theorem canonical_execLogNote (h : Canonical s) : CanonicalNext (execLogNote c s) :=
  canonical_xci h (fun _ _ hs => canonical_unlessRefused hs (canonical_mk (canonical_append hs)))
theorem canonical_execLogInfo (h : Canonical s) : CanonicalNext (execLogInfo c s) := canonical_xci h (fun _ _ hs => canonical_mk hs)
theorem canonical_readingFlash {g : State → State × Option Reply} (h : Canonical s) (hg : ∀ t, Canonical t → CanonicalFst (g t)) :
    CanonicalFst (readingFlash s c g) :=
  holds_ite (canonical_backToQueue (canonical_raise h)) (hg _ (canonical_suspendErase h))
theorem canonical_execLogRead (h : Canonical s) : CanonicalNext (execLogRead c s) :=
  canonical_xci h (fun _ _ hs => canonical_unlessRefused hs (canonical_readingFlash hs (fun _ hs1 => canonical_mk
      (canonical_bufWrite hs1))))
theorem canonical_execLogExport (h : Canonical s) : CanonicalNext (execLogExport c s) := by
  unfold execLogExport
  refine canonical_xci h (fun s1 x hs1 => ?_)
  extract_lets first last buf
  refine canonical_unlessRefused hs1 ?_
  refine holds_ite (canonical_mk (canonical_onJob hs1)) ?_
  exact canonical_readingFlash hs1 (fun _ hs => canonical_withOwn hs (fun _ _ hs11 => canonical_mk (canonical_append
      (canonical_bufWrite hs11))))

theorem canonical_execLogExtend (h : Canonical s) : CanonicalNext (execLogExtend c s) :=
  canonical_xci h (fun _ _ hs => canonical_unlessRefused hs (holds_ite (canonical_mk (canonical_onJob hs)) (canonical_mk (canonical_onJob
      (canonical_openFlash hs)))))
theorem canonical_commitExtend {j : Job} (h : Canonical s) : CanonicalFst (commitExtend s j) :=
  canonical_mk (canonical_append (canonical_onLog (canonical_onFlash (canonical_writeCopy h))))

end

/-! ### Machine/FlashCmds.lean -/

section
variable {c : Cmd} {s : State}

theorem canonical_execFlashWear (h : Canonical s) : CanonicalNext (execFlashWear c s) :=
  canonical_xci h (fun _ _ hs => canonical_unlessRefused hs (canonical_mk hs))
theorem canonical_execWornOverride (h : Canonical s) : CanonicalNext (execWornOverride c s) :=
  canonical_xci h (fun _ _ hs => canonical_unlessRefused hs (canonical_mk (canonical_flashCommand hs)))
theorem canonical_commitOverride {j : Job} (h : Canonical s) : CanonicalFst (commitOverride s j) :=
  canonical_mk (canonical_append (canonical_onFlash (canonical_appendConfig h)))

end

/-! ### Machine/AppletStore.lean -/

section
variable {s : State} {b : Nat} {j : Job}

theorem canonical_killPages {a : Nat} (h : Canonical s) : Canonical (killPages s a) := canonical_onPinnas h
theorem canonical_compactBlock (h : Canonical s) : Canonical (compactBlock s b) := canonical_openFlash (canonical_onPinnas h)
theorem canonical_compacted (h : Canonical s) : Canonical (compacted s b) := canonical_onPinnas h
theorem canonical_storeImage (h : Canonical s) : Canonical (storeImage s j) := by
  unfold storeImage
  extract_lets need
  split
  · exact canonical_onJob (canonical_openFlash h)
  · split
    · exact canonical_onJob (canonical_compactBlock h)
    · exact canonical_complete h

theorem canonical_resumeInstall (h : Canonical s) : Canonical (resumeInstall s) := by
  unfold resumeInstall
  split
  · exact canonical_storeImage h
  · exact h

theorem canonical_verifyImage {u : UnitRef} (h : Canonical s) : Canonical (verifyImage s j u) :=
  holds_ite (canonical_dispatch (canonical_settleDeletes (canonical_resumeOn (canonical_storeImage h)))) (canonical_complete h)
theorem canonical_commitInstall {s : State} {j : Job} (h : Canonical s) : CanonicalFst (commitInstall s j) := by
  unfold commitInstall
  extract_lets f b n old id s1 s2
  have hs1 : Canonical s1 := by
    unfold s1
    clear_value old
    cases old with
    | some a => exact canonical_killPages h
    | none => exact h
  exact canonical_mk (canonical_onPinnas (canonical_appendConfig hs1))

theorem canonical_commitRemove (h : Canonical s) : CanonicalFst (commitRemove s j) :=
  canonical_mk (canonical_onPinnas (canonical_appendConfig (canonical_killPages h)))

end

/-! ### Machine/PoolCmds.lean -/

section
variable {c : Cmd} {s : State}

theorem canonical_execPoolStatus (h : Canonical s) : CanonicalNext (execPoolStatus c s) :=
  canonical_xci h (fun _ _ hs => holds_ite (canonical_mk hs) (holds_ite (canonical_mk hs) (canonical_mk hs)))
theorem canonical_execUnitOut (h : Canonical s) : CanonicalNext (execUnitOut c s) := by
  unfold execUnitOut
  refine canonical_xci h (fun s1 x hs1 => ?_)
  extract_lets kind us st before s1' s2
  have hs1' : Canonical s1' := holds_foldl hs1 (fun _ _ hs => canonical_takeOut hs)
  have hs2 : Canonical s2 := canonical_dispatch (holds_ite (canonical_poolChanged hs1') hs1')
  exact canonical_unlessRefused hs1 (holds_ite (canonical_backToQueue hs1) (canonical_mk hs2))

theorem canonical_execUnitReturn (h : Canonical s) : CanonicalNext (execUnitReturn c s) :=
  canonical_xci h (fun _ _ hs => canonical_unlessRefused hs (canonical_mk (canonical_onJob (holds_foldl hs
      (fun _ _ ha => canonical_startTest ha)))))
theorem canonical_execPowerSet (h : Canonical s) : CanonicalNext (execPowerSet c s) :=
  canonical_xci h (fun _ _ hs => canonical_unlessRefused hs (holds_ite (canonical_backToQueue hs) (canonical_setGroup hs)))
theorem canonical_execSchedSet (h : Canonical s) : CanonicalNext (execSchedSet c s) :=
  canonical_xci h (fun _ _ hs => holds_ite (canonical_backToQueue hs) (canonical_setGroup hs))
theorem canonical_execPowerStatus (h : Canonical s) : CanonicalNext (execPowerStatus c s) := canonical_xci h (fun _ _ hs => canonical_mk hs)
theorem canonical_execDomainSet (h : Canonical s) : CanonicalNext (execDomainSet c s) := by
  unfold execDomainSet
  refine canonical_xci h (fun s1 x hs1 => ?_)
  split
  · exact canonical_mk hs1
  · exact holds_ite (canonical_backToQueue hs1) (canonical_mk (canonical_onPower hs1))

theorem canonical_execHealthStatus (h : Canonical s) : CanonicalNext (execHealthStatus c s) :=
  canonical_xci h (fun _ _ hs => canonical_mk hs)
theorem canonical_forceTest {u : UnitRef} (h : Canonical s) : Canonical (forceTest s u) := holds_ite h (canonical_onUnit h)
theorem canonical_execSelfTest (h : Canonical s) : CanonicalNext (execSelfTest c s) :=
  canonical_xci h (fun _ _ hs => canonical_unlessRefused hs (canonical_mk (canonical_startForced (canonical_onJob (holds_foldl hs
      (fun _ _ hs1 => canonical_forceTest hs1))))))
theorem canonical_execIstControl (h : Canonical s) : CanonicalNext (execIstControl c s) :=
  canonical_xci h (fun _ _ hs => canonical_unlessRefused hs (canonical_mk (canonical_onHealth hs)))

end

/-! ### Machine/Cipher.lean -/

section
variable {c : Cmd} {s : State}

theorem canonical_frondStart {op : Nat} {j : Job} (h : Canonical s) : CanonicalFst (frondStart op c s j) :=
  canonical_unlessRefused h (canonical_awaitUnit h)
theorem canonical_execCipher (h : Canonical s) : CanonicalNext (execCipher c s) := canonical_xci h (fun _ _ hs => canonical_frondStart hs)
theorem canonical_execAeadEncrypt (h : Canonical s) : CanonicalNext (execAeadEncrypt c s) :=
  canonical_xci h (fun _ _ hs => canonical_frondStart hs)
theorem canonical_execAeadDecrypt (h : Canonical s) : CanonicalNext (execAeadDecrypt c s) :=
  canonical_xci h (fun _ _ hs => canonical_frondStart hs)
theorem canonical_execMac (h : Canonical s) : CanonicalNext (execMac c s) := canonical_xci h (fun _ _ hs => canonical_frondStart hs)
theorem canonical_execContextSave (h : Canonical s) : CanonicalNext (execContextSave c s) :=
  canonical_xci h (fun _ _ hs => canonical_unlessRefused hs (canonical_mk (canonical_bufWrite hs)))
theorem canonical_execContextRestore (h : Canonical s) : CanonicalNext (execContextRestore c s) := by
  unfold execContextRestore
  refine canonical_xci h (fun s1 x hs1 => ?_)
  extract_lets src dst
  refine canonical_unlessRefused hs1 ?_
  split
  · exact canonical_mk hs1
  · exact canonical_unlessRefused hs1 (canonical_mk (holds_ite hs1 (canonical_bufWrite hs1)))

end

/-! ### Machine/FrondEvents.lean -/

section
variable {s : State} {j : Job} {x : Pass} {old : Option Bytes} {frond : Fin 64}

theorem canonical_writeRecordOut (h : Canonical s) : Canonical (writeRecordOut s j x old) := holds_ite h (canonical_bufWrite h)
theorem canonical_runCipher (h : Canonical s) : CanonicalFst (runCipher s j x old) := by
  unfold runCipher
  extract_lets p out body __src
  refine holds_ite ?_ (canonical_mk (canonical_writeRecordOut (canonical_bufWrite h)))
  split
  · exact canonical_mk (canonical_bufWrite h)
  · exact canonical_mk (canonical_writeRecordOut (canonical_bufWrite h))

theorem canonical_runEncrypt (h : Canonical s) : CanonicalFst (runEncrypt s j x old) :=
  canonical_mk (canonical_writeRecordOut (holds_ite (canonical_bufWrite (canonical_bufWrite h)) (canonical_bufWrite h)))
theorem canonical_runMac (h : Canonical s) : CanonicalFst (runMac s j x old) := by
  unfold runMac
  extract_lets p
  refine holds_ite (canonical_mk (canonical_writeRecordOut h)) ?_
  exact holds_ite (holds_ite (canonical_mk (canonical_writeRecordOut h)) (canonical_mk h)) (canonical_mk (canonical_writeRecordOut
      (canonical_bufWrite h)))

theorem canonical_passOne (h : Canonical s) : Canonical (passOne s j) := canonical_onJob h
theorem canonical_passTwo (h : Canonical s) : CanonicalFst (passTwo s j) := by
  unfold passTwo
  extract_lets p x n now
  split
  · exact canonical_mk (canonical_bufWrite h)
  · exact canonical_mk (canonical_bufWrite h)

theorem canonical_runDecrypt (h : Canonical s) : CanonicalFst (runDecrypt s j x) :=
  holds_ite (holds_ite (canonical_mk (canonical_bufWrite h)) (canonical_mk h)) (holds_ite (canonical_passTwo (holds_ite
      (canonical_passOne h) h)) (canonical_mk (holds_ite (canonical_passOne h) h)))
theorem canonical_runFrond (h : Canonical s) : CanonicalFst (runFrond s j) := by
  unfold runFrond
  split
  · exact canonical_mk h
  · extract_lets x
    exact holds_ite (canonical_runCipher h) (holds_ite (canonical_runEncrypt h) (holds_ite (canonical_runDecrypt h) (canonical_runMac h)))

theorem canonical_execFrondJobDone (h : Canonical s) : CanonicalNext (execFrondJobDone frond s) := by
  unfold execFrondJobDone
  split
  · exact canonical_next h
  · refine holds_ite (canonical_next h) ?_
    split
    · have hs1 := canonical_of_eq_mk (canonical_runFrond h) ‹_›
      exact canonical_next (canonical_complete hs1)

theorem canonical_execSegmentTagReserve {fn : FnId} {q : PairId} {tag : BitVec 16} (h : Canonical s) :
    CanonicalNext (execSegmentTagReserve fn q tag s) := by
  unfold execSegmentTagReserve
  split
  · exact canonical_next h
  · exact holds_ite (canonical_next h) (canonical_next (canonical_dispatch (canonical_onJob h)))

theorem canonical_afterMismatch {n : Fin 64} {pass : Bool} (h : Canonical s) : Canonical (afterMismatch s n pass) :=
  holds_ite (canonical_onUnit h) (canonical_failFrond h)
theorem canonical_execTwinMismatch {unit : BitVec 16} {firstPass secondPass : Bool} (h : Canonical s) :
    CanonicalNext (execTwinMismatch frond unit firstPass secondPass s) := by
  unfold execTwinMismatch
  split
  · exact canonical_next h
  · split
    · exact canonical_next h
    · extract_lets s1 s2 s3 s4
      have hs1 : Canonical s1 := canonical_onJob h
      have hs2 : Canonical s2 := canonical_afterMismatch (canonical_afterMismatch hs1)
      have hs3 : Canonical s3 := holds_ite (canonical_append hs2) hs2
      have hs4 : Canonical s4 := canonical_abandon hs3
      exact canonical_next (holds_ite (canonical_complete hs4) (canonical_dispatch hs4))

theorem canonical_execFrondFailed {cause : Fin 8} (h : Canonical s) : CanonicalNext (execFrondFailed frond cause s) :=
  holds_ite (canonical_next h) (canonical_next (canonical_dispatch (canonical_failFrond h)))

end

/-! ### Machine/Calyptra.lean -/

section
variable {op : Nat} {c : Cmd} {s : State} {j : Job} {p : PkJob} {key : Bytes} {ins : List Bytes}

theorem canonical_pkStart (h : Canonical s) : CanonicalFst (pkStart op c s j) := canonical_unlessRefused h (canonical_awaitUnit h)
theorem canonical_execRsaPrivate (h : Canonical s) : CanonicalNext (execRsaPrivate c s) :=
  canonical_xci h (fun _ _ hs => canonical_pkStart hs)
theorem canonical_execRsaPublic (h : Canonical s) : CanonicalNext (execRsaPublic c s) :=
  canonical_xci h (fun _ _ hs => canonical_pkStart hs)
theorem canonical_execEcdsaSign (h : Canonical s) : CanonicalNext (execEcdsaSign c s) :=
  canonical_xci h (fun _ _ hs => canonical_pkStart hs)
theorem canonical_execEcdsaVerify (h : Canonical s) : CanonicalNext (execEcdsaVerify c s) :=
  canonical_xci h (fun _ _ hs => canonical_pkStart hs)
theorem canonical_execEddsaSign (h : Canonical s) : CanonicalNext (execEddsaSign c s) :=
  canonical_xci h (fun _ _ hs => canonical_pkStart hs)
theorem canonical_execEddsaVerify (h : Canonical s) : CanonicalNext (execEddsaVerify c s) :=
  canonical_xci h (fun _ _ hs => canonical_pkStart hs)
theorem canonical_execEcdh (h : Canonical s) : CanonicalNext (execEcdh c s) := canonical_xci h (fun _ _ hs => canonical_pkStart hs)
theorem canonical_execPkKeygen (h : Canonical s) : CanonicalNext (execPkKeygen c s) := canonical_xci h (fun _ _ hs => canonical_pkStart hs)
theorem canonical_execMlKemEncaps (h : Canonical s) : CanonicalNext (execMlKemEncaps c s) :=
  canonical_xci h (fun _ _ hs => canonical_pkStart hs)
theorem canonical_execMlKemDecaps (h : Canonical s) : CanonicalNext (execMlKemDecaps c s) :=
  canonical_xci h (fun _ _ hs => canonical_pkStart hs)
theorem canonical_execMlDsaSign (h : Canonical s) : CanonicalNext (execMlDsaSign c s) :=
  canonical_xci h (fun _ _ hs => canonical_pkStart hs)
theorem canonical_execMlDsaVerify (h : Canonical s) : CanonicalNext (execMlDsaVerify c s) :=
  canonical_xci h (fun _ _ hs => canonical_pkStart hs)
theorem canonical_writeSecret {sec : Bytes} (h : Canonical s) : CanonicalOkFst (writeSecret s j p sec) := by
  unfold writeSecret
  extract_lets same
  have hsame : CanonicalOkFst same := holds_ite (canonical_ok_mk h) trivial
  split
  · exact holds_ite hsame (canonical_ok_mk (canonical_fillSlot h))
  · exact hsame

theorem canonical_runAgreement (h : Canonical s) : CanonicalFst (runAgreement s op j p key ins) := by
  unfold runAgreement
  extract_lets c n k i sec
  refine holds_ite (canonical_mk (canonical_bufWrite (canonical_fillSlot h))) ?_
  split
  · exact canonical_mk h
  · have hs1 := canonical_of_ok_mk (canonical_writeSecret h) ‹_›
    exact holds_ite (canonical_mk (canonical_bufWrite hs1)) (canonical_mk hs1)

theorem canonical_runOaep (h : Canonical s) : CanonicalFst (runOaep s j p key ins) :=
  holds_ite (canonical_mk h) (holds_ite (canonical_mk h) (canonical_mk (canonical_bufWrite h)))
theorem canonical_runPk (h : Canonical s) : CanonicalFst (runPk s j) := by
  unfold runPk
  extract_lets c op p ins n
  split
  · exact canonical_mk h
  · split
    · exact canonical_mk h
    · exact holds_ite (holds_ite (canonical_mk h) (canonical_mk h)) (holds_ite (canonical_runAgreement h) (holds_ite (canonical_runOaep h)
          (canonical_mk (canonical_bufWrite h))))

theorem canonical_execCalyptraJobDone {unit : Fin 2} {checkOk pass : Bool} (h : Canonical s) :
    CanonicalNext (execCalyptraJobDone unit checkOk pass s) := by
  unfold execCalyptraJobDone
  split
  · exact canonical_next h
  · refine holds_ite (canonical_next h) ?_
    refine holds_ite (canonical_next (canonical_verifyImage h)) ?_
    refine holds_ite ?_ ?_
    · split
      · have hs1 := canonical_of_eq_mk (holds_ite (canonical_finishBadge h) (canonical_runPk h)) ‹_›
        exact canonical_next (canonical_complete hs1)
    · exact holds_ite (canonical_next (canonical_dispatch (canonical_backInService (canonical_abandon h)))) (canonical_next
          (canonical_dispatch (canonical_failUnit h)))

end

/-! ### Machine/Reader.lean -/

section
variable {s : State} {c : Cmd} {j : Job}

theorem canonical_toReader (h : Canonical s) : Canonical (toReader s c) := canonical_onJob h
theorem canonical_fieldUp (h : Canonical s) : Canonical (fieldUp s) :=
  holds_ite h (canonical_onReader (canonical_applyDeferred (canonical_atInstant h)))
theorem canonical_raiseField (h : Canonical s) : Canonical (raiseField s) := by
  unfold raiseField
  refine holds_ite h ?_
  split
  · exact canonical_complete h
  · exact canonical_fieldUp h

theorem canonical_execReaderPoll (h : Canonical s) : CanonicalNext (execReaderPoll c s) :=
  canonical_xci h (fun _ _ hs => holds_ite (canonical_backToQueue hs) (canonical_unlessRefused hs (canonical_mk (canonical_raiseField
      (canonical_toReader (canonical_onReader hs))))))
theorem canonical_execReaderExchange (h : Canonical s) : CanonicalNext (execReaderExchange c s) :=
  canonical_xci h (fun _ _ hs => holds_ite (canonical_backToQueue hs) (canonical_unlessRefused hs (canonical_mk (canonical_toReader
      (canonical_onReader hs)))))
theorem canonical_execReaderFieldOff (h : Canonical s) : CanonicalNext (execReaderFieldOff c s) :=
  canonical_xci h (fun _ _ hs => holds_ite (canonical_backToQueue hs) (canonical_unlessRefused hs (canonical_mk (canonical_fieldDown hs))))
theorem canonical_execBadgeVerify (h : Canonical s) : CanonicalNext (execBadgeVerify c s) := by
  unfold execBadgeVerify
  refine canonical_xci h (fun s1 x hs1 => ?_)
  extract_lets buf
  refine holds_ite (canonical_backToQueue hs1) ?_
  exact canonical_unlessRefused hs1 (canonical_withOwn hs1 (fun _ _ hs11 => canonical_mk (canonical_onJob (canonical_toReader
      (canonical_onReader hs11)))))

theorem canonical_execVisitRead (h : Canonical s) : CanonicalNext (execVisitRead c s) :=
  canonical_xci h (fun _ _ hs => canonical_unlessRefused hs (canonical_mk (holds_ite hs (canonical_bufWrite hs))))
theorem canonical_readerFails {st : Nat} (h : Canonical s) : Canonical (readerFails s j st) :=
  canonical_raise (canonical_complete (canonical_fieldDown h))
theorem canonical_pollAnswered {typeB layer4 collision : Bool} {cascade rate : BitVec 2} {uid ats : Bytes} {sak : BitVec 32}
    (h : Canonical s) : Canonical (pollAnswered s j typeB layer4 collision cascade rate uid sak ats) :=
  holds_ite h (canonical_raise (canonical_complete (canonical_bufWrite (canonical_onReader h))))
theorem canonical_cardAnswered {b : Bytes} (h : Canonical s) : Canonical (cardAnswered s j b) := by
  unfold cardAnswered
  extract_lets c s1 s2
  have hs1 : Canonical s1 := canonical_raise (canonical_onReader h)
  have hs2 : Canonical s2 := canonical_onReader hs1
  refine holds_ite (holds_ite (canonical_complete hs1) (canonical_complete (canonical_bufWrite hs1))) ?_
  refine holds_ite h ?_
  refine holds_ite ?_ (holds_ite hs2 (canonical_dispatch (canonical_onJob hs2)))
  split
  · have hs11 := canonical_of_eq_mk (canonical_badgeRefused (canonical_onReader hs1)) ‹_›
    exact canonical_complete hs11

theorem canonical_retransmit {badBlock : Bool} (h : Canonical s) : Canonical (retransmit s j badBlock) :=
  holds_ite (canonical_onReader (canonical_onReader h)) (canonical_readerFails (canonical_onReader h))
theorem canonical_execCardFrame {reply : CardReply} (h : Canonical s) : CanonicalNext (execCardFrame reply s) := by
  unfold execCardFrame
  split
  · exact canonical_next h
  · split
    · exact canonical_next (holds_ite (canonical_pollAnswered h) h)
    · exact canonical_next (holds_ite h (holds_ite (canonical_retransmit h) (canonical_cardAnswered h)))
    · exact canonical_next (holds_ite h (canonical_retransmit h))
    · exact canonical_next (holds_ite (canonical_readerFails h) h)

theorem canonical_execReaderFrameTimeout (h : Canonical s) : CanonicalNext (execReaderFrameTimeout s) := by
  unfold execReaderFrameTimeout
  split
  · exact canonical_next h
  · exact canonical_next (holds_ite h (canonical_retransmit h))

theorem canonical_execCardWtxRequest {wtxm : BitVec 6} (h : Canonical s) : CanonicalNext (execCardWtxRequest wtxm s) := by
  unfold execCardWtxRequest
  split
  · exact canonical_next h
  · exact canonical_next (holds_ite h (canonical_onReader h))

theorem canonical_execPollTimeout (h : Canonical s) : CanonicalNext (execPollTimeout s) := by
  unfold execPollTimeout
  split
  · exact canonical_next h
  · exact canonical_next (holds_ite (canonical_complete h) h)

theorem canonical_readerRefLost (h : Canonical s) : Canonical (readerRefLost s) := by
  unfold readerRefLost
  extract_lets s1
  have hs1 : Canonical s1 := canonical_fieldDown h
  split
  · exact canonical_complete hs1
  · exact hs1

end

/-! ### Machine/Tag.lean -/

section
variable {s : State} {data : Bytes} {sw use : Nat} {a : Apdu}

theorem canonical_endSession (h : Canonical s) : Canonical (endSession s) :=
  holds_ite h (holds_ite (canonical_importVisits (canonical_onTag h)) (canonical_onTag h))
theorem canonical_execTagFieldOn {hei : Fin 4} (h : Canonical s) : CanonicalNext (execTagFieldOn hei s) :=
  canonical_next (holds_ite (canonical_onTag h) (canonical_raise (canonical_onTag h)))
theorem canonical_execTagActivation (h : Canonical s) : CanonicalNext (execTagActivation s) :=
  holds_ite (canonical_next h) (canonical_next (canonical_onTag (canonical_endSession h)))
theorem canonical_execTagSessionEnd {fieldLost : Bool} (h : Canonical s) : CanonicalNext (execTagSessionEnd fieldLost s) :=
  canonical_next (holds_ite (canonical_onTag (canonical_endSession h)) (canonical_endSession h))
theorem canonical_answer (h : Canonical s) : Canonical (answer s data sw) := canonical_onTag h
theorem canonical_refuse (h : Canonical s) : Canonical (refuse s sw) := canonical_answer h
theorem canonical_refuseEcc {w : Nat} (h : Canonical s) : Canonical (refuseEcc s w) := canonical_refuse (canonical_logSporeEcc h)
theorem canonical_apdu {checks : List (Bool × Nat)} {go : State} (h : Canonical s) (hgo : Canonical go) :
    CanonicalNext (apdu s checks go) := by
  unfold apdu
  refine holds_ite (canonical_next h) ?_
  split
  · exact canonical_next (canonical_refuse h)
  · exact canonical_next hgo

theorem canonical_execSelectApdu (h : Canonical s) : CanonicalNext (execSelectApdu a s) := by
  unfold execSelectApdu
  refine holds_ite (canonical_next h) ?_
  refine canonical_apdu h ?_
  split
  · exact canonical_refuseEcc h
  · exact canonical_answer (canonical_onTag h)

theorem canonical_execGetChallenge (h : Canonical s) : CanonicalNext (execGetChallenge a s) := by
  unfold execGetChallenge
  refine holds_ite (canonical_next h) ?_
  extract_lets c k b
  refine canonical_apdu h ?_
  split
  · exact canonical_refuseEcc h
  · exact holds_ite (canonical_refuse h) (canonical_answer (canonical_onTag (canonical_bumpSpore h)))

theorem canonical_authFails (h : Canonical s) : Canonical (authFails s) := canonical_refuse (canonical_onTag (canonical_bumpSpore h))
theorem canonical_authGranted {cred : Bytes} (h : Canonical s) : Canonical (authGranted s use cred) :=
  holds_ite (canonical_refuse h) (canonical_refuse (canonical_onTag (canonical_bumpSpore h)))
theorem canonical_authDecide {challenge : Bytes} (h : Canonical s) : Canonical (authDecide s use challenge data) := by
  unfold authDecide
  extract_lets cred
  split
  · exact canonical_refuseEcc h
  · exact holds_ite (canonical_authGranted h) (canonical_authFails h)

theorem canonical_execAuthenticate (h : Canonical s) : CanonicalNext (execAuthenticate a s) := by
  unfold execAuthenticate
  refine holds_ite (canonical_next h) ?_
  extract_lets s1
  have hs1 : Canonical s1 := holds_ite (canonical_onTag h) h
  refine canonical_apdu hs1 ?_
  split
  · exact canonical_refuse hs1
  · exact holds_ite (canonical_refuse hs1) (holds_ite (canonical_refuse hs1) (holds_ite (canonical_refuse hs1) (canonical_authDecide hs1)))

theorem canonical_execReadLogHead (h : Canonical s) : CanonicalNext (execReadLogHead a s) := by
  unfold execReadLogHead
  refine holds_ite (canonical_next h) ?_
  extract_lets n slots
  refine canonical_apdu h ?_
  split
  · exact canonical_refuseEcc h
  · exact canonical_answer (canonical_onTag h)

theorem canonical_execReadCounters (h : Canonical s) : CanonicalNext (execReadCounters a s) := by
  unfold execReadCounters
  refine holds_ite (canonical_next h) ?_
  refine canonical_apdu h ?_
  split
  · exact canonical_refuseEcc h
  · exact canonical_answer (canonical_onTag h)

theorem canonical_execReadVisits (h : Canonical s) : CanonicalNext (execReadVisits a s) := by
  unfold execReadVisits
  refine holds_ite (canonical_next h) ?_
  extract_lets k
  refine canonical_apdu h ?_
  split
  · exact canonical_refuseEcc h
  · exact canonical_answer (canonical_onTag h)

theorem canonical_execWriteVisit (h : Canonical s) : CanonicalNext (execWriteVisit a s) :=
  holds_ite (canonical_next h) (canonical_apdu h (canonical_answer (canonical_onTag (canonical_writeVisitRecord h))))
theorem canonical_execUnsupportedApdu (h : Canonical s) : CanonicalNext (execUnsupportedApdu a s) := by
  unfold execUnsupportedApdu
  split
  · exact canonical_apdu h h
  · exact holds_ite (canonical_apdu h (canonical_refuse h)) (canonical_next h)

end

/-! ### Machine/Applet.lean -/

section
variable {c : Cmd} {s : State} {j : Job} {u unit : Fin 8}

theorem canonical_execAppletInstall (h : Canonical s) : CanonicalNext (execAppletInstall c s) :=
  canonical_xci h (fun _ _ hs => holds_ite (canonical_backToQueue hs) (canonical_unlessRefused hs (canonical_mk (canonical_dispatch
      (canonical_onJob hs)))))
theorem canonical_execAppletRemove (h : Canonical s) : CanonicalNext (execAppletRemove c s) :=
  canonical_xci h (fun _ _ hs => canonical_unlessRefused hs (canonical_mk (holds_ite (canonical_onJob (canonical_onPinnas hs))
      (canonical_flashCommand (canonical_onJob (canonical_onPinnas hs))))))
theorem canonical_execAppletInvoke (h : Canonical s) : CanonicalNext (execAppletInvoke c s) :=
  canonical_xci h (fun _ _ hs => canonical_unlessRefused hs (canonical_mk (canonical_onJob hs)))
theorem canonical_execAppletList (h : Canonical s) : CanonicalNext (execAppletList c s) :=
  canonical_xci h (fun _ _ hs => canonical_unlessRefused hs (canonical_mk (canonical_bufWrite hs)))
theorem canonical_execPinnaMode (h : Canonical s) : CanonicalNext (execPinnaMode c s) :=
  canonical_xci h (fun _ _ hs => canonical_unlessRefused hs (canonical_mk (canonical_flashCommand hs)))
theorem canonical_commitPinnaMode (h : Canonical s) : Canonical (commitPinnaMode s j) :=
  canonical_settleReturns (canonical_onJob (holds_foldl (canonical_onPinnas (canonical_appendConfig h)) (fun _ _ ha => holds_ite ha
      (canonical_startTest ha))))
theorem canonical_touchCache {a : Nat} (h : Canonical s) : Canonical (touchCache s a) := canonical_onPinnas h
theorem canonical_startInvocation (h : Canonical s) : Canonical (startInvocation s j u) := by
  unfold startInvocation
  extract_lets a x
  refine holds_ite (canonical_complete h) ?_
  split
  · have hs0 := canonical_of_eq_mk (canonical_startDraw h) ‹_›
    exact hs0
  · have hs0 := canonical_of_eq_mk (canonical_startDraw h) ‹_›
    exact canonical_instantiateInv (canonical_onPinna (canonical_touchCache (canonical_onJob hs0)))

theorem canonical_execInvocationDispatch (h : Canonical s) : CanonicalNext (execInvocationDispatch s) := by
  unfold execInvocationDispatch
  split
  · exact canonical_next h
  · split
    · exact canonical_next h
    · exact canonical_next (canonical_startInvocation (canonical_countClass h))

theorem canonical_suspendSoon (h : Canonical s) : Canonical (suspendSoon s u) := holds_ite (canonical_onPinna h) (canonical_suspendUnit h)
theorem canonical_execQuantumBoundary (h : Canonical s) : CanonicalNext (execQuantumBoundary s) := by
  unfold execQuantumBoundary
  extract_lets t s1
  have hs1 : Canonical s1 := canonical_onClocks (canonical_atInstant h)
  split
  · exact canonical_next hs1
  · refine holds_ite (canonical_next hs1) ?_
    split
    · exact canonical_next hs1
    · exact canonical_next (canonical_suspendSoon hs1)

theorem canonical_execInvocationResume (h : Canonical s) : CanonicalNext (execInvocationResume unit s) := by
  unfold execInvocationResume
  split
  · exact canonical_next h
  · split
    · exact canonical_next h
    · refine holds_ite (canonical_next h) ?_
      extract_lets s1 s2 s3
      have hs1 : Canonical s1 := canonical_onPinna h
      have hs2 : Canonical s2 := canonical_onPinnas hs1
      have hs3 : Canonical s3 := canonical_onDrbg hs2
      refine canonical_next ?_
      split
      · exact canonical_onJob hs3
      · exact hs3

theorem canonical_execBudgetExpiry (h : Canonical s) : CanonicalNext (execBudgetExpiry unit s) := by
  unfold execBudgetExpiry
  extract_lets p
  split
  · exact canonical_next h
  · exact holds_ite (canonical_next h) (canonical_next (canonical_trap (canonical_atInstant h)))

theorem canonical_execWakecmpMatch (h : Canonical s) : CanonicalNext (execWakecmpMatch unit s) :=
  holds_ite (canonical_next h) (canonical_next (holds_ite (canonical_awaken (canonical_atInstant h)) (canonical_onPinna
      (canonical_atInstant h))))
theorem canonical_execWakeTask {core : Fin 8} (h : Canonical s) : CanonicalNext (execWakeTask core s) := by
  unfold execWakeTask
  extract_lets t
  split
  · extract_lets s1
    have hs1 : Canonical s1 := canonical_onTask h
    exact canonical_next (holds_ite (canonical_taskAction (fun _ _ hs => canonical_appendNote hs) hs1) hs1)

end

end Sys2Proof.Proofs
end

section
/-! SUPPORT. The canonical form is kept: entropy, Sorus, share sessions, Turtis and updates. -/

namespace Sys2Proof.Proofs

open Sys2Proof Sys2Proof.Machine Sys2Proof.Claims

-- One declaration after another: checked side by side, the many short proofs of this part hold a thread each.
set_option Elab.async false

/-! ### Machine/EntropyCmds.lean -/

section
variable {c : Cmd} {s : State} {n : Nat} {src : Fin 4}

theorem canonical_execRandom (h : Canonical s) : CanonicalNext (execRandom c s) :=
  canonical_xci h (fun _ _ hs => canonical_unlessRefused hs (canonical_withDraw hs (fun _ _ hs1 => canonical_mk (canonical_bufWrite hs1))))
theorem canonical_execReseed (h : Canonical s) : CanonicalNext (execReseed c s) :=
  canonical_xci h (fun _ _ hs => canonical_unlessRefused hs (holds_ite (canonical_backToQueue hs) (canonical_mk (canonical_reseed hs))))
theorem canonical_execEntropyStatus (h : Canonical s) : CanonicalNext (execEntropyStatus c s) :=
  canonical_xci h (fun _ _ hs => canonical_mk hs)
theorem canonical_execRawMode (h : Canonical s) : CanonicalNext (execRawMode c s) := by
  unfold execRawMode
  refine canonical_xci h (fun s1 x hs1 => ?_)
  extract_lets m pat
  refine canonical_unlessRefused hs1 ?_
  exact holds_ite (canonical_mk (canonical_instantiateAll (canonical_onEntropy hs1))) (holds_ite (canonical_mk (canonical_onEntropy
      (canonical_leaveRaw hs1))) (canonical_mk (canonical_leaveRaw hs1)))

theorem canonical_execRawRead (h : Canonical s) : CanonicalNext (execRawRead c s) := by
  unfold execRawRead
  refine canonical_xci h (fun s1 x hs1 => ?_)
  extract_lets buf n bs
  refine canonical_unlessRefused hs1 ?_
  split
  · have hs11 := canonical_of_eq_mk_snd (canonical_takeFree (canonical_onEntropy hs1)) ‹_›
    split
    · have hs12 := canonical_of_eq_mk_snd (canonical_takeFree hs11) ‹_›
      exact canonical_mk (canonical_bufWrite hs12)

theorem canonical_onSource {g : Source → Source} (h : Canonical s) : Canonical (onSource s n g) := canonical_onEntropy h
theorem canonical_healthEntry {test : Nat} {retired : Bool} (h : Canonical s) : Canonical (healthEntry s n test retired) :=
  canonical_append h
theorem canonical_execEntropyBlock (h : Canonical s) : CanonicalNext (execEntropyBlock src s) :=
  holds_ite (canonical_next h) (canonical_next (canonical_onEntropy h))
theorem canonical_execEntropyHealth {adaptive : Bool} (h : Canonical s) : CanonicalNext (execEntropyHealth src adaptive s) := by
  unfold execEntropyHealth
  extract_lets x test recent gone s1 s2 s3
  have hs1 : Canonical s1 := canonical_onSource h
  have hs2 : Canonical s2 := canonical_onEntropy hs1
  have hs3 : Canonical s3 := canonical_raiseWaking hs2
  exact holds_ite (canonical_next h) (canonical_next (holds_ite (canonical_healthEntry hs3) hs3))

theorem canonical_execStartUpTestDone {pass : Bool} (h : Canonical s) : CanonicalNext (execStartUpTestDone src pass s) := by
  unfold execStartUpTestDone
  extract_lets x s1
  have hs1 : Canonical s1 := canonical_onSource h
  refine holds_ite (canonical_next h) ?_
  exact holds_ite (canonical_next (canonical_healthEntry hs1)) (holds_ite (canonical_next hs1) (canonical_next (canonical_healthEntry
      (canonical_raiseWaking (canonical_onEntropy hs1)))))

theorem canonical_execReseedDue {inst : Inst} (h : Canonical s) : CanonicalNext (execReseedDue inst s) := by
  unfold execReseedDue
  extract_lets d isInv s1
  have hs1 : Canonical s1 := holds_ite h (canonical_atInstant h)
  refine holds_ite (canonical_next h) ?_
  exact holds_ite (canonical_next (holds_ite hs1 (canonical_raiseWaking (canonical_onDrbg hs1)))) (holds_ite (canonical_next hs1)
      (canonical_next (canonical_reseed hs1)))

end

/-! ### Machine/SorusCmds.lean -/

section
variable {s : State} {c : Cmd} {ds : List (Nat × Nat)}

theorem canonical_keepDescs (h : Canonical s) : Canonical (keepDescs s c ds) := canonical_onJob h
theorem canonical_awaitScratch {j : Job} {need : Nat} (h : Canonical s) : CanonicalFst (awaitScratch s j need ds) :=
  canonical_mk (canonical_onJob (canonical_keepDescs h))
theorem canonical_execSorusKernel (h : Canonical s) : CanonicalNext (execSorusKernel c s) :=
  canonical_xci h (fun _ _ hs => canonical_unlessRefused hs (canonical_awaitScratch hs))
theorem canonical_execSorusKeyswitch (h : Canonical s) : CanonicalNext (execSorusKeyswitch c s) :=
  canonical_xci h (fun _ _ hs => canonical_unlessRefused hs (canonical_awaitScratch hs))
theorem canonical_execSorusRefresh (h : Canonical s) : CanonicalNext (execSorusRefresh c s) :=
  canonical_xci h (fun _ _ hs => canonical_unlessRefused hs (canonical_awaitScratch hs))
theorem canonical_execSorusEncrypt (h : Canonical s) : CanonicalNext (execSorusEncrypt c s) :=
  canonical_xci h (fun _ _ hs => canonical_unlessRefused hs (canonical_awaitScratch (canonical_onJob hs)))

end

/-! ### Machine/SorusRun.lean -/

section
variable {s : State} {c : Cmd} {j : Job}

theorem canonical_storeOpnds {m : ModSet} {os : List Opnd} {x : Scratch} (h : Canonical s) : CanonicalFst (storeOpnds s c m os x) :=
  holds_foldl (canonical_mk h) (fun _ _ ha => holds_ite (canonical_mk (canonical_bufWrite ha)) ha)
theorem canonical_runKernel (h : Canonical s) : CanonicalFst (runKernel s c) := by
  unfold runKernel
  extract_lets m os
  split
  · have hs1 := canonical_of_eq_mk (canonical_storeOpnds h) ‹_›
    exact canonical_mk hs1

theorem canonical_runKeyswitch (h : Canonical s) : CanonicalFst (runKeyswitch s j) := canonical_mk (canonical_bufWrite h)
theorem canonical_runRefresh (h : Canonical s) : CanonicalFst (runRefresh s j) := canonical_mk (canonical_bufWrite h)
theorem canonical_runRingEncrypt (h : Canonical s) : CanonicalFst (runRingEncrypt s j) := canonical_mk (canonical_bufWrite h)

end

/-! ### Machine/Share.lean -/

section
variable {s : State} {c : Cmd} {j : Job}

theorem canonical_onShare {g : Share → Share} (h : Canonical s) : Canonical (onShare s g) := canonical_onEngines h
theorem canonical_execShareOpen (h : Canonical s) : CanonicalNext (execShareOpen c s) :=
  canonical_xci h (fun _ _ hs => canonical_unlessRefused hs (canonical_withOwn hs (fun _ _ hs1 => canonical_mk (canonical_shareEntry
      (canonical_onShare hs1)))))
theorem canonical_awaitSlice {n : Nat} (h : Canonical s) : CanonicalFst (awaitSlice s j n) :=
  canonical_mk (canonical_dispatch (canonical_onJob h))
theorem canonical_execShareInput (h : Canonical s) : CanonicalNext (execShareInput c s) :=
  canonical_xci h (fun _ _ hs => holds_ite (canonical_backToQueue hs) (canonical_unlessRefused hs (canonical_awaitSlice hs)))
theorem canonical_execShareCompute (h : Canonical s) : CanonicalNext (execShareCompute c s) :=
  canonical_xci h (fun _ _ hs => holds_ite (canonical_backToQueue hs) (canonical_unlessRefused hs (canonical_awaitSlice hs)))
theorem canonical_execShareReveal (h : Canonical s) : CanonicalNext (execShareReveal c s) :=
  canonical_xci h (fun _ _ hs => holds_ite (canonical_backToQueue hs) (canonical_unlessRefused hs (canonical_awaitSlice
      (canonical_onJob hs))))
theorem canonical_execShareClose (h : Canonical s) : CanonicalNext (execShareClose c s) :=
  canonical_xci h (fun _ _ hs => canonical_unlessRefused hs (holds_ite (canonical_mk (canonical_onShare hs)) (canonical_mk
      (canonical_endShare hs))))
theorem canonical_settleCloses (h : Canonical s) : Canonical (settleCloses s) :=
  holds_foldl h (fun _ _ ha => holds_ite (canonical_post ha) (holds_ite ha (canonical_post (canonical_endShare ha))))
theorem canonical_runCompute (h : Canonical s) : CanonicalFst (runCompute s) := canonical_mk (canonical_onShare h)
theorem canonical_runInput (h : Canonical s) : CanonicalFst (runInput s j) :=
  holds_ite (canonical_mk h) (canonical_mk (canonical_onShare h))
theorem canonical_runReveal (h : Canonical s) : CanonicalFst (runReveal s j) := canonical_mk (canonical_bufWrite h)

end

/-! ### Machine/SorusEvents.lean -/

section
variable {s : State} {j : Job} {slice : Fin 4}

theorem canonical_reserveScratch (h : Canonical s) : Canonical (reserveScratch s j) := holds_ite h (canonical_onJob h)
theorem canonical_execScratchReserve {fn : FnId} {q : PairId} {tag : BitVec 16} (h : Canonical s) :
    CanonicalNext (execScratchReserve fn q tag s) := by
  unfold execScratchReserve
  split
  · exact canonical_next h
  · exact canonical_next (canonical_dispatch (canonical_reserveScratch h))

theorem canonical_execFrondBorrow (h : Canonical s) : CanonicalNext (execFrondBorrow slice s) := by
  unfold execFrondBorrow
  split
  · exact canonical_next h
  · exact holds_ite (canonical_next (canonical_dispatch h)) (canonical_next h)

theorem canonical_stepEnds {c : Cmd} {stop : Nat} (h : Canonical s) : Canonical (stepEnds s c stop) := canonical_onJob h
theorem canonical_macroStep {n : Fin 4} (h : Canonical s) : Canonical (macroStep s j n) :=
  holds_ite (canonical_onJob h) (holds_ite h (canonical_latticeAt h))
theorem canonical_execKskChunk (h : Canonical s) : CanonicalNext (execKskChunk slice s) := by
  unfold execKskChunk
  split
  · exact canonical_next h
  · refine holds_ite (canonical_next h) ?_
    split
    · exact canonical_next h
    · refine holds_ite (canonical_next (canonical_complete h)) ?_
      extract_lets s1
      have hs1 : Canonical s1 := canonical_onJob h
      refine holds_ite (canonical_next (canonical_dispatch (canonical_macroStep (canonical_stepEnds (canonical_giveBack hs1))))) ?_
      exact holds_ite (canonical_next (canonical_dispatch (canonical_macroStep (canonical_giveBack hs1)))) (canonical_next
          (canonical_macroStep hs1))

theorem canonical_runSlice (h : Canonical s) : CanonicalFst (runSlice s j) := by
  unfold runSlice
  refine holds_ite (canonical_runKernel h) ?_
  refine holds_ite (canonical_runKeyswitch h) ?_
  refine holds_ite (canonical_runRefresh h) ?_
  exact holds_ite (canonical_runRingEncrypt h) (holds_ite (canonical_mk h) (holds_ite (canonical_runInput h) (holds_ite
      (canonical_runCompute h) (canonical_runReveal h))))

theorem canonical_execSorusJobDone {residueOk pass : Bool} (h : Canonical s) : CanonicalNext (execSorusJobDone slice residueOk pass s) := by
  unfold execSorusJobDone
  split
  · exact canonical_next h
  · refine holds_ite (canonical_next h) ?_
    refine holds_ite ?_ ?_
    · exact holds_ite (canonical_next (canonical_dispatch (canonical_backInService (canonical_abandon h)))) (canonical_next
          (canonical_dispatch (canonical_failUnit h)))
    · refine holds_ite (canonical_next h) ?_
      split
      · have hs1 := canonical_of_eq_mk (canonical_runSlice h) ‹_›
        exact canonical_next (canonical_settleCloses (canonical_complete hs1))

end

/-! ### Machine/Manifest.lean -/

section
variable {s : State}

theorem canonical_bankWrite {a : Nat} {bs : Bytes} (h : Canonical s) : Canonical (bankWrite s a bs) := canonical_writeFlash h
theorem canonical_bankErase {b : Nat} (h : Canonical s) : Canonical (bankErase s b) := canonical_writeFlash h

end

/-! ### Machine/Turtis.lean -/

section
variable {s : State} {p : Fin 2} {k hw : Nat} {a : Byte} {payload : Bytes}

theorem canonical_portEvent (h : Canonical s) : Canonical (portEvent s p k) := canonical_raise h
theorem canonical_onNbr {g : Nbr → Nbr} (h : Canonical s) : Canonical (onNbr s p a g) := canonical_onPort h
theorem canonical_drawNonce (h : Canonical s) : Canonical (drawNonce s p) := by
  unfold drawNonce
  refine holds_ite h ?_
  refine holds_ite (canonical_onPort h) ?_
  split
  · have hs1 := canonical_of_eq_mk_snd (canonical_drawOwn h) ‹_›
    exact canonical_onPort hs1
  · have hs1 := canonical_of_eq_mk_snd (canonical_drawOwn h) ‹_›
    exact hs1

theorem canonical_startPort {word : U64} (h : Canonical s) : Canonical (startPort s p word) := canonical_drawNonce (canonical_onPort h)
theorem canonical_setReceiver {r : Receiver} (h : Canonical s) : Canonical (setReceiver s p a r) := canonical_onUpdate h
theorem canonical_logReturned (h : Canonical s) : Canonical (logReturned s p a hw) := canonical_append (canonical_onNbr h)
theorem canonical_settleReturned (h : Canonical s) : Canonical (settleReturned s p a hw) := holds_ite (canonical_logReturned h) h
theorem canonical_openLink {nonce : Bytes} (h : Canonical s) : Canonical (openLink s p a nonce) :=
  holds_ite (canonical_onNbr h) (holds_ite (canonical_onNbr (canonical_onNbr h)) (canonical_logReturned (canonical_onNbr h)))
theorem canonical_loseNbr (h : Canonical s) : Canonical (loseNbr s p a) :=
  canonical_append (canonical_portEvent (canonical_onPort (canonical_onNbr (canonical_settleReturned h))))
theorem canonical_emptySlotOf (h : Canonical s) : Canonical (emptySlotOf s p a) :=
  holds_ite (canonical_loseNbr (canonical_onNbr h)) (canonical_onNbr h)
theorem canonical_countIntrusion (h : Canonical s) : Canonical (countIntrusion s p a) :=
  holds_ite h (holds_ite (canonical_onNbr h) (holds_ite (canonical_append (canonical_onPort (canonical_onNbr h))) (canonical_append
      (canonical_onPort (canonical_onNbr h)))))
theorem canonical_seeIntrusion {offset : ℤ} (h : Canonical s) : Canonical (seeIntrusion s p a offset) :=
  canonical_countIntrusion (canonical_onNbr (canonical_onPort h))
theorem canonical_seeStranger (h : Canonical s) : Canonical (seeStranger s p a) :=
  holds_ite (canonical_append (canonical_onPort h)) (canonical_onPort h)
theorem canonical_checkRosterGen {gen : Nat} (h : Canonical s) : Canonical (checkRosterGen s p a gen) :=
  holds_ite h (canonical_append (canonical_onNbr h))
theorem canonical_clearReport (h : Canonical s) : Canonical (clearReport s p) := holds_foldl h (fun _ _ ha => canonical_onNbr ha)
theorem canonical_send {pid flags : Nat} {dst : Byte} (h : Canonical s) : Canonical (send s p pid flags dst payload) := canonical_onPort h
theorem canonical_sendHalf {c : Nat} (h : Canonical s) : Canonical (sendHalf s p c k payload) := canonical_onPort h
theorem canonical_onFeed {g : Feed → Feed} (h : Canonical s) : Canonical (onFeed s p g) := canonical_onPort h
theorem canonical_askGrant (h : Canonical s) : Canonical (askGrant s p) := holds_ite (canonical_onPort h) (canonical_onPort h)
theorem canonical_beginFeed {pull : Bool} (h : Canonical s) : Canonical (beginFeed s p pull) :=
  holds_ite h (canonical_askGrant (canonical_onFeed h))
theorem canonical_sendGranted (h : Canonical s) : Canonical (sendGranted s p) := by
  unfold sendGranted
  extract_lets x members s1 s2
  have hs1 : Canonical s1 := canonical_onFeed h
  have hs2 : Canonical s2 := holds_foldl hs1 (fun _ _ ha => canonical_setReceiver ha)
  refine holds_ite (canonical_send hs2) ?_
  refine holds_ite (canonical_onPort (canonical_send h)) ?_
  split
  · exact canonical_onFeed (canonical_sendHalf h)
  · split
    · exact canonical_send h
    · exact canonical_onFeed (canonical_sendHalf h)

theorem canonical_sendOwn (h : Canonical s) : Canonical (sendOwn s p) := by
  unfold sendOwn
  extract_lets x
  refine holds_ite (canonical_send (canonical_onPort h)) ?_
  refine holds_ite (canonical_clearReport (canonical_send (canonical_onPort h))) ?_
  split
  · exact canonical_send (canonical_onPort h)
  · exact holds_ite (canonical_clearReport (canonical_onUpdate (canonical_send h))) (holds_ite (canonical_send h) (canonical_clearReport
        (canonical_send h)))

theorem canonical_sendInSlot (h : Canonical s) : Canonical (sendInSlot s p) :=
  holds_ite (canonical_onPort (canonical_send h)) (holds_ite (canonical_sendGranted h) (canonical_sendOwn h))
theorem canonical_missBeacon (h : Canonical s) : Canonical (missBeacon s p) :=
  holds_ite (canonical_onPort (canonical_drawNonce (canonical_onPort h))) (canonical_onPort h)
theorem canonical_closeSlot (h : Canonical s) : Canonical (closeSlot s p) := by
  unfold closeSlot
  extract_lets x s1
  have hs1 : Canonical s1 := holds_ite (canonical_missBeacon h) h
  split
  · exact holds_ite hs1 (canonical_emptySlotOf hs1)
  · exact hs1

theorem canonical_applyRoster (h : Canonical s) : Canonical (applyRoster s) := by
  unfold applyRoster
  split
  · exact h
  · exact holds_foldl (canonical_onUpdate h) (fun _ _ ha => canonical_onPort ha)

theorem canonical_startSuperframe (h : Canonical s) : Canonical (startSuperframe s p) :=
  canonical_onPort (holds_ite (canonical_drawNonce (canonical_applyRoster (canonical_applyDeferred h))) (canonical_applyRoster
      (canonical_applyDeferred h)))

end

/-! ### Machine/Update.lean -/

section
variable {s : State} {c : Cmd}

theorem canonical_beginHandover (h : Canonical s) : Canonical (beginHandover s) := canonical_onBoot (canonical_onUpdate h)
theorem canonical_relayFeeds {except : Option (Fin 2)} (h : Canonical s) : Canonical (relayFeeds s except) :=
  holds_foldl h (fun _ _ ha => holds_ite ha (canonical_beginFeed ha))
theorem canonical_execUpdateStart (h : Canonical s) : CanonicalNext (execUpdateStart c s) := by
  unfold execUpdateStart
  refine canonical_xci h (fun s1 x hs1 => ?_)
  extract_lets pkg isLocal relay m s1' s2
  have hs1' : Canonical s1' := canonical_onUpdate hs1
  have hs2 : Canonical s2 := holds_ite (canonical_beginHandover hs1') hs1'
  exact canonical_unlessRefused hs1 (canonical_mk (holds_ite (canonical_relayFeeds hs2) hs2))

theorem canonical_execUpdateStatus (h : Canonical s) : CanonicalNext (execUpdateStatus c s) :=
  canonical_xci h (fun _ _ hs => canonical_mk hs)
theorem canonical_execChainStatus (h : Canonical s) : CanonicalNext (execChainStatus c s) :=
  canonical_xci h (fun _ _ hs => canonical_unlessRefused hs (holds_ite (canonical_mk hs) (canonical_mk hs)))
theorem canonical_execRosterSet (h : Canonical s) : CanonicalNext (execRosterSet c s) :=
  canonical_xci h (fun _ _ hs => canonical_unlessRefused hs (canonical_mk (canonical_onJob (canonical_flashCommand hs))))
theorem canonical_commitRoster {j : Job} (h : Canonical s) : CanonicalFst (commitRoster s j) :=
  canonical_mk (holds_ite (canonical_onUpdate (canonical_appendConfig h)) (canonical_applyRoster (canonical_onUpdate
      (canonical_appendConfig h))))
theorem canonical_sendAccept {p : Fin 2} {dst : Byte} {sess result hw : Nat} (h : Canonical s) :
    Canonical (sendAccept s p dst sess result hw) :=
  canonical_onPort h
theorem canonical_updateFailed {cause : Nat} (h : Canonical s) : Canonical (updateFailed s cause) :=
  canonical_deviceReset (canonical_append h)
theorem canonical_closeTurtisPath (h : Canonical s) : Canonical (closeTurtisPath s) := by
  unfold closeTurtisPath
  exact canonical_onBoot (canonical_onUpdate (canonical_setDomain (canonical_setDomain (canonical_onPort h))))

theorem canonical_pullFailed (h : Canonical s) : Canonical (pullFailed s) := canonical_onBoot (canonical_onUpdate h)
theorem canonical_pullFinished (h : Canonical s) : Canonical (pullFinished s) :=
  holds_ite (canonical_onBoot (canonical_onUpdate h)) (canonical_pullFailed h)
theorem canonical_finishUpdate (h : Canonical s) : Canonical (finishUpdate s) :=
  holds_ite (holds_ite (canonical_pullFinished h) h) (holds_ite (canonical_deviceReset (canonical_append h)) (holds_ite
      (canonical_onUpdate h) h))
theorem canonical_writeNext (h : Canonical s) : Canonical (writeNext s) := by
  unfold writeNext
  refine holds_ite h ?_
  extract_lets u s1 s2
  have hs1 : Canonical s1 := by
    unfold s1
    split
    · exact holds_ite h (canonical_openFlash h)
    · exact h
  have hs2 : Canonical s2 := holds_ite (canonical_onUpdate (canonical_sendAccept hs1)) hs1
  exact holds_ite (holds_ite (holds_ite (canonical_updateFailed hs2) (canonical_pullFailed hs2)) (canonical_openFlash hs2)) hs2

theorem canonical_crozierErased {b : Nat} (h : Canonical s) : Canonical (crozierErased s b) :=
  canonical_writeNext (canonical_onUpdate (canonical_bankErase h))
theorem canonical_pageProgrammed {c : Nat} (h : Canonical s) : Canonical (pageProgrammed s c) :=
  canonical_writeNext (canonical_onUpdate (canonical_bankWrite h))
theorem canonical_execCrozierHandover (h : Canonical s) : CanonicalNext (execCrozierHandover s) := by
  unfold execCrozierHandover
  refine holds_ite (canonical_next h) ?_
  extract_lets left s1 s2 s3 s4 s5
  have hs1 : Canonical s1 := holds_ite h (canonical_atInstant h)
  have hs2 : Canonical s2 := holds_foldl hs1 (fun _ _ ha => canonical_complete ha)
  have hs3 : Canonical s3 := canonical_dropInvocations hs2
  have hs4 : Canonical s4 := canonical_onUpdate (canonical_appendConfig hs3)
  have hs5 : Canonical s5 := by
    unfold s5
    split
    · exact canonical_post hs4
    · exact hs4
  exact canonical_next (canonical_writeNext hs5)

end

/-! ### Machine/TurtisFrames.lean -/

section
variable {s : State} {p port : Fin 2} {f : Frame} {pid c st : Nat} {sess : Bytes} {body : State → State} {o : Offered}

theorem canonical_badMac (h : Canonical s) : Canonical (badMac s p) := canonical_onPort h
theorem canonical_markHeard (h : Canonical s) : Canonical (markHeard s f) := canonical_onNbr (canonical_onPort h)
theorem canonical_hear {nonce : Bytes} {sfn : Nat} (h : Canonical s) (hbody : ∀ t, Canonical t → Canonical (body t)) :
    CanonicalNext (hear s f pid nonce sfn sess body) := by
  unfold hear
  extract_lets p x g s1 s2
  have hs1 : Canonical s1 := holds_ite (canonical_onPort h) h
  have hs2 : Canonical s2 := canonical_portEvent (canonical_markHeard hs1)
  refine holds_ite (canonical_next h) ?_
  refine holds_ite (canonical_next (canonical_onPort h)) ?_
  refine holds_ite (canonical_next (canonical_seeStranger h)) ?_
  refine holds_ite (canonical_next h) ?_
  exact holds_ite (canonical_next (canonical_badMac h)) (holds_ite (canonical_next (canonical_seeIntrusion h)) (holds_ite (canonical_next
      (hbody _ hs2)) (canonical_next hs2)))

theorem canonical_hearKnown (h : Canonical s) (hbody : ∀ t, Canonical t → Canonical (body t)) :
    CanonicalNext (hearKnown s f pid sess body) :=
  canonical_hear h hbody
theorem canonical_takeReport {k : Nat} (h : Canonical s) : Canonical (takeReport s f k) :=
  holds_foldl h (fun _ _ ha => holds_ite ha (canonical_countIntrusion ha))
theorem canonical_takeBeacon (h : Canonical s) : Canonical (takeBeacon s f) :=
  holds_ite h (canonical_checkRosterGen (holds_ite (canonical_drawNonce (canonical_openLink (canonical_onPort h))) (canonical_openLink
      (canonical_onPort h))))
theorem canonical_execBeacon (h : Canonical s) : CanonicalNext (execBeacon f s) := canonical_hear h (fun _ hs => canonical_takeBeacon hs)
theorem canonical_takeHello (h : Canonical s) : Canonical (takeHello s f) :=
  holds_ite (canonical_takeReport (canonical_checkRosterGen (holds_ite (canonical_onFeed (canonical_setReceiver (canonical_openLink h)))
      (canonical_openLink h)))) (canonical_seeStranger h)
theorem canonical_execHello (h : Canonical s) : CanonicalNext (execHello f s) := canonical_hear h (fun _ hs => canonical_takeHello hs)
theorem canonical_execTurtisClaim (h : Canonical s) : CanonicalNext (execTurtisClaim f s) :=
  canonical_hear h (fun _ hs => canonical_onPort hs)
theorem canonical_execGrantReq (h : Canonical s) : CanonicalNext (execGrantReq f s) :=
  canonical_hearKnown h (fun _ hs => canonical_onPort hs)
theorem canonical_execTurtisEnd (h : Canonical s) : CanonicalNext (execTurtisEnd f s) :=
  canonical_hearKnown h (fun _ hs => canonical_onPort hs)
theorem canonical_joinSession {hw : Nat} (h : Canonical s) : Canonical (joinSession s f o hw) := canonical_onUpdate h
theorem canonical_takePull (h : Canonical s) : Canonical (takePull s f o) :=
  holds_ite h (holds_ite (canonical_onUpdate h) (canonical_writeNext (canonical_onBoot (canonical_onUpdate (canonical_joinSession h)))))
theorem canonical_takeOffer (h : Canonical s) : Canonical (takeOffer s f o) := by
  unfold takeOffer
  extract_lets r
  refine holds_ite (canonical_append (canonical_sendAccept h)) ?_
  exact holds_ite (canonical_sendAccept (canonical_onUpdate h)) (canonical_relayFeeds (canonical_beginHandover (canonical_onUpdate
      (canonical_joinSession h))))

theorem canonical_execOffer (h : Canonical s) : CanonicalNext (execOffer f s) :=
  canonical_hearKnown h (fun _ hs => holds_ite (holds_ite (canonical_takePull hs) hs) (holds_ite hs (canonical_takeOffer hs)))
theorem canonical_execAcceptFrame (h : Canonical s) : CanonicalNext (execAcceptFrame f s) :=
  canonical_hearKnown h (fun _ hs => holds_ite hs (holds_ite (canonical_onFeed (canonical_setReceiver (canonical_settleReturned hs)))
      (canonical_setReceiver (canonical_settleReturned hs))))
theorem canonical_addAck (h : Canonical s) : Canonical (addAck s c st) := canonical_onUpdate h
theorem canonical_takeData (h : Canonical s) : Canonical (takeData s f) := by
  unfold takeData
  extract_lets u c k mask s1 s2
  have hs1 : Canonical s1 := canonical_onUpdate h
  have hs2 : Canonical s2 := holds_ite (canonical_addAck hs1) (holds_ite (canonical_addAck hs1) hs1)
  exact holds_ite h (holds_ite (holds_ite (canonical_addAck h) (holds_ite (canonical_addAck h) h)) (holds_ite h (canonical_writeNext hs2)))

theorem canonical_execTurtisData (h : Canonical s) : CanonicalNext (execTurtisData f s) :=
  canonical_hearKnown h (fun _ hs => holds_ite (canonical_takeData hs) hs)
theorem canonical_takeStatus (h : Canonical s) : Canonical (takeStatus s p c st) := canonical_onFeed h
theorem canonical_takeAck (h : Canonical s) : Canonical (takeAck s f) := by
  unfold takeAck
  extract_lets b p n l s0 hw s1 s2
  have hs0 : Canonical s0 := canonical_takeReport h
  have hs1 : Canonical s1 := canonical_setReceiver hs0
  have hs2 : Canonical s2 := holds_foldl hs1 (fun _ _ ha => canonical_takeStatus ha)
  exact holds_ite hs0 (holds_ite (canonical_updateFailed hs2) (canonical_finishUpdate hs2))

theorem canonical_execTurtisAck (h : Canonical s) : CanonicalNext (execTurtisAck f s) :=
  canonical_hearKnown h (fun _ hs => canonical_takeAck hs)
theorem canonical_execPullReq (h : Canonical s) : CanonicalNext (execPullReq f s) :=
  canonical_hearKnown h (fun _ hs => holds_ite hs (canonical_onFeed (canonical_beginFeed hs)))
theorem canonical_execDiscardedFrame {why : Discard} (h : Canonical s) : CanonicalNext (execDiscardedFrame port why s) := by
  unfold execDiscardedFrame
  refine holds_ite (canonical_next h) ?_
  split
  · exact canonical_next (canonical_onPort h)
  · exact canonical_next (canonical_seeStranger h)
  · exact canonical_next (canonical_badMac h)
  · exact canonical_next (canonical_onPort h)
  · exact canonical_next (holds_ite (canonical_seeIntrusion h) (canonical_seeStranger h))
  · exact canonical_next (canonical_onPort h)
  · exact holds_ite (canonical_next (canonical_append (canonical_onPort (canonical_onPort h)))) (canonical_next (canonical_onPort h))

theorem canonical_offerSent (h : Canonical s) : Canonical (offerSent s p) := by
  unfold offerSent
  split
  · split
    · exact holds_ite h (canonical_post h)
    · exact h
  · exact h

theorem canonical_execSlotStart {echoOk : Bool} (h : Canonical s) : CanonicalNext (execSlotStart port echoOk s) := by
  unfold execSlotStart
  refine holds_ite (canonical_next h) ?_
  extract_lets s1 k s2 s3 x s4
  have hs1 : Canonical s1 := canonical_closeSlot h
  have hs2 : Canonical s2 := canonical_onPort hs1
  have hs3 : Canonical s3 := holds_ite (canonical_startSuperframe hs2) hs2
  have hs4 : Canonical s4 := canonical_portEvent hs3
  refine holds_ite (canonical_next hs3) ?_
  exact holds_ite (canonical_next (canonical_onPort hs4)) (canonical_next (canonical_finishUpdate (canonical_offerSent
      (canonical_sendInSlot hs4))))

theorem canonical_execRetryTimerExpiry {addr : Byte} (h : Canonical s) : CanonicalNext (execRetryTimerExpiry port addr s) := by
  unfold execRetryTimerExpiry
  extract_lets n s1 s2
  have hs1 : Canonical s1 := canonical_onNbr h
  have hs2 : Canonical s2 := by
    unfold s2
    split
    · exact canonical_setReceiver hs1
    · exact hs1
  exact holds_ite (canonical_next h) (canonical_next (canonical_finishUpdate (canonical_append hs2)))

end

end Sys2Proof.Proofs
end

section
/-! SUPPORT. The canonical form is kept: tamper responses, resets, flash events, the governor, feed loss and the mailbox. -/

namespace Sys2Proof.Proofs

open Sys2Proof Sys2Proof.Machine Sys2Proof.Claims

-- One declaration after another: checked side by side, the many short proofs of this part hold a thread each.
set_option Elab.async false

/-! ### Machine/Vein.lean -/

section
variable {s : State} {u : UnitRef} {j : Job}

theorem canonical_veinFailed (h : Canonical s) : Canonical (veinFailed s u j) :=
  holds_ite (canonical_dispatch (canonical_failUnit h)) (canonical_onJob h)
theorem canonical_veinLoaded {key : Bytes} (h : Canonical s) : Canonical (veinLoaded s u j key) :=
  holds_ite (canonical_passOne (canonical_onJob h)) (canonical_onJob h)
theorem canonical_veinServed (h : Canonical s) : Canonical (veinServed s u) := canonical_onMedulla h
theorem canonical_execVeinLoad {payload : List VeinBeat} {check : VeinBeat} (h : Canonical s) :
    CanonicalNext (execVeinLoad payload check s) := by
  unfold execVeinLoad
  split
  · exact canonical_next h
  · refine holds_ite (canonical_next h) ?_
    split
    · exact canonical_next (canonical_complete h)
    · split
      · exact canonical_next (canonical_veinLoaded (canonical_veinServed h))
      · exact canonical_next (canonical_veinFailed (canonical_veinServed h))

theorem canonical_abandonLoad (h : Canonical s) : Canonical (abandonLoad s) := by
  unfold abandonLoad
  split
  · exact h
  · exact canonical_veinFailed (canonical_veinServed h)

end

/-! ### Machine/Tamper.lean -/

section
variable {s : State} {n lvl : Nat} {src : Fin 13} {z : ZeroEnv} {seed esc : Bool}

theorem canonical_setLatchBit {b : Nat} (h : Canonical s) : Canonical (setLatchBit s b) := canonical_onTamper h
theorem canonical_latchAlarm (h : Canonical s) : Canonical (latchAlarm s n lvl) := canonical_setStatusBit (canonical_onTamper h)
theorem canonical_holdNotice (h : Canonical s) : Canonical (holdNotice s n lvl) := canonical_onTamper h
theorem canonical_heldEntry {i : Nat} (h : Canonical s) : Canonical (heldEntry s i) := holds_ite h (canonical_append h)
theorem canonical_logHeld (h : Canonical s) : Canonical (logHeld s) :=
  canonical_onTamper (holds_foldl h (fun _ _ hs => canonical_heldEntry hs))
theorem canonical_cutSlots (h : Canonical s) : Canonical (cutSlots s) := holds_foldl h (fun _ _ ha => holds_ite (canonical_onUnit ha) ha)
theorem canonical_abortJobs {src : Nat} (h : Canonical s) : CanonicalFst (abortJobs s src) :=
  canonical_mk (holds_foldl (canonical_cutSlots h) (fun _ _ ha => canonical_fnEvent (canonical_complete ha)))
theorem canonical_suspendFns (h : Canonical s) : Canonical (suspendFns s n) :=
  holds_foldl (canonical_onTamper (canonical_endShare h)) (fun _ _ ha => canonical_complete ha)
theorem canonical_zeroiseClear (h : Canonical s) : Canonical (zeroiseClear s z) := by
  unfold zeroiseClear
  extract_lets s1 s2 s3
  have hs1 : Canonical s1 := canonical_onLog (canonical_writeMedulla h)
  have hs2 : Canonical s2 := canonical_onJobs hs1
  have hs3 : Canonical s3 := canonical_mapFns hs2
  exact canonical_onTag (holds_ite hs3 (canonical_setLatchBit hs3))

theorem canonical_eraseSeed (h : Canonical s) : Canonical (eraseSeed s z) := by
  unfold eraseSeed
  refine holds_ite ?_ (canonical_setLatchBit (canonical_setStatusBit (canonical_setSpores h)))
  refine holds_foldl h (fun a1 i1 ha1 => ?_)
  split
  · have hs1 := canonical_of_eq_mk_snd (canonical_takeFree ha1) ‹_›
    exact canonical_setSpore hs1

theorem canonical_zeroiseEntries (h : Canonical s) : Canonical (zeroiseEntries s z seed) := by
  unfold zeroiseEntries
  split
  · have hs1 := canonical_of_eq_mk_snd (canonical_takeFree h) ‹_›
    exact holds_ite (canonical_append (canonical_append hs1)) (canonical_append hs1)

theorem canonical_resetInside {s : State} {f : FnId} (h : Canonical s) : Canonical (resetInside s f) := by
  unfold resetInside
  extract_lets x r table r1 r2
  have hr1 : Canonical r1 := canonical_onFn (canonical_resetFunction h)
  have hr2 : Canonical r2 := canonical_writeActive hr1 (holds_foldl (P := fun m => SMap.wf 0 m = true) hr1.regs.active
    (fun _ _ hm => SMap.wf_set hm))
  exact canonical_onLink hr2

theorem canonical_resetAllInside (h : Canonical s) : Canonical (resetAllInside s) := holds_foldl h (fun _ _ ha => canonical_resetInside ha)
theorem canonical_renewChainKey (h : Canonical s) : Canonical (renewChainKey s) :=
  holds_ite h (holds_ite (canonical_onLog h) (canonical_onLog (canonical_loadChainKey h)))
theorem canonical_retireNow (h : Canonical s) : Canonical (retireNow s) :=
  canonical_deviceReset (canonical_onTamper (canonical_append (canonical_writeFlash h)))
theorem canonical_retireSoon (h : Canonical s) : Canonical (retireSoon s) :=
  holds_ite (canonical_onFlash (canonical_onTamper h)) (canonical_retireNow h)
theorem canonical_zeroiseAll (h : Canonical s) : Canonical (zeroiseAll s z seed) := by
  unfold zeroiseAll
  extract_lets s1 s2
  have hs1 : Canonical s1 := canonical_endShare (canonical_stopJobs (canonical_cutSlots h))
  have hs2 : Canonical s2 := holds_ite (canonical_eraseSeed (canonical_zeroiseClear hs1)) (canonical_zeroiseClear hs1)
  exact canonical_renewChainKey (canonical_resetAllInside (canonical_renewChainKey hs2))

theorem canonical_applyZeroise {st k : Nat} (h : Canonical s) : Canonical (applyZeroise s n lvl esc st k z) :=
  holds_ite (canonical_append h) (canonical_zeroiseEntries (canonical_append (canonical_zeroiseAll h)))
theorem canonical_respondRunning (h : Canonical s) : Canonical (respondRunning s n lvl esc z) := by
  unfold respondRunning
  extract_lets st s0 k s1 s2 s3
  have hs0 : Canonical s0 := canonical_dozeWake h
  have hs1 : Canonical s1 := canonical_onTamper (canonical_latchAlarm hs0)
  have hs2 : Canonical s2 := canonical_applyZeroise hs1
  have hs3 : Canonical s3 := canonical_fnEvent (canonical_setLatchBit hs2)
  refine holds_ite ?_ (holds_ite (canonical_retireSoon hs3) hs3)
  split
  · have hs11 := canonical_of_eq_mk (canonical_abortJobs (holds_ite (canonical_latchAlarm hs0) hs0)) ‹_›
    extract_lets s2' s3'
    have hs2' : Canonical s2' := holds_ite (canonical_suspendFns hs11) hs11
    have hs3' : Canonical s3' := canonical_append hs2'
    exact canonical_fnEvent (holds_ite (canonical_setLatchBit hs3') hs3')

theorem canonical_respondSentinel (h : Canonical s) : Canonical (respondSentinel s n lvl z) := by
  unfold respondSentinel
  refine holds_ite (canonical_holdNotice h) ?_
  extract_lets s1 s2
  have hs1 : Canonical s1 := canonical_latchAlarm h
  have hs2 : Canonical s2 := holds_ite hs1 (canonical_eraseSeed (canonical_zeroiseClear hs1))
  exact holds_ite hs1 (holds_ite (canonical_retireSoon hs2) hs2)

theorem canonical_logLatch (h : Canonical s) : Canonical (logLatch s) := holds_ite h (canonical_setLatchBit (canonical_append h))
theorem canonical_enterTampered (h : Canonical s) : Canonical (enterTampered s) := by
  unfold enterTampered
  exact canonical_onPower (canonical_onBoot (canonical_logLatch h))

theorem canonical_romChainKey (h : Canonical s) : Canonical (romChainKey s) := holds_ite (canonical_renewChainKey h) h
theorem canonical_logInHibernate (h : Canonical s) : Canonical (logInHibernate s) := by
  unfold logInHibernate
  extract_lets s1 s2
  have hs1 : Canonical s1 := canonical_renewChainKey h
  have hs2 : Canonical s2 := holds_ite (canonical_logLatch hs1) (canonical_logHeld hs1)
  exact canonical_writeMedulla (canonical_onLog hs2)

theorem canonical_respond (h : Canonical s) : Canonical (respond s n lvl esc z) := by
  unfold respond
  refine holds_ite h ?_
  refine holds_ite (canonical_logInHibernate (holds_ite (canonical_holdNotice h) (canonical_respondSentinel h))) ?_
  refine holds_ite ?_ ?_
  · extract_lets s1
    have hs1 : Canonical s1 := canonical_romChainKey (holds_ite (canonical_holdNotice h) (canonical_respondSentinel h))
    exact holds_ite (canonical_enterTampered hs1) hs1
  · refine holds_ite ?_ (holds_ite (canonical_append (canonical_dozeWake h)) (canonical_respondRunning h))
    refine holds_ite (canonical_holdNotice h) ?_
    extract_lets s1
    have hs1 : Canonical s1 := canonical_respondSentinel h
    exact holds_ite (canonical_updateFailed (holds_ite (canonical_renewChainKey hs1) hs1)) hs1

theorem canonical_alarm (h : Canonical s) : Canonical (alarm s n z) :=
  holds_ite h (holds_ite (canonical_raise (canonical_respond (canonical_onTamper h))) (canonical_respond (canonical_onTamper h)))
theorem canonical_execTamperAlarm (h : Canonical s) : CanonicalNext (execTamperAlarm src z s) := canonical_next (canonical_alarm h)
theorem canonical_execShieldForcedCheck {reported : Bool} (h : Canonical s) : CanonicalNext (execShieldForcedCheck reported z s) :=
  holds_ite (canonical_next h) (canonical_next (holds_ite (canonical_onTamper h) (canonical_alarm (canonical_onTamper h))))
theorem canonical_execSourceInactive (h : Canonical s) : CanonicalNext (execSourceInactive src s) :=
  holds_ite (canonical_next h) (canonical_next (canonical_onTamper h))
theorem canonical_execTamperEscalate (h : Canonical s) : CanonicalNext (execTamperEscalate src z s) :=
  holds_ite (canonical_next h) (canonical_next (canonical_respond (holds_ite (canonical_append (canonical_onTamper
      (canonical_atInstant h))) (canonical_onTamper (canonical_atInstant h)))))
theorem canonical_execTamperEnd (h : Canonical s) : CanonicalNext (execTamperEnd s) :=
  holds_ite (canonical_next h) (canonical_next (canonical_dispatch (canonical_append (canonical_onTamper (canonical_atInstant h)))))
theorem canonical_forceSafe {m : Fsm} (h : Canonical s) : Canonical (forceSafe s m z) := by
  unfold forceSafe
  split
  · exact h
  · exact h
  · exact h
  · extract_lets s1 s2 s3
    have hs1 : Canonical s1 := holds_ite (canonical_zeroiseAll h) (canonical_romChainKey (canonical_zeroiseClear h))
    have hs2 : Canonical s2 := canonical_onMedulla hs1
    have hs3 : Canonical s3 := holds_ite (canonical_zeroiseEntries hs2) hs2
    exact holds_ite (canonical_retireSoon hs3) hs3
  · exact canonical_setDomain (canonical_onBoot h)
  · exact holds_ite (canonical_updateFailed h) h
  · exact canonical_abandonLoad h
  · exact canonical_dispatch (canonical_failUnit h)
  · exact canonical_dispatch (canonical_failUnit h)

theorem canonical_execFsmInvalid {x : FsmValue} (h : Canonical s) : CanonicalNext (execFsmInvalid x z s) :=
  holds_ite (canonical_next h) (canonical_next (holds_ite (canonical_alarm (canonical_forceSafe (canonical_onTamper h)))
      (canonical_forceSafe (canonical_onTamper h))))

end

/-! ### Machine/ResetCmds.lean -/

section
variable {s : State} {j : Job} {c : Cmd} {w : Nat}

theorem canonical_thenAct {act : State → State} (h : Canonical s) (hact : ∀ t, Canonical t → Canonical (act t)) :
    CanonicalFst (thenAct s j act) :=
  canonical_mk (hact _ (canonical_post h))
theorem canonical_execDeviceReset (h : Canonical s) : CanonicalNext (execDeviceReset c s) :=
  canonical_xci h (fun _ _ hs => canonical_unlessRefused hs (canonical_thenAct hs (fun _ ha => canonical_deviceReset ha)))
theorem canonical_execRecoveryRequest (h : Canonical s) : CanonicalNext (execRecoveryRequest c s) :=
  canonical_xci h (fun _ _ hs => canonical_unlessRefused hs (canonical_thenAct hs (fun _ ha => canonical_deviceReset ha)))
theorem canonical_execDebugArm (h : Canonical s) : CanonicalNext (execDebugArm c s) :=
  canonical_xci h (fun _ _ hs => canonical_unlessRefused hs (canonical_thenAct hs (fun _ hx => canonical_deviceReset
      (canonical_onBoot hx))))
theorem canonical_programOtp (h : Canonical s) : Canonical (programOtp s c w) := canonical_onFlash h
theorem canonical_execProvision (h : Canonical s) : CanonicalNext (execProvision c s) :=
  canonical_xci h (fun _ _ hs => canonical_unlessRefused hs (canonical_withSeedDraws hs (fun _ _ hs1 => canonical_mk (canonical_onJob
      (canonical_programOtp hs1)))))
theorem canonical_renewSeed {bs : Bytes} (h : Canonical s) : Canonical (renewSeed s bs) :=
  canonical_renewSlot0 (canonical_writeSeed (canonical_setStatusBit (canonical_setSpores h)))
theorem canonical_otpProgrammed (h : Canonical s) : Canonical (otpProgrammed s j w) := by
  unfold otpProgrammed
  extract_lets s1 s2
  have hs1 : Canonical s1 := canonical_writeFlash h
  have hs2 : Canonical s2 := canonical_append (holds_ite hs1 (canonical_renewSeed hs1))
  exact holds_ite (canonical_deviceReset (canonical_post hs2)) (canonical_programOtp hs1)

theorem canonical_otpFailed (h : Canonical s) : Canonical (otpFailed s j w) := by
  unfold otpFailed
  split
  · have hs1 := canonical_of_eq_mk_snd (canonical_takeFree h) ‹_›
    exact canonical_post (canonical_writeFlash hs1)

theorem canonical_execRetire (h : Canonical s) : CanonicalNext (execRetire c s) :=
  canonical_xci h (fun _ _ hs => canonical_unlessRefused hs (canonical_thenAct hs (fun _ ha => canonical_retireSoon
      (canonical_zeroiseEntries (canonical_zeroiseAll ha)))))
theorem canonical_enterHibernate {s : State} (h : Canonical s) : Canonical (enterHibernate s) :=
  have hdown : Canonical (fieldDown s) := canonical_fieldDown h
  { hdown with ports := rfl }

theorem canonical_execHibernate (h : Canonical s) : CanonicalNext (execHibernate c s) :=
  canonical_xci h (fun _ _ hs => canonical_unlessRefused hs (canonical_thenAct hs (fun _ hs1 => canonical_enterHibernate hs1)))

end

/-! ### Machine/FlashEvents.lean -/

section
variable {s : State} {j : Job} {u : FlashUnit} {sec i : Nat} {o : FlashOp} {ok : Bool}

theorem canonical_flashAnswer {r : Reply} (h : Canonical s) : Canonical (flashAnswer s j r) :=
  holds_ite (canonical_onJob h) (canonical_endWaitingReset (canonical_dispatch (canonical_settleDeletes (canonical_post h))))
theorem canonical_answerHeld (h : Canonical s) : Canonical (answerHeld s) := by
  unfold answerHeld
  refine holds_foldl h (fun a1 j1 ha1 => ?_)
  split
  · exact canonical_flashAnswer ha1
  · exact ha1

theorem canonical_increment (h : Canonical s) : Canonical (increment s j) := by
  unfold increment
  extract_lets n
  refine holds_ite ?_ ?_
  · split
    · exact canonical_flashAnswer (canonical_afterIncrement (canonical_onCounters h))
    · exact canonical_flashAnswer (canonical_onCounters h)
  · refine holds_ite ?_ ?_
    · split
      · split
        · have hs1 := canonical_of_eq_mk (canonical_commitIncrement h) ‹_›
          exact canonical_flashAnswer hs1
      · split
        · exact canonical_flashAnswer h
        · exact canonical_openFlash (canonical_onJob (canonical_onCounters h))
    · split
      · have hs1 := canonical_of_eq_mk (canonical_commitIncrement h) ‹_›
        exact canonical_flashAnswer hs1

theorem canonical_backupFailed (h : Canonical s) : Canonical (backupFailed s j) := by
  unfold backupFailed
  extract_lets n s1
  have hs1 : Canonical s1 := canonical_onCounters h
  split
  · exact canonical_openFlash hs1
  · exact canonical_flashAnswer (canonical_afterIncrement (canonical_onCounters hs1))

theorem canonical_commitOf (h : Canonical s) : CanonicalFst (commitOf s j) := by
  unfold commitOf
  refine holds_ite (canonical_commitOption h) ?_
  refine holds_ite (canonical_commitCreate h) ?_
  refine holds_ite (canonical_commitRelease h) ?_
  refine holds_ite (canonical_commitTenantSet h) ?_
  refine holds_ite (canonical_commitDeviceSeed h) ?_
  refine holds_ite (canonical_commitImport h) ?_
  refine holds_ite (canonical_commitDelete h) ?_
  refine holds_ite (canonical_commitPersist h) ?_
  refine holds_ite (canonical_commitAlloc h) ?_
  refine holds_ite (canonical_commitExtend h) ?_
  refine holds_ite (canonical_commitRoster h) ?_
  exact holds_ite (canonical_commitOverride h) (holds_ite (canonical_commitInstall h) (holds_ite (canonical_commitRemove h)
      (canonical_mk h)))

theorem canonical_commandDone (h : Canonical s) : Canonical (commandDone s j u) := by
  unfold commandDone
  refine holds_ite (canonical_otpProgrammed h) ?_
  refine holds_ite (canonical_increment h) ?_
  refine holds_ite (canonical_commitPinnaMode h) ?_
  split
  · have hs1 := canonical_of_eq_mk (canonical_commitOf (holds_ite (canonical_appendConfig h) h)) ‹_›
    exact canonical_flashAnswer hs1

theorem canonical_commandFailed (h : Canonical s) : Canonical (commandFailed s j u) :=
  holds_ite (canonical_otpFailed h) (holds_ite (canonical_backupFailed h) (canonical_flashAnswer (holds_ite (canonical_undoTenantSet h)
      (holds_ite (canonical_persistFailed h) h))))
theorem canonical_keySectorErased (h : Canonical s) : Canonical (keySectorErased s sec) := canonical_writeMedulla h
theorem canonical_configErased (h : Canonical s) : Canonical (configErased s sec) := holds_ite (canonical_onFlash h) (canonical_openFlash h)
theorem canonical_payOwed (h : Canonical s) : Canonical (payOwed s) := by
  unfold payOwed
  refine holds_foldl h (fun a1 c1 ha1 => ?_)
  split
  · exact ha1
  · split
    · exact canonical_onCounters ha1
    · exact ha1

theorem canonical_counterSectorErased (h : Canonical s) : Canonical (counterSectorErased s sec) :=
  canonical_payOwed (canonical_onCounters h)
theorem canonical_useDone (h : Canonical s) : Canonical (useDone s o) := by
  unfold useDone
  split
  · split
    · exact canonical_commandDone h
    · exact h
  · exact canonical_keySectorErased h
  · exact canonical_configErased h
  · exact canonical_counterSectorErased h
  · exact canonical_resumeInstall (canonical_compacted h)
  · exact canonical_crozierErased h
  · exact canonical_finishUpdate (canonical_pageProgrammed h)

theorem canonical_useFailed (h : Canonical s) : Canonical (useFailed s o) := by
  unfold useFailed
  split
  · split
    · exact canonical_commandFailed h
    · exact h
  · exact canonical_keySectorErased (canonical_replaceSector h)
  · exact canonical_configErased (canonical_replaceSector h)
  · exact canonical_counterSectorErased (canonical_replaceSector h)
  · exact canonical_resumeInstall h
  · exact holds_ite (canonical_updateFailed h) (canonical_onBoot (canonical_closeTurtisPath h))
  · exact holds_ite (canonical_updateFailed h) (canonical_onBoot (canonical_closeTurtisPath h))

theorem canonical_closeOp (h : Canonical s) : Canonical (closeOp s i) := canonical_resumeErases (canonical_onFlash h)
theorem canonical_closeErase (h : Canonical s) : Canonical (closeErase s o) :=
  holds_ite (canonical_replaceIfWorn (canonical_startErases (holds_ite h (canonical_jAppend h)))) (canonical_startErases h)
theorem canonical_unitFailed (h : Canonical s) : Canonical (unitFailed s u) := holds_ite (canonical_replaceIfWorn (canonical_markWorn h)) h
theorem canonical_flashDone (h : Canonical s) : Canonical (flashDone s i ok) := by
  unfold flashDone
  split
  · exact h
  · refine holds_ite h ?_
    exact holds_ite (canonical_useDone (canonical_raise (canonical_closeErase (canonical_closeOp h)))) (holds_ite (canonical_onFlash h)
        (canonical_useFailed (canonical_startErases (canonical_unitFailed (canonical_closeOp h)))))

theorem canonical_tearSlot {k : Nat} (h : Canonical s) : Canonical (tearSlot s k) := canonical_writeLog (canonical_markWorn h)
theorem canonical_rewriteEntry (h : Canonical s) : Canonical (rewriteEntry s) := by
  unfold rewriteEntry
  extract_lets k s1
  have hs1 : Canonical s1 := canonical_tearSlot h
  split
  · exact holds_ite (canonical_logLevels (fun _ _ hs => canonical_raiseWith (fun _ _ hs2 => canonical_logPlace hs2) hs)
        (canonical_writeLog hs1)) (holds_ite (canonical_onLog hs1) (canonical_countOverflow (canonical_onLog hs1)))
  · exact h

theorem canonical_logWordDone (h : Canonical s) : Canonical (logWordDone s ok) := by
  unfold logWordDone
  split
  · exact h
  · exact canonical_raise (canonical_onLog h)
  · exact canonical_onLog h
  · exact canonical_rewriteEntry h

theorem canonical_execFlashOperationDone {index : Nat} (h : Canonical s) : CanonicalNext (execFlashOperationDone index ok s) :=
  canonical_next (holds_ite h (holds_ite (canonical_logWordDone h) (canonical_flashDone h)))
theorem canonical_execEraseStarved {index : Nat} {s : State} (h : Canonical s) : CanonicalNext (execEraseStarved index s) := by
  unfold execEraseStarved
  split
  · exact canonical_next h
  · refine holds_ite (canonical_next h) (canonical_next (canonical_append (canonical_raise ?_)))
    exact canonical_takeFree (canonical_onFlash (canonical_atInstant h))

theorem canonical_execKeyRegionCompaction {s : State} (h : Canonical s) : CanonicalNext (execKeyRegionCompaction s) := by
  unfold execKeyRegionCompaction
  refine holds_ite (canonical_next h) ?_
  split
  · refine canonical_next (canonical_openFlash (canonical_writeMedulla h (hrecords := fun hr => ?_)))
    exact holds_foldl (P := fun m => SMap.wf ({} : KeyRec) m = true) hr (fun _ _ hm => SMap.wf_set hm)
  · exact canonical_next h

theorem canonical_execConfigHalfSwitch {s : State} (h : Canonical s) : CanonicalNext (execConfigHalfSwitch s) := by
  unfold execConfigHalfSwitch
  extract_lets eraseOpen s1
  have hs1 : Canonical s1 := canonical_switchHalf h
  generalize configRoom s = room
  exact holds_ite (canonical_next h) (holds_ite (canonical_next (canonical_openFlash h))
    (holds_ite (canonical_next h) (canonical_next (canonical_openFlash hs1))))

theorem canonical_execCounterRelocation (h : Canonical s) : CanonicalNext (execCounterRelocation s) := by
  unfold execCounterRelocation
  extract_lets moving
  refine holds_ite (canonical_next h) ?_
  split
  · exact canonical_next h
  · exact holds_ite (canonical_next h) (canonical_next (canonical_openFlash (canonical_onCounters h)))

theorem canonical_execOtpProgramStart (h : Canonical s) : CanonicalNext (execOtpProgramStart s) :=
  holds_ite (canonical_next h) (holds_ite (canonical_next (canonical_retireNow h)) (canonical_next (canonical_onFlash h)))

end

/-! ### Machine/Governor.lean -/

section
variable {s : State} {d cause : Nat} {ds : List Nat}

theorem canonical_shedUnit {u : UnitRef} (h : Canonical s) : Canonical (shedUnit s u) := canonical_onUnit (canonical_stopUnit h)
theorem canonical_portOff {p : Fin 2} (h : Canonical s) : Canonical (portOff s p) := canonical_onPort h
theorem canonical_readerBack (h : Canonical s) : Canonical (readerBack s) := canonical_fieldDown (canonical_onJobs h)
theorem canonical_suspendCore {n : Nat} (h : Canonical s) : Canonical (suspendCore s n) :=
  holds_foldl h (fun _ _ ha => holds_ite (canonical_suspendUnit ha) ha)
theorem canonical_offOne (h : Canonical s) : Canonical (offOne s d) := by
  unfold offOne
  refine holds_ite h ?_
  extract_lets s1
  have hs1 : Canonical s1 :=
    holds_ite (canonical_suspendCore h) (holds_ite (canonical_portOff h) (holds_ite (canonical_portOff h) (holds_ite
        (canonical_readerBack h) h)))
  exact canonical_setDomain (holds_foldl hs1 (fun _ _ hs => canonical_shedUnit hs))

theorem canonical_powerOff (h : Canonical s) : Canonical (powerOff s d) := holds_foldl h (fun _ _ hs => canonical_offOne hs)
theorem canonical_onOne (h : Canonical s) : Canonical (onOne s d) :=
  holds_foldl (canonical_setDomain h) (fun _ _ ha => holds_ite (canonical_startTest ha) ha)
theorem canonical_powerOn (h : Canonical s) : Canonical (powerOn s d) := holds_foldl h (fun _ _ hs => canonical_onOne hs)
theorem canonical_hold (h : Canonical s) : Canonical (hold s ds) := by
  unfold hold
  exact canonical_onPower (holds_foldl h (fun _ _ hs => canonical_powerOff hs))

theorem canonical_unhold (h : Canonical s) : Canonical (unhold s ds) := by
  unfold unhold
  exact canonical_onPower (holds_foldl h (fun _ _ hs => canonical_powerOn hs))

theorem canonical_notePool {before after : State} (hafter : Canonical after) : Canonical (notePool before after) :=
  holds_ite hafter (canonical_poolChanged hafter)
theorem canonical_enforce (h : Canonical s) : Canonical (enforce s) := by
  unfold enforce
  exact holds_ite h (canonical_dispatch (holds_foldl (canonical_shed h) (fun _ _ ha => holds_ite ha (canonical_powerOff ha))))

theorem canonical_safeHoldEntry {entered : Bool} (h : Canonical s) : Canonical (safeHoldEntry s entered cause) := canonical_append h
theorem canonical_enterSafeHold (h : Canonical s) : Canonical (enterSafeHold s cause) := by
  unfold enterSafeHold
  refine holds_ite (holds_ite (canonical_safeHoldEntry (canonical_onPower h)) h) ?_
  extract_lets stop s1 s2 s3 s4 s5
  have hs1 : Canonical s1 := holds_foldl h (fun _ _ hs => canonical_suspendUnit hs)
  have hs2 : Canonical s2 := holds_foldl hs1 (fun _ _ hs => canonical_abandon hs)
  have hs3 : Canonical s3 := canonical_hold hs2
  have hs4 : Canonical s4 := canonical_onPower (canonical_moveToSafe hs3)
  have hs5 : Canonical s5 := canonical_allFnEvent (canonical_pwrEvent (canonical_notePool hs4))
  exact canonical_dispatch (canonical_safeHoldEntry hs5)

theorem canonical_leaveSafeHold (h : Canonical s) : Canonical (leaveSafeHold s) := by
  unfold leaveSafeHold
  split
  · exact h
  · exact canonical_dispatch (canonical_safeHoldEntry (canonical_onPower h))

theorem canonical_wakeDomains (h : Canonical s) : Canonical (wakeDomains s) := holds_ite h (canonical_onPower (canonical_unhold h))
theorem canonical_execDozeEntry (h : Canonical s) : CanonicalNext (execDozeEntry s) :=
  holds_ite (canonical_next h) (canonical_next (canonical_notePool (canonical_onPower (canonical_startTransition (canonical_hold
      (canonical_atInstant h))))))
theorem canonical_applyEpochGroups (h : Canonical s) : Canonical (applyEpochGroups s) :=
  holds_foldl h (fun _ _ hs => canonical_applyDeferred hs)
theorem canonical_domainOut (h : Canonical s) : Canonical (domainOut s d) := by
  unfold domainOut
  extract_lets s1
  have hs1 : Canonical s1 :=
    holds_ite (canonical_suspendCore h) (holds_ite (canonical_portOff h) (holds_ite (canonical_portOff h) h))
  exact canonical_setDomain (holds_foldl hs1 (fun _ _ hs => canonical_takeOut hs))

theorem canonical_domainBack (h : Canonical s) : Canonical (domainBack s d) :=
  holds_ite (canonical_setDomain (holds_foldl h (fun _ _ ha => holds_ite (canonical_startTest ha) ha))) (holds_foldl h
      (fun _ _ ha => holds_ite (canonical_startTest ha) ha))
theorem canonical_applyOffMask (h : Canonical s) : Canonical (applyOffMask s) := by
  unfold applyOffMask
  split
  · exact h
  · extract_lets old s1 s2 s3
    have hs1 : Canonical s1 :=
      holds_foldl h (fun _ _ ha => holds_ite (canonical_domainOut ha) (holds_ite (canonical_domainBack ha) ha))
    have hs2 : Canonical s2 := canonical_onPower hs1
    have hs3 : Canonical s3 := canonical_notePool hs2
    exact holds_foldl hs3 (fun _ _ ha => canonical_post ha)

theorem canonical_settlePoint (h : Canonical s) : Canonical (settlePoint s) := holds_ite (canonical_startTransition h) h
theorem canonical_tryOn (h : Canonical s) : Canonical (tryOn s d) := by
  unfold tryOn
  exact holds_ite (canonical_powerOn h) h

theorem canonical_forceOn (h : Canonical s) : Canonical (forceOn s d) := canonical_enforce (canonical_powerOn h)
theorem canonical_govern (h : Canonical s) : Canonical (govern s) := by
  unfold govern
  extract_lets s1 s2 s3
  have hs1 : Canonical s1 := holds_foldl h (fun _ _ ha => canonical_setDomain ha)
  have hs2 : Canonical s2 := holds_foldl hs1 (fun _ _ hs => canonical_forceOn hs)
  have hs3 : Canonical s3 := holds_ite (canonical_setDomain hs2) hs2
  refine holds_ite (canonical_enforce hs3) ?_
  exact canonical_returnGroup (holds_foldl (holds_foldl hs3 (fun _ _ hs => canonical_tryOn hs)) (fun _ _ ha => holds_ite
      (canonical_tryOn ha) ha))

theorem canonical_opportunisticTests (h : Canonical s) : Canonical (opportunisticTests s) :=
  holds_ite h (holds_foldl h (fun _ _ ha => holds_ite (canonical_startTest ha) ha))
theorem canonical_noteSetaHigh (h : Canonical s) : Canonical (noteSetaHigh s) := holds_ite h (canonical_append (canonical_onClocks h))
theorem canonical_releaseSorus (h : Canonical s) : Canonical (releaseSorus s) := holds_ite h (canonical_onPower h)
theorem canonical_epochWork (h : Canonical s) : Canonical (epochWork s) := by
  unfold epochWork
  refine holds_ite (canonical_applyOffMask (canonical_applyEpochGroups h)) ?_
  extract_lets s1 s2 s3
  have hs1 : Canonical s1 := canonical_releaseSorus (canonical_applyOffMask (canonical_applyEpochGroups h))
  have hs2 : Canonical s2 := canonical_wakeDomains (canonical_settlePoint hs1)
  have hs3 : Canonical s3 := canonical_joinUnits (canonical_govern hs2)
  exact canonical_opportunisticTests (canonical_scheduleEpoch (canonical_notePool hs3))

theorem canonical_execEpochBoundary (h : Canonical s) : CanonicalNext (execEpochBoundary s) := by
  unfold execEpochBoundary
  extract_lets t s1 s2
  have hs1 : Canonical s1 := canonical_onClocks (canonical_atInstant h)
  have hs2 : Canonical s2 := canonical_raise hs1
  exact holds_ite (canonical_next hs1) (holds_ite (canonical_next (canonical_applyEpochGroups hs2)) (canonical_next
      (canonical_epochWork hs2)))

theorem canonical_execSetaHigh (h : Canonical s) : CanonicalNext (execSetaHigh s) := canonical_next (holds_ite (canonical_noteSetaHigh h) h)

end

/-! ### Machine/Feed.lean -/

section
variable {s : State} {phase cause sensor : Nat} {mv : BitVec 16} {t : ℤ}

theorem canonical_switchedOff {sentinel : Bool} (h : Canonical s) : Canonical (switchedOff s sentinel) :=
  canonical_onBoot (canonical_onPower h)
theorem canonical_execFeedWarn {belowDip : Bool} (h : Canonical s) : CanonicalNext (execFeedWarn belowDip s) := by
  unfold execFeedWarn
  refine holds_ite (canonical_next h) ?_
  refine holds_ite (canonical_next (canonical_switchedOff h)) ?_
  refine holds_ite (canonical_next (canonical_onPower h)) ?_
  extract_lets moving s1 s2
  have hs1 : Canonical s1 := canonical_onPower h
  have hs2 : Canonical s2 := holds_ite (canonical_moveToSafe hs1) hs1
  exact canonical_next (holds_ite (canonical_raiseWaking hs2) hs2)

theorem canonical_bumpDip (h : Canonical s) : Canonical (bumpDip s) := canonical_onPower h
theorem canonical_clearWarn (h : Canonical s) : Canonical (clearWarn s) := canonical_onPower h
theorem canonical_execDipRideThrough (h : Canonical s) : CanonicalNext (execDipRideThrough s) :=
  holds_ite (canonical_next h) (canonical_next (canonical_clearWarn (canonical_bumpDip h)))
theorem canonical_quiesceEngines (h : Canonical s) : Canonical (quiesceEngines s) :=
  canonical_endShare (canonical_readerBack (holds_foldl h (fun _ _ hs => canonical_abandon hs)))
theorem canonical_finishOps {p : State → FlashOp → Bool} {n : Nat} {s : State} (h : Canonical s) : Canonical (finishOps p n s) := by
  induction n generalizing s with
  | zero => exact h
  | succ n ih =>
    rw [finishOps]
    split
    · exact ih (canonical_flashDone h)
    · exact h

theorem canonical_stopErases (h : Canonical s) : Canonical (stopErases s) := canonical_onFlash h
theorem canonical_lastGasp (h : Canonical s) : Canonical (lastGasp s) := by
  unfold lastGasp
  extract_lets s1 s2 programmed erased s3 backed s4 s5 s6
  have hs1 : Canonical s1 := canonical_onPower (canonical_moveToSafe (canonical_dozeWake h))
  have hs2 : Canonical s2 := canonical_quiesceEngines (canonical_onLog hs1)
  have hs3 : Canonical s3 := canonical_stopErases (canonical_finishOps hs2)
  have hs4 : Canonical s4 := canonical_finishOps hs3
  have hs5 : Canonical s5 := canonical_append (canonical_onLog hs4)
  have hs6 : Canonical s6 := canonical_mirrorRing (canonical_bumpSpore (canonical_onLog hs5))
  exact canonical_notePool (canonical_hold hs6)

theorem canonical_execFeedLossQualify (h : Canonical s) : CanonicalNext (execFeedLossQualify s) :=
  holds_ite (canonical_next h) (canonical_next (canonical_lastGasp (holds_ite h (canonical_atInstant h))))
theorem canonical_releaseHeld (h : Canonical s) : Canonical (releaseHeld s) :=
  holds_foldl (canonical_onLog h) (fun _ _ hs => canonical_appendNote hs)
theorem canonical_logDip (h : Canonical s) : Canonical (logDip s) :=
  holds_ite (canonical_append (canonical_onPower (canonical_onPower h))) (canonical_onPower (canonical_onPower h))
theorem canonical_execFeedDip (h : Canonical s) : CanonicalNext (execFeedDip s) := by
  unfold execFeedDip
  refine holds_ite (canonical_next h) ?_
  extract_lets s1 s2 s3 s4
  have hs1 : Canonical s1 := canonical_onPower (canonical_clearWarn h)
  have hs2 : Canonical s2 := canonical_unhold hs1
  have hs3 : Canonical s3 := canonical_logDip (canonical_releaseHeld hs2)
  have hs4 : Canonical s4 := canonical_notePool (canonical_answerHeld (canonical_startErases (canonical_pwrEvent hs3)))
  exact holds_ite (canonical_next (canonical_deviceReset (canonical_pwrEvent hs3))) (canonical_next (canonical_dispatch (canonical_raise
      (canonical_mapPairs hs4))))

theorem canonical_countHeld (h : Canonical s) : Canonical (countHeld s) :=
  canonical_onLog (holds_foldl h (fun _ _ ha => canonical_countOverflow ha))
theorem canonical_sentinelLost (h : Canonical s) : Canonical (sentinelLost s) := canonical_switchedOff (canonical_deviceReset h)
theorem canonical_execVinStop {vbak : Bool} (h : Canonical s) : CanonicalNext (execVinStop vbak s) := by
  unfold execVinStop
  refine holds_ite (canonical_next h) ?_
  extract_lets s1
  have hs1 : Canonical s1 := canonical_onPower (canonical_switchedOff (canonical_deviceReset (canonical_countHeld h)))
  exact canonical_next (holds_ite hs1 (canonical_sentinelLost hs1))

theorem canonical_execSentinelPowerLoss (h : Canonical s) : CanonicalNext (execSentinelPowerLoss s) :=
  holds_ite (canonical_next h) (canonical_next (canonical_sentinelLost (canonical_onPower h)))
theorem canonical_execVinInRangeChange {inRange : Bool} (h : Canonical s) : CanonicalNext (execVinInRangeChange inRange s) :=
  canonical_next (canonical_onPower h)
theorem canonical_phaseEntry (h : Canonical s) : Canonical (phaseEntry s phase cause) := canonical_append h
theorem canonical_phaseReaction (h : Canonical s) : Canonical (phaseReaction s phase cause) := by
  unfold phaseReaction
  refine holds_ite ?_ (canonical_enterSafeHold (canonical_phaseEntry (canonical_pwrEvent h)))
  extract_lets s1 s2
  have hs1 : Canonical s1 := canonical_onPower h
  have hs2 : Canonical s2 := canonical_phaseEntry (canonical_pwrEvent (canonical_pwrEvent hs1))
  exact holds_ite hs2 (canonical_dispatch (canonical_enforce hs2))

theorem canonical_unwarned (h : Canonical s) : Canonical (unwarned s) := by
  unfold unwarned
  refine holds_ite h ?_
  split
  · have hs1 := canonical_of_eq_mk_snd (canonical_takeFree h) ‹_›
    exact canonical_onPower hs1

theorem canonical_regulatorFailed (h : Canonical s) : Canonical (regulatorFailed s phase cause) := by
  unfold regulatorFailed
  extract_lets s1 s2
  have hs1 : Canonical s1 := canonical_append h
  have hs2 : Canonical s2 := holds_ite hs1 (canonical_lastGasp (canonical_unwarned hs1))
  exact canonical_onBoot (canonical_deviceReset (canonical_countHeld hs2))

theorem canonical_execPhaseLost {phase : Fin 4} {cause : PhaseCause} (h : Canonical s) : CanonicalNext (execPhaseLost phase cause s) := by
  unfold execPhaseLost
  refine holds_ite (canonical_next h) ?_
  extract_lets s1 s2
  have hs1 : Canonical s1 := canonical_onPower h
  have hs2 : Canonical s2 := canonical_raiseWaking hs1
  exact holds_ite (canonical_next (holds_ite (canonical_onBoot (canonical_deviceReset hs1)) (canonical_onPower hs1))) (canonical_next
      (holds_ite (canonical_regulatorFailed hs2) (canonical_phaseReaction hs2)))

theorem canonical_faultReset {notes : List Note} (h : Canonical s) : Canonical (faultReset s notes) :=
  canonical_deviceReset (canonical_onLog h)
theorem canonical_execVcoreLow {recovered : Bool} (h : Canonical s) : CanonicalNext (execVcoreLow mv recovered s) := by
  unfold execVcoreLow
  refine holds_ite (canonical_next h) ?_
  extract_lets set s1 s2
  have hs1 : Canonical s1 := holds_ite (canonical_raiseWaking h) h
  have hs2 : Canonical s2 := canonical_onPower (canonical_moveToSafe hs1)
  exact canonical_next (holds_ite (canonical_append hs2) hs2)

theorem canonical_execVcoreLowTimeout (h : Canonical s) : CanonicalNext (execVcoreLowTimeout s) :=
  canonical_next (holds_ite (canonical_faultReset h) h)
theorem canonical_execVcoreHigh (h : Canonical s) : CanonicalNext (execVcoreHigh mv s) :=
  holds_ite (canonical_next h) (canonical_next (canonical_faultReset h))
theorem canonical_execRhzClock (h : Canonical s) : CanonicalNext (execRhzClock s) :=
  holds_ite (canonical_next h) (canonical_next (holds_ite (canonical_noteClock (canonical_onPower h)) (canonical_onPower
      (canonical_onPower h))))
theorem canonical_thermalEntry {threshold : Nat} {temp : ℤ} (h : Canonical s) : Canonical (thermalEntry s threshold sensor temp) :=
  canonical_append h
theorem canonical_reach110 (h : Canonical s) : Canonical (reach110 s sensor t) :=
  holds_ite h (canonical_thermalEntry (canonical_raiseWaking (canonical_onPower h)))
theorem canonical_reach120 (h : Canonical s) : Canonical (reach120 s sensor t) :=
  holds_ite h (canonical_thermalEntry (canonical_pwrEvent (canonical_raiseWaking (canonical_onPower h))))
theorem canonical_reach125 (h : Canonical s) : Canonical (reach125 s sensor t) :=
  holds_ite h (canonical_enterSafeHold (canonical_thermalEntry (canonical_raiseWaking h)))
theorem canonical_below105 (h : Canonical s) : Canonical (below105 s sensor t) :=
  holds_ite h (canonical_dispatch (holds_ite (canonical_leaveSafeHold (canonical_thermalEntry (canonical_raise (canonical_onPower h))))
      (canonical_thermalEntry (canonical_raise (canonical_onPower h)))))
theorem canonical_execThermalSample {sensor : Fin 8} {temp : BitVec 16} (h : Canonical s) :
    CanonicalNext (execThermalSample sensor temp s) :=
  holds_ite (canonical_next (canonical_onPower h)) (canonical_next (canonical_below105 (canonical_reach125 (canonical_reach120
      (canonical_reach110 (canonical_onPower h))))))
theorem canonical_execThermalAllowanceStep (h : Canonical s) : CanonicalNext (execThermalAllowanceStep s) :=
  holds_ite (canonical_next h) (holds_ite (canonical_next (canonical_onPower h)) (holds_ite (canonical_next h) (canonical_next
      (canonical_onPower h))))

end

/-! ### Machine/Mailbox.lean -/

section
variable {s : State} {f fn : FnId} {q : PairId} {v op rung : Nat} {c : Cmd}

theorem canonical_countRing (h : Canonical s) : Canonical (countRing s) := canonical_onLink h
theorem canonical_sqTailWrite (h : Canonical s) : Canonical (sqTailWrite s f q v) :=
  holds_ite (canonical_violate h) (holds_ite (canonical_onPair (canonical_onPair (canonical_countRing h))) (canonical_raiseWaking
      (canonical_onPair (canonical_countRing h))))
theorem canonical_cqHeadWrite (h : Canonical s) : Canonical (cqHeadWrite s f q v) :=
  holds_ite (canonical_violate h) (canonical_dozeWake (canonical_onPair h))
theorem canonical_execSqTailDoorbell {v : U32} (h : Canonical s) : CanonicalNext (execSqTailDoorbell fn q v s) :=
  holds_ite (canonical_next h) (canonical_next (canonical_sqTailWrite h))
theorem canonical_execCqHeadDoorbell {v : U32} (h : Canonical s) : CanonicalNext (execCqHeadDoorbell fn q v s) :=
  holds_ite (canonical_next h) (canonical_next (canonical_cqHeadWrite h))
theorem canonical_answerEarly {st : Nat} {pastTag : Bool} (h : Canonical s) : Canonical (answerEarly s op c st pastTag) :=
  canonical_deliver (holds_ite (canonical_recordReplay h) h)
theorem canonical_answerRecord {r : ReplayRec} (h : Canonical s) : Canonical (answerRecord s op c r) :=
  holds_ite (canonical_violate (canonical_answerEarly h)) (holds_ite (canonical_answerEarly h) (canonical_deliver h))
theorem canonical_accept (h : Canonical s) : Canonical (accept s op c rung) := by
  unfold accept
  refine holds_ite (canonical_answerEarly h) ?_
  split
  · exact holds_ite (canonical_violate (canonical_answerEarly h)) (canonical_answerEarly h)
  · exact canonical_onJobs h

theorem canonical_judge (h : Canonical s) : Canonical (judge s op c rung) := by
  unfold judge
  refine holds_ite (canonical_answerEarly h) ?_
  refine holds_ite (canonical_violate (canonical_answerEarly h)) ?_
  split
  · exact holds_ite (canonical_answerEarly h) (canonical_violate (canonical_answerEarly h))
  · split
    · exact canonical_answerRecord h
    · exact canonical_accept h

theorem canonical_fetchOne (h : Canonical s) : Canonical (fetchOne s f q) := by
  unfold fetchOne
  extract_lets p
  split
  · exact canonical_judge (canonical_onPair h)

theorem canonical_fetchSome {n : Nat} {s : State} {f : FnId} {q : PairId} (h : Canonical s) : Canonical (fetchSome n s f q) := by
  induction n generalizing s with
  | zero => exact h
  | succ n ih =>
    rw [fetchSome]
    exact holds_ite (ih (canonical_fetchOne h)) h

theorem canonical_execCommandFetch (h : Canonical s) : CanonicalNext (execCommandFetch fn q s) := canonical_next (canonical_fetchSome h)
theorem canonical_execQuarantineEnd (h : Canonical s) : CanonicalNext (execQuarantineEnd fn s) := by
  unfold execQuarantineEnd
  refine holds_ite (canonical_next h) ?_
  extract_lets s1 s2
  have hs1 : Canonical s1 := canonical_atInstant h
  have hs2 : Canonical s2 := canonical_fnEvent (canonical_onFn hs1)
  exact canonical_next (holds_ite (canonical_startQuarantine hs2) (canonical_onFn hs2))

theorem canonical_execViolationWindowRoll (h : Canonical s) : CanonicalNext (execViolationWindowRoll s) :=
  canonical_next (canonical_mapFns (canonical_onClocks (canonical_atInstant h)))
theorem canonical_execCoalesceTimeout (h : Canonical s) : CanonicalNext (execCoalesceTimeout fn q s) :=
  holds_ite (canonical_next h) (canonical_next (canonical_signal (canonical_onPair (canonical_atInstant h))))
theorem canonical_execCommitGo {w : GoWrite} (h : Canonical s) : CanonicalNext (execCommitGo w s) :=
  holds_ite (canonical_next h) (canonical_next (canonical_commitStart h))
theorem canonical_flushPba (h : Canonical s) : Canonical (flushPba s f) :=
  holds_foldl h (fun _ _ ha => holds_ite (canonical_signal (canonical_onLink ha)) ha)
theorem canonical_flushHeld (h : Canonical s) : Canonical (flushHeld s f) :=
  holds_foldl (holds_foldl (canonical_onLink h) (fun _ _ ha => canonical_hostWrite ha)) (fun _ _ ha => canonical_post ha)
theorem canonical_execBusMasterEnable {on : Bool} (h : Canonical s) : CanonicalNext (execBusMasterEnable fn on s) :=
  canonical_next (holds_ite (canonical_flushPba (canonical_flushHeld (canonical_onFn h))) (canonical_onFn h))
theorem canonical_aerReport {bit : Nat} (h : Canonical s) : Canonical (aerReport s f bit) := by
  unfold aerReport
  exact canonical_onLink h

theorem canonical_readFails {j : Job} {off : Nat} (h : Canonical s) : Canonical (readFails s j off) :=
  holds_ite h (holds_ite (holds_ite h (canonical_post h)) (canonical_complete h))
theorem canonical_execDmaReadCompletion {use : DmaUse} {addr : U64} {result : DmaEnd} {data : Bytes} (h : Canonical s) :
    CanonicalNext (execDmaReadCompletion fn use addr result data s) := by
  unfold execDmaReadCompletion
  refine holds_ite (canonical_next h) ?_
  refine holds_ite (canonical_next (canonical_hostWrite h)) ?_
  extract_lets s1
  have hs1 : Canonical s1 := canonical_aerReport h
  split
  · exact canonical_next (holds_ite (canonical_closePair hs1) hs1)
  · split
    · exact canonical_next hs1
    · exact canonical_next (canonical_readFails hs1)

theorem canonical_looseBytes {a n : Nat} (h : Canonical s) : Canonical (looseBytes s f a n) := canonical_onFree (canonical_hostWrite h)
theorem canonical_execHostWriteFailure {w : FailedWrite} (h : Canonical s) : CanonicalNext (execHostWriteFailure fn w s) := by
  unfold execHostWriteFailure
  extract_lets s1
  have hs1 : Canonical s1 := canonical_looseBytes (canonical_aerReport h)
  split
  · exact canonical_next (holds_ite (canonical_closePair (canonical_onPair hs1)) hs1)
  · exact canonical_next hs1

end

end Sys2Proof.Proofs
end

section
/-! SUPPORT. The canonical form is kept: tests and faults, Hypha, the link, boot, recovery, the registers and every instruction. -/

namespace Sys2Proof.Proofs

open Sys2Proof Sys2Proof.Machine Sys2Proof.Claims

-- One declaration after another: checked side by side, the many short proofs of this part hold a thread each.
set_option Elab.async false

/-! ### Machine/TestEcc.lean -/

section
variable {s : State} {j : Job} {u : UnitRef} {n c i sector word w : Nat} {corrected : BitVec 16}

theorem canonical_preempt (h : Canonical s) : Canonical (preempt s j u) := holds_ite h (canonical_onJob (holds_ite (canonical_stopPay h) h))
theorem canonical_takeUnit {k : Job} (h : Canonical s) : Canonical (takeUnit s j k u) := by
  unfold takeUnit
  split
  · split
    · split
      · have hs1 := canonical_of_eq_mk (canonical_startDraw h) ‹_›
        exact canonical_bindTo (canonical_preempt hs1)
      · have hs1 := canonical_of_eq_mk (canonical_startDraw h) ‹_›
        exact hs1
    · exact h
  · split
    · have hs1 := canonical_of_eq_mk (canonical_startDraw h) ‹_›
      exact canonical_bindAt (canonical_preempt hs1)
    · have hs1 := canonical_of_eq_mk (canonical_startDraw h) ‹_›
      exact hs1

theorem canonical_takeTests {due : List UnitRef} (h : Canonical s) : Canonical (takeTests s j u due) :=
  holds_foldl (canonical_preempt h) (fun _ _ ha => holds_ite (canonical_startTest ha) ha)
theorem canonical_preemptionPoint (h : Canonical s) : Canonical (preemptionPoint s j u) := by
  unfold preemptionPoint
  extract_lets us due
  refine holds_ite (canonical_takeTests h) ?_
  refine holds_ite (canonical_dispatch (canonical_preempt h)) ?_
  refine holds_ite h ?_
  split
  · split
    · exact holds_ite (canonical_takeUnit h) h
    · exact canonical_takeUnit h
  · split
    · split
      · exact canonical_takeUnit h
      · exact h
    · exact h

theorem canonical_latticePoint (h : Canonical s) : Canonical (latticePoint s j u) := by
  unfold latticePoint
  split
  · exact canonical_macroStep (holds_ite (canonical_giveBack h) h)
  · exact canonical_serveLattice (canonical_onJob h)
  · exact h

theorem canonical_boundary (h : Canonical s) : Canonical (boundary s j u) := by
  unfold boundary
  split
  · exact holds_ite (canonical_dispatch (canonical_latticePoint h)) (canonical_preemptionPoint (canonical_latticePoint h))
  · exact canonical_latticePoint (canonical_preemptionPoint h)
  · exact canonical_preemptionPoint h

theorem canonical_execPreemptionPoint (h : Canonical s) : CanonicalNext (execPreemptionPoint u s) := by
  unfold execPreemptionPoint
  refine holds_ite (canonical_next h) ?_
  split
  · exact canonical_next h
  · exact canonical_next (holds_ite (canonical_boundary h) h)
  · exact canonical_next h

theorem canonical_execForcedTest (h : Canonical s) : CanonicalNext (execForcedTest u s) :=
  holds_ite (canonical_next h) (canonical_next (canonical_startForced (canonical_onUnit (canonical_raise (canonical_atInstant h)))))
theorem canonical_execTestDone {pass : Bool} (h : Canonical s) : CanonicalNext (execTestDone u pass s) :=
  holds_ite (canonical_next h) (canonical_next (canonical_dispatch (canonical_settleReturns (canonical_endTest (canonical_noteTested h)))))
theorem canonical_restartJob (h : Canonical s) : Canonical (restartJob s j) :=
  canonical_dispatch (holds_foldl (canonical_abandon h) (fun _ _ hs => canonical_resumeOn hs))
theorem canonical_descriptorLost (h : Canonical s) : Canonical (descriptorLost s j) := by
  unfold descriptorLost
  split
  · exact holds_ite h (canonical_restartJob h)
  · exact holds_ite h (canonical_restartJob h)
  · exact holds_ite h (canonical_restartJob h)
  · exact canonical_onJob h

theorem canonical_loseSlot (h : Canonical s) : Canonical (loseSlot s n) := holds_foldl h (fun _ _ ha => canonical_complete ha)
theorem canonical_slotFault (h : Canonical s) : Canonical (slotFault s n) := by
  unfold slotFault
  extract_lets a
  refine holds_ite h ?_
  refine holds_ite (canonical_loadChainKey h) ?_
  refine holds_ite ?_ (canonical_loseSlot (canonical_append (canonical_emptySlot h)))
  split
  · exact canonical_loadRecord (canonical_emptySlot h)
  · exact canonical_emptySlot h

theorem canonical_scratchFault {s : State} {g : Nat} (h : Canonical s) : Canonical (scratchFault s g) := by
  unfold scratchFault
  extract_lets second s1 owner src s2
  have hs2 : Canonical s2 := holds_ite (canonical_append (canonical_onEngines h)) (canonical_onEngines h)
  clear_value owner s2
  cases owner with
  | some j => exact canonical_restartJob (canonical_onJob hs2)
  | none => exact hs2

theorem canonical_loseCounter {src : Nat} (h : Canonical s) : Canonical (loseCounter s src c) := canonical_append (canonical_onCounters h)
theorem canonical_blockFault (h : Canonical s) : Canonical (blockFault s i) :=
  holds_ite (canonical_onCounters h) (holds_ite (canonical_append (canonical_onCounters h)) (canonical_loseCounter
      (canonical_onCounters h)))
theorem canonical_backupFault {t : Nat} (h : Canonical s) : Canonical (backupFault s t) :=
  holds_ite (canonical_loseCounter (canonical_onCounters h)) (canonical_onCounters h)
theorem canonical_cellFault {cell : Nat} (h : Canonical s) : Canonical (cellFault s i cell) := canonical_onCounters h
theorem canonical_counterWordFault (h : Canonical s) : Canonical (counterWordFault s sector word) :=
  holds_ite (canonical_backupFault h) (holds_ite (canonical_blockFault h) (canonical_cellFault h))
theorem canonical_counterFault (h : Canonical s) : Canonical (counterFault s c) := by
  unfold counterFault
  split
  · exact h
  · exact canonical_blockFault h

theorem canonical_recordFault (h : Canonical s) : Canonical (recordFault s sector word) := canonical_writeMedulla h
theorem canonical_logFault (h : Canonical s) : Canonical (logFault s w) := canonical_writeLog h
theorem canonical_flashFault {kind index : Nat} (h : Canonical s) : Canonical (flashFault s kind index word) := by
  unfold flashFault
  refine holds_ite ?_ ?_
  · split
    · have hs1 := canonical_of_eq_mk_snd (canonical_takeFree h) ‹_›
      exact canonical_bankWrite hs1
  · refine holds_ite (canonical_setOptWord h) ?_
    exact holds_ite (canonical_setJWord h) (holds_ite (canonical_recordFault h) (holds_ite (canonical_logFault h) (holds_ite
        (canonical_counterWordFault h) h)))

theorem canonical_sporeFault (h : Canonical s) : Canonical (sporeFault s w) := canonical_logSporeEcc (canonical_onLog (canonical_onSpore h))
theorem canonical_doubleBit {p : EccPlace} (h : Canonical s) : Canonical (doubleBit s p) := by
  unfold doubleBit
  split
  · exact canonical_deviceReset h
  · split
    · exact canonical_descriptorLost h
    · exact h
  · exact holds_ite (canonical_closePair h) h
  · exact canonical_slotFault h
  · split
    · exact canonical_trap h
    · exact h
  · exact holds_ite (canonical_dispatch (canonical_failFrond h)) h
  · exact holds_ite (canonical_dispatch (canonical_failUnit h)) h
  · exact canonical_scratchFault h
  · exact canonical_settleCloses (canonical_endShare h)
  · exact h
  · exact holds_ite (canonical_deviceReset (canonical_append h)) (canonical_flashFault (canonical_append h))
  · exact canonical_counterFault h
  · exact canonical_sporeFault h

theorem canonical_execEccDoubleBit {place : EccPlace} (h : Canonical s) : CanonicalNext (execEccDoubleBit place s) :=
  holds_ite (canonical_next h) (canonical_next (canonical_doubleBit (canonical_onHealth h)))
theorem canonical_execScrubPass {mem : ScrubMem} (h : Canonical s) : CanonicalNext (execScrubPass mem corrected s) :=
  holds_ite (canonical_next h) (canonical_next (holds_ite (canonical_raise (canonical_onHealth (canonical_onHealth h)))
      (canonical_onHealth h)))
theorem canonical_execPatrolRead (h : Canonical s) : CanonicalNext (execPatrolRead corrected s) :=
  holds_ite (canonical_next h) (holds_ite (canonical_next (canonical_raise h)) (canonical_next (canonical_onHealth (canonical_atInstant
      (holds_foldl h (fun _ _ ha => canonical_suspendErase ha))))))
theorem canonical_execPairMismatch {pair : Fin 4} (h : Canonical s) : CanonicalNext (execPairMismatch pair s) := by
  unfold execPairMismatch
  extract_lets u cores s1
  have hs1 : Canonical s1 := by
    unfold s1
    split
    · exact canonical_trap h
    · exact h
  exact holds_ite (canonical_next h) (canonical_next (holds_foldl hs1 (fun _ _ ha => canonical_startTest ha)))

end

/-! ### Machine/Hypha.lean -/

section
variable {s : State} {i : Nat}

theorem canonical_mergeOnly {src : Nat} (h : Canonical s) : Canonical (mergeOnly s src) :=
  holds_foldl h (fun _ _ ha => holds_ite ha (canonical_onTask ha))
theorem canonical_execHyphaEvent {events : List (BitVec 7 × Bool)} (h : Canonical s) : CanonicalNext (execHyphaEvent events s) :=
  holds_ite (canonical_next h) (canonical_next (canonical_raiseWaking (holds_foldl h (fun _ _ hs => canonical_mergeOnly hs))))
theorem canonical_execHyphaPendingFire {task : Fin 96} (h : Canonical s) : CanonicalNext (execHyphaPendingFire task s) :=
  holds_ite (canonical_next h) (canonical_next (canonical_taskAction (fun _ _ hs => canonical_appendNote hs) (canonical_onTask h)))
theorem canonical_execHyphaFault {value : Byte} (h : Canonical s) : CanonicalNext (execHyphaFault value s) :=
  holds_ite (canonical_next h) (canonical_next (canonical_append (canonical_onClocks h)))
theorem canonical_execSetaAlarm {k : Fin 8} (h : Canonical s) : CanonicalNext (execSetaAlarm k s) := by
  unfold execSetaAlarm
  refine holds_ite (canonical_next h) ?_
  split
  · exact canonical_next h
  · exact canonical_next (canonical_raiseWaking (canonical_onClocks (canonical_atInstant h)))

theorem canonical_execGpioEdge {pin : Fin 8} {level : Bool} (h : Canonical s) : CanonicalNext (execGpioEdge pin level s) :=
  holds_ite (canonical_next (canonical_onClocks h)) (canonical_next (canonical_raiseWaking (canonical_onClocks h)))
theorem canonical_rerunInvocation {u : Fin 8} (h : Canonical s) : Canonical (rerunInvocation s u) := by
  unfold rerunInvocation
  split
  · exact h
  · extract_lets s1
    have hs1 : Canonical s1 := canonical_dropIssued (canonical_clearUnit h)
    split
    · exact canonical_onJob hs1
    · exact hs1

theorem canonical_stopIsland (h : Canonical s) : Canonical (stopIsland s i) := by
  unfold stopIsland
  extract_lets s1 s2
  have hs1 : Canonical s1 := holds_foldl h (fun _ _ ha => canonical_stopUnit ha)
  have hs2 : Canonical s2 := holds_foldl hs1 (fun _ _ ha => holds_ite (canonical_rerunInvocation ha) ha)
  exact holds_ite (canonical_portOff hs2) (holds_ite (canonical_portOff hs2) (holds_ite (canonical_readerBack hs2) hs2))

theorem canonical_retireIsland (h : Canonical s) : Canonical (retireIsland s i) := by
  unfold retireIsland
  extract_lets us s1 s2 s3 s4
  have hs1 : Canonical s1 := holds_foldl (canonical_stopIsland h) (fun _ _ ha => canonical_onUnit ha)
  have hs2 : Canonical s2 := canonical_onClocks hs1
  have hs3 : Canonical s3 :=
    holds_ite (canonical_poolChanged (canonical_poolEvent hs2)) (holds_ite (canonical_poolEvent hs2) hs2)
  have hs4 : Canonical s4 := by
    refine holds_ite (canonical_onMedulla hs3) ?_
    exact holds_ite (canonical_onEntropy hs3) (holds_ite (canonical_onPort hs3) (holds_ite (canonical_onPort hs3) (holds_ite
        (canonical_onReader hs3) hs3)))
  exact canonical_settleReturns (canonical_dispatch hs4)

theorem canonical_rachisFailed {src dst : Byte} {island : Nat} (h : Canonical s) : Canonical (rachisFailed src dst island s) := by
  unfold rachisFailed
  extract_lets k s1 s2
  have hs1 : Canonical s1 := canonical_onClocks h
  have hs2 : Canonical s2 := canonical_raiseWaking hs1
  exact holds_ite (canonical_append (canonical_onClocks hs2)) (holds_ite (canonical_faultReset hs2) (canonical_append
      (canonical_retireIsland hs2)))

theorem canonical_execRachisTransfer {sent : RachisWord} {island : Island} {first : BitVec 320} {again : List (BitVec 320)}
    (h : Canonical s) : CanonicalNext (execRachisTransfer sent island first again s) := by
  unfold execRachisTransfer
  extract_lets received
  refine holds_ite (canonical_next h) ?_
  refine holds_ite (canonical_next (canonical_onClocks h)) ?_
  split
  · exact canonical_next (canonical_onClocks h)
  · exact canonical_next (holds_ite h (canonical_rachisFailed h))

theorem canonical_execIslandClockLoss {i : Island} (h : Canonical s) : CanonicalNext (execIslandClockLoss i s) := by
  unfold execIslandClockLoss
  refine holds_ite (canonical_next h) ?_
  refine holds_ite (canonical_next (canonical_faultReset h)) ?_
  exact holds_ite (canonical_next h) (canonical_next (canonical_dispatch (canonical_onClocks (canonical_stopIsland
      (canonical_raiseWaking h)))))

theorem canonical_resumeIsland (h : Canonical s) : Canonical (resumeIsland s i) :=
  canonical_dispatch (holds_ite (canonical_onPort (canonical_onClocks h)) (holds_ite (canonical_onPort (canonical_onClocks h))
      (canonical_onClocks h)))
theorem canonical_execIslandRelock {i : Island} {ok : Bool} (h : Canonical s) : CanonicalNext (execIslandRelock i ok s) := by
  unfold execIslandRelock
  refine holds_ite (canonical_next h) ?_
  extract_lets n s1 s2
  have hs1 : Canonical s1 := canonical_append h
  have hs2 : Canonical s2 := canonical_append (canonical_retireIsland hs1)
  exact holds_ite (canonical_next (canonical_append (canonical_resumeIsland h))) (holds_ite (canonical_next (canonical_onClocks h))
      (canonical_next (holds_ite (canonical_deviceReset hs2) hs2)))

theorem canonical_execPllLock {i : Island} (h : Canonical s) : CanonicalNext (execPllLock i s) :=
  holds_ite (canonical_next h) (canonical_next (canonical_dispatch (canonical_raiseField (canonical_onClocks h))))
theorem canonical_execRefLost {lost : Bool} (h : Canonical s) : CanonicalNext (execRefLost lost s) := by
  unfold execRefLost
  split
  · extract_lets s1
    have hs1 : Canonical s1 := canonical_readerRefLost (canonical_onClocks h)
    exact canonical_next (holds_ite (canonical_append (canonical_raiseWaking hs1)) hs1)
  · exact canonical_next (holds_ite (canonical_append (canonical_onClocks h)) (canonical_onClocks h))
  · exact canonical_next h

end

/-! ### Machine/Link.lean -/

section
variable {s : State}

theorem canonical_outerReset {row : Nat} (h : Canonical s) : Canonical (outerReset s row) :=
  holds_ite (canonical_onPower h) (canonical_deviceReset h)
theorem canonical_execResetNAssert (h : Canonical s) : CanonicalNext (execResetNAssert s) :=
  canonical_next (holds_ite (canonical_outerReset h) h)
theorem canonical_execPerstAssert (h : Canonical s) : CanonicalNext (execPerstAssert s) :=
  canonical_next (holds_ite (canonical_outerReset (canonical_onLink h)) (canonical_onLink h))
theorem canonical_execLinkLoss (h : Canonical s) : CanonicalNext (execLinkLoss s) :=
  canonical_next (holds_ite (canonical_outerReset (canonical_onLink h)) h)
theorem canonical_execWatchdogExpiry (h : Canonical s) : CanonicalNext (execWatchdogExpiry s) :=
  canonical_next (holds_ite (canonical_deviceReset h) h)
theorem canonical_execLockstepMismatch (h : Canonical s) : CanonicalNext (execLockstepMismatch s) :=
  canonical_next (holds_ite (canonical_deviceReset h) h)
theorem canonical_execDebugExpiry (h : Canonical s) : CanonicalNext (execDebugExpiry s) :=
  canonical_next (holds_ite (canonical_deviceReset (canonical_atInstant h)) h)
theorem canonical_execHibernateWake {src : HibWake} (h : Canonical s) : CanonicalNext (execHibernateWake src s) :=
  holds_ite (canonical_next h) (canonical_next (canonical_deviceReset (holds_ite (canonical_onLink h) h)))
theorem canonical_execPerstDeassert (h : Canonical s) : CanonicalNext (execPerstDeassert s) := canonical_next (canonical_onLink h)
theorem canonical_execPhyRailsGood {good : Bool} (h : Canonical s) : CanonicalNext (execPhyRailsGood good s) :=
  canonical_next (canonical_onLink h)
theorem canonical_execLinkUp {degraded : Bool} (h : Canonical s) : CanonicalNext (execLinkUp degraded s) :=
  holds_ite (canonical_next h) (canonical_next (holds_ite (canonical_raiseWaking (canonical_onLink h)) (canonical_onLink h)))
theorem canonical_vanish {n : Nat} (h : Canonical s) : Canonical (vanish s n) := canonical_onFn (holds_ite (canonical_resetFunction h) h)
theorem canonical_execVfEnable {on ari : Bool} {numVfs : FnId} (h : Canonical s) : CanonicalNext (execVfEnable on numVfs ari s) := by
  unfold execVfEnable
  extract_lets top vfs s1 s2 s3
  have hs1 : Canonical s1 := holds_foldl h (fun _ _ hs => canonical_vanish hs)
  have hs2 : Canonical s2 := holds_foldl hs1 (fun _ _ ha => canonical_onFn ha)
  have hs3 : Canonical s3 := canonical_onLink hs2
  exact canonical_next (holds_ite (canonical_dispatch hs3) hs3)

theorem canonical_lockAll (h : Canonical s) : Canonical (lockAll s) := canonical_onClocks h
theorem canonical_testPhases {ok : BitVec 4} (h : Canonical s) : Canonical (testPhases s ok) := canonical_onPower h
theorem canonical_execSentinelPowerUp (h : Canonical s) : CanonicalNext (execSentinelPowerUp s) :=
  canonical_next (holds_ite h (canonical_switchedOff (canonical_deviceReset h)))
theorem canonical_romRestart {s : State} (h : Canonical s) : Canonical (romRestart s) := by
  have hclear : Canonical (clearWarn s) := canonical_clearWarn h
  refine holds_ite hclear ?_
  exact { hclear with ports := rfl, flash := { hclear.flash with } }

theorem canonical_execVinResumePowerUp (h : Canonical s) : CanonicalNext (execVinResumePowerUp s) :=
  holds_ite (canonical_next h) (holds_ite (canonical_next (canonical_onBoot (canonical_onPower h))) (holds_ite (canonical_next
      (canonical_romRestart h)) (canonical_next h)))
theorem canonical_execDebounceStop (h : Canonical s) : CanonicalNext (execDebounceStop s) :=
  canonical_next (holds_ite (canonical_switchedOff h) h)
theorem canonical_execPowerUpDebounceDone {phases : BitVec 4} (h : Canonical s) : CanonicalNext (execPowerUpDebounceDone phases s) :=
  holds_ite (canonical_next h) (canonical_next (canonical_onBoot (canonical_lockAll (canonical_setDomains (canonical_onPower
      (canonical_testPhases h))))))

end

/-! ### Machine/Boot.lean -/

section
variable {s : State} {cause n : Nat} {env : BootEnv} {u : FlashUnit}

theorem canonical_romDomains {pcie : Bool} (h : Canonical s) : Canonical (romDomains s pcie) := canonical_onPower h
theorem canonical_romStops {b : BootState} (h : Canonical s) : Canonical (romStops s b cause) :=
  canonical_onBoot (canonical_lockAll (canonical_romDomains h))
theorem canonical_payRetire (h : Canonical s) : Canonical (payRetire s) :=
  holds_ite h (canonical_append (canonical_onTamper (canonical_writeFlash h)))
theorem canonical_rebuildLatch (h : Canonical s) : Canonical (rebuildLatch s) := holds_ite h (canonical_onTamper h)
theorem canonical_openChain (h : Canonical s) : Canonical (openChain env s) := by
  unfold openChain
  refine holds_ite h ?_
  extract_lets waiting s1
  have hs1 : Canonical s1 := canonical_onLog h
  exact holds_ite (holds_foldl (canonical_onLog hs1) (fun _ _ hs => canonical_appendNote hs)) (holds_foldl (canonical_onLog
      (canonical_loadChainKey hs1)) (fun _ _ hs => canonical_appendNote hs))

theorem canonical_setBoth {k v : Nat} (h : Canonical s) : Canonical (setBoth s k v) := canonical_setStage (canonical_setReg h)
theorem canonical_loadOption (h : Canonical s) : Canonical (loadOption s) := by
  unfold loadOption
  extract_lets copy words s1 s2 s3 s4 s5 s6
  have hs1 : Canonical s1 := canonical_onBoot h
  have hs2 : Canonical s2 := canonical_onFlash hs1
  have hs3 : Canonical s3 := canonical_setBoth (canonical_setBoth hs2)
  have hs4 : Canonical s4 := canonical_setBoth (canonical_setBoth hs3)
  have hs5 : Canonical s5 := canonical_setBoth (canonical_setBoth hs4)
  have hs6 : Canonical s6 := canonical_setBoth hs5
  exact canonical_applyGpio (canonical_setBoth (canonical_setBoth hs6))

theorem canonical_tornEntry {again recovery : Bool} (h : Canonical s) : Canonical (tornEntry s u again recovery) := canonical_append h
theorem canonical_sectorGone (h : Canonical s) : Canonical (sectorGone s n) :=
  holds_ite (canonical_writeMedulla h) (holds_ite (canonical_onCounters h) h)
theorem canonical_closeTorn (h : Canonical s) : Canonical (closeTorn s u) := by
  unfold closeTorn
  refine holds_ite (canonical_tornEntry h) ?_
  refine holds_ite (canonical_tornEntry (canonical_onFlash h)) ?_
  extract_lets s1 s2
  have hs1 : Canonical s1 := canonical_eraseWhole h
  have hs2 : Canonical s2 :=
    holds_ite (canonical_compacted hs1) (holds_ite (canonical_loadOption (canonical_writeFlash hs1)) (canonical_sectorGone hs1))
  exact canonical_tornEntry hs2

theorem canonical_closeJournal (h : Canonical s) : CanonicalFst (closeJournal s) := by
  unfold closeJournal
  split
  · exact canonical_mk (canonical_append (canonical_initJournal h))
  · extract_lets w s1 torn
    have hs1 : Canonical s1 := holds_ite (canonical_tornEntry (canonical_setJWord (canonical_eraseJournal h))) h
    exact canonical_mk (holds_foldl hs1 (fun _ _ hs => canonical_closeTorn hs))

theorem canonical_recoverCounter {src c : Nat} (h : Canonical s) : Canonical (recoverCounter src s c) := by
  unfold recoverCounter
  extract_lets k
  split
  · exact holds_ite h (canonical_loseCounter h)
  · exact holds_ite (canonical_onCounters h) h

theorem canonical_enterRecovery (h : Canonical s) : Canonical (enterRecovery s cause) := canonical_onBoot (canonical_romStops h)
theorem canonical_enterDebug {t : Bytes} (h : Canonical s) : Canonical (enterDebug s t) :=
  canonical_append (holds_ite (canonical_setStatusBit (canonical_setSpores (canonical_onMedulla (canonical_onBoot h))))
      (canonical_onMedulla (canonical_onBoot h)))
theorem canonical_checkToken (h : Canonical s) : Canonical (checkToken s) := by
  unfold checkToken
  extract_lets s1
  have hs1 : Canonical s1 := canonical_onBoot h
  split
  · exact holds_ite (canonical_enterDebug hs1) hs1
  · exact hs1

theorem canonical_stepEpoch (h : Canonical s) : CanonicalSome (stepEpoch s) := by
  unfold stepEpoch
  refine holds_ite canonical_none ?_
  unfold Option.map
  split
  · exact canonical_some (canonical_setSpores (canonical_afterIncrement (canonical_onCounters h)))
  · exact canonical_none

theorem canonical_bootEntries (h : Canonical s) : Canonical (bootEntries s) :=
  canonical_append (holds_ite (canonical_bumpSpore (canonical_append (canonical_onBoot h))) h)
theorem canonical_startSource (h : Canonical s) : Canonical (startSource env s n) :=
  holds_ite (canonical_onSource h) (canonical_healthEntry (canonical_raiseWaking (canonical_onEntropy (canonical_onSource h))))
theorem canonical_startEntropy (h : Canonical s) : Canonical (startEntropy env s) := by
  unfold startEntropy
  extract_lets s1 s2 fs s3 s4
  have hs1 : Canonical s1 := holds_foldl (canonical_setDomain h) (fun _ _ hs => canonical_startSource hs)
  have hs2 : Canonical s2 := holds_ite (canonical_onUnit hs1) (canonical_failUnit hs1)
  have hs3 : Canonical s3 := holds_ite hs2 (holds_foldl hs2 (fun _ _ hs => canonical_instantiate hs))
  have hs4 : Canonical s4 := holds_foldl hs3 (fun _ _ ha => canonical_renewCtxKey ha)
  split
  · have hs11 := canonical_of_eq_mk_snd (canonical_drawOwn hs4) ‹_›
    exact canonical_onTamper hs11
  · have hs11 := canonical_of_eq_mk_snd (canonical_drawOwn hs4) ‹_›
    exact hs11

theorem canonical_bootUnit {u : UnitRef} (h : Canonical s) : Canonical (bootUnit env s u) :=
  holds_ite (canonical_onUnit h) (holds_ite (canonical_onUnit h) (holds_ite h (canonical_failUnit h)))
theorem canonical_startUnits (h : Canonical s) : Canonical (startUnits env s) := by
  unfold startUnits
  extract_lets s1 s2 s3 s4
  have hs1 : Canonical s1 := canonical_onPower h
  have hs2 : Canonical s2 := canonical_setDomains hs1
  have hs3 : Canonical s3 := holds_foldl hs2 (fun _ _ ha => holds_ite (canonical_setDomain ha) ha)
  have hs4 : Canonical s4 := holds_foldl (canonical_lockAll hs3) (fun _ _ hs => canonical_bootUnit hs)
  exact holds_ite hs4 (canonical_append (canonical_raiseWaking (canonical_onReader hs4)))

theorem canonical_raiseFloor {n : Nat} {s : State} (h : Canonical s) : Canonical (raiseFloor n s) := by
  induction n generalizing s with
  | zero => exact h
  | succ n ih =>
    rw [raiseFloor]
    refine holds_ite h ?_
    split
    · exact h
    · exact ih (canonical_afterIncrement (canonical_onCounters h))

theorem canonical_stepFloor (h : Canonical s) : Canonical (stepFloor s) := canonical_setSpores (canonical_raiseFloor h)
theorem canonical_noteTorn (h : Canonical s) : Canonical (noteTorn s) := holds_foldl (canonical_onLog h) (fun _ _ ha => canonical_append ha)
theorem canonical_notePhases (h : Canonical s) : Canonical (notePhases s) := by
  unfold notePhases
  extract_lets lost cause s0 s1
  have hs0 : Canonical s0 := canonical_onPower (holds_ite (canonical_noteClock h) h)
  have hs1 : Canonical s1 := holds_foldl hs0 (fun _ _ ha => canonical_phaseEntry (canonical_pwrEvent ha))
  exact holds_ite (canonical_enforce (canonical_pwrEvent hs1)) (holds_ite (canonical_enterSafeHold hs1) hs1)

theorem canonical_restoreQuotas (h : Canonical s) : Canonical (restoreQuotas s) := holds_foldl h (fun _ _ ha => canonical_setBoth ha)
theorem canonical_sporeCopies (h : Canonical s) : Canonical (sporeCopies s) := canonical_setSpores h
theorem canonical_startPorts (h : Canonical s) : Canonical (startPorts s) :=
  holds_foldl h (fun _ _ ha => holds_ite (canonical_startPort ha) ha)
theorem canonical_becomeReady (h : Canonical s) : Canonical (becomeReady s) := by
  unfold becomeReady
  extract_lets s1 s2 s3 s4 s5
  have hs1 : Canonical s1 := canonical_onBoot (canonical_restoreQuotas h)
  have hs2 : Canonical s2 := canonical_onHealth (canonical_onPower (canonical_onEngines hs1))
  have hs3 : Canonical s3 := canonical_logHeld (canonical_noteTorn (canonical_sporeCopies hs2))
  have hs4 : Canonical s4 :=
    canonical_logLevels (fun _ _ hs => canonical_raiseWith (fun _ _ hs4 => canonical_logPlace hs4) hs) (canonical_onLog hs3)
  have hs5 : Canonical s5 := canonical_startPorts (canonical_notePhases hs4)
  exact holds_ite hs5 (canonical_mirrorRing (canonical_importVisits (canonical_refillPool hs5)))

theorem canonical_startClocks (h : Canonical s) : Canonical (startClocks s) := canonical_onClocks h
theorem canonical_startXemberon (h : Canonical s) : Canonical (startXemberon env s) := by
  unfold startXemberon
  extract_lets m s1
  have hs1 : Canonical s1 := canonical_startClocks (canonical_onPower (canonical_onBoot h))
  split
  · exact canonical_notePhases (canonical_onBoot (canonical_bootEntries (canonical_lockAll (canonical_setDomains hs1))))
  · have hs2 := canonical_of_eq_some (canonical_stepEpoch hs1) ‹_›
    extract_lets s3 s4
    have hs3 : Canonical s3 := canonical_startUnits (canonical_startEntropy (canonical_bootEntries hs2))
    have hs4 : Canonical s4 := holds_foldl hs3 (fun _ _ ha => canonical_recoverCounter ha)
    exact canonical_becomeReady (canonical_stepFloor (canonical_reloadRecords hs4))

theorem canonical_romVerify (h : Canonical s) : Canonical (romVerify env s) := by
  unfold romVerify
  split
  · exact canonical_enterRecovery h
  · exact canonical_startXemberon h

theorem canonical_romKeys (h : Canonical s) : Canonical (romKeys env s) :=
  holds_ite (canonical_romStops (canonical_openChain h)) (canonical_romVerify (canonical_onMedulla (canonical_checkToken
      (canonical_openChain h))))
theorem canonical_romJournal (h : Canonical s) : Canonical (romJournal env s) := by
  unfold romJournal
  split
  · have hs1 := canonical_of_eq_mk (canonical_closeJournal h) ‹_›
    extract_lets s2 s3
    have hs2 : Canonical s2 := holds_foldl hs1 (fun _ _ hs => canonical_recoverCounter hs)
    have hs3 : Canonical s3 := canonical_openChain hs2
    exact holds_ite (canonical_enterRecovery (holds_ite (canonical_onMedulla hs3) hs3)) (canonical_romKeys hs2)

theorem canonical_romRow (h : Canonical s) : Canonical (romRow env s) := by
  unfold romRow
  refine holds_ite (canonical_romStops (canonical_openChain h)) ?_
  refine holds_ite (canonical_romStops h) ?_
  extract_lets s1 s2
  have hs1 : Canonical s1 := canonical_onFlash h
  have hs2 : Canonical s2 := canonical_loadOption hs1
  exact holds_ite (canonical_romStops (canonical_openChain hs2)) (canonical_romJournal hs2)

theorem canonical_romLatch (h : Canonical s) : Canonical (romLatch env s) := by
  unfold romLatch
  extract_lets s1
  have hs1 : Canonical s1 := canonical_romDomains (canonical_rebuildLatch (canonical_payRetire h))
  exact holds_ite (canonical_lockAll (canonical_enterTampered (canonical_onBoot (canonical_openChain hs1)))) (canonical_romRow
      (canonical_lockAll hs1))

theorem canonical_execRomBoot (h : Canonical s) : CanonicalNext (execRomBoot env s) := by
  unfold execRomBoot
  refine holds_ite (canonical_next h) ?_
  extract_lets s1 s2
  have hs1 : Canonical s1 := holds_ite (canonical_testPhases h) h
  have hs2 : Canonical s2 := canonical_romDomains (canonical_onBoot hs1)
  exact holds_ite (canonical_next (canonical_romStops hs2)) (canonical_next (canonical_romLatch hs2))

end

/-! ### Machine/PinnaAlu.lean -/

section
variable {u : Fin 8} {gd : Guard} {rd ra rb : GReg} {s : State} {sh pos wm1 : BitVec 5} {imm : BitVec 12} {pd pa pb : PReg}
   {cond : BitVec 3}

theorem canonical_execAdd (h : Canonical s) : CanonicalNext (execAdd u gd rd ra rb s) := canonical_aluOp h
theorem canonical_execSub (h : Canonical s) : CanonicalNext (execSub u gd rd ra rb s) := canonical_aluOp h
theorem canonical_execAndR (h : Canonical s) : CanonicalNext (execAndR u gd rd ra rb s) := canonical_aluOp h
theorem canonical_execOrR (h : Canonical s) : CanonicalNext (execOrR u gd rd ra rb s) := canonical_aluOp h
theorem canonical_execXorR (h : Canonical s) : CanonicalNext (execXorR u gd rd ra rb s) := canonical_aluOp h
theorem canonical_execAndn (h : Canonical s) : CanonicalNext (execAndn u gd rd ra rb s) := canonical_aluOp h
theorem canonical_execSll (h : Canonical s) : CanonicalNext (execSll u gd rd ra rb s) := canonical_aluOp h
theorem canonical_execSrl (h : Canonical s) : CanonicalNext (execSrl u gd rd ra rb s) := canonical_aluOp h
theorem canonical_execSra (h : Canonical s) : CanonicalNext (execSra u gd rd ra rb s) := canonical_aluOp h
theorem canonical_execRor (h : Canonical s) : CanonicalNext (execRor u gd rd ra rb s) := canonical_aluOp h
theorem canonical_execSlli (h : Canonical s) : CanonicalNext (execSlli u gd rd ra sh s) := canonical_aluOp1 h
theorem canonical_execSrli (h : Canonical s) : CanonicalNext (execSrli u gd rd ra sh s) := canonical_aluOp1 h
theorem canonical_execSrai (h : Canonical s) : CanonicalNext (execSrai u gd rd ra sh s) := canonical_aluOp1 h
theorem canonical_execRori (h : Canonical s) : CanonicalNext (execRori u gd rd ra sh s) := canonical_aluOp1 h
theorem canonical_execMinS (h : Canonical s) : CanonicalNext (execMinS u gd rd ra rb s) := canonical_aluOp h
theorem canonical_execMaxS (h : Canonical s) : CanonicalNext (execMaxS u gd rd ra rb s) := canonical_aluOp h
theorem canonical_execMinu (h : Canonical s) : CanonicalNext (execMinu u gd rd ra rb s) := canonical_aluOp h
theorem canonical_execMaxu (h : Canonical s) : CanonicalNext (execMaxu u gd rd ra rb s) := canonical_aluOp h
theorem canonical_execClz (h : Canonical s) : CanonicalNext (execClz u gd rd ra s) := canonical_aluOp1 h
theorem canonical_execPopc (h : Canonical s) : CanonicalNext (execPopc u gd rd ra s) := canonical_aluOp1 h
theorem canonical_execPerm (h : Canonical s) : CanonicalNext (execPerm u gd rd ra rb s) := canonical_regOp h
theorem canonical_execMul (h : Canonical s) : CanonicalNext (execMul u gd rd ra rb s) := canonical_aluOp h
theorem canonical_execMulh (h : Canonical s) : CanonicalNext (execMulh u gd rd ra rb s) := canonical_aluOp h
theorem canonical_execMulhu (h : Canonical s) : CanonicalNext (execMulhu u gd rd ra rb s) := canonical_aluOp h
theorem canonical_execMulhsu (h : Canonical s) : CanonicalNext (execMulhsu u gd rd ra rb s) := canonical_aluOp h
theorem canonical_execDivS (h : Canonical s) : CanonicalNext (execDivS u gd rd ra rb s) := canonical_aluOp h
theorem canonical_execDivu (h : Canonical s) : CanonicalNext (execDivu u gd rd ra rb s) := canonical_aluOp h
theorem canonical_execRemS (h : Canonical s) : CanonicalNext (execRemS u gd rd ra rb s) := canonical_aluOp h
theorem canonical_execRemu (h : Canonical s) : CanonicalNext (execRemu u gd rd ra rb s) := canonical_aluOp h
theorem canonical_execAddi (h : Canonical s) : CanonicalNext (execAddi u gd rd ra imm s) := canonical_aluOp1 h
theorem canonical_execAndi (h : Canonical s) : CanonicalNext (execAndi u gd rd ra imm s) := canonical_aluOp1 h
theorem canonical_execOri (h : Canonical s) : CanonicalNext (execOri u gd rd ra imm s) := canonical_aluOp1 h
theorem canonical_execXori (h : Canonical s) : CanonicalNext (execXori u gd rd ra imm s) := canonical_aluOp1 h
theorem canonical_execMovi {imm : BitVec 16} (h : Canonical s) : CanonicalNext (execMovi u gd rd imm s) := canonical_regOp h
theorem canonical_execMovhi {imm : BitVec 16} (h : Canonical s) : CanonicalNext (execMovhi u gd rd imm s) := canonical_regOp h
theorem canonical_execBfx (h : Canonical s) : CanonicalNext (execBfx u gd rd ra pos wm1 s) := canonical_regOp h
theorem canonical_execBfxs (h : Canonical s) : CanonicalNext (execBfxs u gd rd ra pos wm1 s) := canonical_regOp h
theorem canonical_execBfi (h : Canonical s) : CanonicalNext (execBfi u gd rd ra pos wm1 s) := canonical_regOp h
theorem canonical_execCmp (h : Canonical s) : CanonicalNext (execCmp u gd pd ra rb cond s) := canonical_regOp h
theorem canonical_execCmpi {imm : BitVec 9} (h : Canonical s) : CanonicalNext (execCmpi u gd pd ra cond imm s) := canonical_regOp h
theorem canonical_execPand (h : Canonical s) : CanonicalNext (execPand u gd pd pa pb s) := canonical_predOp h
theorem canonical_execPor (h : Canonical s) : CanonicalNext (execPor u gd pd pa pb s) := canonical_predOp h
theorem canonical_execPxor (h : Canonical s) : CanonicalNext (execPxor u gd pd pa pb s) := canonical_predOp h
theorem canonical_execPandn (h : Canonical s) : CanonicalNext (execPandn u gd pd pa pb s) := canonical_predOp h
theorem canonical_execPnot (h : Canonical s) : CanonicalNext (execPnot u gd pd pa s) := canonical_regOp h
theorem canonical_execPrd (h : Canonical s) : CanonicalNext (execPrd u gd rd s) := canonical_regOp h
theorem canonical_execPwr (h : Canonical s) : CanonicalNext (execPwr u gd ra s) := canonical_regOp h

end

/-! ### Machine/PinnaMem.lean -/

section
variable {u : Fin 8} {gd : Guard} {rd ra : GReg} {imm : BitVec 12} {s : State}

theorem canonical_execLdw (h : Canonical s) : CanonicalNext (execLdw u gd rd ra imm s) := canonical_loadOp h
theorem canonical_execLdh (h : Canonical s) : CanonicalNext (execLdh u gd rd ra imm s) := canonical_loadOp h
theorem canonical_execLdhs (h : Canonical s) : CanonicalNext (execLdhs u gd rd ra imm s) := canonical_loadOp h
theorem canonical_execLdb (h : Canonical s) : CanonicalNext (execLdb u gd rd ra imm s) := canonical_loadOp h
theorem canonical_execLdbs (h : Canonical s) : CanonicalNext (execLdbs u gd rd ra imm s) := canonical_loadOp h
theorem canonical_execStw (h : Canonical s) : CanonicalNext (execStw u gd rd ra imm s) := canonical_storeOp h
theorem canonical_execSth (h : Canonical s) : CanonicalNext (execSth u gd rd ra imm s) := canonical_storeOp h
theorem canonical_execStb (h : Canonical s) : CanonicalNext (execStb u gd rd ra imm s) := canonical_storeOp h
theorem canonical_execBr {imm : BitVec 22} (h : Canonical s) : CanonicalNext (execBr u gd imm s) := canonical_branchOp h
theorem canonical_execCall {imm : BitVec 22} (h : Canonical s) : CanonicalNext (execCall u gd imm s) := canonical_branchOp h
theorem canonical_execJr (h : Canonical s) : CanonicalNext (execJr u gd ra s) := canonical_branchOp h
theorem canonical_execJalr (h : Canonical s) : CanonicalNext (execJalr u gd rd ra s) := canonical_branchOp h

end

/-! ### Machine/Recovery.lean -/

section
variable {s : State}

theorem canonical_setResult {r : Nat} (h : Canonical s) : Canonical (setResult s r) := canonical_onBoot h
theorem canonical_claimPath (h : Canonical s) : Canonical (claimPath s) :=
  holds_ite (canonical_onBoot h) (holds_ite (canonical_setResult (canonical_onBoot h)) (canonical_onBoot (holds_ite
      (canonical_closeTurtisPath (canonical_onBoot h)) (canonical_onBoot h))))
theorem canonical_execRcvClaim (h : Canonical s) : CanonicalNext (execRcvClaim s) := canonical_next (canonical_claimPath h)
theorem canonical_programChunk {c : Nat} (h : Canonical s) : Canonical (programChunk s c) := by
  unfold programChunk
  exact canonical_onBoot (canonical_bankWrite (holds_ite (canonical_bankErase (canonical_eraseWhole h)) h))

theorem canonical_chunkManifest (h : Canonical s) : Canonical (chunkManifest s) := by
  unfold chunkManifest
  exact holds_ite (canonical_onBoot (canonical_setResult h)) (holds_ite (canonical_onBoot (canonical_setResult h)) h)

theorem canonical_takeChunk (h : Canonical s) : Canonical (takeChunk s) := by
  unfold takeChunk
  extract_lets c s1
  have hs1 : Canonical s1 := canonical_programChunk h
  refine holds_ite h ?_
  exact holds_ite (canonical_setResult h) (holds_ite (canonical_setResult h) (holds_ite (canonical_setResult h) (holds_ite
      (canonical_chunkManifest hs1) hs1)))

theorem canonical_execRcvChunkGo (h : Canonical s) : CanonicalNext (execRcvChunkGo s) := canonical_next (canonical_takeChunk h)
theorem canonical_checkImage (h : Canonical s) : Canonical (checkImage s) :=
  holds_ite h (holds_ite (canonical_setResult h) (holds_ite (canonical_onBoot h) (canonical_onBoot h)))
theorem canonical_execRcvVerify (h : Canonical s) : CanonicalNext (execRcvVerify s) := canonical_next (canonical_checkImage h)
theorem canonical_acknowledge (h : Canonical s) : Canonical (acknowledge s) := by
  unfold acknowledge
  exact canonical_onBoot (canonical_append (canonical_setStatusBit (canonical_onTamper h)))

theorem canonical_checkAck (h : Canonical s) : Canonical (checkAck s) :=
  holds_ite h (holds_ite (canonical_setResult h) (holds_ite (canonical_setResult h) (canonical_acknowledge h)))
theorem canonical_execRcvAck (h : Canonical s) : CanonicalNext (execRcvAck s) := canonical_next (canonical_checkAck h)
theorem canonical_loadLinkKey (h : Canonical s) : Canonical (loadLinkKey s) := by
  unfold loadLinkKey
  split
  · exact canonical_loadRecord h
  · exact h

theorem canonical_execClaimWaitExpiry (h : Canonical s) : CanonicalNext (execClaimWaitExpiry s) := by
  unfold execClaimWaitExpiry
  refine holds_ite (canonical_next h) ?_
  extract_lets s1 p s2 s3
  have hs1 : Canonical s1 := canonical_loadLinkKey h
  have hs2 : Canonical s2 := canonical_lockAll (canonical_setDomain (canonical_setDomain hs1))
  have hs3 : Canonical s3 := canonical_startPort hs2
  exact holds_ite (canonical_next hs1) (canonical_next (canonical_onUpdate hs3))

theorem canonical_execTurtisGiveupExpiry (h : Canonical s) : CanonicalNext (execTurtisGiveupExpiry s) :=
  holds_ite (canonical_next h) (canonical_next (canonical_closeTurtisPath h))

end

/-! ### Machine/ConfigSpace.lean -/

section
variable {s : State} {v : Nat}

theorem canonical_barWrite {k size : Nat} {high : Bool} (h : Canonical s) : Canonical (barWrite s k size high v) := by
  unfold barWrite
  exact canonical_onLink h

theorem canonical_configWrite {f : FnId} {o : Nat} (h : Canonical s) : Canonical (configWrite s f o v) :=
  holds_ite h (holds_ite (canonical_barWrite h) (holds_ite (canonical_barWrite h) (holds_ite (canonical_barWrite h) (holds_ite
      (canonical_onLink h) (holds_ite h (canonical_onLink h))))))

end

/-! ### Machine/Registers.lean -/

section
variable {s : State} {g : CommitGroup} {k v o : Nat} {clearing : Bool} {f : FnId} {r : Region} {off : BitVec 20} {arriving : Byte}

theorem canonical_stageWrite {i : Nat} (h : Canonical s) : Canonical (stageWrite s g i k v clearing) :=
  holds_ite (canonical_onCommit h) (canonical_setStage h)
theorem canonical_commitWrite (h : Canonical s) : Canonical (commitWrite s g v clearing) :=
  holds_ite (canonical_commitStart (canonical_onCommit h)) (canonical_onCommit h)
theorem canonical_clearEvents (h : Canonical s) : Canonical (clearEvents s k v) := canonical_writeRegs h
theorem canonical_msixWrite (h : Canonical s) : Canonical (msixWrite s f k v) :=
  holds_ite (canonical_flushPba (canonical_setReg h)) (canonical_setReg h)
theorem canonical_fnWrite (h : Canonical s) : Canonical (fnWrite s f o v) :=
  holds_ite (canonical_clearEvents h) (holds_ite (canonical_setReg h) (holds_ite (holds_ite (canonical_sqTailWrite h) (holds_ite
      (canonical_cqHeadWrite h) h)) (holds_ite (canonical_msixWrite h) h)))
theorem canonical_rcvWrite (h : Canonical s) : Canonical (rcvWrite s v) := by
  unfold rcvWrite
  extract_lets starts s1 s2
  have hs1 : Canonical s1 := canonical_onBoot h
  have hs2 : Canonical s2 := holds_ite (canonical_claimPath hs1) hs1
  exact holds_ite (canonical_takeChunk hs2) (holds_ite (canonical_checkImage hs2) (holds_ite (canonical_checkAck hs2) hs2))

theorem canonical_glWrite (h : Canonical s) : Canonical (glWrite s o v) :=
  holds_ite (canonical_clearEvents h) (holds_ite (canonical_setReg h) (holds_ite (canonical_rcvWrite h) (holds_ite (canonical_onBoot h)
      (holds_ite (canonical_onTask h) h))))
theorem canonical_romWrite (h : Canonical s) : Canonical (romWrite s o v) :=
  holds_ite h (holds_ite (canonical_rcvWrite h) (holds_ite (canonical_onBoot h) (holds_ite (canonical_onBoot h) h)))
theorem canonical_registerWrite (h : Canonical s) : Canonical (registerWrite s r o v clearing) := by
  unfold registerWrite
  refine holds_ite ?_ ?_
  · split
    · exact canonical_romWrite h
    · exact canonical_configWrite h
    · exact h
  · refine holds_ite h ?_
    split
    · exact canonical_stageWrite h
    · exact canonical_commitWrite h
    · split
      · exact canonical_fnWrite h
      · exact canonical_glWrite h
      · exact canonical_configWrite h

theorem canonical_execRegisterWrite {v : WriteData} (h : Canonical s) : CanonicalNext (execRegisterWrite r off v s) :=
  canonical_next (canonical_registerWrite h)
theorem canonical_clearField (h : Canonical s) : Canonical (clearField s r o arriving) := by
  unfold clearField
  split
  · exact h
  · exact h
  · exact holds_ite (canonical_onPower h) (holds_ite (canonical_onTask h) h)

theorem canonical_execRcFieldRead (h : Canonical s) : CanonicalNext (execRcFieldRead r off arriving s) :=
  canonical_next (holds_ite (canonical_clearField (canonical_onLink h)) (canonical_onLink h))

end

/-! ### Machine/Dispatch.lean -/

section
theorem canonical_exec {s : State} {i : Instr} (h : Canonical s) : CanonicalNext (exec i s) :=
  match i with
  | .add .. => canonical_execAdd h
  | .sub .. => canonical_execSub h
  | .andR .. => canonical_execAndR h
  | .orR .. => canonical_execOrR h
  | .xorR .. => canonical_execXorR h
  | .andn .. => canonical_execAndn h
  | .sll .. => canonical_execSll h
  | .srl .. => canonical_execSrl h
  | .sra .. => canonical_execSra h
  | .ror .. => canonical_execRor h
  | .slli .. => canonical_execSlli h
  | .srli .. => canonical_execSrli h
  | .srai .. => canonical_execSrai h
  | .rori .. => canonical_execRori h
  | .minS .. => canonical_execMinS h
  | .maxS .. => canonical_execMaxS h
  | .minu .. => canonical_execMinu h
  | .maxu .. => canonical_execMaxu h
  | .clz .. => canonical_execClz h
  | .popc .. => canonical_execPopc h
  | .perm .. => canonical_execPerm h
  | .mul .. => canonical_execMul h
  | .mulh .. => canonical_execMulh h
  | .mulhu .. => canonical_execMulhu h
  | .mulhsu .. => canonical_execMulhsu h
  | .divS .. => canonical_execDivS h
  | .divu .. => canonical_execDivu h
  | .remS .. => canonical_execRemS h
  | .remu .. => canonical_execRemu h
  | .addi .. => canonical_execAddi h
  | .andi .. => canonical_execAndi h
  | .ori .. => canonical_execOri h
  | .xori .. => canonical_execXori h
  | .movi .. => canonical_execMovi h
  | .movhi .. => canonical_execMovhi h
  | .bfx .. => canonical_execBfx h
  | .bfxs .. => canonical_execBfxs h
  | .bfi .. => canonical_execBfi h
  | .cmp .. => canonical_execCmp h
  | .cmpi .. => canonical_execCmpi h
  | .pand .. => canonical_execPand h
  | .por .. => canonical_execPor h
  | .pxor .. => canonical_execPxor h
  | .pandn .. => canonical_execPandn h
  | .pnot .. => canonical_execPnot h
  | .prd .. => canonical_execPrd h
  | .pwr .. => canonical_execPwr h
  | .ldw .. => canonical_execLdw h
  | .ldh .. => canonical_execLdh h
  | .ldhs .. => canonical_execLdhs h
  | .ldb .. => canonical_execLdb h
  | .ldbs .. => canonical_execLdbs h
  | .stw .. => canonical_execStw h
  | .sth .. => canonical_execSth h
  | .stb .. => canonical_execStb h
  | .br .. => canonical_execBr h
  | .call .. => canonical_execCall h
  | .jr .. => canonical_execJr h
  | .jalr .. => canonical_execJalr h
  | .mfs .. => canonical_execMfs h
  | .mts .. => canonical_execMts h
  | .sleep .. => canonical_execSleep h
  | .invalidEncoding .. => canonical_execInvalidEncoding h
  | .sysExit .. => canonical_execSysExit h
  | .sysAbort .. => canonical_execSysAbort h
  | .sysCommand .. => canonical_execSysCommand h
  | .copyIn .. => canonical_execCopyIn h
  | .sysRaise .. => canonical_execSysRaise h
  | .sysInfo .. => canonical_execSysInfo h
  | .sysInvalid .. => canonical_execSysInvalid h
  | .nop .. => canonical_execNop h
  | .getInfo .. => canonical_execGetInfo h
  | .getLimits .. => canonical_execGetLimits h
  | .deviceReset .. => canonical_execDeviceReset h
  | .recoveryRequest .. => canonical_execRecoveryRequest h
  | .debugArm .. => canonical_execDebugArm h
  | .provision .. => canonical_execProvision h
  | .retire .. => canonical_execRetire h
  | .optionRead .. => canonical_execOptionRead h
  | .optionWrite .. => canonical_execOptionWrite h
  | .configSet .. => canonical_execConfigSet h
  | .configGet .. => canonical_execConfigGet h
  | .raiseEvent .. => canonical_execRaiseEvent h
  | .tenantCreate .. => canonical_execTenantCreate h
  | .tenantRelease .. => canonical_execTenantRelease h
  | .tenantSet .. => canonical_execTenantSet h
  | .tenantStatus .. => canonical_execTenantStatus h
  | .tenantList .. => canonical_execTenantList h
  | .keyGenerate .. => canonical_execKeyGenerate h
  | .keyImport .. => canonical_execKeyImport h
  | .keyDerive .. => canonical_execKeyDerive h
  | .keyDelete .. => canonical_execKeyDelete h
  | .keyInfo .. => canonical_execKeyInfo h
  | .keyPersist .. => canonical_execKeyPersist h
  | .keyExportWrapped .. => canonical_execKeyExportWrapped h
  | .cipher .. => canonical_execCipher h
  | .aeadEncrypt .. => canonical_execAeadEncrypt h
  | .aeadDecrypt .. => canonical_execAeadDecrypt h
  | .mac .. => canonical_execMac h
  | .contextSave .. => canonical_execContextSave h
  | .contextRestore .. => canonical_execContextRestore h
  | .rsaPrivate .. => canonical_execRsaPrivate h
  | .rsaPublic .. => canonical_execRsaPublic h
  | .ecdsaSign .. => canonical_execEcdsaSign h
  | .ecdsaVerify .. => canonical_execEcdsaVerify h
  | .eddsaSign .. => canonical_execEddsaSign h
  | .eddsaVerify .. => canonical_execEddsaVerify h
  | .ecdh .. => canonical_execEcdh h
  | .pkKeygen .. => canonical_execPkKeygen h
  | .mlKemEncaps .. => canonical_execMlKemEncaps h
  | .mlKemDecaps .. => canonical_execMlKemDecaps h
  | .mlDsaSign .. => canonical_execMlDsaSign h
  | .mlDsaVerify .. => canonical_execMlDsaVerify h
  | .sorusKernel .. => canonical_execSorusKernel h
  | .sorusKeyswitch .. => canonical_execSorusKeyswitch h
  | .sorusRefresh .. => canonical_execSorusRefresh h
  | .sorusEncrypt .. => canonical_execSorusEncrypt h
  | .shareOpen .. => canonical_execShareOpen h
  | .shareInput .. => canonical_execShareInput h
  | .shareCompute .. => canonical_execShareCompute h
  | .shareReveal .. => canonical_execShareReveal h
  | .shareClose .. => canonical_execShareClose h
  | .random .. => canonical_execRandom h
  | .reseed .. => canonical_execReseed h
  | .entropyStatus .. => canonical_execEntropyStatus h
  | .rawMode .. => canonical_execRawMode h
  | .rawRead .. => canonical_execRawRead h
  | .counterAlloc .. => canonical_execCounterAlloc h
  | .counterRead .. => canonical_execCounterRead h
  | .counterIncrement .. => canonical_execCounterIncrement h
  | .counterList .. => canonical_execCounterList h
  | .timeRead .. => canonical_execTimeRead h
  | .anchorRecord .. => canonical_execAnchorRecord h
  | .logInfo .. => canonical_execLogInfo h
  | .logRead .. => canonical_execLogRead h
  | .logExport .. => canonical_execLogExport h
  | .logExtend .. => canonical_execLogExtend h
  | .logNote .. => canonical_execLogNote h
  | .poolStatus .. => canonical_execPoolStatus h
  | .unitOut .. => canonical_execUnitOut h
  | .unitReturn .. => canonical_execUnitReturn h
  | .powerSet .. => canonical_execPowerSet h
  | .powerStatus .. => canonical_execPowerStatus h
  | .domainSet .. => canonical_execDomainSet h
  | .schedSet .. => canonical_execSchedSet h
  | .hibernate .. => canonical_execHibernate h
  | .updateStart .. => canonical_execUpdateStart h
  | .updateStatus .. => canonical_execUpdateStatus h
  | .chainStatus .. => canonical_execChainStatus h
  | .rosterSet .. => canonical_execRosterSet h
  | .flashWear .. => canonical_execFlashWear h
  | .wornOverride .. => canonical_execWornOverride h
  | .readerPoll .. => canonical_execReaderPoll h
  | .readerExchange .. => canonical_execReaderExchange h
  | .readerFieldOff .. => canonical_execReaderFieldOff h
  | .badgeVerify .. => canonical_execBadgeVerify h
  | .visitRead .. => canonical_execVisitRead h
  | .appletInstall .. => canonical_execAppletInstall h
  | .appletRemove .. => canonical_execAppletRemove h
  | .appletInvoke .. => canonical_execAppletInvoke h
  | .appletList .. => canonical_execAppletList h
  | .pinnaMode .. => canonical_execPinnaMode h
  | .healthStatus .. => canonical_execHealthStatus h
  | .selfTest .. => canonical_execSelfTest h
  | .istControl .. => canonical_execIstControl h
  | .sqTailDoorbell .. => canonical_execSqTailDoorbell h
  | .cqHeadDoorbell .. => canonical_execCqHeadDoorbell h
  | .commandFetch .. => canonical_execCommandFetch h
  | .quarantineEnd .. => canonical_execQuarantineEnd h
  | .violationWindowRoll => canonical_execViolationWindowRoll h
  | .coalesceTimeout .. => canonical_execCoalesceTimeout h
  | .commitGo .. => canonical_execCommitGo h
  | .registerWrite .. => canonical_execRegisterWrite h
  | .rcFieldRead .. => canonical_execRcFieldRead h
  | .setaLoRead .. => canonical_execSetaLoRead h
  | .rngdataRead .. => canonical_execRngdataRead h
  | .rngdataRefill .. => canonical_execRngdataRefill h
  | .flrInitiate .. => canonical_execFlrInitiate h
  | .busMasterEnable .. => canonical_execBusMasterEnable h
  | .dmaReadCompletion .. => canonical_execDmaReadCompletion h
  | .hostWriteFailure .. => canonical_execHostWriteFailure h
  | .linkLoss => canonical_execLinkLoss h
  | .perstAssert => canonical_execPerstAssert h
  | .resetNAssert => canonical_execResetNAssert h
  | .watchdogExpiry => canonical_execWatchdogExpiry h
  | .lockstepMismatch => canonical_execLockstepMismatch h
  | .sentinelPowerUp => canonical_execSentinelPowerUp h
  | .vinResumePowerUp => canonical_execVinResumePowerUp h
  | .powerUpDebounceDone .. => canonical_execPowerUpDebounceDone h
  | .romBoot .. => canonical_execRomBoot h
  | .pllLock .. => canonical_execPllLock h
  | .rcvClaim => canonical_execRcvClaim h
  | .rcvChunkGo => canonical_execRcvChunkGo h
  | .rcvVerify => canonical_execRcvVerify h
  | .rcvAck => canonical_execRcvAck h
  | .claimWaitExpiry => canonical_execClaimWaitExpiry h
  | .turtisGiveupExpiry => canonical_execTurtisGiveupExpiry h
  | .debugExpiry => canonical_execDebugExpiry h
  | .hibernateWake .. => canonical_execHibernateWake h
  | .epochBoundary => canonical_execEpochBoundary h
  | .dozeEntry => canonical_execDozeEntry h
  | .setaAlarm .. => canonical_execSetaAlarm h
  | .setaHigh => canonical_execSetaHigh h
  | .hyphaEvent .. => canonical_execHyphaEvent h
  | .hyphaPendingFire .. => canonical_execHyphaPendingFire h
  | .gpioEdge .. => canonical_execGpioEdge h
  | .feedWarn .. => canonical_execFeedWarn h
  | .dipRideThrough => canonical_execDipRideThrough h
  | .feedLossQualify => canonical_execFeedLossQualify h
  | .feedDip => canonical_execFeedDip h
  | .vinStop .. => canonical_execVinStop h
  | .phaseLost .. => canonical_execPhaseLost h
  | .vcoreLow .. => canonical_execVcoreLow h
  | .vcoreLowTimeout => canonical_execVcoreLowTimeout h
  | .vcoreHigh .. => canonical_execVcoreHigh h
  | .rhzClock => canonical_execRhzClock h
  | .thermalSample .. => canonical_execThermalSample h
  | .thermalAllowanceStep => canonical_execThermalAllowanceStep h
  | .rachisTransfer .. => canonical_execRachisTransfer h
  | .islandClockLoss .. => canonical_execIslandClockLoss h
  | .islandRelock .. => canonical_execIslandRelock h
  | .refLost .. => canonical_execRefLost h
  | .hyphaFault .. => canonical_execHyphaFault h
  | .preemptionPoint .. => canonical_execPreemptionPoint h
  | .veinLoad .. => canonical_execVeinLoad h
  | .segmentTagReserve .. => canonical_execSegmentTagReserve h
  | .frondJobDone .. => canonical_execFrondJobDone h
  | .twinMismatch .. => canonical_execTwinMismatch h
  | .frondFailed .. => canonical_execFrondFailed h
  | .frondBorrow .. => canonical_execFrondBorrow h
  | .kskChunk .. => canonical_execKskChunk h
  | .scratchReserve .. => canonical_execScratchReserve h
  | .sorusJobDone .. => canonical_execSorusJobDone h
  | .calyptraJobDone .. => canonical_execCalyptraJobDone h
  | .forcedTest .. => canonical_execForcedTest h
  | .testDone .. => canonical_execTestDone h
  | .eccDoubleBit .. => canonical_execEccDoubleBit h
  | .scrubPass .. => canonical_execScrubPass h
  | .patrolRead .. => canonical_execPatrolRead h
  | .pairMismatch .. => canonical_execPairMismatch h
  | .entropyBlock .. => canonical_execEntropyBlock h
  | .entropyHealth .. => canonical_execEntropyHealth h
  | .reseedDue .. => canonical_execReseedDue h
  | .flashOperationDone .. => canonical_execFlashOperationDone h
  | .eraseStarved .. => canonical_execEraseStarved h
  | .keyRegionCompaction => canonical_execKeyRegionCompaction h
  | .configHalfSwitch => canonical_execConfigHalfSwitch h
  | .counterRelocation => canonical_execCounterRelocation h
  | .otpProgramStart => canonical_execOtpProgramStart h
  | .tamperAlarm .. => canonical_execTamperAlarm h
  | .shieldForcedCheck .. => canonical_execShieldForcedCheck h
  | .tamperEscalate .. => canonical_execTamperEscalate h
  | .tamperEnd => canonical_execTamperEnd h
  | .fsmInvalid .. => canonical_execFsmInvalid h
  | .sporeRingMirror => canonical_execSporeRingMirror h
  | .sporeWordWrite .. => canonical_execSporeWordWrite h
  | .challengePoolRefill => canonical_execChallengePoolRefill h
  | .tagFieldOn .. => canonical_execTagFieldOn h
  | .tagActivation => canonical_execTagActivation h
  | .selectApdu .. => canonical_execSelectApdu h
  | .getChallenge .. => canonical_execGetChallenge h
  | .authenticate .. => canonical_execAuthenticate h
  | .readLogHead .. => canonical_execReadLogHead h
  | .readCounters .. => canonical_execReadCounters h
  | .readVisits .. => canonical_execReadVisits h
  | .writeVisit .. => canonical_execWriteVisit h
  | .tagSessionEnd .. => canonical_execTagSessionEnd h
  | .readerFrameTimeout => canonical_execReaderFrameTimeout h
  | .cardWtxRequest .. => canonical_execCardWtxRequest h
  | .slotStart .. => canonical_execSlotStart h
  | .retryTimerExpiry .. => canonical_execRetryTimerExpiry h
  | .beacon .. => canonical_execBeacon h
  | .hello .. => canonical_execHello h
  | .turtisClaim .. => canonical_execTurtisClaim h
  | .grantReq .. => canonical_execGrantReq h
  | .offer .. => canonical_execOffer h
  | .acceptFrame .. => canonical_execAcceptFrame h
  | .turtisData .. => canonical_execTurtisData h
  | .turtisAck .. => canonical_execTurtisAck h
  | .pullReq .. => canonical_execPullReq h
  | .turtisEnd .. => canonical_execTurtisEnd h
  | .crozierHandover => canonical_execCrozierHandover h
  | .invocationDispatch => canonical_execInvocationDispatch h
  | .quantumBoundary => canonical_execQuantumBoundary h
  | .invocationResume .. => canonical_execInvocationResume h
  | .budgetExpiry .. => canonical_execBudgetExpiry h
  | .wakecmpMatch .. => canonical_execWakecmpMatch h
  | .wakeTask .. => canonical_execWakeTask h
  | .perstDeassert => canonical_execPerstDeassert h
  | .phyRailsGood .. => canonical_execPhyRailsGood h
  | .linkUp .. => canonical_execLinkUp h
  | .vfEnable .. => canonical_execVfEnable h
  | .sentinelPowerLoss => canonical_execSentinelPowerLoss h
  | .debounceStop => canonical_execDebounceStop h
  | .sourceInactive .. => canonical_execSourceInactive h
  | .startUpTestDone .. => canonical_execStartUpTestDone h
  | .cardFrame .. => canonical_execCardFrame h
  | .pollTimeout => canonical_execPollTimeout h
  | .discardedFrame .. => canonical_execDiscardedFrame h
  | .unsupportedApdu .. => canonical_execUnsupportedApdu h
  | .vinInRangeChange .. => canonical_execVinInRangeChange h

end

/-! ### Machine/Step.lean -/

section
variable {s : State}

theorem canonical_idle (h : Canonical s) : Canonical (idle s) := canonical_atInstant h

end

/-! ### The step -/

theorem canonical_step {s : State} (h : Canonical s) : CanonicalNext (step s) := by
  unfold step
  split
  · exact canonical_next (canonical_idle h)
  · exact canonical_exec (canonical_pending h)

/-- Settles O60: the form is kept by each group's updates, so by every operation built of them, and so by every instruction. -/
theorem everyStepKeepsTheCanonicalForm : Obligations.EveryStepKeepsTheCanonicalForm := by
  unfold Obligations.EveryStepKeepsTheCanonicalForm
  intro s t hrecords hmemories hstep
  have hnext : CanonicalNext (step s) := canonical_step (canonical_iff.mpr ⟨hrecords, hmemories⟩)
  rw [hstep] at hnext
  exact canonical_iff.mp hnext

end Sys2Proof.Proofs
end
